-- ==== Sys2Proof/Word.lean ====
section
/-! DEFINITION. The word types of the drive: bytes, 16-, 32-, 48- and 64-bit words, and their plainest
arithmetic. Management registers are 32 bits wide (R9); wire fields are bytes (R10). -/

namespace Sys2Proof

/-- One byte of a wire message, a record or a key. -/
abbrev Byte := BitVec 8

/-- One management register (R9), and every 32-bit wire field. -/
abbrev Word := BitVec 32

/-- A 16-bit wire field: a status, an opcode, a herd address in the form of R7. -/
abbrev Half := BitVec 16

/-- A 64-bit counter, version, serial number or key-slot counter. -/
abbrev Long := BitVec 64

/-- `n` as a register value; a larger number keeps its low 32 bits. -/
abbrev word (n : Nat) : Word := BitVec.ofNat 32 n

end Sys2Proof
end

