-- ==== Sys2Proof/Syntax.lean ====
section
/-! DEFINITION. The commands of the drive: one constructor of `Instr` per row of spec/opcode_table.json, with the
operands the row's rule names. A row whose event brings a measured or observed quantity (a voltage, a conversion, a
read's outcome, a frame off the wire) carries it as an operand; a row that is a write of a register carries the access
path and the written word. -/

namespace Sys2Proof

/-- The three access paths, in their codes 0, 1 and 2 (R47, R441). -/
inductive Path where
  | chain | i3c | net
  deriving DecidableEq, Repr

/-- What an access meets on its way to the fabric (R49, R56, R429): which requesters ask for its page in the same fabric
cycle, whether another access holds the page, how many register frames wait in the chain's queue, and, on the network
path, the slot of the flow whose command carries the access. -/
structure Arb where
  /-- The AON sequencer, the chain or I3C asks for the page in the same fabric cycle. -/
  seq : Bool
  chain : Bool
  i3c : Bool
  /-- Another access holds the page. -/
  held : Bool
  queue : Nat
  flow : Nat
  deriving DecidableEq, Repr

/-- What arbitration finds: the page granted, the access lost or the page held by another access, or, on the chain, the
request queue full. -/
inductive Found where
  | granted | lost | queueFull
  deriving DecidableEq, Repr

/-- Arbitration of an access on path `p` (R56, R429): the chain queues 16 requests; a held page goes to nobody; of the
requesters of one cycle the AON sequencer comes first, then the chain, then I3C, then the network. -/
def Arb.found (a : Arb) (p : Path) : Found :=
  if p = .chain ∧ 16 ≤ a.queue then .queueFull
  else if a.held || a.seq then .lost
  else match p with
    | .chain => .granted
    | .i3c => if a.chain then .lost else .granted
    | .net => if a.chain || a.i3c then .lost else .granted

/-- An access that nothing competes with, of flow `flow` where it comes over the network. -/
def Arb.alone (flow : Nat) : Arb := ⟨false, false, false, false, 0, flow⟩

/-- A chain frame whose FCRC is good, field by field (R409). -/
structure Frame where
  ty : Byte
  bcast : Bool
  auth : Bool
  resp : Bool
  rid : BitVec 4
  src : Half
  dst : Half
  lap : Bool
  hops : BitVec 15
  /-- Bytes 8 to 59. -/
  body : List Byte
  deriving DecidableEq, Repr

/-- The on-chip legs of R17, as the GUARD_GIVEUP event codes them. -/
inductive Leg where
  | ingress | drain | egress
  deriving DecidableEq, Repr

/-- The TCI of a C-tag, high bits first (R70, R75). -/
structure Tci where
  pcp : BitVec 3
  dei : BitVec 1
  vid : BitVec 12
  deriving DecidableEq, Repr

/-- What a received frame carries behind its addresses and tag, as far as the port steers it (R72). -/
inductive RxBody where
  /-- EtherType 0x8808 with opcode 0x0001: an IEEE 802.3 PAUSE frame. -/
  | pause
  /-- EtherType 0x8808 with the PFC opcode. -/
  | pfc
  /-- EtherType 0x8808 with another opcode. -/
  | macOther
  | arp
  /-- IPv4: destination, IHL, MF or a fragment offset, protocol, UDP destination port, whether a non-zero UDP checksum
  fails, and byte 3 of the UDP payload (R139). -/
  | ipv4 (dst : Word) (ihl : BitVec 4) (frag : Bool) (proto : Byte) (port : Half) (sumBad : Bool) (ty : Byte)
  /-- IPv6: destination, next header, UDP destination port, whether a non-zero UDP checksum fails, and byte 3 of the UDP
  payload. -/
  | ipv6 (dst : BitVec 128) (next : Byte) (port : Half) (sumBad : Bool) (ty : Byte)
  | other
  deriving DecidableEq, Repr

/-- A frame a port receives: its address, tags, length with FCS, the checks it fails at its last byte, its first 256
bytes (kept for the diagnostic queue), and what the layers below counted on it. -/
structure RxFrame where
  dst : BitVec 48
  tag : Option Tci
  stag : Bool
  len : Nat
  fcsBad : Bool
  pcsBad : Bool
  reasmBad : Bool
  truncated : Bool
  body : RxBody
  head : List Byte
  /-- Fragments it came in (0: whole), and codewords of it the FEC corrected and could not correct. -/
  frags : Nat
  fecCorr : Nat
  fecBad : Nat
  deriving DecidableEq, Repr

/-- The addresses a message or a request arrived with: port, MAC, tag, IP family, source and destination address, UDP
source port. -/
structure Arrival where
  port : BitVec 1
  mac : BitVec 48
  tag : Option Tci
  ipv6 : Bool
  ip : BitVec 128
  /-- The IP address it was sent to. -/
  dst : BitVec 128
  udp : Half
  /-- The destination was a group or broadcast address. -/
  group : Bool
  deriving DecidableEq, Repr

/-- The header fields of a host datagram that the transport reads (R103). -/
structure Hdr where
  flow : Word
  seq : Word
  ack : Word
  credit : Word
  req : Bool
  attempt : BitVec 3
  deriving DecidableEq, Repr

/-- One 4,096-byte block of a DATA with the CRC it carries (R124). -/
structure Block where
  bytes : List Byte
  crc : Word
  deriving DecidableEq, Repr

/-- A CMD as it arrives: addresses, header, preamble (R133) and the body from offset 56 on. -/
structure Cmd where
  arr : Arrival
  hdr : Hdr
  tag : Word
  cflags : Half
  payload : Long
  opq : Long
  body : List Byte
  deriving DecidableEq, Repr

/-- The commands of R152, by opcode. -/
inductive Op where
  | put | putRange | cas | delete | punch | get | getRange | stat | list | flush | replayReport
  | nsCreate | nsDelete | nsUsage | keyLoad | keyErase | mgmtRead | mgmtWrite | noticeSubscribe
  | unknown (code : Half)
  deriving DecidableEq, Repr

/-- What a physical read of a unit gave (R281): the corrected-bit count with its sign, a failed decode, or a converged
decode whose media CRC fails. -/
inductive ReadRes where
  | good (bits : Int)
  | decodeFail
  | crcFail (bits : Int)
  deriving DecidableEq, Repr

/-- What is read from the media: a unit of a media read in progress. -/
structure RdTarget where
  rd : Nat
  unit : Nat
  deriving DecidableEq, Repr

/-- How a die block fails: its erase, or a program with its read-back (R292). -/
inductive BlkFail where
  | erase | program
  deriving DecidableEq, Repr

/-- A supply whose loss the comparators declare (R391). -/
inductive Supply where
  | p12v | aux
  deriving DecidableEq, Repr

/-- How a converter's sample arrives: a valid mantissa or none (R364), and whether the computation finishes in time. -/
structure Sample where
  fb : Option Int
  overrun : Bool
  deriving DecidableEq, Repr

/-- What firmware finds as it starts: which copies of the checkpoints read back good (R279), bits 0 and 1 of the newer one and
bits 2 and 3 of the older one, and the units, by carrier and instance, that did not start on their recorded slots (R469). -/
structure StartSeen where
  ck : BitVec 4
  failed : List (Nat × Nat)
  deriving DecidableEq, Repr

/-- A start at which every copy reads and every unit starts. -/
def StartSeen.good : StartSeen := ⟨15, []⟩

/-- A Neighbor Discovery message: its target, and whether it is an advertisement (R87). -/
structure NdMsg where
  target : BitVec 128
  advert : Bool
  deriving DecidableEq, Repr

/-- An echo request: identifier, sequence number and payload (R88). -/
structure EchoMsg where
  ident : Half
  seqNo : Half
  payload : List Byte
  deriving DecidableEq, Repr

/-- A wake detector fires, alone or in the same cycle as the other port's (R90). -/
structure WakeHit where
  port : BitVec 1
  both : Bool
  deriving DecidableEq, Repr

/-- A RESET of a host: its header and its CAUSE (R117). -/
structure ResetMsg where
  hdr : Hdr
  cause : Byte
  deriving DecidableEq, Repr

/-- A UDP payload as it arrives, all bytes of it (R104). -/
structure RawDgram where
  arr : Arrival
  bytes : List Byte
  deriving DecidableEq, Repr

/-- An uncorrectable DRAM error in the journal region: whether it takes both copies of what is held twice (R308), and how many
errors have been corrected since the last one (R226). -/
structure UeErr where
  both : Bool
  ce : Nat
  deriving DecidableEq, Repr

/-- What the DRAM patrol finds: the address, as of `UeErr`, and the match shadow line that the address lies in (R226). -/
structure PatrolErr where
  addr : BitVec 36
  both : Bool
  shadow : Option (BitVec 2 × Nat)
  ce : Nat
  deriving DecidableEq, Repr

/-- What goes wrong with a cipher request: a unit that fails the engine's own check (R256), and one that fails its check on the
leg to or from the media engine, with how often in a row (R16, R17). -/
structure CphFault where
  unit : Option Nat
  media : Option (Nat × Nat)
  deriving DecidableEq, Repr

/-- A read job whose next segment leaves, and a unit that fails its check on the way, with how often in a row (R16, R17). -/
structure SegGo where
  job : Nat
  again : Option (Nat × Nat)
  deriving DecidableEq, Repr

/-- What a re-read gave: the unit's own result, and the rungs at which the units of a reconstruction came (R281). -/
structure RungRes where
  res : ReadRes
  peers : List Nat
  deriving DecidableEq, Repr

/-- An EMPTY frame, and how many frames of the drive's own others have taken off the ring (R411, R412). -/
structure SlotFrame where
  frame : Frame
  gone : Nat
  deriving DecidableEq, Repr

/-- The commands. Operands `p`, `v` and `a` of a register row are the access path, the written word and what
arbitration finds; `port` is 0 or 1. -/
inductive Instr where
  -- guard, clocks, resets and start-up
  | guardGiveup (leg : Leg) (id unit : Nat)
  | drainGivenUp (rsn unit : Nat)
  | refClockFault
  | refClockValid
  | controllerFault (dom : Nat)
  | powerOnReset (lead seg : Bool)
  | resetNAssert (ns : Nat)
  | resetNRelease
  | softFullReset (p : Path) (v : Word) (a : Arb)
  | perDomainReset (p : Path) (v : Word) (a : Arb)
  | chainReadyTimeout
  | v12Good
  | firmwareRunning (seen : StartSeen := StartSeen.good)
  | readReady
  | writeReady
  | replayDrainDone
  | supplyLoss (which : Supply)
  | flushSeal
  | flushReserveOut (pages : Nat)
  | supplyReturnDuringFlush
  -- I3C
  | i3cPrivateWrite (bytes : List Byte) (a : Arb)
  | i3cPrivateRead
  | enec (events : Byte)
  | disec (events : Byte)
  | getpid
  | getbcr
  | getdcr
  | getstatus
  | getmxds
  | entdaa (addr : BitVec 7)
  | setdasa (static addr : BitVec 7)
  | rstdaa
  -- register fabric
  | registerWrite (p : Path) (addr : Nat) (v : Word) (a : Arb)
  | rcRegisterRead (p : Path) (addr : Nat) (a : Arb)
  | wideLowWordRead (p : Path) (addr : Nat) (a : Arb)
  | wideLowWordWrite (p : Path) (addr : Nat) (v : Word) (a : Arb)
  | nrgAllotSetWrite (p : Path) (v : Word) (a : Arb)
  | pageInterruptPending (page : Nat)
  | deferredInterruptDelivery (page : Nat)
  -- network ports
  | autonegResolved (port : BitVec 1) (partner : Nat)
  | trainingAttemptFailed (port : BitVec 1)
  | phyFallback (port : BitVec 1)
  | linkUp (port : BitVec 1) (us : Nat)
  | linkDown (port : BitVec 1)
  | macRetrain (p : Path) (port : BitVec 1) (v : Word) (a : Arb)
  | macPortEnable (p : Path) (port : BitVec 1) (v : Word) (a : Arb)
  | macCfgSave (p : Path) (port : BitVec 1) (v : Word) (a : Arb)
  | macCfgSaveDone (port : BitVec 1)
  | rxFrame (port : BitVec 1) (f : RxFrame)
  | rxBufferRelease (port : BitVec 1) (ring n : Nat)
  | pfcRefresh (port : BitVec 1) (prio : Nat)
  | pfcReceived (port : BitVec 1) (vec : Byte) (times : List Half)
  | pauseTimerExpiry (port : BitVec 1) (prio : Nat)
  | preemptVerifyDone (port : BitVec 1) (ok : Bool)
  | txFrame (port : BitVec 1) (cut : Option Nat)
  | preemptHoldTimeout (port : BitVec 1)
  | diagPop (p : Path) (port : BitVec 1) (v : Word) (a : Arb)
  | arpRequest (arr : Arrival) (senderIp targetIp : Word) (senderMac : BitVec 48) (request : Bool)
  | ipv4AddrWrite (p : Path) (port : BitVec 1) (v : Word) (a : Arb)
  | ipv6AddrWrite (p : Path) (port : BitVec 1) (addr wd : Nat) (v : Word) (a : Arb)
  | dadTimeout (port : BitVec 1) (addr : Nat)
  | neighborSolicitation (arr : Arrival) (msg : NdMsg)
  | echoRequest (arr : Arrival) (msg : EchoMsg)
  | wakeDetectorArm (port : BitVec 1)
  | wakePattern (hit : WakeHit)
  -- transport
  | flowOpen (arr : Arrival) (hdr : Hdr) (version : Byte) (body : List Byte) (slot : Nat) (isn : Word)
  | flowClose (arr : Arrival) (hdr : Hdr)
  | closeAckSend (slot : Nat)
  | hostReset (arr : Arrival) (msg : ResetMsg)
  | ackMessage (arr : Arrival) (hdr : Hdr)
  | probe (arr : Arrival) (hdr : Hdr) (body : List Byte)
  | data (arr : Arrival) (hdr : Hdr) (index : Nat) (blocks : List Block) (attempt2 : BitVec 3)
  | hostBitmap (arr : Arrival) (hdr : Hdr) (base : Nat) (body : List Byte)
  | bmapReq (arr : Arrival) (hdr : Hdr) (msg : Word)
  | ackDelayExpiry (slot : Nat)
  | rtoExpiry (slot : Nat) (seq : Word) (unit : Option Nat)
  | reorderTimerExpiry (slot : Nat) (seq : Word) (missing : List Nat)
  | flowIdleTimeout (slot : Nat)
  | tombExpiry (slot : Nat)
  | xptFlowKill (p : Path) (v : Word) (a : Arb)
  | xptEnableClear (p : Path) (v : Word) (a : Arb)
  | xptCfgSave (p : Path) (v : Word) (a : Arb)
  | xptFlowSel (p : Path) (v : Word) (a : Arb)
  | fabricCopyConfirm (slot : Nat) (seq : Word) (unit fails : Nat)
  -- key-value commands
  | unknownOpcode (c : Cmd) (code : Half)
  | put (c : Cmd)
  | putRange (c : Cmd)
  | cas (c : Cmd)
  | delete (c : Cmd)
  | punch (c : Cmd)
  | get (c : Cmd)
  | getRange (c : Cmd)
  | stat (c : Cmd)
  | list (c : Cmd)
  | flush (c : Cmd)
  | flushComplete (slot : Nat) (seq : Word)
  | replayReport (c : Cmd)
  | nsCreate (c : Cmd)
  | nsDelete (c : Cmd)
  | nsUsage (c : Cmd)
  | keyLoad (c : Cmd)
  | keyErase (c : Cmd)
  | mgmtRead (c : Cmd) (a : Arb)
  | mgmtWrite (c : Cmd) (a : Arb)
  | noticeSubscribe (c : Cmd)
  -- journal
  | commit (rsn : Nat)
  | acceptHeld
  | unitSlotAllocate (slot : Nat) (seq : Word)
  | spillSegment (rsn run : Nat)
  | journalDrain (rsn : Nat)
  | recordDrained (rsn : Nat)
  | checkpoint
  | ckptNow (p : Path) (v : Word) (a : Arb)
  | journalDramUe (addr : BitVec 36) (err : UeErr)
  | dramPatrolUe (err : PatrolErr)
  | reportEntryExpiry
  | wtReqSet (p : Path) (v : Word) (a : Arb)
  | wtReqClear (p : Path) (v : Word) (a : Arb)
  | wtSafe
  | wtCommitPage
  | wtCommitEffect
  -- policy match
  | entRead (p : Path) (seg : BitVec 2) (v : Word) (a : Arb)
  | entInvalidate (p : Path) (seg : BitVec 2) (v : Word) (a : Arb)
  | entWrite (p : Path) (seg : BitVec 2) (v : Word) (a : Arb)
  | entValidate (p : Path) (seg : BitVec 2) (v : Word) (a : Arb)
  | mchSave (p : Path) (v : Word) (a : Arb)
  | mchSaveDone
  | mchGeomWrite (p : Path) (v : Word) (a : Arb)
  | segmentRebuild (p : Path) (seg : BitVec 2) (v : Word) (a : Arb)
  | segmentRebuildDone (seg : BitVec 2)
  | diagSearchGo (p : Path) (v : Word) (a : Arb)
  | diagSearchNext (p : Path) (v : Word) (a : Arb)
  | mchAcctSel (p : Path) (v : Word) (a : Arb)
  | scrubCompare (seg : BitVec 2) (index : Nat) (shadowBad : Bool)
  | matchTempSample (t0 t1 t2 t3 : Nat)
  -- cipher engine
  | cphDequeue (q : Nat)
  | cphCompletion (req : Nat) (fault : CphFault)
  | tagFailure (req : Nat)
  | segmentRelease (go : SegGo)
  | releaseSlotFree (job seg : Nat)
  | rekeyInForce (slot : Nat)
  | ceilSet (p : Path) (v : Word) (a : Arb)
  | dslotLoad (p : Path) (v : Word) (a : Arb)
  | dslotErase (p : Path) (v : Word) (a : Arb)
  | mqGo (p : Path) (v : Word) (a : Arb)
  | cphSlotSel (p : Path) (v : Word) (a : Arb)
  -- media store
  | mediaRead (t : RdTarget) (r : ReadRes)
  | readRetryRung (t : RdTarget) (rung : Nat) (r : RungRes)
  | stripeProgramDone (band : Nat) (failed : Option Nat)
  | eraseDone (band ch : Nat) (ok : Bool)
  | gcCopy (group : Nat)
  | wearLevelMove (ch die : Nat)
  | dieOpTimeout (ch die : Nat)
  | spareCmd (p : Path) (k : BitVec 3) (v : Word) (a : Arb)
  | rebuildBand (group : Nat) (failed : Option BlkFail)
  | healthLogSave
  | hlogSnap (p : Path) (v : Word) (a : Arb)
  | dieSel (p : Path) (k : BitVec 3) (v : Word) (a : Arb)
  | userBandsWrite (p : Path) (v : Word) (a : Arb)
  -- control engine
  | loopTick (n : BitVec 4) (s : Sample) (peops : Nat)
  | thLoopPeriod (t : Nat) (overrun : Bool)
  | goAuto (p : Path) (loop : Nat) (v : Word) (a : Arb)
  | goManual (p : Path) (loop : Nat) (v : Word) (a : Arb)
  | clearTrip (p : Path) (loop : Nat) (v : Word) (a : Arb)
  | spTargetWrite (p : Path) (n : BitVec 4) (v : Word) (a : Arb)
  | manWrite (p : Path) (loop : Nat) (v : Word) (a : Arb)
  | thStateSave
  | ctlSave (p : Path) (v : Word) (a : Arb)
  | ctlThSel (p : Path) (v : Word) (a : Arb)
  -- energy and pack
  | reserveMeasure (mv : Nat)
  | packTestPeriod
  | hupMeasGo (p : Path) (v : Word) (a : Arb)
  | packTestDone (capMf esr : Nat)
  | packFault (cause : Nat)
  | chainLeaseExpiry
  | staticDrawEstimate (sample : Nat)
  | swapRequest (p : Path) (v : Word) (a : Arb)
  | swapCancel (p : Path) (v : Word) (a : Arb)
  | packFitted (record : List Byte) (mv : Nat)
  | packRemoved
  | packLatchOpen
  | packLatchClose
  | idleEntry
  | fawnEnterCmd (p : Path) (v : Word) (a : Arb)
  | fawnCancelCmd (p : Path) (v : Word) (a : Arb)
  | fawnIdleTimeout
  | fawnGraceEnd
  | fawnReached
  | wakeTimerExpiry
  | domainEnable (dom : Nat)
  | domainDisable (dom : Nat) (retain : Bool)
  | domainShutdownDone (dom : Nat)
  | pdForceOffWrite (p : Path) (v : Word) (a : Arb)
  -- chain
  | chainLockAcquired
  | chainLockLost
  | claimTimer
  | claimFrame (f : Frame)
  | enumFrame (f : Frame)
  | enumReturn (f : Frame) (ns : Nat)
  | enumTimeout
  | enumReqFrame (f : Frame)
  | enumReqTimer
  | enumPeriodExpiry
  | chnEnumCmd (p : Path) (v : Word) (a : Arb)
  | tickTimer
  | tickFrame (f : Frame)
  | tickLoss
  | allotFrame (f : Frame)
  | alarmFrame (f : Frame)
  | chainNoticeFrame (f : Frame)
  | regRdFrame (f : Frame) (a : Arb)
  | regWrFrame (f : Frame) (a : Arb)
  | regRspFrame (f : Frame)
  | emptySlot (f : SlotFrame)
  | unknownFrame (f : Frame)
  | chnReqGo (p : Path) (v : Word) (a : Arb)
  | chnReqTimeout (p : Path)
  | chnTxSend (p : Path) (v : Word) (a : Arb)
  -- event recorder
  | eventOffer (code : Nat) (p0 p1 p2 p3 : Word)
  | recordProgram
  | recordProgramDone (ok : Bool)
  | summaryDue (code : Nat)
  | recorderScan
  | optHwAdvance
  | recFreeze (p : Path) (v : Word) (a : Arb)
  | recUnfreeze (p : Path) (v : Word) (a : Arb)
  | freezeTimeout
  | recRdSel (p : Path) (v : Word) (a : Arb)
  | recChallenge (p : Path) (v : Word) (a : Arb)
  | challengeExpiry
  | recClear (p : Path) (v : Word) (a : Arb)
  | recClearDone
  | recHostGo (p : Path) (v : Word) (a : Arb)
  | recRlSel (p : Path) (v : Word) (a : Arb)
  -- live update
  | updOpen (p : Path) (v : Word) (a : Arb)
  | updChunk (p : Path) (v : Word) (a : Arb)
  | updChunkDone (ok : Bool)
  | updVerify (p : Path) (v : Word) (a : Arb)
  | updVerifyDone (signature : Bool)
  | updActivate (p : Path) (v : Word) (a : Arb)
  | updRevert (p : Path) (v : Word) (a : Arb)
  | updClose (p : Path) (v : Word) (a : Arb)
  | unitReturn
  | unitFaultTimeout
  | macLinkWaitTimeout
  -- module, supplies and late rows
  | ledTest (p : Path) (v : Word) (a : Arb)
  | ledTestEnd
  | moduleTempSample (inlet outlet : Byte)
  | auxLoss
  | auxReturn
  | packCooled
  | eyeRefresh (port : BitVec 1) (lane : BitVec 2) (eye : Word)
  | badTransportDatagram (dgram : RawDgram)
  | badChainFrame (bytes : List Byte) (endBad : Bool)
  | chnCtlEnableWrite (p : Path) (v : Word) (a : Arb)
  | macPortDisable (p : Path) (port : BitVec 1) (v : Word) (a : Arb)
  | jrnRecSel (p : Path) (v : Word) (a : Arb)
  | xptCfgSaveDone
  | ctlSaveDone
  deriving DecidableEq, Repr

end Sys2Proof
end

