-- ==== Sys2Proof/Decode.lean ====
section
/-! DEFINITION. The command that a word spells by the bits of spec/opcode_table.json. Every row of that table has an empty
list of bit fields: no row gives a command bits, so no word spells one. -/

namespace Sys2Proof

/-- The command a word of `nbits` bits spells: none, because the opcode table gives no row bits. -/
def decodeTableWord (nbits w : Nat) : Option Instr :=
  match nbits, w with
  | _, _ => none

end Sys2Proof
end

