-- ==== Sys2Proof/Machine/Bits.lean ====
section
/-! DEFINITION. Bit fields of register words (the manual's [msb:lsb], bit 0 least significant), byte orders (R9
little-endian in the management space, R10 big-endian on every wire) and the list helpers the meanings share. -/

namespace Sys2Proof.Machine

/-- Bits `hi:lo` of the number `n`. -/
def bitsN (n hi lo : Nat) : Nat := n / 2 ^ lo % 2 ^ (hi + 1 - lo)

/-- Bits `hi:lo` of a register word, as a number. -/
def bits (w : Word) (hi lo : Nat) : Nat := bitsN w.toNat hi lo

/-- Bit `i` of a number, as a truth value. -/
def bitN (n i : Nat) : Bool := n / 2 ^ i % 2 == 1

/-- Bit `i` of a register word. -/
def bit (w : Word) (i : Nat) : Bool := bitN w.toNat i

/-- `n` with its bits `hi:lo` replaced by the low bits of `v`. -/
def setBitsN (n hi lo v : Nat) : Nat :=
  n - bitsN n hi lo * 2 ^ lo + v % 2 ^ (hi + 1 - lo) * 2 ^ lo

/-- A truth value as the number 0 or 1. -/
def b2n (b : Bool) : Nat := if b then 1 else 0

/-- The `n` low bytes of `v`, most significant first: a big-endian field of `n` bytes (R10). -/
def beBytes : Nat → Nat → List Byte
  | 0, _ => []
  | n + 1, v => beBytes n (v / 256) ++ [BitVec.ofNat 8 v]

/-- The `n` low bytes of `v`, least significant first (R9). -/
def leBytes : Nat → Nat → List Byte
  | 0, _ => []
  | n + 1, v => BitVec.ofNat 8 v :: leBytes n (v / 256)

/-- The number a big-endian byte string spells. -/
def beNat (bs : List Byte) : Nat := bs.foldl (fun a b => a * 256 + b.toNat) 0

/-- The number a little-endian byte string spells. -/
def leNat (bs : List Byte) : Nat := bs.foldr (fun b a => a * 256 + b.toNat) 0

/-- The `n` bytes of `bs` from offset `o`. -/
def slice (bs : List Byte) (o n : Nat) : List Byte := (bs.drop o).take n

/-- The big-endian field of `n` bytes at offset `o` of a message body; bytes past its end count as 0. -/
def beAt (bs : List Byte) (o n : Nat) : Nat :=
  let f := slice bs o n
  beNat f * 256 ^ (n - f.length)

/-- `n` zero bytes. -/
def zeros (n : Nat) : List Byte := List.replicate n 0

/-- `bs` cut or padded with zeros to exactly `n` bytes. -/
def padTo (n : Nat) (bs : List Byte) : List Byte := bs.take n ++ zeros (n - bs.length)

/-- The order of keys: byte by byte, a proper beginning first (R148). -/
def bytesLt : List Byte → List Byte → Bool
  | _, [] => false
  | [], _ :: _ => true
  | a :: as, b :: bs => if a = b then bytesLt as bs else a.toNat < b.toNat

/-- Round up to a whole number of `k`. -/
def ceilDiv (n k : Nat) : Nat := (n + k - 1) / k

/-- `n + k`, saturating at the greatest 32-bit value: the counters of R20, R43 and R58. -/
def satAdd32 (w : Word) (k : Nat) : Word :=
  if w.toNat + k < 2 ^ 32 then word (w.toNat + k) else word (2 ^ 32 - 1)

/-- Replace element `i` of a list; a list shorter than that is unchanged. -/
def setAt {α : Type} (l : List α) (i : Nat) (a : α) : List α := l.set i a

/-- Apply `f` to element `i` of a list. -/
def modAt {α : Type} (l : List α) (i : Nat) (f : α → α) : List α :=
  match l[i]? with
  | some a => l.set i (f a)
  | none => l

/-- Apply `f` to every element that satisfies `p`. -/
def modIf {α : Type} (l : List α) (p : α → Bool) (f : α → α) : List α :=
  l.map (fun a => if p a then f a else a)

/-- The two's complement of a negative number in `n` bits; a number that is not negative stays. -/
def toTwos (n : Nat) (i : Int) : Nat := (i % (2 ^ n : Int)).toNat

/-- The integer an `n`-bit two's complement field holds. -/
def fromTwos (n v : Nat) : Int :=
  if v % 2 ^ n < 2 ^ (n - 1) then (v % 2 ^ n : Nat) else (v % 2 ^ n : Nat) - (2 ^ n : Int)

end Sys2Proof.Machine
end

