-- ==== Sys2Proof/Machine/Aes.lean ====
section
/-! DEFINITION. AES-256 (FIPS 197) and the modes the cipher engine runs (R244, R245, R258): CMAC (SP 800-38B), XTS
(IEEE 1619, no ciphertext stealing: the engine takes whole blocks) and GCM with a 12-byte nonce (SP 800-38D). Bytes in the order of
R530: a key, a tweak and a block are byte strings, first byte first. PRESUMED: the standards' own definitions, which
the spec names and does not repeat (log entry 40). -/

namespace Sys2Proof.Machine

/-- The S-box of FIPS 197. -/
def aesSbox : List Nat :=
  [99, 124, 119, 123, 242, 107, 111, 197, 48, 1, 103, 43, 254, 215, 171, 118] ++
  [202, 130, 201, 125, 250, 89, 71, 240, 173, 212, 162, 175, 156, 164, 114, 192] ++
  [183, 253, 147, 38, 54, 63, 247, 204, 52, 165, 229, 241, 113, 216, 49, 21] ++
  [4, 199, 35, 195, 24, 150, 5, 154, 7, 18, 128, 226, 235, 39, 178, 117] ++
  [9, 131, 44, 26, 27, 110, 90, 160, 82, 59, 214, 179, 41, 227, 47, 132] ++
  [83, 209, 0, 237, 32, 252, 177, 91, 106, 203, 190, 57, 74, 76, 88, 207] ++
  [208, 239, 170, 251, 67, 77, 51, 133, 69, 249, 2, 127, 80, 60, 159, 168] ++
  [81, 163, 64, 143, 146, 157, 56, 245, 188, 182, 218, 33, 16, 255, 243, 210] ++
  [205, 12, 19, 236, 95, 151, 68, 23, 196, 167, 126, 61, 100, 93, 25, 115] ++
  [96, 129, 79, 220, 34, 42, 144, 136, 70, 238, 184, 20, 222, 94, 11, 219] ++
  [224, 50, 58, 10, 73, 6, 36, 92, 194, 211, 172, 98, 145, 149, 228, 121] ++
  [231, 200, 55, 109, 141, 213, 78, 169, 108, 86, 244, 234, 101, 122, 174, 8] ++
  [186, 120, 37, 46, 28, 166, 180, 198, 232, 221, 116, 31, 75, 189, 139, 138] ++
  [112, 62, 181, 102, 72, 3, 246, 14, 97, 53, 87, 185, 134, 193, 29, 158] ++
  [225, 248, 152, 17, 105, 217, 142, 148, 155, 30, 135, 233, 206, 85, 40, 223] ++
  [140, 161, 137, 13, 191, 230, 66, 104, 65, 153, 45, 15, 176, 84, 187, 22]

/-- SubBytes of one byte. -/
def aesSub (b : Byte) : Byte := BitVec.ofNat 8 (aesSbox.getD b.toNat 0)

/-- Multiplication by x in the AES field. -/
def xtime (b : Byte) : Byte := if b.getLsbD 7 then (b <<< 1) ^^^ 0x1B#8 else b <<< 1

/-- Exclusive or of two byte strings, as long as the shorter. -/
def xorBytes (a b : List Byte) : List Byte := List.zipWith (· ^^^ ·) a b

/-- The next four key-schedule words' first word: RotWord, SubWord and the round constant. -/
def aesKeyWord (i : Nat) (rcon : Byte) (prev : List Byte) : List Byte :=
  if i % 8 = 0 then
    match prev with
    | [a, b, c, d] => [aesSub b ^^^ rcon, aesSub c, aesSub d, aesSub a]
    | _ => prev
  else if i % 8 = 4 then prev.map aesSub
  else prev

/-- The AES-256 key schedule: `n` more words from word `i` on; `ws` holds the words so far, newest first. -/
def aesExpand : Nat → Nat → Byte → List (List Byte) → List (List Byte)
  | 0, _, _, ws => ws
  | n + 1, i, rcon, ws =>
    let w := xorBytes (ws.getD 7 []) (aesKeyWord i rcon (ws.getD 0 []))
    aesExpand n (i + 1) (if i % 8 = 0 then xtime rcon else rcon) (w :: ws)

/-- A byte string cut into pieces of `k` bytes (`fuel` at least their number). -/
def chunks (k : Nat) : Nat → List Byte → List (List Byte)
  | 0, _ => []
  | _, [] => []
  | fuel + 1, bs => bs.take k :: chunks k fuel (bs.drop k)

/-- The fifteen round keys of a 32-byte key. -/
def aesRoundKeys (key : List Byte) : List (List Byte) :=
  let ws := (aesExpand 52 8 1 (chunks 4 8 (padTo 32 key)).reverse).reverse
  chunks 16 15 ws.flatten

/-- ShiftRows on the 16 bytes of a block, column by column. -/
def aesShiftRows (b : List Byte) : List Byte :=
  [0, 5, 10, 15, 4, 9, 14, 3, 8, 13, 2, 7, 12, 1, 6, 11].map (fun i => b.getD i 0)

/-- MixColumns of one column. -/
def aesMixCol (c : List Byte) : List Byte :=
  match c with
  | [a, b, d, e] =>
    [xtime a ^^^ (xtime b ^^^ b) ^^^ d ^^^ e, a ^^^ xtime b ^^^ (xtime d ^^^ d) ^^^ e,
     a ^^^ b ^^^ xtime d ^^^ (xtime e ^^^ e), (xtime a ^^^ a) ^^^ b ^^^ d ^^^ xtime e]
  | _ => c

/-- AES-256 encryption of one 16-byte block. -/
def aesEnc (key blk : List Byte) : List Byte :=
  match aesRoundKeys key with
  | [] => blk
  | k0 :: ks =>
    let s0 := xorBytes (padTo 16 blk) k0
    let s := (ks.dropLast).foldl
      (fun s k => xorBytes (((chunks 4 4 (aesShiftRows (s.map aesSub))).map aesMixCol).flatten) k) s0
    xorBytes (aesShiftRows (s.map aesSub)) (ks.getLastD [])

/-- The place of byte `v` in the S-box: InvSubBytes. -/
def aesInvSub (b : Byte) : Byte := BitVec.ofNat 8 ((aesSbox.findIdx? (· == b.toNat)).getD 0)

/-- InvShiftRows. -/
def aesInvShiftRows (b : List Byte) : List Byte :=
  [0, 13, 10, 7, 4, 1, 14, 11, 8, 5, 2, 15, 12, 9, 6, 3].map (fun i => b.getD i 0)

/-- InvMixColumns of one column: MixColumns three more times (its order is 4). -/
def aesInvMixCol (c : List Byte) : List Byte := aesMixCol (aesMixCol (aesMixCol c))

/-- AES-256 decryption of one 16-byte block. -/
def aesDec (key blk : List Byte) : List Byte :=
  match (aesRoundKeys key).reverse with
  | [] => blk
  | kl :: ks =>
    let s0 := xorBytes (padTo 16 blk) kl
    let s := (ks.dropLast).foldl
      (fun s k => (((chunks 4 4 (xorBytes ((aesInvShiftRows s).map aesInvSub) k)).map aesInvMixCol).flatten)) s0
    xorBytes ((aesInvShiftRows s).map aesInvSub) (ks.getLastD [])

/-- A 16-byte string as one 128-bit number, first byte most significant. -/
def blkNat (b : List Byte) : Nat := beNat (padTo 16 b)

/-- Doubling in the field of CMAC: left shift, 0x87 on carry. -/
def cmacDbl (n : Nat) : Nat :=
  if bitN n 127 then ((n * 2) % 2 ^ 128) ^^^ 0x87 else n * 2

/-- AES-256-CMAC of a byte string (SP 800-38B), 16 bytes. -/
def aesCmac (key msg : List Byte) : List Byte :=
  let l := blkNat (aesEnc key (zeros 16))
  let k1 := cmacDbl l
  let k2 := cmacDbl k1
  let n := max 1 (ceilDiv msg.length 16)
  let body := chunks 16 (n - 1) (msg.take (16 * (n - 1)))
  let rest := msg.drop (16 * (n - 1))
  let last := if rest.length = 16 then beBytes 16 (blkNat rest ^^^ k1)
    else beBytes 16 (blkNat (padTo 16 (rest ++ [0x80#8])) ^^^ k2)
  (body ++ [last]).foldl (fun c b => aesEnc key (xorBytes c b)) (zeros 16)

/-- Multiplication of an XTS tweak by alpha: the 16 bytes as a little-endian number, 0x87 on carry. -/
def xtsAlpha (t : List Byte) : List Byte := leBytes 16 (cmacDbl (leNat t))

/-- AES-256-XTS over whole 16-byte blocks; `key` is the 64-byte pair, data key first. `dec` decrypts. -/
def aesXts (dec : Bool) (key tweak : List Byte) (data : List Byte) : List Byte :=
  let k1 := key.take 32
  let t0 := aesEnc (key.drop 32) (padTo 16 tweak)
  let step := fun (acc : List Byte × List Byte) (b : List Byte) =>
    let x := xorBytes b acc.1
    let y := if dec then aesDec k1 x else aesEnc k1 x
    (xtsAlpha acc.1, acc.2 ++ xorBytes y acc.1)
  ((chunks 16 (data.length / 16) data).foldl step (t0, [])).2

/-- AES-256-XTS of any length from 16 bytes on, with ciphertext stealing on a last partial block (SP 800-38E). -/
def aesXtsAny (dec : Bool) (key tweak data : List Byte) : List Byte :=
  let b := data.length % 16
  if b = 0 then aesXts dec key tweak data
  else
    let n := data.length / 16 - 1
    let k1 := key.take 32
    let t0 := (List.range n).foldl (fun t _ => xtsAlpha t) (aesEnc (key.drop 32) (padTo 16 tweak))
    let t1 := xtsAlpha t0
    let one (t x : List Byte) : List Byte := xorBytes ((if dec then aesDec else aesEnc) k1 (xorBytes x t)) t
    let full := slice data (16 * n) 16
    let part := data.drop (16 * n + 16)
    let y := one (if dec then t1 else t0) full
    aesXts dec key tweak (data.take (16 * n)) ++ one (if dec then t0 else t1) (part ++ y.drop b) ++ y.take b

/-- GHASH multiplication: `n` more bits of `x`, most significant first. -/
def ghMul : Nat → Nat → Nat → Nat → Nat
  | 0, _, _, z => z
  | n + 1, x, v, z =>
    ghMul n x (if bitN v 0 then (v / 2) ^^^ (0xE1 * 2 ^ 120) else v / 2) (if bitN x n then z ^^^ v else z)

/-- GHASH of a byte string of whole blocks under the hash key `h`. -/
def ghash (h : Nat) (data : List Byte) : Nat :=
  (chunks 16 (data.length / 16) data).foldl (fun y b => ghMul 128 (y ^^^ blkNat b) h 0) 0

/-- A byte string padded with zeros to whole 16-byte blocks. -/
def pad16 (b : List Byte) : List Byte := padTo (16 * ceilDiv b.length 16) b

/-- The counter-mode stream of GCM over the blocks of `data`, from counter value `c`. -/
def gcmCtr (key nonce : List Byte) (c : Nat) (data : List Byte) : List Byte :=
  let bs := chunks 16 (ceilDiv data.length 16) data
  ((bs.zipIdx c).map (fun p => xorBytes p.1 (aesEnc key (nonce ++ beBytes 4 p.2)))).flatten

/-- The 16-byte GCM tag over the additional data and the ciphertext. -/
def gcmTag (key nonce aad ct : List Byte) : List Byte :=
  let h := blkNat (aesEnc key (zeros 16))
  let s := ghash h (pad16 aad ++ pad16 ct ++ beBytes 8 (8 * aad.length) ++ beBytes 8 (8 * ct.length))
  xorBytes (beBytes 16 s) (aesEnc key (nonce ++ beBytes 4 1))

/-- AES-256-GCM encryption: ciphertext and tag. -/
def gcmEnc (key nonce aad pt : List Byte) : List Byte × List Byte :=
  let ct := gcmCtr key nonce 2 pt
  (ct, gcmTag key nonce aad ct)

/-- AES-256-GCM decryption: the plaintext if the tag verifies. -/
def gcmDec (key nonce aad ct tag : List Byte) : Option (List Byte) :=
  if gcmTag key nonce aad ct = tag then some (gcmCtr key nonce 2 ct) else none

end Sys2Proof.Machine
end

