-- ==== Sys2Proof/Machine/Crc.lean ====
section
/-! DEFINITION. The CRC-32C of R105, in the Castagnoli polynomial, reflected, initial value and final inversion all
ones: the check of transfer blocks, headers, records, chain frames and images. -/

namespace Sys2Proof.Machine

/-- One bit of the reflected CRC-32C register. -/
def crcBit (c : Word) : Word :=
  if c.getLsbD 0 then (c >>> 1) ^^^ 0x82F63B78#32 else c >>> 1

/-- One byte into the CRC-32C register. -/
def crcByte (c : Word) (b : Byte) : Word :=
  let c0 := c ^^^ b.setWidth 32
  crcBit (crcBit (crcBit (crcBit (crcBit (crcBit (crcBit (crcBit c0)))))))

/-- CRC-32C of a byte string (R105). -/
def crc32c (bs : List Byte) : Word := ~~~ (bs.foldl crcByte 0xFFFFFFFF#32)

end Sys2Proof.Machine
end

