-- ==== Sys2Proof/Machine/RegMap.lean ====
section
/-! DEFINITION. The register tables of the drive's 117 pages (R20, R32, R33, R43, R46, R58, R59, R94 to R102,
R144 to R146, R223 to R225, R261 to R265, R304 to R307, R344, R345, R373 to R375, R403 to R405, R434, R457, R478,
R479, R506): every field's place, access code (R11), reset value and accepted range, one table per kind of page; and
the management address of every register under its own name (`Reg.<name>`, the instance number and the index of an
array as arguments). -/

namespace Sys2Proof.Machine

/-- The access codes of R11. WO is `wo` where the written value is data the drive keeps (keys, tags, input bytes) and
`cmd` where the write is a command whose action is the whole effect; both read 0. -/
inductive Acc where
  | ro | rw | wo | cmd | w1c | rc | rwl
  deriving DecidableEq, Repr

/-- A field's reset value: a number, or a value set at the factory (`Config.factoryReg`). -/
inductive Rst where
  | val (n : Nat)
  | factory
  deriving DecidableEq, Repr

/-- One field: its bits `hi:lo` counted over the whole register (over both words of a wide value), its access code,
its reset value, and the ranges of written values it accepts (none listed: every value). -/
structure Fld where
  hi : Nat
  lo : Nat
  acc : Acc
  rst : Rst
  ok : List (Nat × Nat)
  deriving DecidableEq, Repr

/-- One row of a register table: offset in the page, stride and number of an array, words of one value (R45), fields.
Bits no field covers are reserved (R12). -/
structure RegSpec where
  off : Nat
  stride : Nat
  count : Nat
  words : Nat
  flds : List Fld
  deriving DecidableEq, Repr

/-- Register table of Hdr pages. -/
def tabHdr : List RegSpec :=
  [⟨0x0, 4, 1, 1, [⟨31, 0, .ro, .val 0, []⟩]⟩,
   ⟨0x4, 4, 1, 1, [⟨31, 0, .ro, .val 0, []⟩]⟩,
   ⟨0x8, 4, 1, 1, [⟨31, 0, .ro, .val 0, []⟩]⟩,
   ⟨0xC, 4, 1, 1, [⟨10, 0, .ro, .val 0, []⟩]⟩,
   ⟨0x10, 4, 1, 1, [⟨31, 31, .rw, .val 1, []⟩, ⟨30, 30, .rw, .val 1, []⟩, ⟨29, 29, .rw, .val 0, []⟩]⟩,
   ⟨0x14, 4, 1, 1, [⟨31, 0, .ro, .val 0, []⟩]⟩,
   ⟨0x18, 4, 1, 1, [⟨31, 0, .w1c, .val 0, []⟩]⟩,
   ⟨0x1C, 4, 1, 1, [⟨31, 0, .rw, .val 0, []⟩]⟩,
   ⟨0x20, 4, 1, 1, [⟨31, 0, .rc, .val 0, []⟩]⟩]

/-- Register table of Dir pages. -/
def tabDir : List RegSpec :=
  [⟨0x100, 4, 1, 1, [⟨11, 0, .ro, .val 117, []⟩]⟩,
   ⟨0x104, 4, 1, 1, [⟨31, 0, .ro, .val 1, []⟩]⟩,
   ⟨0x108, 4, 4, 1, [⟨31, 0, .ro, .val 0, []⟩]⟩,
   ⟨0x118, 8, 1, 2, [⟨63, 0, .ro, .factory, []⟩]⟩,
   ⟨0x120, 4, 1, 1, [⟨15, 0, .ro, .val 65535, []⟩]⟩,
   ⟨0x400, 4, 234, 1, [⟨31, 0, .ro, .val 0, []⟩]⟩]

/-- Register table of Mgmt pages. -/
def tabMgmt : List RegSpec :=
  [⟨0x100, 4, 1, 1, [⟨31, 0, .rc, .val 0, []⟩]⟩,
   ⟨0x104, 4, 1, 1, [⟨31, 0, .rc, .val 0, []⟩]⟩,
   ⟨0x108, 4, 1, 1, [⟨31, 0, .rc, .val 0, []⟩]⟩,
   ⟨0x10C, 4, 1, 1, [⟨8, 8, .ro, .val 1, []⟩, ⟨7, 7, .ro, .val 0, []⟩, ⟨6, 0, .ro, .val 0, []⟩]⟩,
   ⟨0x110, 4, 5, 1, [⟨31, 0, .ro, .val 0, []⟩]⟩]

/-- Register table of Aon pages. -/
def tabAon : List RegSpec :=
  [⟨0x100, 4, 1, 1, [⟨31, 24, .cmd, .val 0, []⟩, ⟨16, 16, .cmd, .val 0, []⟩, ⟨15, 15, .cmd, .val 0, []⟩, ⟨4, 0, .cmd, .val 0, []⟩]⟩,
   ⟨0x104, 4, 1, 1, [⟨17, 17, .w1c, .val 0, []⟩, ⟨16, 16, .ro, .val 0, []⟩, ⟨15, 8, .ro, .val 255, []⟩, ⟨3, 0, .ro, .val 0, []⟩]⟩,
   ⟨0x120, 8, 1, 2, [⟨47, 0, .ro, .val 0, []⟩]⟩,
   ⟨0x128, 4, 1, 1, [⟨31, 0, .ro, .val 0, []⟩]⟩,
   ⟨0x130, 8, 1, 2, [⟨59, 0, .ro, .val 0, []⟩]⟩,
   ⟨0x138, 4, 1, 1, [⟨29, 0, .ro, .val 0, []⟩]⟩,
   ⟨0x13C, 4, 1, 1, [⟨13, 12, .rw, .val 0, []⟩, ⟨9, 7, .rw, .val 0, []⟩]⟩,
   ⟨0x140, 4, 1, 1, [⟨31, 0, .rw, .val 0, []⟩]⟩,
   ⟨0x144, 4, 1, 1, [⟨2, 0, .ro, .val 0, []⟩]⟩,
   ⟨0x148, 4, 1, 1, [⟨31, 0, .rc, .val 0, []⟩]⟩,
   ⟨0x14C, 4, 1, 1, [⟨1, 1, .ro, .val 1, []⟩, ⟨0, 0, .ro, .val 0, []⟩]⟩,
   ⟨0x150, 4, 1, 1, [⟨31, 0, .rc, .val 0, []⟩]⟩] ++
  [⟨0x180, 4, 1, 1, [⟨10, 10, .ro, .val 0, []⟩, ⟨9, 9, .ro, .val 0, []⟩, ⟨8, 8, .ro, .val 0, []⟩, ⟨2, 2, .ro, .factory, []⟩, ⟨1, 1, .ro, .val 0, []⟩, ⟨0, 0, .ro, .val 0, []⟩]⟩,
   ⟨0x184, 4, 1, 1, [⟨1, 1, .cmd, .val 0, []⟩, ⟨0, 0, .rw, .val 0, []⟩]⟩,
   ⟨0x188, 4, 1, 1, [⟨7, 4, .ro, .val 0, []⟩, ⟨3, 0, .ro, .val 0, []⟩]⟩,
   ⟨0x18C, 4, 1, 1, [⟨23, 16, .ro, .val 0, []⟩, ⟨15, 8, .ro, .val 0, []⟩, ⟨7, 0, .ro, .val 0, []⟩]⟩]

/-- Register table of Nrg pages. -/
def tabNrg : List RegSpec :=
  [⟨0x100, 4, 1, 1, [⟨9, 8, .ro, .val 0, []⟩, ⟨5, 3, .ro, .val 0, []⟩, ⟨2, 2, .ro, .val 0, []⟩, ⟨1, 1, .ro, .val 0, []⟩, ⟨0, 0, .ro, .val 0, []⟩]⟩,
   ⟨0x104, 4, 1, 1, [⟨31, 0, .ro, .val 0, []⟩]⟩,
   ⟨0x108, 4, 1, 1, [⟨31, 0, .ro, .val 0, []⟩]⟩,
   ⟨0x10C, 4, 1, 1, [⟨31, 0, .ro, .val 0, []⟩]⟩,
   ⟨0x110, 4, 1, 1, [⟨31, 0, .ro, .val 25000, []⟩]⟩,
   ⟨0x114, 4, 1, 1, [⟨31, 0, .ro, .val 31250, []⟩]⟩,
   ⟨0x120, 4, 1, 1, [⟨11, 10, .ro, .val 0, []⟩, ⟨9, 0, .ro, .val 200, []⟩]⟩,
   ⟨0x124, 4, 1, 1, [⟨9, 0, .ro, .val 0, []⟩]⟩,
   ⟨0x128, 4, 1, 1, [⟨9, 0, .ro, .val 0, []⟩]⟩,
   ⟨0x12C, 4, 1, 1, [⟨9, 0, .cmd, .val 0, []⟩]⟩,
   ⟨0x130, 4, 1, 1, [⟨25, 16, .rw, .val 200, [(200, 700)]⟩, ⟨7, 0, .rw, .val 5, []⟩]⟩,
   ⟨0x134, 4, 1, 1, [⟨25, 16, .ro, .val 0, []⟩, ⟨9, 0, .ro, .val 0, []⟩]⟩] ++
  [⟨0x138, 4, 1, 1, [⟨31, 0, .ro, .val 0, []⟩]⟩,
   ⟨0x13C, 4, 1, 1, [⟨15, 0, .rw, .val 500, [(50, 5000)]⟩]⟩,
   ⟨0x140, 4, 1, 1, [⟨7, 0, .rw, .val 100, [(10, 200)]⟩]⟩,
   ⟨0x144, 4, 1, 1, [⟨15, 0, .rw, .val 200, [(20, 1000)]⟩]⟩,
   ⟨0x148, 4, 1, 1, [⟨15, 0, .ro, .val 0, []⟩]⟩,
   ⟨0x14C, 4, 1, 1, [⟨31, 0, .rc, .val 0, []⟩]⟩,
   ⟨0x160, 4, 1, 1, [⟨31, 24, .cmd, .val 0, []⟩, ⟨1, 0, .cmd, .val 0, []⟩]⟩,
   ⟨0x164, 4, 1, 1, [⟨31, 16, .rw, .val 0, []⟩, ⟨15, 0, .rw, .val 100, []⟩]⟩,
   ⟨0x168, 4, 1, 1, [⟨15, 0, .rw, .val 1000, [(0, 10000)]⟩]⟩,
   ⟨0x200, 4, 16, 1, [⟨31, 0, .ro, .factory, []⟩]⟩]

/-- Register table of Chn pages. -/
def tabChn : List RegSpec :=
  [⟨0x100, 4, 1, 1, [⟨2, 2, .rw, .val 0, []⟩, ⟨1, 1, .rw, .val 1, []⟩, ⟨0, 0, .rw, .val 1, []⟩]⟩,
   ⟨0x104, 4, 1, 1, [⟨8, 8, .ro, .val 0, []⟩, ⟨7, 7, .ro, .val 0, []⟩, ⟨6, 6, .ro, .val 0, []⟩, ⟨5, 5, .ro, .val 0, []⟩, ⟨4, 4, .ro, .val 0, []⟩, ⟨3, 3, .ro, .val 0, []⟩, ⟨2, 2, .ro, .val 0, []⟩, ⟨1, 0, .ro, .val 0, []⟩]⟩,
   ⟨0x108, 4, 1, 1, [⟨15, 0, .ro, .val 65535, []⟩]⟩,
   ⟨0x110, 8, 1, 2, [⟨63, 0, .ro, .val 0, []⟩]⟩,
   ⟨0x118, 8, 1, 2, [⟨63, 0, .ro, .val 0, []⟩]⟩,
   ⟨0x120, 8, 1, 2, [⟨63, 0, .ro, .val 0, []⟩]⟩,
   ⟨0x128, 4, 1, 1, [⟨14, 0, .ro, .val 0, []⟩]⟩,
   ⟨0x12C, 4, 1, 1, [⟨31, 16, .rw, .val 50, [(1, 1000)]⟩, ⟨15, 0, .rw, .val 300, [(200, 5000)]⟩]⟩,
   ⟨0x130, 4, 1, 1, [⟨15, 0, .rw, .val 10, []⟩]⟩,
   ⟨0x134, 4, 1, 1, [⟨31, 24, .cmd, .val 0, []⟩, ⟨1, 1, .cmd, .val 0, []⟩, ⟨0, 0, .cmd, .val 0, []⟩]⟩,
   ⟨0x138, 4, 1, 1, [⟨16, 0, .ro, .val 0, []⟩]⟩,
   ⟨0x13C, 4, 1, 1, [⟨16, 0, .ro, .val 0, []⟩]⟩] ++
  [⟨0x140, 4, 1, 1, [⟨8, 0, .ro, .val 0, []⟩]⟩,
   ⟨0x144, 4, 1, 1, [⟨31, 0, .ro, .val 0, []⟩]⟩,
   ⟨0x150, 4, 1, 1, [⟨5, 1, .rw, .val 31, []⟩]⟩,
   ⟨0x154, 4, 1, 1, [⟨31, 16, .ro, .val 0, []⟩, ⟨15, 0, .ro, .val 0, []⟩]⟩,
   ⟨0x158, 4, 1, 1, [⟨1, 0, .ro, .val 0, []⟩]⟩,
   ⟨0x15C, 4, 1, 1, [⟨31, 0, .rc, .val 0, []⟩]⟩,
   ⟨0x160, 4, 1, 1, [⟨16, 16, .rw, .val 0, []⟩, ⟨15, 0, .rw, .val 0, []⟩]⟩,
   ⟨0x164, 4, 1, 1, [⟨31, 16, .ro, .val 0, []⟩, ⟨15, 0, .ro, .val 0, []⟩]⟩,
   ⟨0x168, 4, 1, 1, [⟨31, 0, .ro, .val 0, []⟩]⟩,
   ⟨0x170, 4, 1, 1, [⟨31, 0, .rc, .val 0, []⟩]⟩,
   ⟨0x174, 4, 1, 1, [⟨31, 0, .rc, .val 0, []⟩]⟩,
   ⟨0x178, 4, 1, 1, [⟨31, 0, .rc, .val 0, []⟩]⟩] ++
  [⟨0x17C, 4, 1, 1, [⟨31, 0, .rc, .val 0, []⟩]⟩,
   ⟨0x180, 4, 1, 1, [⟨31, 0, .rc, .val 0, []⟩]⟩,
   ⟨0x200, 4, 1, 1, [⟨15, 0, .rw, .val 0, []⟩]⟩,
   ⟨0x204, 4, 1, 1, [⟨23, 0, .rw, .val 0, []⟩]⟩,
   ⟨0x208, 4, 1, 1, [⟨8, 8, .cmd, .val 0, []⟩, ⟨7, 7, .rw, .val 0, []⟩, ⟨6, 5, .rw, .val 0, [(1, 2)]⟩, ⟨3, 0, .rw, .val 1, [(1, 8)]⟩]⟩,
   ⟨0x20C, 4, 1, 1, [⟨23, 16, .ro, .val 0, []⟩, ⟨15, 8, .ro, .val 0, []⟩, ⟨2, 0, .ro, .val 0, []⟩]⟩,
   ⟨0x220, 4, 8, 1, [⟨31, 0, .rw, .val 0, []⟩]⟩,
   ⟨0x300, 4, 1, 1, [⟨31, 24, .cmd, .val 0, []⟩, ⟨23, 16, .cmd, .val 0, []⟩, ⟨8, 8, .cmd, .val 0, []⟩]⟩,
   ⟨0x304, 4, 1, 1, [⟨1, 1, .ro, .val 0, []⟩, ⟨0, 0, .ro, .val 0, []⟩]⟩,
   ⟨0x340, 4, 13, 1, [⟨31, 0, .rw, .val 0, []⟩]⟩]

/-- Register table of Wake pages. -/
def tabWake : List RegSpec :=
  [⟨0x100, 4, 1, 1, [⟨19, 16, .rw, .val 3, [(1, 15)]⟩, ⟨15, 4, .rw, .val 100, [(1, 4095)]⟩, ⟨1, 1, .rw, .val 1, []⟩, ⟨0, 0, .rw, .val 1, []⟩]⟩,
   ⟨0x104, 4, 1, 1, [⟨5, 4, .ro, .val 0, []⟩, ⟨1, 1, .ro, .val 0, []⟩, ⟨0, 0, .ro, .val 0, []⟩]⟩,
   ⟨0x108, 4, 1, 1, [⟨31, 0, .rc, .val 0, []⟩]⟩]

/-- Register table of Rec pages. -/
def tabRec : List RegSpec :=
  [⟨0x100, 4, 1, 1, [⟨6, 0, .rw, .val 90, [(50, 99)]⟩]⟩,
   ⟨0x104, 4, 1, 1, [⟨6, 5, .ro, .val 0, []⟩, ⟨4, 4, .ro, .val 0, []⟩, ⟨3, 3, .ro, .val 0, []⟩, ⟨2, 2, .ro, .val 0, []⟩, ⟨1, 1, .ro, .val 0, []⟩, ⟨0, 0, .ro, .val 0, []⟩]⟩,
   ⟨0x108, 4, 1, 1, [⟨20, 0, .ro, .val 0, []⟩]⟩,
   ⟨0x10C, 4, 1, 1, [⟨31, 0, .ro, .val 0, []⟩]⟩,
   ⟨0x110, 4, 1, 1, [⟨14, 8, .rc, .val 0, []⟩, ⟨6, 0, .ro, .val 0, []⟩]⟩,
   ⟨0x114, 4, 1, 1, [⟨31, 0, .rc, .val 0, []⟩]⟩,
   ⟨0x118, 4, 1, 1, [⟨31, 0, .rc, .val 0, []⟩]⟩,
   ⟨0x120, 4, 1, 1, [⟨31, 24, .cmd, .val 0, []⟩, ⟨1, 0, .cmd, .val 0, []⟩]⟩,
   ⟨0x124, 4, 1, 1, [⟨9, 0, .rw, .val 10, [(1, 600)]⟩]⟩,
   ⟨0x128, 4, 1, 1, [⟨31, 16, .rw, .val 60, [(1, 3600)]⟩, ⟨15, 0, .rw, .val 1000, [(10, 60000)]⟩]⟩,
   ⟨0x130, 4, 1, 1, [⟨15, 0, .rw, .val 0, [(4, 32767)]⟩]⟩,
   ⟨0x134, 4, 1, 1, [⟨31, 31, .ro, .val 0, []⟩, ⟨23, 16, .rw, .val 32, [(1, 255)]⟩, ⟨15, 0, .rw, .val 600, [(1, 60000)]⟩]⟩] ++
  [⟨0x138, 4, 1, 1, [⟨31, 0, .ro, .val 0, []⟩]⟩,
   ⟨0x13C, 4, 1, 1, [⟨7, 0, .ro, .val 0, []⟩]⟩,
   ⟨0x150, 4, 1, 1, [⟨15, 0, .rw, .val 32768, [(32768, 65534)]⟩]⟩,
   ⟨0x154, 4, 4, 1, [⟨31, 0, .rw, .val 0, []⟩]⟩,
   ⟨0x164, 4, 1, 1, [⟨0, 0, .cmd, .val 0, []⟩]⟩,
   ⟨0x168, 4, 1, 1, [⟨23, 16, .rw, .val 16, [(1, 255)]⟩, ⟨15, 0, .rw, .val 60, [(1, 60000)]⟩]⟩,
   ⟨0x180, 4, 1, 1, [⟨31, 24, .cmd, .val 0, []⟩, ⟨1, 0, .cmd, .val 0, []⟩]⟩,
   ⟨0x184, 4, 1, 1, [⟨10, 8, .ro, .val 0, []⟩, ⟨0, 0, .ro, .val 0, []⟩]⟩,
   ⟨0x190, 4, 4, 1, [⟨31, 0, .ro, .val 0, []⟩]⟩,
   ⟨0x1A0, 4, 4, 1, [⟨31, 0, .wo, .val 0, []⟩]⟩,
   ⟨0x200, 4, 1, 1, [⟨19, 0, .rw, .val 0, []⟩]⟩,
   ⟨0x204, 4, 1, 1, [⟨31, 31, .ro, .val 0, []⟩, ⟨15, 0, .ro, .val 0, []⟩]⟩] ++
  [⟨0x400, 4, 128, 1, [⟨31, 0, .ro, .val 0, []⟩]⟩]

/-- Register table of Hup pages. -/
def tabHup : List RegSpec :=
  [⟨0x100, 4, 1, 1, [⟨9, 8, .ro, .val 0, []⟩, ⟨7, 5, .ro, .val 0, []⟩, ⟨4, 4, .ro, .val 0, []⟩, ⟨3, 3, .ro, .val 0, []⟩, ⟨2, 2, .ro, .val 0, []⟩, ⟨1, 1, .ro, .val 0, []⟩, ⟨0, 0, .ro, .val 0, []⟩]⟩,
   ⟨0x104, 4, 1, 1, [⟨15, 0, .ro, .val 0, []⟩]⟩,
   ⟨0x108, 4, 1, 1, [⟨15, 0, .ro, .val 0, []⟩]⟩,
   ⟨0x10C, 4, 1, 1, [⟨15, 0, .ro, .val 1034, []⟩]⟩,
   ⟨0x110, 4, 1, 1, [⟨15, 0, .ro, .val 300, []⟩]⟩,
   ⟨0x114, 4, 1, 1, [⟨25, 16, .ro, .val 920, []⟩, ⟨9, 0, .ro, .factory, []⟩]⟩,
   ⟨0x118, 4, 1, 1, [⟨7, 0, .ro, .val 0, []⟩]⟩,
   ⟨0x120, 4, 6, 1, [⟨15, 0, .ro, .val 0, []⟩]⟩,
   ⟨0x140, 4, 1, 1, [⟨31, 31, .cmd, .val 0, []⟩, ⟨15, 0, .rw, .val 24, [(1, 720)]⟩]⟩,
   ⟨0x144, 4, 1, 1, [⟨31, 24, .cmd, .val 0, []⟩, ⟨1, 0, .cmd, .val 0, []⟩]⟩,
   ⟨0x148, 8, 1, 2, [⟨63, 0, .ro, .val 0, []⟩]⟩,
   ⟨0x150, 8, 1, 2, [⟨47, 0, .ro, .val 0, []⟩]⟩] ++
  [⟨0x158, 4, 1, 1, [⟨31, 0, .ro, .val 0, []⟩]⟩]

/-- Register table of Cl pages. -/
def tabCl : List RegSpec :=
  [⟨0x100, 4, 1, 1, [⟨15, 8, .ro, .val 0, []⟩, ⟨1, 0, .ro, .val 0, []⟩]⟩,
   ⟨0x104, 4, 1, 1, [⟨31, 0, .rc, .val 0, []⟩]⟩]

/-- Register table of Cl0 pages. -/
def tabCl0 : List RegSpec :=
  [⟨0x200, 4, 1, 1, [⟨31, 24, .cmd, .val 0, []⟩, ⟨23, 16, .cmd, .val 0, []⟩, ⟨10, 8, .cmd, .val 0, []⟩, ⟨3, 0, .cmd, .val 0, []⟩]⟩,
   ⟨0x204, 4, 1, 1, [⟨31, 24, .ro, .val 0, []⟩, ⟨23, 20, .ro, .val 0, []⟩, ⟨19, 18, .ro, .val 0, []⟩, ⟨15, 8, .ro, .val 0, []⟩, ⟨2, 0, .ro, .val 0, []⟩]⟩,
   ⟨0x208, 4, 1, 1, [⟨31, 0, .ro, .val 0, []⟩]⟩,
   ⟨0x20C, 4, 1, 1, [⟨31, 31, .cmd, .val 0, []⟩, ⟨30, 30, .ro, .val 0, []⟩, ⟨10, 0, .rw, .val 0, []⟩]⟩,
   ⟨0x210, 4, 1, 1, [⟨31, 0, .rw, .val 0, []⟩]⟩,
   ⟨0x220, 8, 6, 1, [⟨31, 0, .ro, .val 0, []⟩]⟩,
   ⟨0x224, 8, 6, 1, [⟨31, 0, .ro, .val 0, []⟩]⟩,
   ⟨0x260, 4, 6, 1, [⟨7, 0, .ro, .val 0, []⟩]⟩,
   ⟨0x400, 4, 256, 1, [⟨31, 0, .wo, .val 0, []⟩]⟩]

/-- Register table of Fab pages. -/
def tabFab : List RegSpec :=
  [⟨0x100, 4, 1, 1, [⟨2, 0, .rw, .val 3, [(1, 7)]⟩]⟩,
   ⟨0x104, 4, 1, 1, [⟨31, 0, .rc, .val 0, []⟩]⟩,
   ⟨0x108, 4, 1, 1, [⟨31, 0, .rc, .val 0, []⟩]⟩,
   ⟨0x10C, 4, 1, 1, [⟨31, 0, .rc, .val 0, []⟩]⟩,
   ⟨0x110, 4, 1, 1, [⟨31, 0, .rc, .val 0, []⟩]⟩]

/-- Register table of Jrn pages. -/
def tabJrn : List RegSpec :=
  [⟨0x100, 4, 1, 1, [⟨15, 4, .rw, .val 1024, [(256, 4095)]⟩, ⟨1, 1, .cmd, .val 0, []⟩, ⟨0, 0, .rw, .val 0, []⟩]⟩,
   ⟨0x104, 4, 1, 1, [⟨7, 7, .ro, .val 0, []⟩, ⟨6, 6, .ro, .val 0, []⟩, ⟨5, 5, .ro, .val 0, []⟩, ⟨4, 4, .ro, .val 0, []⟩, ⟨3, 3, .ro, .val 0, []⟩, ⟨1, 0, .ro, .val 0, []⟩]⟩,
   ⟨0x108, 4, 1, 1, [⟨20, 0, .ro, .val 0, []⟩]⟩,
   ⟨0x10C, 4, 1, 1, [⟨18, 0, .ro, .val 0, []⟩]⟩,
   ⟨0x110, 8, 1, 2, [⟨63, 0, .ro, .val 1, []⟩]⟩,
   ⟨0x118, 8, 1, 2, [⟨63, 0, .ro, .val 0, []⟩]⟩,
   ⟨0x120, 8, 1, 2, [⟨63, 0, .ro, .val 0, []⟩]⟩,
   ⟨0x128, 8, 1, 2, [⟨63, 0, .ro, .val 0, []⟩]⟩,
   ⟨0x130, 8, 1, 2, [⟨63, 0, .rc, .val 0, []⟩]⟩,
   ⟨0x138, 4, 1, 1, [⟨31, 0, .rc, .val 0, []⟩]⟩,
   ⟨0x13C, 4, 1, 1, [⟨31, 0, .rc, .val 0, []⟩]⟩,
   ⟨0x140, 4, 1, 1, [⟨31, 0, .rc, .val 0, []⟩]⟩] ++
  [⟨0x144, 4, 1, 1, [⟨31, 0, .rc, .val 0, []⟩]⟩,
   ⟨0x148, 4, 1, 1, [⟨31, 0, .rc, .val 0, []⟩]⟩,
   ⟨0x180, 4, 1, 1, [⟨1, 0, .ro, .val 0, []⟩]⟩,
   ⟨0x184, 4, 1, 1, [⟨31, 0, .ro, .val 0, []⟩]⟩,
   ⟨0x188, 4, 1, 1, [⟨31, 0, .ro, .val 0, []⟩]⟩,
   ⟨0x18C, 4, 1, 1, [⟨31, 0, .ro, .val 0, []⟩]⟩,
   ⟨0x190, 8, 1, 2, [⟨63, 0, .ro, .val 0, []⟩]⟩,
   ⟨0x198, 8, 1, 2, [⟨63, 0, .ro, .val 0, []⟩]⟩,
   ⟨0x1A0, 4, 1, 1, [⟨31, 0, .ro, .val 0, []⟩]⟩,
   ⟨0x1A4, 4, 1, 1, [⟨31, 0, .ro, .val 0, []⟩]⟩,
   ⟨0x1C0, 4, 1, 1, [⟨31, 0, .ro, .val 0, []⟩]⟩,
   ⟨0x1C4, 4, 1, 1, [⟨31, 0, .ro, .val 0, []⟩]⟩] ++
  [⟨0x1C8, 8, 1, 2, [⟨63, 0, .ro, .val 0, []⟩]⟩,
   ⟨0x200, 4, 1, 1, [⟨19, 0, .rw, .val 3600, [(60, 604800)]⟩]⟩,
   ⟨0x204, 4, 1, 1, [⟨17, 0, .ro, .val 0, []⟩]⟩,
   ⟨0x208, 4, 1, 1, [⟨31, 0, .rc, .val 0, []⟩]⟩,
   ⟨0x300, 4, 1, 1, [⟨17, 0, .rw, .val 0, []⟩]⟩,
   ⟨0x400, 4, 32, 1, [⟨31, 0, .ro, .val 0, []⟩]⟩]

/-- Register table of Drm pages. -/
def tabDrm : List RegSpec :=
  [⟨0x100, 4, 1, 1, [⟨31, 0, .ro, .val 64, []⟩]⟩,
   ⟨0x104, 4, 1, 1, [⟨8, 8, .ro, .val 0, []⟩, ⟨7, 0, .ro, .val 0, []⟩]⟩,
   ⟨0x108, 4, 1, 1, [⟨31, 0, .ro, .val 0, []⟩]⟩,
   ⟨0x10C, 4, 1, 1, [⟨31, 0, .ro, .val 8192, []⟩]⟩,
   ⟨0x110, 4, 1, 1, [⟨31, 0, .rc, .val 0, []⟩]⟩,
   ⟨0x114, 4, 1, 1, [⟨31, 0, .rc, .val 0, []⟩]⟩,
   ⟨0x118, 8, 1, 2, [⟨35, 0, .ro, .val 0, []⟩]⟩,
   ⟨0x120, 4, 1, 1, [⟨31, 0, .rc, .val 0, []⟩]⟩]

/-- Register table of Scb pages. -/
def tabScb : List RegSpec :=
  [⟨0x100, 4, 1, 1, [⟨15, 0, .rw, .val 2000, [(500, 10000)]⟩]⟩,
   ⟨0x104, 4, 1, 1, [⟨31, 0, .rc, .val 0, []⟩]⟩,
   ⟨0x108, 4, 1, 1, [⟨31, 0, .rc, .val 0, []⟩]⟩,
   ⟨0x10C, 4, 1, 1, [⟨31, 0, .rc, .val 0, []⟩]⟩,
   ⟨0x110, 4, 1, 1, [⟨17, 16, .ro, .val 0, []⟩, ⟨13, 0, .ro, .val 0, []⟩]⟩,
   ⟨0x120, 4, 1, 1, [⟨15, 0, .rw, .val 3600, [(600, 65535)]⟩]⟩,
   ⟨0x124, 4, 1, 1, [⟨31, 0, .rc, .val 0, []⟩]⟩,
   ⟨0x128, 4, 1, 1, [⟨31, 0, .rc, .val 0, []⟩]⟩,
   ⟨0x12C, 8, 1, 2, [⟨35, 0, .ro, .val 0, []⟩]⟩]

/-- Register table of CtlE pages. -/
def tabCtlE : List RegSpec :=
  [⟨0x100, 4, 1, 1, [⟨25, 16, .ro, .val 0, []⟩, ⟨7, 0, .ro, .val 0, []⟩]⟩,
   ⟨0x104, 4, 1, 1, [⟨15, 0, .ro, .val 0, []⟩]⟩,
   ⟨0x108, 4, 1, 1, [⟨9, 0, .ro, .val 0, []⟩]⟩,
   ⟨0x10C, 4, 1, 1, [⟨9, 0, .ro, .val 0, []⟩]⟩,
   ⟨0x110, 4, 1, 1, [⟨9, 0, .rc, .val 0, []⟩]⟩,
   ⟨0x114, 4, 1, 1, [⟨31, 0, .rc, .val 0, []⟩]⟩,
   ⟨0x118, 4, 1, 1, [⟨31, 0, .rc, .val 0, []⟩]⟩,
   ⟨0x11C, 4, 1, 1, [⟨19, 16, .ro, .val 0, []⟩, ⟨10, 10, .ro, .val 0, []⟩, ⟨9, 0, .ro, .val 0, []⟩]⟩,
   ⟨0x120, 4, 1, 1, [⟨31, 31, .ro, .val 0, []⟩, ⟨0, 0, .cmd, .val 0, []⟩]⟩]

/-- Register table of CtlL pages. -/
def tabCtlL : List RegSpec :=
  [⟨0x100, 4, 1, 1, [⟨31, 24, .cmd, .val 0, []⟩, ⟨1, 0, .cmd, .val 0, []⟩]⟩,
   ⟨0x104, 4, 1, 1, [⟨17, 16, .ro, .val 0, []⟩, ⟨13, 13, .ro, .val 0, []⟩, ⟨12, 12, .ro, .val 0, []⟩, ⟨11, 11, .ro, .val 0, []⟩, ⟨10, 10, .ro, .val 0, []⟩, ⟨9, 9, .ro, .val 0, []⟩, ⟨8, 8, .ro, .val 0, []⟩, ⟨7, 4, .ro, .val 0, []⟩, ⟨3, 3, .ro, .val 0, []⟩, ⟨2, 0, .ro, .val 0, []⟩]⟩,
   ⟨0x108, 4, 1, 1, [⟨31, 24, .ro, .val 0, []⟩, ⟨16, 16, .rw, .val 0, []⟩, ⟨8, 8, .ro, .val 0, []⟩, ⟨2, 0, .rwl, .factory, []⟩]⟩,
   ⟨0x10C, 4, 1, 1, [⟨19, 0, .rwl, .val 0, []⟩]⟩,
   ⟨0x110, 4, 1, 1, [⟨9, 0, .rwl, .val 0, []⟩]⟩,
   ⟨0x120, 4, 1, 1, [⟨23, 0, .rw, .val 0, []⟩]⟩,
   ⟨0x124, 4, 1, 1, [⟨23, 0, .ro, .val 0, []⟩]⟩,
   ⟨0x128, 4, 1, 1, [⟨23, 0, .rw, .val 0, []⟩]⟩,
   ⟨0x12C, 4, 1, 1, [⟨23, 0, .ro, .val 0, []⟩]⟩,
   ⟨0x130, 4, 1, 1, [⟨23, 0, .ro, .val 0, []⟩]⟩,
   ⟨0x134, 4, 1, 1, [⟨23, 0, .rw, .val 0, []⟩]⟩,
   ⟨0x138, 4, 1, 1, [⟨23, 0, .rwl, .val 0, []⟩]⟩] ++
  [⟨0x13C, 4, 1, 1, [⟨23, 0, .rwl, .factory, []⟩]⟩,
   ⟨0x140, 4, 1, 1, [⟨23, 0, .rwl, .factory, []⟩]⟩,
   ⟨0x144, 4, 1, 1, [⟨23, 0, .rwl, .factory, []⟩]⟩,
   ⟨0x148, 4, 1, 1, [⟨23, 0, .rwl, .factory, []⟩]⟩,
   ⟨0x14C, 4, 1, 1, [⟨23, 0, .rwl, .factory, []⟩]⟩,
   ⟨0x150, 4, 1, 1, [⟨23, 0, .rwl, .factory, []⟩]⟩,
   ⟨0x154, 4, 1, 1, [⟨23, 0, .rwl, .factory, []⟩]⟩,
   ⟨0x158, 4, 1, 1, [⟨23, 0, .rwl, .factory, []⟩]⟩,
   ⟨0x15C, 4, 1, 1, [⟨23, 0, .rwl, .factory, []⟩]⟩,
   ⟨0x160, 4, 1, 1, [⟨23, 0, .ro, .val 0, []⟩]⟩,
   ⟨0x170, 4, 1, 1, [⟨23, 0, .rwl, .factory, []⟩]⟩,
   ⟨0x174, 4, 1, 1, [⟨31, 24, .rwl, .factory, []⟩, ⟨23, 0, .rwl, .factory, []⟩]⟩] ++
  [⟨0x180, 4, 1, 1, [⟨15, 0, .rwl, .factory, []⟩]⟩,
   ⟨0x184, 4, 1, 1, [⟨15, 0, .rwl, .factory, []⟩]⟩,
   ⟨0x188, 4, 1, 1, [⟨15, 0, .rwl, .factory, []⟩]⟩,
   ⟨0x190, 4, 1, 1, [⟨31, 0, .rc, .val 0, []⟩]⟩,
   ⟨0x194, 4, 1, 1, [⟨31, 0, .rc, .val 0, []⟩]⟩,
   ⟨0x200, 32, 4, 1, [⟨23, 0, .rwl, .factory, []⟩]⟩,
   ⟨0x204, 32, 4, 1, [⟨23, 0, .rwl, .factory, []⟩]⟩,
   ⟨0x208, 32, 4, 1, [⟨23, 0, .rwl, .factory, []⟩]⟩,
   ⟨0x20C, 32, 4, 1, [⟨23, 0, .rwl, .factory, []⟩]⟩,
   ⟨0x210, 32, 4, 1, [⟨23, 0, .rwl, .factory, []⟩]⟩,
   ⟨0x214, 32, 4, 1, [⟨7, 0, .rwl, .factory, []⟩]⟩,
   ⟨0x218, 32, 4, 1, [⟨23, 0, .ro, .val 0, []⟩]⟩] ++
  [⟨0x21C, 32, 4, 1, [⟨23, 0, .ro, .val 0, []⟩]⟩,
   ⟨0x300, 4, 17, 1, [⟨23, 0, .rwl, .factory, []⟩]⟩]

/-- Register table of CtlT pages. -/
def tabCtlT : List RegSpec :=
  [⟨0x100, 4, 1, 1, [⟨9, 0, .rw, .val 0, [(0, 543)]⟩]⟩,
   ⟨0x104, 4, 1, 1, [⟨17, 16, .ro, .val 0, []⟩, ⟨12, 12, .ro, .val 0, []⟩, ⟨11, 11, .ro, .val 0, []⟩, ⟨10, 10, .ro, .val 0, []⟩, ⟨9, 8, .ro, .val 0, []⟩, ⟨7, 4, .ro, .val 0, []⟩, ⟨2, 0, .ro, .val 0, []⟩]⟩,
   ⟨0x108, 4, 1, 1, [⟨23, 0, .ro, .val 0, []⟩]⟩,
   ⟨0x10C, 4, 1, 1, [⟨23, 0, .ro, .val 0, []⟩]⟩,
   ⟨0x110, 4, 1, 1, [⟨23, 0, .ro, .val 0, []⟩]⟩,
   ⟨0x114, 4, 1, 1, [⟨15, 0, .ro, .val 0, []⟩]⟩,
   ⟨0x118, 4, 1, 1, [⟨23, 0, .rw, .val 0, []⟩]⟩,
   ⟨0x11C, 4, 1, 1, [⟨1, 0, .rwl, .val 0, []⟩]⟩,
   ⟨0x120, 4, 1, 1, [⟨31, 24, .cmd, .val 0, []⟩, ⟨1, 0, .cmd, .val 0, []⟩]⟩,
   ⟨0x124, 4, 1, 1, [⟨31, 24, .cmd, .val 0, []⟩, ⟨5, 4, .cmd, .val 0, []⟩, ⟨1, 0, .cmd, .val 0, []⟩]⟩]

/-- Register table of Mac0 pages. -/
def tabMac0 : List RegSpec :=
  [⟨0x100, 4, 1, 1, [⟨13, 13, .cmd, .val 0, []⟩, ⟨12, 12, .rw, .val 0, []⟩, ⟨10, 8, .rw, .val 3, [(1, 7)]⟩, ⟨6, 4, .rw, .val 7, []⟩, ⟨1, 1, .cmd, .val 0, []⟩, ⟨0, 0, .rw, .val 1, []⟩]⟩,
   ⟨0x104, 4, 1, 1, [⟨15, 12, .ro, .val 0, []⟩, ⟨11, 11, .ro, .val 0, []⟩, ⟨10, 10, .ro, .val 0, []⟩, ⟨9, 8, .ro, .val 0, []⟩, ⟨6, 4, .ro, .val 0, []⟩, ⟨2, 1, .ro, .val 0, []⟩, ⟨0, 0, .ro, .val 0, []⟩]⟩,
   ⟨0x108, 4, 1, 1, [⟨31, 0, .ro, .factory, []⟩]⟩,
   ⟨0x10C, 4, 1, 1, [⟨15, 0, .ro, .factory, []⟩]⟩,
   ⟨0x110, 4, 1, 1, [⟨13, 0, .rwl, .val 9238, [(1522, 9238)]⟩]⟩,
   ⟨0x120, 8, 1, 2, [⟨63, 0, .rc, .val 0, []⟩]⟩,
   ⟨0x128, 4, 1, 1, [⟨31, 0, .rc, .val 0, []⟩]⟩,
   ⟨0x12C, 4, 1, 1, [⟨31, 0, .rc, .val 0, []⟩]⟩,
   ⟨0x130, 4, 1, 1, [⟨31, 0, .ro, .val 0, []⟩]⟩,
   ⟨0x140, 4, 4, 1, [⟨31, 16, .ro, .val 0, []⟩, ⟨15, 0, .ro, .val 0, []⟩]⟩]

/-- Register table of Mac1 pages. -/
def tabMac1 : List RegSpec :=
  [⟨0x100, 4, 1, 1, [⟨1, 0, .rwl, .val 1, [(0, 2)]⟩]⟩,
   ⟨0x110, 4, 8, 1, [⟨11, 0, .rwl, .val 256, []⟩]⟩,
   ⟨0x130, 4, 8, 1, [⟨27, 16, .rw, .val 192, []⟩, ⟨11, 0, .rw, .val 128, []⟩]⟩,
   ⟨0x150, 4, 8, 1, [⟨27, 16, .rc, .val 0, []⟩, ⟨11, 0, .ro, .val 0, []⟩]⟩,
   ⟨0x170, 4, 1, 1, [⟨31, 0, .rc, .val 0, []⟩]⟩]

/-- Register table of Mac2 pages. -/
def tabMac2 : List RegSpec :=
  [⟨0x100, 4, 1, 1, [⟨18, 16, .rw, .val 0, []⟩, ⟨15, 4, .rw, .val 0, []⟩, ⟨1, 1, .rw, .val 1, []⟩, ⟨0, 0, .rw, .val 1, []⟩]⟩,
   ⟨0x104, 4, 1, 1, [⟨1, 1, .rw, .val 1, []⟩, ⟨0, 0, .rw, .val 1, []⟩]⟩,
   ⟨0x140, 4, 16, 1, [⟨31, 0, .rw, .val 0, []⟩]⟩]

/-- Register table of Mac3 pages. -/
def tabMac3 : List RegSpec :=
  [⟨0x100, 4, 1, 1, [⟨15, 8, .rw, .val 255, []⟩, ⟨7, 0, .rw, .val 255, []⟩]⟩,
   ⟨0x104, 4, 1, 1, [⟨31, 16, .rw, .val 32768, []⟩, ⟨15, 0, .rw, .val 65535, []⟩]⟩,
   ⟨0x110, 4, 1, 1, [⟨15, 8, .ro, .val 0, []⟩, ⟨7, 0, .ro, .val 0, []⟩]⟩,
   ⟨0x120, 4, 8, 1, [⟨31, 0, .rc, .val 0, []⟩]⟩,
   ⟨0x140, 4, 8, 1, [⟨31, 0, .rc, .val 0, []⟩]⟩,
   ⟨0x160, 4, 1, 1, [⟨31, 0, .rc, .val 0, []⟩]⟩]

/-- Register table of Mac4 pages. -/
def tabMac4 : List RegSpec :=
  [⟨0x100, 4, 1, 1, [⟨15, 8, .rw, .val 10, [(1, 128)]⟩, ⟨6, 4, .rwl, .val 7, []⟩, ⟨3, 2, .rwl, .val 0, []⟩, ⟨1, 1, .rw, .val 1, []⟩, ⟨0, 0, .rwl, .val 1, []⟩]⟩,
   ⟨0x104, 4, 1, 1, [⟨15, 0, .rw, .val 1000, [(10, 10000)]⟩]⟩,
   ⟨0x108, 4, 1, 1, [⟨31, 0, .rc, .val 0, []⟩]⟩,
   ⟨0x10C, 4, 1, 1, [⟨31, 0, .rc, .val 0, []⟩]⟩,
   ⟨0x110, 4, 1, 1, [⟨31, 0, .rc, .val 0, []⟩]⟩]

/-- Register table of Mac5 pages. -/
def tabMac5 : List RegSpec :=
  [⟨0x100, 4, 1, 1, [⟨4, 4, .rw, .val 1, []⟩, ⟨3, 3, .rw, .val 1, []⟩, ⟨2, 2, .rw, .val 1, []⟩, ⟨1, 1, .rw, .val 1, []⟩, ⟨0, 0, .rw, .val 1, []⟩]⟩,
   ⟨0x104, 4, 1, 1, [⟨31, 0, .rw, .val 0, []⟩]⟩,
   ⟨0x110, 4, 12, 1, [⟨31, 0, .rw, .val 0, []⟩]⟩,
   ⟨0x140, 4, 1, 1, [⟨10, 8, .ro, .val 0, []⟩, ⟨6, 4, .ro, .val 0, []⟩, ⟨2, 0, .ro, .val 0, []⟩]⟩,
   ⟨0x150, 4, 1, 1, [⟨15, 0, .rw, .val 1000, []⟩]⟩,
   ⟨0x154, 4, 1, 1, [⟨31, 0, .rc, .val 0, []⟩]⟩]

/-- Register table of Mac6 pages. -/
def tabMac6 : List RegSpec :=
  [⟨0x100, 8, 1, 2, [⟨63, 0, .rc, .val 0, []⟩]⟩,
   ⟨0x108, 8, 1, 2, [⟨63, 0, .rc, .val 0, []⟩]⟩,
   ⟨0x110, 8, 1, 2, [⟨63, 0, .rc, .val 0, []⟩]⟩,
   ⟨0x118, 8, 1, 2, [⟨63, 0, .rc, .val 0, []⟩]⟩,
   ⟨0x120, 4, 1, 1, [⟨31, 0, .rc, .val 0, []⟩]⟩,
   ⟨0x124, 4, 1, 1, [⟨31, 0, .rc, .val 0, []⟩]⟩,
   ⟨0x128, 4, 1, 1, [⟨31, 0, .rc, .val 0, []⟩]⟩,
   ⟨0x12C, 4, 1, 1, [⟨31, 0, .rc, .val 0, []⟩]⟩,
   ⟨0x130, 4, 1, 1, [⟨31, 0, .rc, .val 0, []⟩]⟩,
   ⟨0x134, 4, 1, 1, [⟨31, 0, .rc, .val 0, []⟩]⟩,
   ⟨0x138, 4, 1, 1, [⟨31, 0, .rc, .val 0, []⟩]⟩,
   ⟨0x13C, 4, 1, 1, [⟨31, 0, .rc, .val 0, []⟩]⟩] ++
  [⟨0x140, 4, 1, 1, [⟨31, 0, .rc, .val 0, []⟩]⟩,
   ⟨0x144, 4, 1, 1, [⟨31, 0, .rc, .val 0, []⟩]⟩]

/-- Register table of Mac7 pages. -/
def tabMac7 : List RegSpec :=
  [⟨0x100, 4, 1, 1, [⟨25, 16, .rw, .val 1023, []⟩, ⟨0, 0, .rw, .val 0, []⟩]⟩,
   ⟨0x104, 4, 1, 1, [⟨6, 0, .ro, .val 0, []⟩]⟩,
   ⟨0x108, 4, 1, 1, [⟨31, 0, .ro, .val 0, []⟩]⟩,
   ⟨0x10C, 4, 1, 1, [⟨31, 16, .ro, .val 0, []⟩, ⟨13, 0, .ro, .val 0, []⟩]⟩,
   ⟨0x110, 4, 1, 1, [⟨0, 0, .cmd, .val 0, []⟩]⟩,
   ⟨0x114, 4, 1, 1, [⟨31, 0, .rc, .val 0, []⟩]⟩,
   ⟨0x200, 4, 64, 1, [⟨31, 0, .ro, .val 0, []⟩]⟩]

/-- Register table of Xpt0 pages. -/
def tabXpt0 : List RegSpec :=
  [⟨0x100, 4, 1, 1, [⟨31, 16, .rwl, .val 17470, [(1, 65535)]⟩, ⟨4, 4, .cmd, .val 0, []⟩, ⟨3, 3, .rw, .val 1, []⟩, ⟨2, 2, .rw, .val 1, []⟩, ⟨1, 1, .rw, .val 1, []⟩, ⟨0, 0, .rw, .val 1, []⟩]⟩,
   ⟨0x104, 4, 1, 1, [⟨31, 16, .rw, .val 60, []⟩, ⟨12, 0, .rw, .val 256, [(1, 4096)]⟩]⟩,
   ⟨0x108, 4, 1, 1, [⟨31, 16, .rw, .val 500, [(20, 10000)]⟩, ⟨15, 8, .rw, .val 8, [(1, 255)]⟩, ⟨7, 0, .rw, .val 16, [(1, 255)]⟩]⟩,
   ⟨0x10C, 4, 1, 1, [⟨31, 16, .rw, .val 256, [(16, 4096)]⟩, ⟨7, 0, .rw, .val 64, [(8, 255)]⟩]⟩,
   ⟨0x110, 4, 1, 1, [⟨15, 0, .rw, .val 1000, [(100, 60000)]⟩]⟩,
   ⟨0x120, 4, 1, 1, [⟨31, 31, .ro, .val 0, []⟩, ⟨16, 0, .ro, .val 0, []⟩]⟩,
   ⟨0x124, 4, 1, 1, [⟨17, 0, .ro, .val 0, []⟩]⟩,
   ⟨0x128, 4, 1, 1, [⟨16, 0, .ro, .val 65536, []⟩]⟩,
   ⟨0x12C, 4, 1, 1, [⟨31, 24, .cmd, .val 0, []⟩, ⟨15, 0, .cmd, .val 0, []⟩]⟩]

/-- Register table of Xpt1 pages. -/
def tabXpt1 : List RegSpec :=
  [⟨0x100, 8, 1, 2, [⟨63, 0, .rc, .val 0, []⟩]⟩,
   ⟨0x108, 8, 1, 2, [⟨63, 0, .rc, .val 0, []⟩]⟩,
   ⟨0x110, 4, 1, 1, [⟨31, 0, .rc, .val 0, []⟩]⟩,
   ⟨0x114, 4, 1, 1, [⟨31, 0, .rc, .val 0, []⟩]⟩,
   ⟨0x118, 4, 1, 1, [⟨31, 0, .rc, .val 0, []⟩]⟩,
   ⟨0x11C, 4, 1, 1, [⟨31, 0, .rc, .val 0, []⟩]⟩,
   ⟨0x120, 4, 1, 1, [⟨31, 0, .rc, .val 0, []⟩]⟩,
   ⟨0x124, 4, 1, 1, [⟨31, 0, .rc, .val 0, []⟩]⟩,
   ⟨0x128, 4, 1, 1, [⟨31, 0, .rc, .val 0, []⟩]⟩,
   ⟨0x12C, 4, 1, 1, [⟨31, 0, .rc, .val 0, []⟩]⟩,
   ⟨0x130, 4, 1, 1, [⟨31, 0, .rc, .val 0, []⟩]⟩,
   ⟨0x134, 4, 1, 1, [⟨31, 0, .rc, .val 0, []⟩]⟩] ++
  [⟨0x138, 4, 1, 1, [⟨31, 0, .rc, .val 0, []⟩]⟩,
   ⟨0x13C, 4, 1, 1, [⟨31, 0, .rc, .val 0, []⟩]⟩]

/-- Register table of Xpt2 pages. -/
def tabXpt2 : List RegSpec :=
  [⟨0x100, 4, 1, 1, [⟨15, 0, .rw, .val 0, []⟩]⟩,
   ⟨0x104, 4, 1, 1, [⟨31, 0, .ro, .val 0, []⟩]⟩,
   ⟨0x108, 4, 1, 1, [⟨27, 16, .ro, .val 0, []⟩, ⟨4, 4, .ro, .val 0, []⟩, ⟨3, 3, .ro, .val 0, []⟩, ⟨2, 0, .ro, .val 0, []⟩]⟩,
   ⟨0x10C, 4, 1, 1, [⟨31, 16, .ro, .val 0, []⟩, ⟨15, 0, .ro, .val 0, []⟩]⟩,
   ⟨0x110, 4, 4, 1, [⟨31, 0, .ro, .val 0, []⟩]⟩,
   ⟨0x120, 4, 1, 1, [⟨15, 0, .ro, .val 0, []⟩]⟩,
   ⟨0x124, 4, 1, 1, [⟨31, 0, .ro, .val 0, []⟩]⟩,
   ⟨0x128, 4, 1, 1, [⟨31, 0, .ro, .val 0, []⟩]⟩,
   ⟨0x12C, 4, 1, 1, [⟨31, 0, .ro, .val 0, []⟩]⟩,
   ⟨0x130, 4, 1, 1, [⟨31, 0, .ro, .val 0, []⟩]⟩,
   ⟨0x134, 4, 1, 1, [⟨15, 0, .ro, .val 0, []⟩]⟩,
   ⟨0x138, 4, 1, 1, [⟨31, 0, .ro, .val 0, []⟩]⟩] ++
  [⟨0x13C, 4, 1, 1, [⟨31, 0, .ro, .val 0, []⟩]⟩]

/-- Register table of Cph0 pages. -/
def tabCph0 : List RegSpec :=
  [⟨0x100, 4, 1, 1, [⟨20, 16, .ro, .val 0, []⟩, ⟨8, 0, .ro, .val 0, []⟩]⟩,
   ⟨0x104, 8, 1, 2, [⟨63, 0, .rw, .val 1099511627776, [(1, 18446744073707454464)]⟩]⟩,
   ⟨0x10C, 4, 1, 1, [⟨7, 0, .rw, .val 240, [(1, 255)]⟩]⟩,
   ⟨0x110, 4, 1, 1, [⟨31, 0, .ro, .factory, []⟩]⟩,
   ⟨0x114, 4, 1, 1, [⟨12, 0, .ro, .val 0, []⟩]⟩,
   ⟨0x120, 8, 1, 2, [⟨63, 0, .rc, .val 0, []⟩]⟩,
   ⟨0x128, 8, 1, 2, [⟨63, 0, .rc, .val 0, []⟩]⟩,
   ⟨0x130, 8, 1, 2, [⟨63, 0, .rc, .val 0, []⟩]⟩,
   ⟨0x138, 4, 1, 1, [⟨31, 0, .rc, .val 0, []⟩]⟩,
   ⟨0x13C, 4, 1, 1, [⟨31, 0, .rc, .val 0, []⟩]⟩,
   ⟨0x140, 4, 1, 1, [⟨31, 0, .rc, .val 0, []⟩]⟩,
   ⟨0x144, 4, 1, 1, [⟨31, 0, .rc, .val 0, []⟩]⟩] ++
  [⟨0x148, 4, 1, 1, [⟨31, 0, .rc, .val 0, []⟩]⟩,
   ⟨0x14C, 4, 1, 1, [⟨31, 0, .rc, .val 0, []⟩]⟩,
   ⟨0x150, 4, 1, 1, [⟨31, 0, .rc, .val 0, []⟩]⟩]

/-- Register table of Cph1 pages. -/
def tabCph1 : List RegSpec :=
  [⟨0x100, 4, 32, 1, [⟨16, 16, .ro, .val 0, []⟩, ⟨15, 0, .ro, .val 0, []⟩]⟩,
   ⟨0x180, 4, 32, 1, [⟨3, 0, .rw, .val 0, [(1, 15)]⟩]⟩]

/-- Register table of Cph2 pages. -/
def tabCph2 : List RegSpec :=
  [⟨0x100, 4, 1, 1, [⟨12, 0, .rw, .val 0, [(0, 4119)]⟩]⟩,
   ⟨0x104, 4, 1, 1, [⟨27, 16, .ro, .val 0, []⟩, ⟨5, 4, .ro, .val 0, []⟩, ⟨3, 0, .ro, .val 0, []⟩]⟩,
   ⟨0x108, 4, 1, 1, [⟨31, 0, .ro, .val 0, []⟩]⟩,
   ⟨0x10C, 8, 1, 2, [⟨63, 0, .ro, .val 0, []⟩]⟩,
   ⟨0x114, 8, 1, 2, [⟨63, 0, .ro, .val 0, []⟩]⟩,
   ⟨0x11C, 8, 1, 2, [⟨63, 0, .ro, .val 0, []⟩]⟩,
   ⟨0x124, 4, 1, 1, [⟨31, 16, .ro, .val 0, []⟩, ⟨15, 0, .ro, .val 0, []⟩]⟩,
   ⟨0x128, 4, 1, 1, [⟨16, 0, .ro, .val 0, []⟩]⟩,
   ⟨0x130, 8, 1, 2, [⟨63, 0, .rw, .val 0, []⟩]⟩,
   ⟨0x138, 4, 1, 1, [⟨31, 24, .cmd, .val 0, []⟩, ⟨0, 0, .cmd, .val 0, []⟩]⟩]

/-- Register table of Cph3 pages. -/
def tabCph3 : List RegSpec :=
  [⟨0x100, 4, 16, 1, [⟨31, 0, .wo, .val 0, []⟩]⟩,
   ⟨0x140, 4, 1, 1, [⟨31, 24, .cmd, .val 0, []⟩, ⟨9, 8, .cmd, .val 0, []⟩, ⟨3, 0, .cmd, .val 0, []⟩]⟩,
   ⟨0x144, 4, 1, 1, [⟨16, 16, .ro, .val 0, []⟩, ⟨15, 0, .ro, .val 0, []⟩]⟩]

/-- Register table of Cph4 pages. -/
def tabCph4 : List RegSpec :=
  [⟨0x100, 4, 1, 1, [⟨31, 24, .rw, .val 0, []⟩, ⟨16, 13, .rw, .val 0, []⟩, ⟨10, 0, .rw, .val 0, []⟩]⟩,
   ⟨0x104, 4, 1, 1, [⟨0, 0, .cmd, .val 0, []⟩]⟩,
   ⟨0x108, 4, 1, 1, [⟨31, 31, .ro, .val 0, []⟩, ⟨7, 0, .ro, .val 0, []⟩]⟩,
   ⟨0x10C, 4, 1, 1, [⟨31, 0, .ro, .val 0, []⟩]⟩,
   ⟨0x110, 4, 4, 1, [⟨31, 0, .rw, .val 0, []⟩]⟩,
   ⟨0x120, 4, 4, 1, [⟨31, 0, .rw, .val 0, []⟩]⟩]

/-- Register table of Cph5 pages. -/
def tabCph5 : List RegSpec :=
  [⟨0x400, 4, 256, 1, [⟨31, 0, .wo, .val 0, []⟩]⟩,
   ⟨0x800, 4, 256, 1, [⟨31, 0, .ro, .val 0, []⟩]⟩]

/-- Register table of Mch pages. -/
def tabMch : List RegSpec :=
  [⟨0x100, 4, 1, 1, [⟨10, 8, .ro, .val 0, []⟩, ⟨7, 0, .ro, .val 0, []⟩]⟩,
   ⟨0x104, 4, 1, 1, [⟨14, 0, .ro, .val 0, []⟩]⟩,
   ⟨0x200, 4, 1, 1, [⟨13, 0, .rw, .val 0, []⟩]⟩,
   ⟨0x204, 4, 1, 1, [⟨1, 0, .cmd, .val 0, []⟩]⟩,
   ⟨0x208, 4, 1, 1, [⟨8, 8, .ro, .val 0, []⟩, ⟨1, 0, .ro, .val 0, []⟩]⟩,
   ⟨0x20C, 4, 1, 1, [⟨11, 0, .rw, .val 0, []⟩]⟩,
   ⟨0x210, 8, 1, 2, [⟨63, 0, .rw, .val 0, []⟩]⟩,
   ⟨0x240, 4, 10, 1, [⟨31, 0, .rw, .val 0, []⟩]⟩,
   ⟨0x280, 4, 10, 1, [⟨31, 0, .rw, .val 0, []⟩]⟩]

/-- Register table of Mch0 pages. -/
def tabMch0 : List RegSpec :=
  [⟨0x300, 4, 1, 1, [⟨18, 16, .rw, .val 4, [(1, 8)]⟩, ⟨14, 14, .rw, .val 0, []⟩, ⟨13, 11, .rw, .val 0, []⟩, ⟨10, 8, .rwl, .val 0, [(0, 4)]⟩, ⟨1, 1, .cmd, .val 0, []⟩, ⟨0, 0, .rw, .val 1, []⟩]⟩,
   ⟨0x304, 4, 1, 1, [⟨15, 0, .rw, .val 0, []⟩]⟩,
   ⟨0x308, 4, 1, 1, [⟨0, 0, .ro, .val 0, []⟩]⟩,
   ⟨0x310, 8, 1, 2, [⟨63, 0, .rc, .val 0, []⟩]⟩,
   ⟨0x318, 4, 1, 1, [⟨31, 0, .rc, .val 0, []⟩]⟩,
   ⟨0x31C, 4, 1, 1, [⟨31, 0, .rc, .val 0, []⟩]⟩,
   ⟨0x320, 4, 1, 1, [⟨31, 0, .rc, .val 0, []⟩]⟩,
   ⟨0x324, 4, 1, 1, [⟨31, 0, .rc, .val 0, []⟩]⟩,
   ⟨0x328, 4, 1, 1, [⟨31, 0, .rc, .val 0, []⟩]⟩,
   ⟨0x400, 4, 1, 1, [⟨9, 9, .cmd, .val 0, []⟩, ⟨8, 8, .cmd, .val 0, []⟩, ⟨1, 0, .rw, .val 0, []⟩]⟩,
   ⟨0x404, 4, 1, 1, [⟨31, 31, .ro, .val 0, []⟩, ⟨30, 30, .ro, .val 0, []⟩, ⟨29, 29, .ro, .val 0, []⟩, ⟨11, 0, .ro, .val 0, []⟩]⟩,
   ⟨0x408, 4, 1, 1, [⟨15, 0, .ro, .val 0, []⟩]⟩] ++
  [⟨0x40C, 8, 1, 2, [⟨63, 0, .ro, .val 0, []⟩]⟩,
   ⟨0x500, 4, 40, 1, [⟨31, 0, .rw, .val 0, []⟩]⟩,
   ⟨0x600, 4, 1, 1, [⟨11, 0, .rw, .val 0, []⟩]⟩,
   ⟨0x608, 8, 1, 2, [⟨63, 0, .ro, .val 0, []⟩]⟩,
   ⟨0x610, 8, 1, 2, [⟨63, 0, .ro, .val 0, []⟩]⟩,
   ⟨0x618, 8, 1, 2, [⟨63, 0, .ro, .val 0, []⟩]⟩,
   ⟨0x620, 4, 1, 1, [⟨31, 0, .ro, .val 0, []⟩]⟩,
   ⟨0x624, 8, 1, 2, [⟨47, 0, .ro, .val 0, []⟩]⟩]

/-- Register table of Med0 pages. -/
def tabMed0 : List RegSpec :=
  [⟨0x100, 4, 1, 1, [⟨3, 0, .ro, .val 0, []⟩]⟩,
   ⟨0x110, 4, 4, 1, [⟨16, 0, .ro, .factory, []⟩]⟩,
   ⟨0x120, 4, 4, 1, [⟨9, 8, .ro, .val 0, []⟩, ⟨4, 0, .ro, .val 31, []⟩]⟩,
   ⟨0x130, 4, 4, 1, [⟨12, 0, .ro, .val 0, []⟩]⟩,
   ⟨0x140, 8, 1, 2, [⟨63, 0, .rc, .val 0, []⟩]⟩,
   ⟨0x148, 8, 1, 2, [⟨63, 0, .rc, .val 0, []⟩]⟩,
   ⟨0x150, 4, 1, 1, [⟨31, 0, .rc, .val 0, []⟩]⟩,
   ⟨0x154, 4, 1, 1, [⟨31, 0, .rc, .val 0, []⟩]⟩,
   ⟨0x158, 4, 1, 1, [⟨31, 0, .rc, .val 0, []⟩]⟩,
   ⟨0x15C, 4, 1, 1, [⟨31, 0, .rc, .val 0, []⟩]⟩,
   ⟨0x160, 4, 1, 1, [⟨31, 0, .rc, .val 0, []⟩]⟩,
   ⟨0x170, 4, 1, 1, [⟨31, 24, .cmd, .val 0, []⟩, ⟨9, 8, .cmd, .val 0, []⟩, ⟨4, 0, .cmd, .val 0, []⟩]⟩]

/-- Register table of Med1 pages. -/
def tabMed1 : List RegSpec :=
  [⟨0x100, 4, 1, 1, [⟨15, 8, .rw, .val 8, [(1, 64)]⟩, ⟨6, 4, .rw, .val 2, [(1, 6)]⟩, ⟨1, 1, .rw, .val 1, []⟩, ⟨0, 0, .rw, .val 1, []⟩]⟩,
   ⟨0x104, 4, 1, 1, [⟨11, 8, .rw, .val 3, [(1, 15)]⟩, ⟨3, 0, .rw, .val 4, [(1, 15)]⟩]⟩,
   ⟨0x110, 4, 16, 1, [⟨31, 0, .rc, .val 0, []⟩]⟩,
   ⟨0x150, 4, 1, 1, [⟨31, 0, .rc, .val 0, []⟩]⟩,
   ⟨0x154, 4, 1, 1, [⟨31, 0, .rc, .val 0, []⟩]⟩,
   ⟨0x158, 4, 1, 1, [⟨31, 0, .rc, .val 0, []⟩]⟩]

/-- Register table of Med2 pages. -/
def tabMed2 : List RegSpec :=
  [⟨0x100, 4, 1, 1, [⟨9, 8, .rw, .val 0, []⟩, ⟨4, 0, .rw, .val 0, [(0, 16)]⟩]⟩,
   ⟨0x104, 4, 1, 1, [⟨20, 16, .ro, .val 0, []⟩, ⟨2, 0, .ro, .val 0, []⟩]⟩,
   ⟨0x108, 4, 1, 1, [⟨31, 16, .ro, .val 0, []⟩, ⟨15, 0, .ro, .val 0, []⟩]⟩,
   ⟨0x10C, 4, 1, 1, [⟨15, 0, .ro, .val 0, []⟩]⟩,
   ⟨0x110, 4, 1, 1, [⟨31, 16, .ro, .val 0, []⟩, ⟨15, 0, .ro, .val 0, []⟩]⟩,
   ⟨0x114, 4, 1, 1, [⟨15, 0, .ro, .val 0, []⟩]⟩,
   ⟨0x118, 4, 1, 1, [⟨15, 8, .ro, .val 0, []⟩, ⟨7, 0, .ro, .val 0, []⟩]⟩,
   ⟨0x11C, 8, 1, 2, [⟨63, 0, .ro, .val 0, []⟩]⟩,
   ⟨0x124, 4, 1, 1, [⟨31, 0, .ro, .val 0, []⟩]⟩,
   ⟨0x128, 4, 1, 1, [⟨9, 0, .ro, .val 0, []⟩]⟩]

/-- Register table of Med3 pages. -/
def tabMed3 : List RegSpec :=
  [⟨0x100, 4, 1, 1, [⟨31, 31, .ro, .val 0, []⟩, ⟨30, 30, .ro, .val 0, []⟩, ⟨13, 8, .ro, .val 0, []⟩, ⟨1, 0, .ro, .val 0, []⟩]⟩,
   ⟨0x104, 8, 1, 2, [⟨63, 0, .ro, .val 492581209243648, []⟩]⟩,
   ⟨0x10C, 8, 1, 2, [⟨63, 0, .ro, .val 0, []⟩]⟩,
   ⟨0x114, 8, 1, 2, [⟨63, 0, .ro, .val 492581209243648, []⟩]⟩,
   ⟨0x11C, 4, 1, 1, [⟨17, 0, .rw, .val 163400, []⟩]⟩,
   ⟨0x120, 4, 1, 1, [⟨17, 0, .ro, .factory, []⟩]⟩,
   ⟨0x124, 4, 1, 1, [⟨17, 0, .ro, .factory, []⟩]⟩,
   ⟨0x128, 4, 1, 1, [⟨31, 16, .rw, .val 1000, []⟩, ⟨11, 0, .rw, .val 110, [(16, 1000)]⟩]⟩,
   ⟨0x12C, 4, 1, 1, [⟨23, 16, .rw, .val 16, []⟩, ⟨15, 8, .rw, .val 6, []⟩, ⟨7, 0, .ro, .val 4, []⟩]⟩,
   ⟨0x130, 4, 1, 1, [⟨25, 16, .rw, .val 150, [(50, 1000)]⟩, ⟨7, 0, .rw, .val 5, [(1, 50)]⟩]⟩,
   ⟨0x134, 4, 1, 1, [⟨6, 0, .rw, .val 50, [(0, 100)]⟩]⟩,
   ⟨0x138, 4, 1, 1, [⟨12, 8, .ro, .val 0, []⟩, ⟨7, 0, .ro, .val 0, []⟩]⟩] ++
  [⟨0x140, 8, 1, 2, [⟨63, 0, .rc, .val 0, []⟩]⟩,
   ⟨0x148, 8, 1, 2, [⟨63, 0, .rc, .val 0, []⟩]⟩,
   ⟨0x150, 4, 1, 1, [⟨0, 0, .cmd, .val 0, []⟩]⟩,
   ⟨0x400, 4, 128, 1, [⟨31, 0, .ro, .val 0, []⟩]⟩]

end Sys2Proof.Machine

namespace Sys2Proof.Machine.Reg

/-! Management addresses (R38) of the registers, by their names in the spec. `n` is the instance, `i` the index of an array. -/

@[reducible] def DIR_COUNT : Nat := 0 + 0x100
@[reducible] def DIR_FORMAT : Nat := 0 + 0x104
@[reducible] def DIR_PART (i : Nat) : Nat := 0 + 0x108 + 4 * i
@[reducible] def DIR_SERIAL : Nat := 0 + 0x118
@[reducible] def DIR_HERD_ADDR : Nat := 0 + 0x120
@[reducible] def DIR_ENTRY (i : Nat) : Nat := 0 + 0x400 + 4 * i
@[reducible] def MGMT_BUSY_CHN : Nat := 0x1000 + 0x100
@[reducible] def MGMT_BUSY_I3C : Nat := 0x1000 + 0x104
@[reducible] def MGMT_BUSY_NET : Nat := 0x1000 + 0x108
@[reducible] def MGMT_I3C_STAT : Nat := 0x1000 + 0x10C
@[reducible] def MGMT_INT_SUM (i : Nat) : Nat := 0x1000 + 0x110 + 4 * i
@[reducible] def AON_RST_CTL : Nat := 0x2000 + 0x100
@[reducible] def AON_RST_CAUSE : Nat := 0x2000 + 0x104
@[reducible] def AON_OPTIME : Nat := 0x2000 + 0x120
@[reducible] def AON_PCYCLE : Nat := 0x2000 + 0x128
@[reducible] def AON_PD_STATE : Nat := 0x2000 + 0x130
@[reducible] def AON_PD_PENDING : Nat := 0x2000 + 0x138
@[reducible] def AON_PD_FORCE_OFF : Nat := 0x2000 + 0x13C
@[reducible] def AON_WAKE_TIMER : Nat := 0x2000 + 0x140
@[reducible] def AON_WAKE_STAT : Nat := 0x2000 + 0x144
@[reducible] def AON_WAKES : Nat := 0x2000 + 0x148
@[reducible] def AON_SUPPLY : Nat := 0x2000 + 0x14C
@[reducible] def AON_SUPPLY_LOSSES : Nat := 0x2000 + 0x150
@[reducible] def AON_STRAPS : Nat := 0x2000 + 0x180
@[reducible] def AON_LED_CTL : Nat := 0x2000 + 0x184
@[reducible] def AON_LED_STAT : Nat := 0x2000 + 0x188
@[reducible] def AON_MOD_TEMP : Nat := 0x2000 + 0x18C
@[reducible] def NRG_STAT : Nat := 0x3000 + 0x100
@[reducible] def NRG_RESERVE : Nat := 0x3000 + 0x104
@[reducible] def NRG_RESERVE_FULL : Nat := 0x3000 + 0x108
@[reducible] def NRG_NEED : Nat := 0x3000 + 0x10C
@[reducible] def NRG_NEED_FULL : Nat := 0x3000 + 0x110
@[reducible] def NRG_LEVEL : Nat := 0x3000 + 0x114
@[reducible] def NRG_ALLOT : Nat := 0x3000 + 0x120
@[reducible] def NRG_ALLOT_CHAIN : Nat := 0x3000 + 0x124
@[reducible] def NRG_ALLOT_I3C : Nat := 0x3000 + 0x128
@[reducible] def NRG_ALLOT_SET : Nat := 0x3000 + 0x12C
@[reducible] def NRG_ALLOT_CTL : Nat := 0x3000 + 0x130
@[reducible] def NRG_DRAW : Nat := 0x3000 + 0x134
@[reducible] def NRG_CREDIT : Nat := 0x3000 + 0x138
@[reducible] def NRG_CREDIT_CAP : Nat := 0x3000 + 0x13C
@[reducible] def NRG_CHG_CTL : Nat := 0x3000 + 0x140
@[reducible] def NRG_WT_CTL : Nat := 0x3000 + 0x144
@[reducible] def NRG_LOOP_LIM : Nat := 0x3000 + 0x148
@[reducible] def NRG_DEFERS : Nat := 0x3000 + 0x14C
@[reducible] def NRG_PS_CMD : Nat := 0x3000 + 0x160
@[reducible] def NRG_PS_CTL : Nat := 0x3000 + 0x164
@[reducible] def NRG_PS_GRACE : Nat := 0x3000 + 0x168
@[reducible] def NRG_COST (i : Nat) : Nat := 0x3000 + 0x200 + 4 * i
@[reducible] def CHN_CTL : Nat := 0x4000 + 0x100
@[reducible] def CHN_STAT : Nat := 0x4000 + 0x104
@[reducible] def CHN_ADDR : Nat := 0x4000 + 0x108
@[reducible] def CHN_HERD_ID : Nat := 0x4000 + 0x110
@[reducible] def CHN_EPOCH : Nat := 0x4000 + 0x118
@[reducible] def CHN_LEAD_SERIAL : Nat := 0x4000 + 0x120
@[reducible] def CHN_TICK_HOPS : Nat := 0x4000 + 0x128
@[reducible] def CHN_TIMERS : Nat := 0x4000 + 0x12C
@[reducible] def CHN_ENUM_CTL : Nat := 0x4000 + 0x130
@[reducible] def CHN_ENUM_CMD : Nat := 0x4000 + 0x134
@[reducible] def CHN_HERD_DRIVES : Nat := 0x4000 + 0x138
@[reducible] def CHN_HERD_KIDS : Nat := 0x4000 + 0x13C
@[reducible] def CHN_HERD_SHELVES : Nat := 0x4000 + 0x140
@[reducible] def CHN_RING_NS : Nat := 0x4000 + 0x144
@[reducible] def CHN_ALARM_CTL : Nat := 0x4000 + 0x150
@[reducible] def CHN_ALARM_LAST : Nat := 0x4000 + 0x154
@[reducible] def CHN_ALARM_LEVEL : Nat := 0x4000 + 0x158
@[reducible] def CHN_ALARM_RX : Nat := 0x4000 + 0x15C
@[reducible] def CHN_NOTICE_CTL : Nat := 0x4000 + 0x160
@[reducible] def CHN_NOTICE_LAST : Nat := 0x4000 + 0x164
@[reducible] def CHN_NOTICE_VAL : Nat := 0x4000 + 0x168
@[reducible] def CHN_CRC_BAD : Nat := 0x4000 + 0x170
@[reducible] def CHN_AUTH_BAD : Nat := 0x4000 + 0x174
@[reducible] def CHN_RX_UNKNOWN : Nat := 0x4000 + 0x178
@[reducible] def CHN_REQ_BUSY : Nat := 0x4000 + 0x17C
@[reducible] def CHN_ALLOT_REFUSED : Nat := 0x4000 + 0x180
@[reducible] def CHN_REQ_DST : Nat := 0x4000 + 0x200
@[reducible] def CHN_REQ_ADDR : Nat := 0x4000 + 0x204
@[reducible] def CHN_REQ_CMD : Nat := 0x4000 + 0x208
@[reducible] def CHN_REQ_STAT : Nat := 0x4000 + 0x20C
@[reducible] def CHN_REQ_DATA (i : Nat) : Nat := 0x4000 + 0x220 + 4 * i
@[reducible] def CHN_TX_CTL : Nat := 0x4000 + 0x300
@[reducible] def CHN_TX_STAT : Nat := 0x4000 + 0x304
@[reducible] def CHN_TX_BODY (i : Nat) : Nat := 0x4000 + 0x340 + 4 * i
@[reducible] def WAKE_CTL : Nat := 0x5000 + 0x100
@[reducible] def WAKE_STAT : Nat := 0x5000 + 0x104
@[reducible] def WAKE_COUNT : Nat := 0x5000 + 0x108
@[reducible] def REC_CTL : Nat := 0x6000 + 0x100
@[reducible] def REC_STAT : Nat := 0x6000 + 0x104
@[reducible] def REC_COUNT : Nat := 0x6000 + 0x108
@[reducible] def REC_FULL_DROPS : Nat := 0x6000 + 0x10C
@[reducible] def REC_QUEUE : Nat := 0x6000 + 0x110
@[reducible] def REC_PROG_FAIL : Nat := 0x6000 + 0x114
@[reducible] def REC_CHK_BAD : Nat := 0x6000 + 0x118
@[reducible] def REC_FREEZE : Nat := 0x6000 + 0x120
@[reducible] def REC_FREEZE_CTL : Nat := 0x6000 + 0x124
@[reducible] def REC_SUM_CTL : Nat := 0x6000 + 0x128
@[reducible] def REC_RL_SEL : Nat := 0x6000 + 0x130
@[reducible] def REC_RL_CFG : Nat := 0x6000 + 0x134
@[reducible] def REC_RL_DROPS : Nat := 0x6000 + 0x138
@[reducible] def REC_RL_TOKENS : Nat := 0x6000 + 0x13C
@[reducible] def REC_HOST_CODE : Nat := 0x6000 + 0x150
@[reducible] def REC_HOST_PARAM (i : Nat) : Nat := 0x6000 + 0x154 + 4 * i
@[reducible] def REC_HOST_GO : Nat := 0x6000 + 0x164
@[reducible] def REC_HOST_RL : Nat := 0x6000 + 0x168
@[reducible] def REC_CLR_CMD : Nat := 0x6000 + 0x180
@[reducible] def REC_CLR_STAT : Nat := 0x6000 + 0x184
@[reducible] def REC_CHAL (i : Nat) : Nat := 0x6000 + 0x190 + 4 * i
@[reducible] def REC_CLR_TAG (i : Nat) : Nat := 0x6000 + 0x1A0 + 4 * i
@[reducible] def REC_RD_SEL : Nat := 0x6000 + 0x200
@[reducible] def REC_RD_STAT : Nat := 0x6000 + 0x204
@[reducible] def REC_RD (i : Nat) : Nat := 0x6000 + 0x400 + 4 * i
@[reducible] def HUP_STAT : Nat := 0x7000 + 0x100
@[reducible] def HUP_VPACK : Nat := 0x7000 + 0x104
@[reducible] def HUP_ICHG : Nat := 0x7000 + 0x108
@[reducible] def HUP_CAP : Nat := 0x7000 + 0x10C
@[reducible] def HUP_ESR : Nat := 0x7000 + 0x110
@[reducible] def HUP_EFF : Nat := 0x7000 + 0x114
@[reducible] def HUP_TEMP : Nat := 0x7000 + 0x118
@[reducible] def HUP_CELL (i : Nat) : Nat := 0x7000 + 0x120 + 4 * i
@[reducible] def HUP_MEAS_CTL : Nat := 0x7000 + 0x140
@[reducible] def HUP_SWAP : Nat := 0x7000 + 0x144
@[reducible] def HUP_PACK_SERIAL : Nat := 0x7000 + 0x148
@[reducible] def HUP_PACK_MS : Nat := 0x7000 + 0x150
@[reducible] def HUP_LOSSES : Nat := 0x7000 + 0x158
@[reducible] def CL_STAT (n : Nat) : Nat := 0x8000 + n * 0x1000 + 0x100
@[reducible] def CL_CMDS (n : Nat) : Nat := 0x8000 + n * 0x1000 + 0x104
@[reducible] def CL_UPD_CMD : Nat := 0x8000 + 0x200
@[reducible] def CL_UPD_STAT : Nat := 0x8000 + 0x204
@[reducible] def CL_UPD_RECEIVED : Nat := 0x8000 + 0x208
@[reducible] def CL_UPD_CHUNK : Nat := 0x8000 + 0x20C
@[reducible] def CL_UPD_OFFSET : Nat := 0x8000 + 0x210
@[reducible] def CL_UPD_VER_A (i : Nat) : Nat := 0x8000 + 0x220 + 8 * i
@[reducible] def CL_UPD_VER_B (i : Nat) : Nat := 0x8000 + 0x224 + 8 * i
@[reducible] def CL_UPD_B_MASK (i : Nat) : Nat := 0x8000 + 0x260 + 4 * i
@[reducible] def CL_UPD_DATA (i : Nat) : Nat := 0x8000 + 0x400 + 4 * i
@[reducible] def FAB_GUARD_CTL : Nat := 0xC000 + 0x100
@[reducible] def FAB_GUARD_INGRESS : Nat := 0xC000 + 0x104
@[reducible] def FAB_GUARD_DRAIN : Nat := 0xC000 + 0x108
@[reducible] def FAB_GUARD_EGRESS : Nat := 0xC000 + 0x10C
@[reducible] def FAB_GUARD_GIVEUP : Nat := 0xC000 + 0x110
@[reducible] def JRN_CTL : Nat := 0xD000 + 0x100
@[reducible] def JRN_STAT : Nat := 0xD000 + 0x104
@[reducible] def JRN_UNITS : Nat := 0xD000 + 0x108
@[reducible] def JRN_RECS : Nat := 0xD000 + 0x10C
@[reducible] def JRN_RSN_NEXT : Nat := 0xD000 + 0x110
@[reducible] def JRN_CSN_LAST : Nat := 0xD000 + 0x118
@[reducible] def JRN_CSN_CKPT : Nat := 0xD000 + 0x120
@[reducible] def JRN_UNDRAINED : Nat := 0xD000 + 0x128
@[reducible] def JRN_COMMITS : Nat := 0xD000 + 0x130
@[reducible] def JRN_ENDED : Nat := 0xD000 + 0x138
@[reducible] def JRN_SPILLS : Nat := 0xD000 + 0x13C
@[reducible] def JRN_DRAM_UE : Nat := 0xD000 + 0x140
@[reducible] def JRN_GRANT_WAITS : Nat := 0xD000 + 0x144
@[reducible] def JRN_ACCEPT_WAITS : Nat := 0xD000 + 0x148
@[reducible] def JRN_RPL_KIND : Nat := 0xD000 + 0x180
@[reducible] def JRN_RPL_APPLIED : Nat := 0xD000 + 0x184
@[reducible] def JRN_RPL_DISCARDED : Nat := 0xD000 + 0x188
@[reducible] def JRN_RPL_LOST : Nat := 0xD000 + 0x18C
@[reducible] def JRN_RPL_LOST_FIRST : Nat := 0xD000 + 0x190
@[reducible] def JRN_RPL_LOST_LAST : Nat := 0xD000 + 0x198
@[reducible] def JRN_RPL_MS : Nat := 0xD000 + 0x1A0
@[reducible] def JRN_RPL_PCYCLE : Nat := 0xD000 + 0x1A4
@[reducible] def JRN_FLUSH_MS : Nat := 0xD000 + 0x1C0
@[reducible] def JRN_FLUSH_MJ : Nat := 0xD000 + 0x1C4
@[reducible] def JRN_FLUSH_BYTES : Nat := 0xD000 + 0x1C8
@[reducible] def JRN_RPT_CTL : Nat := 0xD000 + 0x200
@[reducible] def JRN_RPT_COUNT : Nat := 0xD000 + 0x204
@[reducible] def JRN_RPT_DROPPED : Nat := 0xD000 + 0x208
@[reducible] def JRN_REC_SEL : Nat := 0xD000 + 0x300
@[reducible] def JRN_REC (i : Nat) : Nat := 0xD000 + 0x400 + 4 * i
@[reducible] def DRM_SIZE : Nat := 0xE000 + 0x100
@[reducible] def DRM_STAT : Nat := 0xE000 + 0x104
@[reducible] def DRM_JRN_BASE : Nat := 0xE000 + 0x108
@[reducible] def DRM_JRN_SIZE : Nat := 0xE000 + 0x10C
@[reducible] def DRM_CE : Nat := 0xE000 + 0x110
@[reducible] def DRM_UE : Nat := 0xE000 + 0x114
@[reducible] def DRM_UE_ADDR : Nat := 0xE000 + 0x118
@[reducible] def DRM_SR_ENTRIES : Nat := 0xE000 + 0x120
@[reducible] def SCB_MCH_CTL : Nat := 0xF000 + 0x100
@[reducible] def SCB_MCH_PASSES : Nat := 0xF000 + 0x104
@[reducible] def SCB_MCH_FIXED : Nat := 0xF000 + 0x108
@[reducible] def SCB_MCH_LOST : Nat := 0xF000 + 0x10C
@[reducible] def SCB_MCH_LAST : Nat := 0xF000 + 0x110
@[reducible] def SCB_DRM_CTL : Nat := 0xF000 + 0x120
@[reducible] def SCB_DRM_CE : Nat := 0xF000 + 0x124
@[reducible] def SCB_DRM_UE : Nat := 0xF000 + 0x128
@[reducible] def SCB_DRM_UE_ADDR : Nat := 0xF000 + 0x12C
@[reducible] def CTL_ENG_STAT : Nat := 0x20000 + 0x100
@[reducible] def CTL_OUT_SUM : Nat := 0x20000 + 0x104
@[reducible] def CTL_TH_OUT_CNT : Nat := 0x20000 + 0x108
@[reducible] def CTL_PEOPS : Nat := 0x20000 + 0x10C
@[reducible] def CTL_PEOPS_PEAK : Nat := 0x20000 + 0x110
@[reducible] def CTL_OVERRUNS : Nat := 0x20000 + 0x114
@[reducible] def CTL_FORCED : Nat := 0x20000 + 0x118
@[reducible] def CTL_LAST_FORCED : Nat := 0x20000 + 0x11C
@[reducible] def CTL_SAVE : Nat := 0x20000 + 0x120
@[reducible] def CTL_L_CMD (n : Nat) : Nat := 0x21000 + n * 0x1000 + 0x100
@[reducible] def CTL_L_STAT (n : Nat) : Nat := 0x21000 + n * 0x1000 + 0x104
@[reducible] def CTL_L_CFG (n : Nat) : Nat := 0x21000 + n * 0x1000 + 0x108
@[reducible] def CTL_L_PERIOD (n : Nat) : Nat := 0x21000 + n * 0x1000 + 0x10C
@[reducible] def CTL_L_SAFE_W (n : Nat) : Nat := 0x21000 + n * 0x1000 + 0x110
@[reducible] def CTL_L_SP_TARGET (n : Nat) : Nat := 0x21000 + n * 0x1000 + 0x120
@[reducible] def CTL_L_SP_NOW (n : Nat) : Nat := 0x21000 + n * 0x1000 + 0x124
@[reducible] def CTL_L_RAMP (n : Nat) : Nat := 0x21000 + n * 0x1000 + 0x128
@[reducible] def CTL_L_FB (n : Nat) : Nat := 0x21000 + n * 0x1000 + 0x12C
@[reducible] def CTL_L_OUT (n : Nat) : Nat := 0x21000 + n * 0x1000 + 0x130
@[reducible] def CTL_L_MAN (n : Nat) : Nat := 0x21000 + n * 0x1000 + 0x134
@[reducible] def CTL_L_SAFE (n : Nat) : Nat := 0x21000 + n * 0x1000 + 0x138
@[reducible] def CTL_L_UMIN (n : Nat) : Nat := 0x21000 + n * 0x1000 + 0x13C
@[reducible] def CTL_L_UMAX (n : Nat) : Nat := 0x21000 + n * 0x1000 + 0x140
@[reducible] def CTL_L_IMIN (n : Nat) : Nat := 0x21000 + n * 0x1000 + 0x144
@[reducible] def CTL_L_IMAX (n : Nat) : Nat := 0x21000 + n * 0x1000 + 0x148
@[reducible] def CTL_L_FE_LIMIT (n : Nat) : Nat := 0x21000 + n * 0x1000 + 0x14C
@[reducible] def CTL_L_MODEL_Y0 (n : Nat) : Nat := 0x21000 + n * 0x1000 + 0x150
@[reducible] def CTL_L_MODEL_BAND (n : Nat) : Nat := 0x21000 + n * 0x1000 + 0x154
@[reducible] def CTL_L_NOISE_BAND (n : Nat) : Nat := 0x21000 + n * 0x1000 + 0x158
@[reducible] def CTL_L_MOVE (n : Nat) : Nat := 0x21000 + n * 0x1000 + 0x15C
@[reducible] def CTL_L_MODEL_Y (n : Nat) : Nat := 0x21000 + n * 0x1000 + 0x160
@[reducible] def CTL_L_MODEL_A (n : Nat) : Nat := 0x21000 + n * 0x1000 + 0x170
@[reducible] def CTL_L_MODEL_K (n : Nat) : Nat := 0x21000 + n * 0x1000 + 0x174
@[reducible] def CTL_L_FE_TIME (n : Nat) : Nat := 0x21000 + n * 0x1000 + 0x180
@[reducible] def CTL_L_MODEL_LIMIT (n : Nat) : Nat := 0x21000 + n * 0x1000 + 0x184
@[reducible] def CTL_L_FROZEN_N (n : Nat) : Nat := 0x21000 + n * 0x1000 + 0x188
@[reducible] def CTL_L_OVERRUNS (n : Nat) : Nat := 0x21000 + n * 0x1000 + 0x190
@[reducible] def CTL_L_SAT_CNT (n : Nat) : Nat := 0x21000 + n * 0x1000 + 0x194
@[reducible] def CTL_L_S_B0 (n : Nat) (i : Nat) : Nat := 0x21000 + n * 0x1000 + 0x200 + 32 * i
@[reducible] def CTL_L_S_B1 (n : Nat) (i : Nat) : Nat := 0x21000 + n * 0x1000 + 0x204 + 32 * i
@[reducible] def CTL_L_S_B2 (n : Nat) (i : Nat) : Nat := 0x21000 + n * 0x1000 + 0x208 + 32 * i
@[reducible] def CTL_L_S_A1 (n : Nat) (i : Nat) : Nat := 0x21000 + n * 0x1000 + 0x20C + 32 * i
@[reducible] def CTL_L_S_A2 (n : Nat) (i : Nat) : Nat := 0x21000 + n * 0x1000 + 0x210 + 32 * i
@[reducible] def CTL_L_S_EXP (n : Nat) (i : Nat) : Nat := 0x21000 + n * 0x1000 + 0x214 + 32 * i
@[reducible] def CTL_L_S_S1 (n : Nat) (i : Nat) : Nat := 0x21000 + n * 0x1000 + 0x218 + 32 * i
@[reducible] def CTL_L_S_S2 (n : Nat) (i : Nat) : Nat := 0x21000 + n * 0x1000 + 0x21C + 32 * i
@[reducible] def CTL_L_FF (n : Nat) (i : Nat) : Nat := 0x21000 + n * 0x1000 + 0x300 + 4 * i
@[reducible] def CTL_TH_SEL : Nat := 0x31000 + 0x100
@[reducible] def CTL_TH_STATE : Nat := 0x31000 + 0x104
@[reducible] def CTL_TH_V : Nat := 0x31000 + 0x108
@[reducible] def CTL_TH_INTEG : Nat := 0x31000 + 0x10C
@[reducible] def CTL_TH_FB : Nat := 0x31000 + 0x110
@[reducible] def CTL_TH_NSAMP : Nat := 0x31000 + 0x114
@[reducible] def CTL_TH_MAN : Nat := 0x31000 + 0x118
@[reducible] def CTL_TH_PROFILE : Nat := 0x31000 + 0x11C
@[reducible] def CTL_TH_CMD : Nat := 0x31000 + 0x120
@[reducible] def CTL_TH_BULK : Nat := 0x31000 + 0x124
@[reducible] def MAC_LINK_CTL (n : Nat) : Nat := 0x40000 + n * 0x8000 + 0x100
@[reducible] def MAC_LINK_STAT (n : Nat) : Nat := 0x40000 + n * 0x8000 + 0x104
@[reducible] def MAC_ADDR_LO (n : Nat) : Nat := 0x40000 + n * 0x8000 + 0x108
@[reducible] def MAC_ADDR_HI (n : Nat) : Nat := 0x40000 + n * 0x8000 + 0x10C
@[reducible] def MAC_MAX_FRAME (n : Nat) : Nat := 0x40000 + n * 0x8000 + 0x110
@[reducible] def MAC_FEC_CORR (n : Nat) : Nat := 0x40000 + n * 0x8000 + 0x120
@[reducible] def MAC_FEC_UNCORR (n : Nat) : Nat := 0x40000 + n * 0x8000 + 0x128
@[reducible] def MAC_TX_FLUSHED (n : Nat) : Nat := 0x40000 + n * 0x8000 + 0x12C
@[reducible] def MAC_TRAIN_TIME (n : Nat) : Nat := 0x40000 + n * 0x8000 + 0x130
@[reducible] def MAC_EYE_LANE (n : Nat) (i : Nat) : Nat := 0x40000 + n * 0x8000 + 0x140 + 4 * i
@[reducible] def MAC_RX_BUF (n : Nat) : Nat := 0x41000 + n * 0x8000 + 0x100
@[reducible] def MAC_RXQ_CFG (n : Nat) (i : Nat) : Nat := 0x41000 + n * 0x8000 + 0x110 + 4 * i
@[reducible] def MAC_RXQ_WM (n : Nat) (i : Nat) : Nat := 0x41000 + n * 0x8000 + 0x130 + 4 * i
@[reducible] def MAC_RXQ_OCC (n : Nat) (i : Nat) : Nat := 0x41000 + n * 0x8000 + 0x150 + 4 * i
@[reducible] def MAC_RX_NOBUF (n : Nat) : Nat := 0x41000 + n * 0x8000 + 0x170
@[reducible] def MAC_VLAN_CTL (n : Nat) : Nat := 0x42000 + n * 0x8000 + 0x100
@[reducible] def MAC_FILT_CTL (n : Nat) : Nat := 0x42000 + n * 0x8000 + 0x104
@[reducible] def MAC_HASH (n : Nat) (i : Nat) : Nat := 0x42000 + n * 0x8000 + 0x140 + 4 * i
@[reducible] def MAC_PFC_CTL (n : Nat) : Nat := 0x43000 + n * 0x8000 + 0x100
@[reducible] def MAC_PFC_QUANTA (n : Nat) : Nat := 0x43000 + n * 0x8000 + 0x104
@[reducible] def MAC_PFC_STAT (n : Nat) : Nat := 0x43000 + n * 0x8000 + 0x110
@[reducible] def MAC_PFC_RX (n : Nat) (i : Nat) : Nat := 0x43000 + n * 0x8000 + 0x120 + 4 * i
@[reducible] def MAC_PFC_TX (n : Nat) (i : Nat) : Nat := 0x43000 + n * 0x8000 + 0x140 + 4 * i
@[reducible] def MAC_PAUSE_LEGACY (n : Nat) : Nat := 0x43000 + n * 0x8000 + 0x160
@[reducible] def MAC_PREEMPT_CTL (n : Nat) : Nat := 0x44000 + n * 0x8000 + 0x100
@[reducible] def MAC_PREEMPT_HOLD (n : Nat) : Nat := 0x44000 + n * 0x8000 + 0x104
@[reducible] def MAC_PREEMPT_ABORTS (n : Nat) : Nat := 0x44000 + n * 0x8000 + 0x108
@[reducible] def MAC_FRAG_TX (n : Nat) : Nat := 0x44000 + n * 0x8000 + 0x10C
@[reducible] def MAC_FRAG_RX (n : Nat) : Nat := 0x44000 + n * 0x8000 + 0x110
@[reducible] def MAC_OFF_CTL (n : Nat) : Nat := 0x45000 + n * 0x8000 + 0x100
@[reducible] def MAC_IPV4_ADDR (n : Nat) : Nat := 0x45000 + n * 0x8000 + 0x104
@[reducible] def MAC_IPV6_ADDR (n : Nat) (i : Nat) : Nat := 0x45000 + n * 0x8000 + 0x110 + 4 * i
@[reducible] def MAC_IPV6_STAT (n : Nat) : Nat := 0x45000 + n * 0x8000 + 0x140
@[reducible] def MAC_ICMP_RATE (n : Nat) : Nat := 0x45000 + n * 0x8000 + 0x150
@[reducible] def MAC_ICMP_DROP (n : Nat) : Nat := 0x45000 + n * 0x8000 + 0x154
@[reducible] def MAC_RX_FRAMES (n : Nat) : Nat := 0x46000 + n * 0x8000 + 0x100
@[reducible] def MAC_RX_BYTES (n : Nat) : Nat := 0x46000 + n * 0x8000 + 0x108
@[reducible] def MAC_TX_FRAMES (n : Nat) : Nat := 0x46000 + n * 0x8000 + 0x110
@[reducible] def MAC_TX_BYTES (n : Nat) : Nat := 0x46000 + n * 0x8000 + 0x118
@[reducible] def MAC_RX_FCS_ERR (n : Nat) : Nat := 0x46000 + n * 0x8000 + 0x120
@[reducible] def MAC_RX_RUNT (n : Nat) : Nat := 0x46000 + n * 0x8000 + 0x124
@[reducible] def MAC_RX_OVERSIZE (n : Nat) : Nat := 0x46000 + n * 0x8000 + 0x128
@[reducible] def MAC_RX_PCS_ERR (n : Nat) : Nat := 0x46000 + n * 0x8000 + 0x12C
@[reducible] def MAC_RX_REASM_ERR (n : Nat) : Nat := 0x46000 + n * 0x8000 + 0x130
@[reducible] def MAC_RX_TRUNC (n : Nat) : Nat := 0x46000 + n * 0x8000 + 0x134
@[reducible] def MAC_RX_ADDR_FILTERED (n : Nat) : Nat := 0x46000 + n * 0x8000 + 0x138
@[reducible] def MAC_RX_UNCLAIMED (n : Nat) : Nat := 0x46000 + n * 0x8000 + 0x13C
@[reducible] def MAC_RX_IP_DROP (n : Nat) : Nat := 0x46000 + n * 0x8000 + 0x140
@[reducible] def MAC_RX_STAG (n : Nat) : Nat := 0x46000 + n * 0x8000 + 0x144
@[reducible] def MAC_DIAG_CTL (n : Nat) : Nat := 0x47000 + n * 0x8000 + 0x100
@[reducible] def MAC_DIAG_STAT (n : Nat) : Nat := 0x47000 + n * 0x8000 + 0x104
@[reducible] def MAC_DIAG_FLAGS (n : Nat) : Nat := 0x47000 + n * 0x8000 + 0x108
@[reducible] def MAC_DIAG_LEN (n : Nat) : Nat := 0x47000 + n * 0x8000 + 0x10C
@[reducible] def MAC_DIAG_POP (n : Nat) : Nat := 0x47000 + n * 0x8000 + 0x110
@[reducible] def MAC_DIAG_OVF (n : Nat) : Nat := 0x47000 + n * 0x8000 + 0x114
@[reducible] def MAC_DIAG_DATA (n : Nat) (i : Nat) : Nat := 0x47000 + n * 0x8000 + 0x200 + 4 * i
@[reducible] def XPT_CTL : Nat := 0x50000 + 0x100
@[reducible] def XPT_FLOW_CTL : Nat := 0x50000 + 0x104
@[reducible] def XPT_TIMERS : Nat := 0x50000 + 0x108
@[reducible] def XPT_WINDOW : Nat := 0x50000 + 0x10C
@[reducible] def XPT_TOMB : Nat := 0x50000 + 0x110
@[reducible] def XPT_FLOWS : Nat := 0x50000 + 0x120
@[reducible] def XPT_CMDS : Nat := 0x50000 + 0x124
@[reducible] def XPT_SHARED_FREE : Nat := 0x50000 + 0x128
@[reducible] def XPT_FLOW_KILL : Nat := 0x50000 + 0x12C
@[reducible] def XPT_RX_BLOCKS : Nat := 0x51000 + 0x100
@[reducible] def XPT_TX_BLOCKS : Nat := 0x51000 + 0x108
@[reducible] def XPT_RX_CRC_BAD : Nat := 0x51000 + 0x110
@[reducible] def XPT_RX_MISSING : Nat := 0x51000 + 0x114
@[reducible] def XPT_TX_RESENT : Nat := 0x51000 + 0x118
@[reducible] def XPT_RX_HDR_BAD : Nat := 0x51000 + 0x11C
@[reducible] def XPT_RX_DUP : Nat := 0x51000 + 0x120
@[reducible] def XPT_RX_UNGRANTED : Nat := 0x51000 + 0x124
@[reducible] def XPT_RX_OVERCREDIT : Nat := 0x51000 + 0x128
@[reducible] def XPT_RX_SRC_MISMATCH : Nat := 0x51000 + 0x12C
@[reducible] def XPT_FLOW_RESETS : Nat := 0x51000 + 0x130
@[reducible] def XPT_OPEN_REFUSED : Nat := 0x51000 + 0x134
@[reducible] def XPT_PROBE_ANS : Nat := 0x51000 + 0x138
@[reducible] def XPT_PROBE_DROP : Nat := 0x51000 + 0x13C
@[reducible] def XPT_FLOW_SEL : Nat := 0x52000 + 0x100
@[reducible] def XPT_FLOW_ID : Nat := 0x52000 + 0x104
@[reducible] def XPT_FLOW_STATE : Nat := 0x52000 + 0x108
@[reducible] def XPT_FLOW_MTU : Nat := 0x52000 + 0x10C
@[reducible] def XPT_FLOW_HOST_IP (i : Nat) : Nat := 0x52000 + 0x110 + 4 * i
@[reducible] def XPT_FLOW_HOST_PORT : Nat := 0x52000 + 0x120
@[reducible] def XPT_FLOW_RX_NEXT : Nat := 0x52000 + 0x124
@[reducible] def XPT_FLOW_LIMIT : Nat := 0x52000 + 0x128
@[reducible] def XPT_FLOW_TX_NEXT : Nat := 0x52000 + 0x12C
@[reducible] def XPT_FLOW_TX_ACKED : Nat := 0x52000 + 0x130
@[reducible] def XPT_FLOW_OUT : Nat := 0x52000 + 0x134
@[reducible] def XPT_FLOW_RESENDS : Nat := 0x52000 + 0x138
@[reducible] def XPT_FLOW_IDLE_MS : Nat := 0x52000 + 0x13C
@[reducible] def CPH_ENG_STAT : Nat := 0x58000 + 0x100
@[reducible] def CPH_CEIL_DFLT : Nat := 0x58000 + 0x104
@[reducible] def CPH_WARN : Nat := 0x58000 + 0x10C
@[reducible] def CPH_IMPORT_ID : Nat := 0x58000 + 0x110
@[reducible] def CPH_SLOTS_LOADED : Nat := 0x58000 + 0x114
@[reducible] def CPH_GCM_ENC : Nat := 0x58000 + 0x120
@[reducible] def CPH_GCM_DEC : Nat := 0x58000 + 0x128
@[reducible] def CPH_XTS : Nat := 0x58000 + 0x130
@[reducible] def CPH_CMAC : Nat := 0x58000 + 0x138
@[reducible] def CPH_TAG_RECOVERED : Nat := 0x58000 + 0x13C
@[reducible] def CPH_AUTH_FAIL : Nat := 0x58000 + 0x140
@[reducible] def CPH_REVOKED : Nat := 0x58000 + 0x144
@[reducible] def CPH_EXHAUSTED : Nat := 0x58000 + 0x148
@[reducible] def CPH_BAD_REQ : Nat := 0x58000 + 0x14C
@[reducible] def CPH_RELBUF_WAITS : Nat := 0x58000 + 0x150
@[reducible] def CPH_Q_STAT (i : Nat) : Nat := 0x59000 + 0x100 + 4 * i
@[reducible] def CPH_Q_WEIGHT (i : Nat) : Nat := 0x59000 + 0x180 + 4 * i
@[reducible] def CPH_SLOT_SEL : Nat := 0x5A000 + 0x100
@[reducible] def CPH_SLOT_STATE : Nat := 0x5A000 + 0x104
@[reducible] def CPH_SLOT_GEN : Nat := 0x5A000 + 0x108
@[reducible] def CPH_SLOT_CTR : Nat := 0x5A000 + 0x10C
@[reducible] def CPH_SLOT_RSV : Nat := 0x5A000 + 0x114
@[reducible] def CPH_SLOT_CEIL : Nat := 0x5A000 + 0x11C
@[reducible] def CPH_SLOT_BOUND : Nat := 0x5A000 + 0x124
@[reducible] def CPH_SLOT_HELD : Nat := 0x5A000 + 0x128
@[reducible] def CPH_CEIL_NEW : Nat := 0x5A000 + 0x130
@[reducible] def CPH_CEIL_SET : Nat := 0x5A000 + 0x138
@[reducible] def CPH_DKEY (i : Nat) : Nat := 0x5B000 + 0x100 + 4 * i
@[reducible] def CPH_DSLOT_CMD : Nat := 0x5B000 + 0x140
@[reducible] def CPH_DSLOT_STAT : Nat := 0x5B000 + 0x144
@[reducible] def CPH_MQ_CMD : Nat := 0x5C000 + 0x100
@[reducible] def CPH_MQ_GO : Nat := 0x5C000 + 0x104
@[reducible] def CPH_MQ_STAT : Nat := 0x5C000 + 0x108
@[reducible] def CPH_MQ_GEN : Nat := 0x5C000 + 0x10C
@[reducible] def CPH_MQ_TWEAK (i : Nat) : Nat := 0x5C000 + 0x110 + 4 * i
@[reducible] def CPH_MQ_TAG (i : Nat) : Nat := 0x5C000 + 0x120 + 4 * i
@[reducible] def CPH_MQ_IN (i : Nat) : Nat := 0x5D000 + 0x400 + 4 * i
@[reducible] def CPH_MQ_OUT (i : Nat) : Nat := 0x5D000 + 0x800 + 4 * i
@[reducible] def MCH_TEMP (n : Nat) : Nat := 0x60000 + n * 0x1000 + 0x100
@[reducible] def MCH_VALID_CNT (n : Nat) : Nat := 0x60000 + n * 0x1000 + 0x104
@[reducible] def MCH_ENT_IDX (n : Nat) : Nat := 0x60000 + n * 0x1000 + 0x200
@[reducible] def MCH_ENT_CMD (n : Nat) : Nat := 0x60000 + n * 0x1000 + 0x204
@[reducible] def MCH_ENT_STAT (n : Nat) : Nat := 0x60000 + n * 0x1000 + 0x208
@[reducible] def MCH_ENT_PRIO (n : Nat) : Nat := 0x60000 + n * 0x1000 + 0x20C
@[reducible] def MCH_ENT_RES (n : Nat) : Nat := 0x60000 + n * 0x1000 + 0x210
@[reducible] def MCH_ENT_VAL (n : Nat) (i : Nat) : Nat := 0x60000 + n * 0x1000 + 0x240 + 4 * i
@[reducible] def MCH_ENT_MASK (n : Nat) (i : Nat) : Nat := 0x60000 + n * 0x1000 + 0x280 + 4 * i
@[reducible] def MCH_ENG_CTL : Nat := 0x60000 + 0x300
@[reducible] def MCH_CLASS_MAP : Nat := 0x60000 + 0x304
@[reducible] def MCH_ENG_STAT : Nat := 0x60000 + 0x308
@[reducible] def MCH_SEARCHES : Nat := 0x60000 + 0x310
@[reducible] def MCH_MULTI : Nat := 0x60000 + 0x318
@[reducible] def MCH_TIES : Nat := 0x60000 + 0x31C
@[reducible] def MCH_MISSES : Nat := 0x60000 + 0x320
@[reducible] def MCH_CO_LIMIT : Nat := 0x60000 + 0x324
@[reducible] def MCH_ROW_BAD : Nat := 0x60000 + 0x328
@[reducible] def MCH_SRCH_CTL : Nat := 0x60000 + 0x400
@[reducible] def MCH_SRCH_RES : Nat := 0x60000 + 0x404
@[reducible] def MCH_SRCH_IDX : Nat := 0x60000 + 0x408
@[reducible] def MCH_SRCH_ROW : Nat := 0x60000 + 0x40C
@[reducible] def MCH_SKEY (i : Nat) : Nat := 0x60000 + 0x500 + 4 * i
@[reducible] def MCH_ACCT_SEL : Nat := 0x60000 + 0x600
@[reducible] def MCH_ACCT_HITS : Nat := 0x60000 + 0x608
@[reducible] def MCH_ACCT_OPS : Nat := 0x60000 + 0x610
@[reducible] def MCH_ACCT_BYTES : Nat := 0x60000 + 0x618
@[reducible] def MCH_ACCT_BASE_PCYC : Nat := 0x60000 + 0x620
@[reducible] def MCH_ACCT_BASE_MS : Nat := 0x60000 + 0x624
@[reducible] def MED_ENG_STAT (n : Nat) : Nat := 0x70000 + n * 0x4000 + 0x100
@[reducible] def MED_CH_DIES (n : Nat) (i : Nat) : Nat := 0x70000 + n * 0x4000 + 0x110 + 4 * i
@[reducible] def MED_CH_SPARE (n : Nat) (i : Nat) : Nat := 0x70000 + n * 0x4000 + 0x120 + 4 * i
@[reducible] def MED_CH_REBUILD (n : Nat) (i : Nat) : Nat := 0x70000 + n * 0x4000 + 0x130 + 4 * i
@[reducible] def MED_READS (n : Nat) : Nat := 0x70000 + n * 0x4000 + 0x140
@[reducible] def MED_PROGS (n : Nat) : Nat := 0x70000 + n * 0x4000 + 0x148
@[reducible] def MED_ERASES (n : Nat) : Nat := 0x70000 + n * 0x4000 + 0x150
@[reducible] def MED_ERASE_FAIL (n : Nat) : Nat := 0x70000 + n * 0x4000 + 0x154
@[reducible] def MED_PROG_FAIL (n : Nat) : Nat := 0x70000 + n * 0x4000 + 0x158
@[reducible] def MED_RECON (n : Nat) : Nat := 0x70000 + n * 0x4000 + 0x15C
@[reducible] def MED_UNREADABLE (n : Nat) : Nat := 0x70000 + n * 0x4000 + 0x160
@[reducible] def MED_SPARE_CMD (n : Nat) : Nat := 0x70000 + n * 0x4000 + 0x170
@[reducible] def MED_RETRY_CTL (n : Nat) : Nat := 0x71000 + n * 0x4000 + 0x100
@[reducible] def MED_RECLAIM (n : Nat) : Nat := 0x71000 + n * 0x4000 + 0x104
@[reducible] def MED_RUNG (n : Nat) (i : Nat) : Nat := 0x71000 + n * 0x4000 + 0x110 + 4 * i
@[reducible] def MED_REREAD_CRC (n : Nat) : Nat := 0x71000 + n * 0x4000 + 0x150
@[reducible] def MED_TAG_REREAD (n : Nat) : Nat := 0x71000 + n * 0x4000 + 0x154
@[reducible] def MED_RECLAIMS (n : Nat) : Nat := 0x71000 + n * 0x4000 + 0x158
@[reducible] def MED_DIE_SEL (n : Nat) : Nat := 0x72000 + n * 0x4000 + 0x100
@[reducible] def MED_DIE_STATE (n : Nat) : Nat := 0x72000 + n * 0x4000 + 0x104
@[reducible] def MED_DIE_PE (n : Nat) : Nat := 0x72000 + n * 0x4000 + 0x108
@[reducible] def MED_DIE_PE_AVG (n : Nat) : Nat := 0x72000 + n * 0x4000 + 0x10C
@[reducible] def MED_DIE_BLOCKS (n : Nat) : Nat := 0x72000 + n * 0x4000 + 0x110
@[reducible] def MED_DIE_FACT_BAD (n : Nat) : Nat := 0x72000 + n * 0x4000 + 0x114
@[reducible] def MED_DIE_TEMP (n : Nat) : Nat := 0x72000 + n * 0x4000 + 0x118
@[reducible] def MED_DIE_CORR (n : Nat) : Nat := 0x72000 + n * 0x4000 + 0x11C
@[reducible] def MED_DIE_RECON (n : Nat) : Nat := 0x72000 + n * 0x4000 + 0x124
@[reducible] def MED_DIE_LOOP (n : Nat) : Nat := 0x72000 + n * 0x4000 + 0x128
@[reducible] def MED_STATE : Nat := 0x73000 + 0x100
@[reducible] def MED_USER_CAP : Nat := 0x73000 + 0x104
@[reducible] def MED_USER_USED : Nat := 0x73000 + 0x10C
@[reducible] def MED_USER_FREE : Nat := 0x73000 + 0x114
@[reducible] def MED_USER_BANDS : Nat := 0x73000 + 0x11C
@[reducible] def MED_SPARE_BANDS : Nat := 0x73000 + 0x120
@[reducible] def MED_SPARE_FACTORY : Nat := 0x73000 + 0x124
@[reducible] def MED_SPARE_CTL : Nat := 0x73000 + 0x128
@[reducible] def MED_GC_CTL : Nat := 0x73000 + 0x12C
@[reducible] def MED_WL_CTL : Nat := 0x73000 + 0x130
@[reducible] def MED_CACHE_CTL : Nat := 0x73000 + 0x134
@[reducible] def MED_FREE_MIN : Nat := 0x73000 + 0x138
@[reducible] def MED_GC_BYTES : Nat := 0x73000 + 0x140
@[reducible] def MED_WL_BYTES : Nat := 0x73000 + 0x148
@[reducible] def MED_HLOG_SNAP : Nat := 0x73000 + 0x150
@[reducible] def MED_HLOG (i : Nat) : Nat := 0x73000 + 0x400 + 4 * i

end Sys2Proof.Machine.Reg
end

