-- ==== Sys2Proof/Config.lean ====
section
/-! DEFINITION. What an implementation fixes and what the spec leaves open: constants with no body, so that no proof can
see a value of them. Factory values are those the spec marks "factory", "per drive", "per block" or "strap"; the free
values are the ones an operation draws and the spec gives no number for (each applied to the counter
`Drive.free`, which the drawing step advances, or to the operands it depends on). -/

namespace Sys2Proof.Config

/-- A register field the spec's tables reset to "factory": the whole register's factory value, by its address. -/
opaque factoryReg : Nat → Nat

/-- DIR_SERIAL, the drive's 64-bit serial number (R46). -/
opaque serial : Long

/-- The factory MAC address of port `n`, 48 bits (R94). -/
opaque macAddr : Nat → BitVec 48

/-- Whether the part is the IWK-512-E3L-X (R506, AON_STRAPS.VARIANT). -/
opaque variantX : Bool

/-- CPH_IMPORT_ID, the identifier of the drive's import key (R242). -/
opaque importId : Word

/-- The import key itself, 32 bytes, which the spec keeps inside the controller (R242). -/
opaque importKey : List Byte

/-- The first 512-bit XTS key pair of store slot 4,112 + k, at least 64 bytes; never readable (R227, R228). -/
opaque storeKey : Nat → List Byte

/-- The discharge efficiency in 1/1,000 (HUP_EFF.DIS, factory, about 870; R377). -/
opaque eta : Nat

/-- Blocks bad at shipment, of physical die p of channel c at place 17c + p (R306). -/
opaque factoryBad : List Nat

/-- The power-cycle count at shipment, and OPT_HW at shipment in units of 65,536 ms, less 1 (R525: both continue from
factory test). -/
opaque factoryPcycle : Nat
opaque factoryMark : Nat

/-- The LDPC decoder's correction limit in bits (R282, R348: the spec gives no number). -/
opaque corrLimit : Nat

/-- The serial number of the pack fitted at shipment (R499). -/
opaque packSerial : Nat

/-- PCYCLE, OPTIME and PARAM0 to PARAM3 of the CLEARED record of the factory clear (R525). -/
opaque factoryClear : Nat → Nat

/-- The 64 bytes an import key unwraps a blob to with its tag verified, if it does (R242: the wrapping method is not
part of the manual); of them the slot takes the first 32. -/
opaque unwrap : List Byte → Option (List Byte)

/-- VERSION.MAJOR and MINOR of a block, as bits 31:16 of VERSION, by block code (R43). -/
opaque versionHi : Nat → Nat

/-- Image versions, running slots and header fields at shipment (R479: "per drive"), by carrier. -/
opaque imageVersion : Nat → Nat

/-- The value a counter holds after counting past its greatest value where the spec states no saturation. -/
opaque counterOverflow : Nat → Nat

/-- A package temperature in °C that no event reports, by draw number (R306). -/
opaque packageTemp : Nat → Nat

/-- A measured quantity that no event reports (a draw, a current, a temperature, a cell voltage, a load), by the address
of the register that shows it and the operating time. -/
opaque sensor : Nat → Nat → Nat

/-- A string of random bytes the drive draws: challenges (R452), fresh keys (R236), by draw number. -/
opaque randomBytes : Nat → List Byte

/-- A random or unstated number the drive draws, by draw number: initial sequence numbers (R110), flow numbers. -/
opaque randomNat : Nat → Nat

/-- The static draw after one 100 ms estimate, from the old estimate and the window's sample, in nW: a filter of time
constant 1 s whose arithmetic the spec does not state (R388). -/
opaque staticFilter : Nat → Nat → Nat

/-- The drive's estimate of a time left in ms, by draw number (R37, R185, R385: the drive's own estimate). -/
opaque estimateMs : Nat → Nat

/-- The firmware's numbering and placement choices the spec leaves to the drive (a band, a unit place), by draw number. -/
opaque placement : Nat → Nat

/-- The upper 36 bits of the I3C provisional ID (R50 states the low 12 only). -/
opaque i3cPid : Nat

/-- The fields of a sent frame's headers that the spec does not state, by its number among what the drive has sent: IPv4
TOS (bits 7:0), identification (23:8), DF (24), or IPv6 traffic class and flow label (27:0); TTL or hop limit (35:28); the
DEI of a C-tag (36). -/
opaque ipOpen : Nat → Nat

/-- What GETSTATUS (2 bytes) and GETMXDS (2 bytes) answer at a draw: R50 names them and states no value. -/
opaque i3cReply : Nat → Nat

/-- The most entries of a leaf page, and the most pages an interior page points to: the layout within a 16 KiB index page
is not stated (R278). -/
opaque leafFill : Nat
opaque fanOut : Nat

/-- The bytes of an index or metadata page before encryption, by its identifier: their layout is not stated (R257). -/
opaque pageBytes : Nat → List Byte

/-- The time of one program of a die-page in µs, which the spec does not state (R291). -/
opaque tProg : Nat

/-- The fabric address of a buffer of the drive's own, by request number: 0 input, 1 output, 2 AAD (R246). -/
opaque bufAddr : Nat → Nat → Nat

end Sys2Proof.Config
end

