-- ==== Sys2Proof/Machine/FMap.lean ====
section
/-! DEFINITION. Sparse words by key in ONE canonical form: keys strictly rising and no entry equal to what an unlisted
key reads as, so that equal contents are equal lists. The register store, the configuration store and the write
buffers of R45 are such lists. What an unlisted key reads as is an argument (the reset value of a register). -/

namespace Sys2Proof.Machine

/-- Words by key, sorted by key without repeats. -/
abbrev FMap := List (Nat × Word)

/-- The listed entry of key `k`. -/
def FMap.find : FMap → Nat → Option Word
  | [], _ => none
  | (j, v) :: m, k => if k = j then some v else FMap.find m k

/-- `m` without an entry for `k`. -/
def FMap.erase (m : FMap) (k : Nat) : FMap := m.filter fun e => !(e.1 == k)

/-- `m` with the entry `k`, `v` at its sorted place. -/
def FMap.insert : FMap → Nat → Word → FMap
  | [], k, v => [(k, v)]
  | (j, u) :: m, k, v =>
    if k = j then (j, v) :: m else if k < j then (k, v) :: (j, u) :: m else (j, u) :: FMap.insert m k v

/-- What key `k` reads as, where an unlisted key reads as `dflt k`. -/
def FMap.get (dflt : Nat → Word) (m : FMap) (k : Nat) : Word := (FMap.find m k).getD (dflt k)

/-- Write `v` at `k`: writing what an unlisted key reads as removes the entry. -/
def FMap.set (dflt : Nat → Word) (m : FMap) (k : Nat) (v : Word) : FMap :=
  if v = dflt k then FMap.erase m k else FMap.insert m k v

/-- The canonical form: keys strictly rising, no entry at its default. -/
abbrev FMap.wf (dflt : Nat → Word) (m : FMap) : Prop :=
  m.Pairwise (fun a b => a.1 < b.1) ∧ ∀ e ∈ m, e.2 ≠ dflt e.1

end Sys2Proof.Machine
end

