-- ==== Sys2Proof/Machine/State.lean ====
section
/-! DEFINITION. The state of the drive, as plain data: the clock and the permanent latches apart from the rest (only the
steps that count or latch write them), the factory data, the drive proper block by block, and the queue of waiting
commands. A value that is exactly one register lives in the register store; state that no single register holds, or
that outlives its register's domain, has a field of its own. -/

namespace Sys2Proof.Machine

/-! ### Always-on state -/

/-- The operating-time counter, its high-water mark in the AON parameter store, and the power-cycle count (R438). -/
structure Clock where
  /-- Operating time in ms. -/
  optime : Nat
  /-- The stored OPT_HW. -/
  optHw : Nat
  pcycle : Nat
  deriving DecidableEq, Repr

/-- What is permanent once set: READ_ONLY never clears (R299). -/
structure Perm where
  readOnly : Bool
  deriving DecidableEq, Repr

/-- Factory and per-drive data, which nothing changes. -/
structure Factory where
  serial : Long
  mac0 : BitVec 48
  mac1 : BitVec 48
  variantX : Bool
  importId : Word
  /-- Discharge efficiency in 1/1,000 (HUP_EFF.DIS). -/
  eta : Nat
  /-- Blocks bad at shipment, of physical die p of channel c at place 17c + p (R306). -/
  bad : List Nat
  deriving DecidableEq, Repr

/-- The clocks of R27: the crystal and the AON PLL, and the fast clocks of the 100 MHz reference. -/
inductive ClkId where
  | crystal | aon | core | dram
  | serdes (n : Nat)
  | mediaIo (k : Nat)
  deriving DecidableEq, Repr

/-- The states of a power domain (R21). -/
inductive PdState where
  | off | retain | draining | on
  deriving DecidableEq, Repr

/-- One power domain (R399). -/
structure Pd where
  st : PdState
  /-- PENDING_ON. -/
  pend : Bool
  /-- An enable waits for a needed domain, for 12 V or for the reference. -/
  want : Bool
  /-- A disable is held until R23 allows it. -/
  held : Bool
  /-- Where a shutdown goes: OFF or RETAIN. -/
  target : PdState
  deriving DecidableEq, Repr

/-- The power states of R394, with Fawn entry and waking (NRG_STAT.PSTATE). -/
inductive PState where
  | off | active | idle | fawnEntry | fawn | waking
  deriving DecidableEq, Repr

/-- Supplies, straps, clocks, resets and start-up (R21 to R37, R391 to R402, R493). -/
structure Pwr where
  pds : List Pd
  /-- The clocks that run and are locked (R27, R28), each once. -/
  clks : List ClkId
  /-- 3.3 V aux good. -/
  aux : Bool
  /-- 12 V good under R391. -/
  v12 : Bool
  /-- The 100 MHz reference is present and in range. -/
  refOk : Bool
  /-- LEAD and SEG_START as latched (R493). -/
  lead : Bool
  seg : Bool
  /-- Present pin levels of LEAD, SEG_START and RESET_N (R506; RESET_N true is high). -/
  leadPin : Bool
  segPin : Bool
  resetPin : Bool
  /-- Chain-ready, or the point of R35. -/
  chainReady : Bool
  /-- 12 V became good before chain-ready: the 12 V half waits (R34). -/
  v12Waits : Bool
  /-- Firmware runs on CL0 (R34). -/
  fw : Bool
  /-- The index is loaded: read-ready. -/
  readReady : Bool
  ps : PState
  /-- The step of Fawn entry (R396), 1 to 4; 0 outside it. -/
  fawnStep : Nat
  /-- RESET_N holds the domains in reset (R492). -/
  resetHold : Bool
  /-- A replay from the DRAM journal is due before any new command (R30). -/
  warm : Bool
  /-- The operating time T_L written at the last loss or reset (R391). -/
  tl : Nat
  /-- The operating time from which BYTE_MS grows again: T_L, or the power-on reset after it (R529). -/
  growAt : Nat
  /-- The wake source recorded for the wake in progress (R398). -/
  wakeSrc : Nat
  deriving DecidableEq, Repr

/-- The energy ledger (R381 to R392). Energies in nJ, powers in µW (nJ per ms). -/
structure Nrg where
  /-- The grants in 0.1 W; 0 none (R386). -/
  chainGrant : Nat
  i3cGrant : Nat
  /-- The credit balance (R388). -/
  credit : Int
  /-- What the limit of each plant loop still lets its domains draw, in nJ (R390). -/
  room : List Int
  /-- Energy debited since the last estimate of P_S. -/
  window : Nat
  /-- P_S. -/
  static : Nat
  /-- NRG_STAT.WRITE_READY. -/
  writeReady : Bool
  /-- The causes of write-through that stand, the most recent first (R392). -/
  causes : List Nat
  /-- Write-through is demanded. -/
  demand : Bool
  /-- INT_STAT.SUPPLY_LOSS is due at the next start (R391). -/
  lossDue : Bool
  deriving DecidableEq, Repr

/-- The pack test (R378). -/
inductive PackTest where
  | none
  /-- Due, waiting for the demand to end. -/
  | due
  /-- Running; the reserve before it, in mJ. -/
  | running (r : Nat)
  deriving DecidableEq, Repr

/-- The hold-up pack and its bay (R377 to R380, R393, R499 to R501). -/
structure Pack where
  /-- A pack is in the bay. -/
  det : Bool
  /-- The bay latch is closed. -/
  latched : Bool
  /-- The isolation switch is closed. -/
  closed : Bool
  /-- The identity record of the pack in the bay is valid (R499, R500), and the serial number it holds. -/
  recOk : Bool
  baySerial : Nat
  /-- The serial number last read (HUP_PACK_SERIAL). -/
  serial : Nat
  /-- C in mF, ESR in mΩ. -/
  capMf : Nat
  esr : Nat
  measured : Bool
  worn : Bool
  /-- Fault causes that have arisen since the pack was fitted, first first (R380). -/
  faults : List Nat
  /-- The condition of cause 4 stands. -/
  hot : Bool
  /-- V in mV. -/
  mv : Nat
  /-- R has been measured since HOLDUP came ON. -/
  seen : Bool
  test : PackTest
  /-- A test is owed when V first reaches 8.0 V. -/
  test8 : Bool
  /-- HUP_STAT.SWAP. -/
  swap : Nat
  /-- A pack was fitted while SWAP was 2, and the switch has not closed since. -/
  refit : Bool
  /-- HUP_PACK_MS and HUP_LOSSES. -/
  ms : Nat
  losses : Nat
  deriving DecidableEq, Repr

/-! ### Event recorder -/

/-- One event on its way to the NOR (R435, R437). -/
structure RecEvent where
  code : Nat
  sub : Nat
  pcycle : Nat
  optime : Nat
  p0 : Nat
  p1 : Nat
  p2 : Nat
  p3 : Nat
  deriving DecidableEq, Repr

/-- A written NOR slot: a record, or the bytes a failed program left (R436). -/
inductive NorSlot where
  | good (e : RecEvent)
  | bad (bytes : List Byte)
  deriving DecidableEq, Repr

/-- A token bucket: tokens in 1/60,000, and the operating time they were last settled at (R443). -/
structure Bucket where
  tok : Nat
  at_ : Nat
  deriving DecidableEq, Repr

/-- Pending drops of one code (R444). -/
structure Drop where
  code : Nat
  count : Nat
  first : Nat
  last : Nat
  /-- Reason bits 16 to 18, as bits 0 to 2. -/
  reasons : Nat
  deriving DecidableEq, Repr

/-- A live challenge (R452). -/
structure Challenge where
  path : Path
  bytes : List Byte
  count : Nat
  pcycle : Nat
  /-- The operating time at which it was drawn. -/
  born : Nat
  deriving DecidableEq, Repr

/-- The event recorder (R435 to R457). -/
structure Recorder where
  /-- The written slots, slot 0 first. -/
  nor : List NorSlot
  queue : List RecEvent
  /-- The record being programmed, and its failures so far. -/
  staging : Option (RecEvent × Nat)
  /-- Buckets that are not full, by code. -/
  buckets : List (Nat × Bucket)
  /-- DEPTH and RATE of the codes whose settings are not the reset values (AON parameter store). -/
  limits : List (Nat × Nat × Nat)
  /-- Host-record buckets of the three paths. -/
  hostBuckets : List Bucket
  drops : List Drop
  /-- The millisecond of the newest queue entry and the SUB the next one of it takes; none before the first. -/
  lastMs : Option (Nat × Nat)
  frozen : Bool
  freezing : Bool
  freezePath : Nat
  /-- The operating time from which TIMEOUT_S of the freeze runs (R450). -/
  frozenAt : Nat
  clearing : Bool
  full : Bool
  norFault : Bool
  scanDone : Bool
  /-- NEAR_FULL was written since the last clear. -/
  nearDone : Bool
  fullDrops : Nat
  /-- PARAM0 to PARAM3 of the coming CLEARED record (R454). -/
  mark : Option (Nat × Nat × Nat × Nat)
  /-- The CLEARED record of a mark found at power-up, with the time at which RECORD powered up (R454). -/
  cleared : Option RecEvent
  chal : Option Challenge
  deriving DecidableEq, Repr

/-! ### Chain -/

/-- The role a drive plays on the chain (CHN_STAT.ROLE). -/
inductive Role where
  | kid | addressed | lead | claiming
  deriving DecidableEq, Repr

/-- What a waiting frame of the drive's own came from. -/
inductive TxSrc where
  | own
  | window (p : Path)
  deriving DecidableEq, Repr

/-- A request the drive has sent over the chain (R430). -/
structure ChnReq where
  path : Path
  rid : BitVec 4
  dst : Half
  op : Nat
  count : Nat
  deriving DecidableEq, Repr

/-- The Skatik chain interface (R406 to R434). -/
structure Chn where
  lock : Bool
  active : Bool
  role : Role
  addr : Option (BitVec 14)
  /-- (HERD_ID, shelf, slot) of the AON parameter store (R416). -/
  stored : Option (Long × Nat × Nat)
  epochHw : Nat
  slotted : Bool
  herdLost : Bool
  overflow : Bool
  /-- The last TICK seen since CHN_ACTIVE went high: HERD_ID, EPOCH and its operating time. -/
  lastTick : Option (Long × Nat × Nat)
  /-- The operating time from which TICK_LOSS_MS runs. -/
  tickFrom : Nat
  /-- The operating time at which this candidate last gave way to a lower CLAIM (R414). -/
  gaveWay : Option Nat
  /-- The Lead Doe's herd identity and epoch. -/
  herd : Long
  epoch : Nat
  /-- Enumeration number, whether an ENUM is out, whether one is asked for, whether it renumbers, when the last began. -/
  round : Nat
  enumOut : Bool
  enumAsked : Bool
  renumber : Bool
  enumAt : Option Nat
  /-- Own frames waiting for a slot, oldest first, and how many are on the ring (R412). -/
  txq : List (Frame × TxSrc)
  onRing : Nat
  /-- Operating time of the last alarm sent, by code (R425). -/
  alarms : List (Nat × Nat)
  nextRid : BitVec 4
  reqs : List ChnReq
  deriving DecidableEq, Repr

/-! ### Network ports -/

/-- What a transmitted frame carries. -/
inductive TxBody where
  /-- A transport datagram: source and destination address, source and destination port, the bytes of header and body. -/
  | dgram (ipv6 : Bool) (src ip : BitVec 128) (sport udp : Nat) (bytes : List Byte)
  /-- An ARP reply, to the station that asked, and a gratuitous ARP. -/
  | arpReply (ip : Word) (toMac : BitVec 48) (toIp : Word)
  | garp (ip : Word)
  /-- A Neighbor Solicitation of DAD, and an advertisement to address `ip`. -/
  | ns (target : BitVec 128)
  | na (ip target : BitVec 128) (solicited : Bool)
  | echoReply (ipv6 : Bool) (src ip : BitVec 128) (ident seqNo : Half) (payload : List Byte)
  | pfc (vec : Nat) (times : List Nat)
  deriving DecidableEq, Repr

/-- A frame queued for transmit: priority, destination, tag and contents, length with FCS (R71, R84). -/
structure TxFrame where
  prio : Nat
  dst : BitVec 48
  tag : Option Tci
  body : TxBody
  len : Nat
  deriving DecidableEq, Repr

/-- A receive descriptor (R75). -/
structure Desc where
  /-- Held by the port; a descriptor handed to its consumer has OWN 0. -/
  own : Bool
  bufAddr : Nat
  tci : Option Tci
  len : Nat
  sof : Bool
  eof : Bool
  discard : Bool
  prio : Nat
  group : Bool
  dest : Nat
  err : Nat
  frameLen : Nat
  frameNo : Nat
  deriving DecidableEq, Repr

/-- An entry of the diagnostic queue (R85, R101). -/
structure Diag where
  flags : Nat
  len : Nat
  bytes : List Byte
  deriving DecidableEq, Repr

/-- One Ethernet port (R62 to R101): what its registers do not hold. -/
structure Port where
  /-- The PHY being trained, as its ADV bit number 0 to 2, and its failed attempts in a row (R64). -/
  phy : Option Nat
  training : Bool
  tries : Nat
  /-- Buffers handed to consumers and not yet released, per ring, oldest first. -/
  rings : List (List Desc)
  frameNo : List Nat
  /-- Pause timers running, priority and quanta (R78). -/
  pauses : List (Nat × Nat)
  txq : List TxFrame
  /-- A preempted frame and its bytes already sent; whether it is held by a pause (R79, R82). -/
  suspended : Option (TxFrame × Nat)
  diag : List Diag
  icmp : Bucket
  /-- A configuration save in progress: the values latched. -/
  saving : Option FMap
  deriving DecidableEq, Repr

/-! ### Transport -/

/-- States of a flow slot that is not FREE (R117). -/
inductive FlowState where
  | open_ | closing | tomb
  deriving DecidableEq, Repr

/-- One unit of a host payload, as its receiver sees it (R129). -/
structure RxUnit where
  idx : Nat
  /-- Received with a good CRC. -/
  good : Bool
  /-- Its journal copy is confirmed by the fabric (R126). -/
  conf : Bool
  /-- Highest attempt seen, whether that attempt failed its CRC, and the attempt last reported NACK. -/
  att : Nat
  bad : Bool
  nacked : Nat
  /-- Missing for REORDER_US. -/
  missing : Bool
  deriving DecidableEq, Repr

/-- A command of a flow that has not finished (R121). -/
structure FlowCmd where
  seq : Word
  tag : Word
  op : Op
  /-- Delivered to the command layer, and whether it passed every step of R157. -/
  passed : Bool
  /-- The namespace it names, if one. -/
  ns : Option Nat
  /-- Its journal record (RSN), if it has one. -/
  rsn : Option Nat
  /-- Blocks of its payload, the grant, its units, bitmaps sent, blocks since the last one. -/
  blocks : Nat
  grantEnd : Nat
  units : List RxUnit
  bmapNo : Nat
  sinceBmap : Nat
  /-- The end of the grant when the last frame with REQ came: it asks for the units before that. -/
  reqTo : Nat
  /-- A bitmap is due for a frame with REQ (R129). -/
  reqDue : Bool
  /-- The RSP's sequence number once it is sent. -/
  rsp : Option Word
  deriving DecidableEq, Repr

/-- A block or TRAIL of a drive message (R119, R132). -/
structure TxUnit where
  idx : Nat
  bytes : List Byte
  crc : Word
  trail : Bool
  /-- Attempts made; 0 while it waits for the host's window. -/
  att : Nat
  acked : Bool
  /-- Its latest attempt was reported NACK. -/
  nacked : Bool
  deriving DecidableEq, Repr

/-- A sequenced message of the drive that is not yet complete (R132): an RSP or a NOTICE. -/
structure DMsg where
  seq : Word
  /-- TYPE: 0x11 or 0x12. -/
  ty : Nat
  body : List Byte
  att : Nat
  /-- The command it answers. -/
  cmdSeq : Word
  units : List TxUnit
  /-- Every unit the message will have is listed. -/
  whole : Bool
  /-- Highest BMAP_NO seen. -/
  bmapNo : Nat
  deriving DecidableEq, Repr

/-- A sequenced header of the host beyond a gap: a CMD, or a CLOSE, which has no command; and the bitmaps sent for it
(R119, R127). -/
structure GapMsg where
  seq : Word
  cmd : Option (Op × Cmd × Arb)
  bmapNo : Nat
  deriving DecidableEq, Repr

/-- A flow slot that is not FREE (R108 to R121). -/
structure Flow where
  slot : Nat
  inc : Nat
  st : FlowState
  tenant : BitVec 12
  nonce : Long
  ipv6 : Bool
  ip : BitVec 128
  udp : Half
  /-- Where and how the last accepted datagram arrived (R71, R89, R112). -/
  arr : Arrival
  qos : Nat
  mtu : Nat
  /-- T. -/
  target : Nat
  isnHost : Word
  isnDrive : Word
  /-- RTO_US and IDLE_S of its OPEN_ACK. -/
  rto : Nat
  idleS : Nat
  rxNext : Word
  limit : Word
  /-- Headers beyond a gap. -/
  gap : List GapMsg
  cmds : List FlowCmd
  closeSeq : Option Word
  txNext : Word
  txAcked : Word
  /-- The host's receive window in blocks. -/
  credit : Nat
  msgs : List DMsg
  /-- Subscribed pages (R196), and the NOTICEs that wait for room, (page, INT_STAT), oldest first (R60, R137). -/
  subs : List Nat
  notices : List (Nat × Word)
  resends : Nat
  /-- Operating time of the last accepted datagram. -/
  lastRx : Nat
  /-- A header was received or LIMIT advanced since the drive last sent its ACK and LIMIT. -/
  ackDue : Bool
  /-- It was closed by CLOSE (a TOMB answers its CLOSE again). -/
  closed : Bool
  deriving DecidableEq, Repr

/-- Answers counted within one second of operating time (R115, R138). -/
structure Rate where
  sec : Nat
  count : Nat
  deriving DecidableEq, Repr

/-- The transport engine (R103 to R146). -/
structure Xpt where
  flows : List Flow
  /-- Incarnation of every slot when XPORT came ON, and the slots freed since then with theirs (R108). -/
  incBase : Nat
  incs : List (Nat × Nat)
  /-- Flows below T, in the order they first fell short (R120). -/
  waiters : List Nat
  resets : List Rate
  probes : List Rate
  saving : Option FMap
  deriving DecidableEq, Repr

/-! ### Policy match -/

/-- One entry of a match segment, or of its shadow (R200). -/
structure Entry where
  idx : Nat
  value : BitVec 320
  mask : BitVec 320
  prio : BitVec 12
  valid : Bool
  row : Long
  deriving DecidableEq, Repr

/-- Accounting counters of one ID (R211). -/
structure Acct where
  id : Nat
  hits : Nat
  ops : Nat
  bytes : Nat
  deriving DecidableEq, Repr

/-- What the policy search of a command answered (R201 to R209). -/
structure Verdict where
  allow : Bool
  pin : Bool
  qos : Nat
  slot : Nat
  quotaId : Nat
  quotaSelf : Bool
  /-- Accounting IDs counted, each once. -/
  ids : List Nat
  table : Nat
  index : Nat
  deriving DecidableEq, Repr

/-- A command that waits: for a segment that rebuilds (R219), under ORDERED before its snapshot point (R163), or at
acceptance for a record pair (R312). `v` is its policy decision, once it is made; `arb` what its register access meets
at the fabric. -/
structure HeldCmd where
  slot : Nat
  inc : Nat
  op : Op
  cmd : Cmd
  arb : Arb
  v : Option Verdict
  /-- What it reserves while it is held at acceptance: the slot, and its segments (R235). -/
  rsv : Nat × Nat
  deriving DecidableEq, Repr

/-- An OPEN held while a segment rebuilds (R219), with the slot and sequence number its answer will take. -/
structure HeldOpen where
  arr : Arrival
  hdr : Hdr
  version : Byte
  body : List Byte
  slot : Nat
  isn : Word
  deriving DecidableEq, Repr

/-- The policy match engine (R198 to R226). -/
structure Mch where
  /-- The four segments, and their shadows in DRAM; an entry never written is not listed. -/
  segs : List (List Entry)
  shadows : List (List Entry)
  /-- Entries whose shadow line is bad and that software has not written again, (segment, entry) (R217). -/
  badShadow : List (Nat × Nat)
  /-- Shadow lines in which the DRAM patrol has found an uncorrectable error and which the scrubber has not reached (R226). -/
  shadowUe : List (Nat × Nat)
  /-- Saved tables, MCH_ENG_CTL and MCH_CLASS_MAP (R218). -/
  saved : Option (List (List Entry) × Word × Word)
  saving : Option (List (List Entry) × Word × Word)
  /-- Segments rebuilding. -/
  rebuilding : List Nat
  acct : List Acct
  /-- Junction temperatures, the step, and since when the sensors allow a higher rate (R220). -/
  temps : List Nat
  step : Nat
  coolSince : Option Nat
  /-- Commands and OPENs held while a segment rebuilds, oldest first (R219). -/
  heldCmds : List HeldCmd
  heldOpens : List HeldOpen
  /-- Diagnostic searches held likewise: the path, and whether it is a NEXT. -/
  heldDiag : List (Path × Bool)
  deriving DecidableEq, Repr

/-! ### Cipher engine -/

/-- Slot states (R237). -/
inductive SlotState where
  | empty | loaded | exhausted | rekeyWait
  deriving DecidableEq, Repr

/-- A load that waits under R239: the new key, its owner, the blob's BLOB_ID (R242) and who is answered when it comes into
force. -/
structure KeyWait where
  key : List Byte
  owner : BitVec 12
  blob : Long
  /-- The journal record of the KEY_LOAD; none for a direct slot or a store rekey. -/
  rsn : Option Nat
  /-- Its commit position. -/
  csn : Nat
  deriving DecidableEq, Repr

/-- One key slot (R227, R229). Slots in their factory or reset record are not listed. -/
structure KeySlot where
  num : Nat
  st : SlotState
  owner : BitVec 12
  gen : Nat
  ctr : Nat
  ceil : Nat
  /-- Generations held, newest first, with their key bytes. -/
  gens : List (Nat × List Byte)
  waits : List KeyWait
  /-- SLOT_NEAR was raised within this generation (R235). -/
  nearDone : Bool
  /-- BLOB_ID of the load in force (R242). -/
  blob : Long
  deriving DecidableEq, Repr

/-- The persistent key-store image's record of a tenant or store slot (R228, R234). -/
structure KeyImage where
  num : Nat
  st : SlotState
  owner : BitVec 12
  gen : Nat
  ceil : Nat
  gens : List (Nat × List Byte)
  /-- CTR_HW, and the exact CTR saved when CIPHER went through DRAINING. -/
  ctrHw : Nat
  exact : Option Nat
  /-- Commit position of the last load applied to the slot (R243). -/
  commit : Nat
  /-- SLOT_NEAR was raised within this generation; BLOB_ID. -/
  near : Bool
  blob : Long
  deriving DecidableEq, Repr

/-- Modes of a request (R246). -/
inductive CphOp where
  | gcmEnc | gcmDec | xtsEnc | xtsDec | cmacGen | cmacVerify
  | undefined_ (code : Nat)
  deriving DecidableEq, Repr

/-- What a request's output is for. -/
inductive CphUse where
  /-- Segment `seg` of the drain of record `rsn`. -/
  | drain (rsn : Nat) (seg : Nat)
  /-- Segment `seg` of read job `job`. -/
  | read (job : Nat) (seg : Nat)
  /-- The old segment of a PUT_RANGE drain. -/
  | merge (rsn : Nat) (seg : Nat)
  /-- Page `id` on its way to flash, and index page `num` read from its copy `id`. -/
  | page (id : Nat)
  | load (num id : Nat)
  /-- An authorisation tag of the chain or the recorder, whose answer is waited for. -/
  | auth
  /-- The register window of a path (R258). -/
  | window (p : Path)
  deriving DecidableEq, Repr

/-- A request in a queue, set aside or running (R246). -/
structure CphReq where
  id : Nat
  queue : Nat
  op : CphOp
  slot : Nat
  len : Nat
  gen : Nat
  rsv : Bool
  release : Bool
  iv : Nat
  tag : List Byte
  aad : List Byte
  src : List Byte
  use : CphUse
  /-- Enqueued before an erase of its slot (R247 step 4). -/
  stale : Bool
  /-- It has waited for a release slot (R253). -/
  waited : Bool
  /-- GEN bound and CTR taken at dequeue. -/
  bound : Nat
  ctr : Nat
  /-- It was enqueued before: its reservation is used. -/
  again : Bool
  /-- The unit that failed its check last, and how often in a row (R17). -/
  fails : Option (Nat × Nat)
  deriving DecidableEq, Repr

/-- A segment in the release buffer (R253). -/
structure RelSlot where
  job : Nat
  seg : Nat
  units : List (List Byte × Word)
  verified : Bool
  /-- Its tag failed once and the re-read is due (R254). -/
  held : Bool
  /-- Released to XPT, waiting for the copies to be confirmed. -/
  released : Bool
  deriving DecidableEq, Repr

/-- The cipher engine (R227 to R265). -/
structure Cph where
  slots : List KeySlot
  image : List KeyImage
  /-- The thirty-two queues, oldest request first. -/
  queues : List (List CphReq)
  /-- Requests set aside under R239, in dequeue order. -/
  aside : List CphReq
  running : List CphReq
  nextId : Nat
  release : List RelSlot
  /-- Requests started of each bulk queue in this round (R245). -/
  served : List Nat
  /-- The completion record written last (R248). -/
  lastDone : List Word
  deriving DecidableEq, Repr

/-! ### Namespaces, values and reads -/

/-- A stored unit and the CRC it carries (R16). -/
abbrev GUnit := List Byte × Word

/-- Where a run of a value's bytes comes from: punched, a byte of a record's payload onward, a byte of a segment on flash
onward, or, for a read in progress, a byte of units copied from the journal onward. -/
inductive Src where
  | hole
  | pay (rsn off : Nat)
  | seg (id off : Nat)
  | lit (units : List GUnit) (off : Nat)
  deriving DecidableEq, Repr

/-- A run of bytes within one stored unit, from byte `off` of it, or of zeros (R19). -/
structure Frag where
  len : Nat
  unit : Option GUnit
  off : Nat
  deriving DecidableEq, Repr

/-- A run of value bytes. A value is its pieces one after another, over whole units: the padding of its last unit is part
of them (R123). -/
structure Piece where
  len : Nat
  src : Src
  deriving DecidableEq, Repr

/-- A key's current version, as its leaf entry holds it (R278). -/
structure KeyRec where
  key : List Byte
  version : Nat
  len : Nat
  opq : Long
  slot : Nat
  /-- The slot was erased since the version committed (R240). -/
  revoked : Bool
  /-- The quota it is charged to (R182). -/
  quota : Nat
  /-- The record that wrote the version. -/
  rsn : Nat
  pieces : List Piece
  /-- Segments marked unreadable (R284). -/
  bad : List Nat
  deriving DecidableEq, Repr

/-- A namespace (R147, R190). -/
structure Ns where
  id : Nat
  owner : BitVec 12
  limit : Nat
  defSlot : Nat
  /-- In ascending key order (R148). -/
  keys : List KeyRec
  /-- The last version issued, and the version below which none is issued any more (R150). -/
  version : Nat
  skip : Nat
  /-- BYTE_MS at operating time `byteAt`. -/
  byteMs : Nat
  byteAt : Nat
  writeOps : Nat
  writeBytes : Nat
  deriving DecidableEq, Repr

/-- The counters of a namespace that no checkpoint and no record carries: they outlive every loss (R191). -/
structure NsUse where
  id : Nat
  readOps : Nat
  readBytes : Nat
  readRefused : Nat
  writeRefused : Nat
  deriving DecidableEq, Repr

/-- What the drive keeps of an ID for good: the last version issued under it, VER_RES, and the version at which it goes on
after lost records (R150). -/
structure VerRes where
  id : Nat
  last : Nat
  res : Nat
  skip : Nat
  deriving DecidableEq, Repr

/-- A segment of GCM ciphertext on flash with its tail (R250 to R252), or one on its way there. -/
structure Seg where
  id : Nat
  ns : Nat
  slot : Nat
  gen : Nat
  ctr : Nat
  ver : Nat
  index : Nat
  units : Nat
  ct : List Byte
  tag : List Byte
  /-- The media CRCs of its 4 KiB of ciphertext each, and of what is left (R16). -/
  mcrc : List Word
  /-- Band, stripe and byte offset within the stripe's data; none until it is programmed. -/
  loc : Option (Nat × Nat × Nat)
  deriving DecidableEq, Repr

/-- What lies on flash: a value segment, or a copy of a page. -/
inductive Obj where
  | seg (id : Nat)
  | page (id : Nat)
  deriving DecidableEq, Repr

/-- The four streams (R275). -/
inductive MStream where
  | host | gc | wl | pages
  deriving DecidableEq, Repr

/-- A unit of a media read: the rung it is at, or its end (R281). -/
inductive UnitRd where
  | rung (r : Nat)
  | good
  | bad
  deriving DecidableEq, Repr

/-- What a media read is for. -/
inductive RdUse where
  | job (job : Nat) (seg : Nat)
  /-- The old contents of segment `seg` that record `rsn` rewrites (R252). -/
  | merge (rsn : Nat) (seg : Nat)
  /-- Spill segment `seg` of record `rsn` (R316). -/
  | spill (rsn : Nat) (seg : Nat)
  /-- Its move out of band `src` into a stream (R289). -/
  | move (src : Nat) (s : MStream)
  /-- Index page `num` is loaded from the copy read (R279). -/
  | load (num : Nat)
  deriving DecidableEq, Repr

/-- The media read of one object, from where it lay when the read began (R289). -/
structure Rd where
  id : Nat
  use : RdUse
  obj : Obj
  loc : Nat × Nat × Nat
  units : List UnitRd
  /-- It is the one re-read of R283. -/
  second : Bool
  deriving DecidableEq, Repr

/-- One segment of a read in progress. -/
structure JobSeg where
  index : Nat
  /-- Bytes of the response this segment gives, as pieces; padding of the last unit behind them. -/
  pieces : List Piece
  /-- Flash segments its pieces name that are still to be read and decrypted, and the plaintext of those that are. -/
  need : List Nat
  have_ : List (Nat × List GUnit)
  /-- The status the response ends with at this segment; 0 none. -/
  fault : Nat
  deriving DecidableEq, Repr

/-- A GET or GET_RANGE whose response blocks are not all sent (R174, R253). -/
structure Job where
  id : Nat
  slot : Nat
  inc : Nat
  cmdSeq : Word
  op : Op
  ns : Nat
  version : Nat
  keySlot : Nat
  opq : Long
  /-- Value length, and number of bytes of the response. -/
  total : Nat
  len : Nat
  qos : Nat
  pin : Bool
  /-- The segments not yet released, first first. -/
  segs : List JobSeg
  /-- Response bytes of released segments that do not fill a block yet, and blocks sent. -/
  tail : List Frag
  done : Nat
  rspSent : Bool
  /-- The message of its RSP. -/
  seq : Word
  /-- Accounting IDs of its policy decision (R211). -/
  ids : List Nat
  deriving DecidableEq, Repr

/-- A FLUSH that waits for its records (R186). -/
structure FlushWait where
  slot : Nat
  inc : Nat
  cmdSeq : Word
  rsns : List Nat
  res0 : Nat
  res1 : Nat
  ids : List Nat
  deriving DecidableEq, Repr

/-! ### Intake journal -/

/-- STATE of a record (R309). -/
inductive RecState where
  | accepted | committed | ended | drained
  deriving DecidableEq, Repr

/-- One allocated unit slot of a record: payload block index, contents once a copy is confirmed (R310, R314). -/
structure USlot where
  num : Nat
  unit : Nat
  data : Option GUnit
  deriving DecidableEq, Repr

/-- One segment of a record's drain. -/
structure DrainSeg where
  index : Nat
  /-- Segments on flash whose bytes it takes and that are still to be read, and what those that are gave: none where
  they cannot be read (R285). -/
  need : List Nat
  have_ : List (Nat × Option (List GUnit))
  /-- Its encryption is asked for; the final segment once it is encrypted; done: on flash, or nothing to write. -/
  asked : Bool
  id : Option Nat
  done : Bool
  /-- A unit was abandoned on this pass: the segment waits for the next one (R17). -/
  gone : Bool
  deriving DecidableEq, Repr

/-- A record pair in use (R309), with what the extent list and the unit tags hold for it. -/
structure JRec where
  pair : Nat
  rsn : Nat
  st : RecState
  spill : Bool
  wt : Bool
  replayed : Bool
  settled : Bool
  finished : Bool
  flow : Word
  /-- The flow slot and incarnation it arrived on. -/
  slot : Nat
  inc : Nat
  tag : Word
  cmdSeq : Word
  op : Op
  cflags : Half
  payload : Nat
  opq : Long
  tenant : BitVec 12
  keySlot : Nat
  quota : Nat
  qos : Nat
  body : List Byte
  csn : Nat
  version : Nat
  status : Nat
  pcycle : Nat
  optime : Nat
  rsvLeft : Nat
  commitMs : Nat
  /-- Growth counted at step 9 until the commit (R182). -/
  growth : Nat
  ordered : Bool
  /-- Accounting IDs of its policy decision (R211). -/
  ids : List Nat
  units : List USlot
  /-- The extent-list slot, if one is allocated. -/
  xlist : Option Nat
  /-- Spill segments: run index, segment id, on flash. -/
  spills : List (Nat × Nat × Bool)
  drain : Option (List DrainSeg)
  /-- The pieces of the value its commit leaves, for a command that writes one. -/
  vmap : List Piece
  /-- A write-through commit's record page and commit page are on flash; its effect has taken place (R339). -/
  pageDone : Bool
  commitPage : Bool
  effect : Bool
  /-- The slot was erased after the commit: its payload is zeroed (R240). -/
  erased : Bool
  /-- Recipient of RES0, RES1 and details of the RSP: counted at the commit. -/
  res0 : Nat
  /-- A REPLAY entry that must exist has been written (R320). -/
  reported : Bool
  /-- For a KEY_LOAD, the new key is in force, or for a KEY_ERASE, the image is written. -/
  keyDone : Bool
  /-- Its place among the records of which the whole payload has come; 0 before that (R163). -/
  full : Nat
  /-- The deciding row is pin-hot (R202). -/
  pin : Bool
  /-- Units abandoned by drain passes in a row, with how many (R17). -/
  passes : List (Nat × Nat)
  deriving DecidableEq, Repr

/-- A replay report entry (R332), with the operating time it was written and its sequence. -/
structure Entry48 where
  flow : Word
  tag : Word
  cmdSeq : Word
  op : Nat
  status : Nat
  final : Nat
  ns : Nat
  version : Nat
  opq : Long
  pcycle : Nat
  tenant : BitVec 12
  wrote : Nat
  deriving DecidableEq, Repr

/-- An index page of a namespace's tree (R278): a leaf with its entries as last written, or an interior page with the
pages below it; and whether DRAM holds it (R277). -/
structure IdxPage where
  num : Nat
  ns : Nat
  leaf : Bool
  keys : List KeyRec
  below : List Nat
  here : Bool
  deriving DecidableEq, Repr

/-- A checkpoint (R279): the trees with their pages, the usage counters and the commit position it covers. -/
structure Ckpt where
  csn : Nat
  optime : Nat
  nss : List Ns
  idx : List IdxPage
  deriving DecidableEq, Repr

/-- A checkpoint that is being written, and the page copies that must be on flash before it stands. -/
structure CkptOpen where
  ckpt : Ckpt
  wait : List Nat
  deriving DecidableEq, Repr

/-- What a power-loss flush or a preserved DRAM leaves for replay. -/
structure Image where
  recs : List JRec
  report : List Entry48
  sealed : Bool
  /-- The CSNs lost behind the first page that does not read back good, lowest and highest; the count. -/
  lost : Option (Nat × Nat × Nat)
  /-- Nothing of the flush reads back good. -/
  blank : Bool
  deriving DecidableEq, Repr

/-- A power-loss flush in progress. -/
structure Flush where
  /-- Operating time it began. -/
  at_ : Nat
  /-- 12 V returned during it (R326). -/
  returned : Bool
  /-- JRN has made the time-0 steps of R322: FABRIC and CL0 were ON (R526). -/
  begun : Bool
  /-- Reserve in mJ when it began. -/
  mj : Nat
  deriving DecidableEq, Repr

/-- The intake journal (R308 to R344): what its registers do not hold. -/
structure Jrn where
  recs : List JRec
  rsnNext : Nat
  csnLast : Nat
  /-- Unit slots in use. -/
  report : List Entry48
  /-- The newer checkpoint, the older one, and the one that is being written. -/
  ckpt : Ckpt
  ckptOld : Ckpt
  ckptOpen : Option CkptOpen
  flush : Option Flush
  /-- The flushed image, or DRAM in self-refresh, that the next replay reads. -/
  image : Option Image
  /-- The image is in DRAM. -/
  fromDram : Bool
  /-- Replay counted lost records and the version counters restart at VER_RES. -/
  lostAny : Bool
  /-- Replay start. -/
  replayAt : Nat
  /-- CSN range of the open exposure page (R341). -/
  exposed : Option (Nat × Nat)
  heldAccept : List HeldCmd
  /-- Commands waiting under ORDERED before their snapshot point. -/
  heldOrd : List HeldCmd
  flushes : List FlushWait
  /-- The place of the record completed last (R163). -/
  fullNext : Nat
  /-- Drains of each QoS class begun in this round (R318). -/
  served : List Nat
  deriving DecidableEq, Repr

/-! ### Media store -/

/-- States of a physical die (R294). -/
inductive DieState where
  | active | spare | rebuild | failing | failed
  deriving DecidableEq, Repr

/-- A physical die that differs from its factory record. -/
structure Die where
  ch : Nat
  p : Nat
  st : DieState
  /-- Position served; 16 an unused spare, 31 none. -/
  pos : Nat
  /-- P/E counts of its blocks that have been erased. -/
  pe : List (Nat × Nat)
  retired : List Nat
  /-- Blocks erased and not programmed since. -/
  clean : List Nat
  corr : Nat
  recon : Nat
  /-- Reconstructions that hit a block since its erase (R286). -/
  hits : List (Nat × Nat)
  /-- The shifts, in mantissas of threshold DAC steps, that its last read used: one for each read of the rung (R281, R348). -/
  shifts : List Int
  /-- Static wear levelling runs for the die (R291). -/
  levelling : Bool
  deriving DecidableEq, Repr

/-- States of a band that is in use. -/
inductive BandState where
  | opening | open_ | closed | moving | erasing
  /-- A band of the system area that holds a power-loss flush (R323). -/
  | flush
  deriving DecidableEq, Repr

/-- A band in use (R269). -/
structure Band where
  id : Nat
  group : Nat
  stream : MStream
  st : BandState
  /-- Channel, physical die and block of each die block. -/
  blocks : List (Nat × Nat × Nat)
  /-- Channels whose erase is not done. -/
  left : List Nat
  /-- Stripes programmed and confirmed. -/
  stripes : Nat
  /-- Order of closing. -/
  closedNo : Nat
  /-- Queued for reclaim: 0 not, 1 by rung, 2 by READ_LIMIT or a program failure (first). -/
  queued : Nat
  /-- Blocks to retire once the valid data has moved: channel, physical die and block. -/
  retireAfter : List (Nat × Nat × Nat)
  /-- Rebuilt onto the spare, while its group rebuilds. -/
  rebuilt : Bool
  deriving DecidableEq, Repr

/-- What waits to be programmed in a stream: a new object, or a live one moved out of band `src`. -/
inductive Item where
  | new (o : Obj)
  | move (o : Obj) (src : Nat)
  deriving DecidableEq, Repr

/-- What a page holds: a copy of index page `num`, the record of a write-through command, a commit page with the highest
CSN it holds (R257, R339). -/
inductive PageKind where
  | index (num : Nat)
  | record (rsn : Nat)
  | commit (csn : Nat)
  deriving DecidableEq, Repr

/-- A page on flash, or on its way there: its data-unit number, the engine that writes it, which copy it is, the store
generation and the ciphertext (R257). -/
structure Page where
  id : Nat
  k : Nat
  kind : PageKind
  copy : Nat
  gen : Nat
  ct : List Byte
  loc : Option (Nat × Nat × Nat)
  deriving DecidableEq, Repr

/-- A rebuild or a position move of a group (R294 to R296). -/
structure Rebuild where
  group : Nat
  ch : Nat
  /-- The spare die, or none for a position retirement; the dies that fail with the position. -/
  spare : Option Nat
  dies : List Nat
  /-- Bands still to rebuild or to move, free bands still to be assigned a block, bands whose data is on the move. -/
  left : List Nat
  free : Nat
  moved : List Nat
  deriving DecidableEq, Repr

/-- The health log's lifetime counts (R302). -/
structure Hlog where
  hostBytes : Nat
  mediaBytes : Nat
  retiredErase : Nat
  retiredProg : Nat
  retiredRead : Nat
  diesSpared : Nat
  posRetired : Nat
  unreadable : Nat
  corrBits : Nat
  recon : Nat
  rereadCrc : Nat
  /-- RETRY_1 to RETRY_8. -/
  retry : List Nat
  lostKeys : Nat
  tempMax : Nat
  tempMaxPcycle : Nat
  tempMaxMs : Nat
  tempHist : List Nat
  gcBytes : Nat
  wlBytes : Nat
  deriving DecidableEq, Repr

/-- The media store (R266 to R307): what its registers do not hold. -/
structure Med where
  dies : List Die
  bands : List Band
  nextBand : Nat
  segs : List Seg
  nextSeg : Nat
  pages : List Page
  nextPage : Nat
  /-- The index pages of every tree; commands that wait for a leaf page (R279, R280). -/
  idx : List IdxPage
  nextIdx : Nat
  heldLeaf : List HeldCmd
  /-- Waiting items of the streams HOST, GC, WL, META. -/
  wait : List (MStream × List Item)
  /-- The group in which the turn of each stream begins (R275). -/
  rr : List Nat
  closedNo : Nat
  /-- Positions retired: (group, channel). -/
  gone : List (Nat × Nat)
  rebuilds : List Rebuild
  reads : List Rd
  nextRd : Nat
  hlog : Hlog
  /-- The health log as last saved. -/
  hlogSaved : Option Hlog
  /-- SPARE_BANDS has reached 0 (R299). -/
  readOnly : Bool
  /-- The RSN from which records were accepted after entry into READ_ONLY. -/
  roRsn : Option Nat
  /-- The event and interrupt of SPARE_LOW are out for the present low state. -/
  spareLow : Bool
  /-- Groups at GC level 2. -/
  urgent : List Nat
  /-- Segments whose ciphertext the value cache holds, and whether under a pin-hot row, newest first (R277). -/
  cache : List (Nat × Bool)
  /-- The highest temperature of each package since power-on (R306). -/
  pkgMax : List Nat
  /-- WL programs of a group in a second of operating time: group, second, programs (R291). -/
  wlSec : List (Nat × Nat × Nat)
  deriving DecidableEq, Repr

/-! ### Control engine -/

/-- Modes of a loop (R359). -/
inductive LMode where
  | manual | ramping | auto | tripped
  deriving DecidableEq, Repr

/-- Commands to a loop. -/
inductive LCmd where
  | goAuto | goManual | clearTrip
  deriving DecidableEq, Repr

/-- What one loop carries from sample to sample beside its registers (R349 to R366). -/
structure LRun where
  /-- A command that waits for the next tick (R361). -/
  cmd : Option LCmd
  /-- SP_TARGET was written since the last tick; MAN was written while not in MANUAL. -/
  spWritten : Bool
  manNext : Option Int
  /-- The output computed for the next tick. -/
  next : Option Int
  feRun : Nat
  modelRun : Nat
  lostRun : Nat
  /-- Consecutive overruns. -/
  ovr : Nat
  /-- FB and OUT of the last samples, newest first. -/
  hist : List (Int × Int)
  /-- A first valid feedback has been seen since CTLENG came ON. -/
  seen : Bool
  /-- It ran when a CTLENG activation began, and returns to AUTO after it (R461). -/
  resume : Bool
  /-- SAFE_W is asked of the ledger until the loop is next in AUTO (R366, R472). -/
  limited : Bool
  deriving DecidableEq, Repr

/-- A threshold loop that differs from its reset record (R348, R367). -/
structure ThLoop where
  t : Nat
  mode : LMode
  cause : Nat
  profile : Nat
  /-- Output v, set-point in use, MAN, feedback of the last period with samples. -/
  v : Int
  spNow : Int
  man : Int
  fb : Int
  nsamp : Nat
  yhat : Int
  /-- s1 and s2 of the sections. -/
  s : List (Int × Int)
  feOut : Bool
  frozen : Bool
  run : LRun
  /-- Sum and number of the samples of the period that runs, and the sign of the last sample. -/
  sum : Int
  n : Nat
  neg : Bool
  deriving DecidableEq, Repr

/-- A saved threshold state (R368). -/
structure ThSaved where
  t : Nat
  mode : LMode
  profile : Nat
  integ : Int
  deriving DecidableEq, Repr

/-- The control engine (R346 to R376). -/
structure Ctl where
  runs : List LRun
  th : List ThLoop
  thSaved : List ThSaved
  saving : Option FMap
  /-- The last measured feedback error model needs u(k−1): the outputs in force at the previous sample. -/
  prevU : List Int
  deriving DecidableEq, Repr

/-! ### Live update -/

/-- Header fields of an image in a boot slot (R464). -/
structure ImgHdr where
  version : Nat
  level : Nat
  acceptsMin : Nat
  deriving DecidableEq, Repr

/-- A carrier's two slots, which instances run slot B (R458), and which the boot area has running it (R469). -/
structure Carrier where
  a : Option ImgHdr
  b : Option ImgHdr
  runB : Nat
  bootB : Nat
  deriving DecidableEq, Repr

/-- States of the update session (CL_UPD_STAT.STATE). -/
inductive UpdState where
  | idle | staging | verifying | staged | activating | failed
  deriving DecidableEq, Repr

/-- The update session (R466 to R469). -/
structure Upd where
  carriers : List Carrier
  st : UpdState
  owner : Path
  carrier : Nat
  /-- The slot staged: B is true. -/
  slotB : Bool
  bytes : List Byte
  /-- The chunk being written. -/
  chunk : Option (List Byte)
  /-- Units still to move, the one that is out, and whether this is a REVERT. -/
  todo : List Nat
  out : Option Nat
  revert : Bool
  result : Nat
  /-- The operating time from which the other port's link has been up again (R462). -/
  linkWait : Option Nat
  /-- The slot staged last of each carrier that has had one (B is true). -/
  lastStaged : List (Nat × Bool)
  /-- Clusters an activation skipped: they start on the staged slot when they are released (R463). -/
  skipped : List (Nat × Bool)
  /-- Fawn was asked for during an activation (R469). -/
  fawnAsked : Bool
  deriving DecidableEq, Repr

/-! ### Management fabric and the drive -/

/-- The result of an access, by R53: code, fail index and, for a read that is DONE, the values. -/
structure AccRes where
  code : Nat
  fail : Nat
  data : List Word
  deriving DecidableEq, Repr

/-- What the drive sends out of itself, in the order it does: a slot of the ring as its 64 bytes, ending well or in K30.7
(R409, R411); bytes on the I3C bus; an in-band interrupt; a frame on a port, with its bytes as they go out (R84). -/
inductive Out where
  | chain (bytes : List Byte) (good : Bool)
  | i3c (bytes : List Byte)
  | ibi (payload : List Byte)
  | wire (port : BitVec 1) (f : TxFrame) (bytes : List Byte)
  deriving DecidableEq, Repr

/-- The drive, but for its clock, its permanent latches and its factory data. -/
structure Drive where
  /-- Registers that differ from their reset values. -/
  regs : FMap
  /-- Saved registers: the configuration store and the AON parameter store. -/
  saved : FMap
  pwr : Pwr
  nrg : Nrg
  pack : Pack
  recorder : Recorder
  chn : Chn
  ports : List Port
  xpt : Xpt
  mch : Mch
  cph : Cph
  nss : List Ns
  vers : List VerRes
  uses : List NsUse
  jobs : List Job
  nextJob : Nat
  jrn : Jrn
  med : Med
  ctl : Ctl
  upd : Upd
  /-- Snapshots of wide values and buffered higher words, by path and address (R45). -/
  snaps : FMap
  bufs : FMap
  results : List AccRes
  /-- The I3C dynamic address, and whether IBIs are enabled (R518). -/
  i3cAddr : Option Nat
  i3cIbi : Bool
  /-- Interrupt edges not yet delivered, (page, INT_STAT), oldest first; pages whose delivery waits for MGMT; INT_STAT
  bits set while the page's domain was not ON (R58 to R61). -/
  edges : List (Nat × Word)
  deferred : List Nat
  late : List (Nat × Nat)
  /-- LED test running; an air reading has been taken since power-on; the operating time of the last RSP sent. -/
  ledTest : Bool
  airSeen : Bool
  lastRsp : Option Nat
  /-- Draws of free values so far. -/
  free : Nat
  out : List Out
  deriving DecidableEq, Repr

/-- The whole state: the operating-time clock, the permanent latch, factory data, the drive, and the commands that wait,
first in first out. -/
structure State where
  clk : Clock
  perm : Perm
  fac : Factory
  d : Drive
  pending : List Instr
  deriving DecidableEq, Repr

/-- Why a step can fault. No command of this block does: every event whose object is absent leaves the drive as it is. -/
inductive Fault where
  /-- Raised by no command; the drive's own fault indications are registers and events (safe). -/
  | none
  deriving DecidableEq, Repr

/-- Why a step can be refused. -/
inductive Refusal where
  /-- Raised by an arm of `exec` whose command has no meaning yet; the argument is its mnemonic (safe). -/
  | notModelled (mnemonic : String)
  deriving DecidableEq, Repr

/-! ### The state after a power-on reset -/

/-- A domain in state `st`. -/
def Pd.at (st : PdState) : Pd := ⟨st, false, false, false, .off⟩

/-- Supplies and start-up right after a power-on reset: aux good, 12 V absent; AON and RECORD ON (R24, R34). -/
def Pwr.reset : Pwr :=
  { pds := [Pd.at .on, Pd.at .off, Pd.at .on] ++ List.replicate 27 (Pd.at .off)
    clks := [.crystal, .aon]
    aux := true, v12 := false, refOk := true, lead := false, seg := false, leadPin := false, segPin := false
    resetPin := true, chainReady := false, v12Waits := false, fw := false, readReady := false, ps := .off
    fawnStep := 0, resetHold := false, warm := false, tl := 0, growAt := 0, wakeSrc := 0 }

/-- The ledger: no grant, no credit (R386, R388). -/
def Nrg.reset : Nrg :=
  { chainGrant := 0, i3cGrant := 0, credit := 0, room := List.replicate 16 0, window := 0, static := 0, writeReady := false, causes := []
    demand := false, lossDue := false }

/-- The pack as shipped: fitted, discharged, untested in this module (R525). -/
def Pack.reset : Pack :=
  { det := true, latched := true, closed := false, recOk := true, baySerial := Config.packSerial
    serial := Config.packSerial, capMf := 1034, esr := 300, measured := false, worn := false
    faults := [], hot := false, mv := 0, seen := false, test := .none, test8 := true, swap := 0, refit := false, ms := 0, losses := 0 }

/-- The recorder as shipped: its first record is CLEARED from the factory clear (R525), and the RESET event of this
power-on waits in the queue (R33). -/
def Recorder.reset : Recorder :=
  { nor := [.good ⟨0x0002, 0, Config.factoryClear 0, Config.factoryClear 1, Config.factoryClear 2,
      Config.factoryClear 3, Config.factoryClear 4, Config.factoryClear 5⟩]
    queue := [⟨0x0100, 0, Config.factoryPcycle + 1, (Config.factoryMark + 1) * 65536, 0xFF00, 0, 0, 0⟩], staging := none, buckets := [], limits := [], hostBuckets := List.replicate 3 ⟨16 * 60000, (Config.factoryMark + 1) * 65536⟩
    drops := [], lastMs := some ((Config.factoryMark + 1) * 65536, 1), frozen := false, freezing := false, freezePath := 0, frozenAt := 0, clearing := false, full := false
    norFault := false, scanDone := false, nearDone := false, fullDrops := 0, mark := none, cleared := none, chal := none }

/-- The chain interface before it has lock: a Kid with no stored identity (R525). -/
def Chn.reset : Chn :=
  { lock := false, active := false, role := .kid, addr := none, stored := none, epochHw := 0, slotted := false
    herdLost := false, overflow := false, lastTick := none, tickFrom := 0, herd := 0, epoch := 0, round := 0
    enumOut := false, enumAsked := false, renumber := false, enumAt := none, gaveWay := none, txq := [], onRing := 0, alarms := []
    nextRid := 0, reqs := [] }

/-- A port that is down. -/
def Port.reset : Port :=
  { phy := none, training := false, tries := 0, rings := List.replicate 8 [], frameNo := List.replicate 8 0, pauses := [], txq := []
    suspended := none, diag := [], icmp := ⟨0, 0⟩, saving := none }

/-- The transport with every slot FREE. -/
def Xpt.reset : Xpt :=
  { flows := [], incBase := 0, incs := [], waiters := [], resets := [⟨0, 0⟩, ⟨0, 0⟩], probes := [⟨0, 0⟩, ⟨0, 0⟩]
    saving := none }

/-- Empty match segments (R525). -/
def Mch.reset : Mch :=
  { segs := List.replicate 4 [], shadows := List.replicate 4 [], badShadow := [], shadowUe := []
    saved := none, saving := none
    rebuilding := [], acct := [], temps := [0, 0, 0, 0], step := 0, coolSince := none, heldCmds := [], heldOpens := [], heldDiag := [] }

/-- Every tenant slot EMPTY with GEN 0 (R525). -/
def Cph.reset : Cph :=
  { slots := [], image := [], queues := List.replicate 32 [], aside := [], running := [], nextId := 0, release := []
    served := List.replicate 28 0, lastDone := [] }

/-- The empty journal. -/
def Jrn.reset : Jrn :=
  { recs := [], rsnNext := 1, csnLast := 0, report := [], ckpt := ⟨0, 0, [], []⟩, ckptOld := ⟨0, 0, [], []⟩
    ckptOpen := none, flush := none, image := none, fromDram := false, lostAny := false, replayAt := 0, exposed := none, heldAccept := [], heldOrd := [], flushes := []
    fullNext := 1, served := List.replicate 8 0 }

/-- Health-log counts of 0. -/
def Hlog.reset : Hlog :=
  { hostBytes := 0, mediaBytes := 0, retiredErase := 0, retiredProg := 0, retiredRead := 0, diesSpared := 0
    posRetired := 0, unreadable := 0, corrBits := 0, recon := 0, rereadCrc := 0, retry := List.replicate 8 0
    lostKeys := 0, tempMax := 0, tempMaxPcycle := 0, tempMaxMs := 0, tempHist := List.replicate 8 0, gcBytes := 0
    wlBytes := 0 }

/-- Every die as shipped, no band in use. -/
def Med.reset : Med :=
  { dies := [], bands := [], nextBand := 0, segs := [], nextSeg := 0, pages := [], nextPage := 0, idx := [], nextIdx := 0
    heldLeaf := []
    wait := [(.host, []), (.gc, []), (.wl, []), (.pages, [])], rr := [0, 0, 0, 0], closedNo := 0, gone := []
    rebuilds := [], reads := [], nextRd := 0, hlog := Hlog.reset, hlogSaved := none, readOnly := false, roRsn := none, spareLow := false
    urgent := [], cache := [], pkgMax := List.replicate 32 0, wlSec := [] }

/-- A loop between samples. -/
def LRun.reset : LRun :=
  { cmd := none, spWritten := false, manNext := none, next := none, feRun := 0, modelRun := 0, lostRun := 0, ovr := 0
    hist := [], seen := false, resume := false, limited := false }

/-- The control engine before CTLENG first comes ON. -/
def Ctl.reset : Ctl :=
  { runs := List.replicate 16 LRun.reset, th := [], thSaved := [], saving := none, prevU := List.replicate 16 0 }

/-- Every carrier runs slot A; slot B is empty (R525). -/
def Upd.reset : Upd :=
  { carriers := (List.range 6).map fun c => ⟨some ⟨Config.imageVersion c, 1, 1⟩, none, 0, 0⟩
    st := .idle, owner := .chain, carrier := 0, slotB := true, bytes := [], chunk := none, todo := [], out := none
    revert := false, result := 0, linkWait := none, lastStaged := [], skipped := [], fawnAsked := false }

/-- The drive right after a power-on reset, in its factory state. -/
def Drive.reset : Drive :=
  { regs := [], saved := [], pwr := Pwr.reset, nrg := Nrg.reset, pack := Pack.reset, recorder := Recorder.reset
    chn := Chn.reset, ports := [Port.reset, Port.reset], xpt := Xpt.reset, mch := Mch.reset, cph := Cph.reset
    nss := [], vers := [], uses := [], jobs := [], nextJob := 0, jrn := Jrn.reset, med := Med.reset, ctl := Ctl.reset
    upd := Upd.reset, snaps := [], bufs := [], results := List.replicate 3 ⟨0, 0, []⟩, i3cAddr := none, i3cIbi := true
    edges := [], deferred := [], late := [], ledTest := false, airSeen := false, lastRsp := none, free := 0, out := [] }

/-- SPARE_BANDS at shipment: every position is present, and the die with the most bad blocks bounds its group (R273). -/
def shippedSpare (bad : List Nat) : Nat :=
  let worst (g : Nat) : Nat := (List.range 16).foldl (fun m i => max m ((bad[17 * (16 * (g / 16) + i) + g % 16]?).getD 0)) 0
  (List.range 32).foldl (fun n g => n + (5461 - worst g)) 0 - (64 + 874 + 128 + 163400)

/-- Factory data (Config). The blocks bad at shipment leave at least 9,500 spare bands (R273). -/
def Factory.reset : Factory :=
  { serial := Config.serial, mac0 := Config.macAddr 0, mac1 := Config.macAddr 1, variantX := Config.variantX
    importId := Config.importId, eta := Config.eta
    bad := if 9500 ≤ shippedSpare Config.factoryBad then Config.factoryBad else [] }

/-- The machine right after reset: a power-on reset of a drive in its factory state, 12 V absent. -/
def State.reset : State :=
  { clk := ⟨(Config.factoryMark + 1) * 65536, (Config.factoryMark + 2) * 65536, Config.factoryPcycle + 1⟩, perm := ⟨false⟩, fac := Factory.reset, d := Drive.reset, pending := [] }

end Sys2Proof.Machine
end

