-- ==== Sys2Proof/Machine/Regs.lean ====
section
/-! DEFINITION. The register store: the page map of R41, what a register reads at reset (R43, R46, R346, R374, R376 and
the tables), and the ways hardware reads and writes a register. Software's accesses, with their checks and access
codes, are in Fabric.lean; nothing here checks a path or a domain. -/

namespace Sys2Proof.Machine

/-! ### Pages (R41, R47) -/

/-- A page of the directory. -/
structure PageInfo where
  block : Nat
  inst : Nat
  pib : Nat
  dom : Nat
  /-- WPATH: bit 0 chain, bit 1 I3C, bit 2 network. -/
  wpath : Nat
  deriving DecidableEq, Repr

/-- The directory: the page numbered `p`, if it exists. -/
def pageInfo (p : Nat) : Option PageInfo :=
  if p < 8 then
    [some ⟨1, 0, 0, 3, 0⟩, some ⟨2, 0, 0, 3, 7⟩, some ⟨3, 0, 0, 0, 7⟩, some ⟨4, 0, 0, 0, 3⟩,
     some ⟨5, 0, 0, 0, 3⟩, some ⟨6, 0, 0, 1, 7⟩, some ⟨7, 0, 0, 2, 7⟩, some ⟨8, 0, 0, 4, 7⟩].getD p none
  else if p < 12 then some ⟨9, p - 8, 0, p - 2, 7⟩
  else if p = 12 then some ⟨10, 0, 0, 10, 7⟩
  else if p = 13 then some ⟨11, 0, 0, 10, 7⟩
  else if p = 14 then some ⟨12, 0, 0, 11, 7⟩
  else if p = 15 then some ⟨13, 0, 0, 28, 7⟩
  else if p = 16 then some ⟨14, 0, 0, 29, 2⟩
  else if 0x20 ≤ p ∧ p < 0x40 then some ⟨15, 0, p - 0x20, 5, 7⟩
  else if 0x40 ≤ p ∧ p < 0x50 then some ⟨16, (p - 0x40) / 8, p % 8, 12 + (p - 0x40) / 8, 7⟩
  else if 0x50 ≤ p ∧ p < 0x58 then some ⟨17, 0, p - 0x50, 14, 7⟩
  else if 0x58 ≤ p ∧ p < 0x60 then some ⟨18, 0, p - 0x58, 15, 7⟩
  else if 0x60 ≤ p ∧ p < 0x64 then some ⟨19, p - 0x60, 0, 16 + (p - 0x60), 7⟩
  else if 0x70 ≤ p ∧ p < 0x90 then some ⟨20, (p - 0x70) / 4, p % 4, 20 + (p - 0x70) / 4, 7⟩
  else none

/-- The 117 page numbers in ascending order. -/
def allPages : List Nat := (List.range 0x90).filter fun p => (pageInfo p).isSome

/-- The register table of a threshold profile page (R376). -/
def tabCtlP : List RegSpec :=
  ⟨0x104, 4, 1, 1, [⟨25, 16, .ro, .val 0, []⟩, ⟨9, 0, .ro, .val 0, []⟩]⟩ ::
  (tabCtlL.filter fun s => !([0x100, 0x104, 0x110, 0x124, 0x12C, 0x130, 0x134, 0x160, 0x300].contains s.off)).map
    (fun s => if s.off = 0x108 then ⟨0x108, 4, 1, 1, [⟨31, 24, .ro, .val 0, []⟩, ⟨2, 0, .rwl, .val 0, []⟩]⟩ else s) ++
  [⟨0x300, 4, 16, 1, [⟨23, 0, .rwl, .factory, []⟩]⟩]

/-- The block registers of page `p`, from offset 0x100 on. -/
def pageTab (p : Nat) : List RegSpec :=
  if p < 8 then [tabDir, tabMgmt, tabAon, tabNrg, tabChn, tabWake, tabRec, tabHup].getD p []
  else if p = 8 then tabCl ++ tabCl0
  else if p < 12 then tabCl
  else if p < 17 then [tabFab, tabJrn, tabDrm, tabScb, []].getD (p - 12) []
  else if p = 0x20 then tabCtlE
  else if 0x20 < p ∧ p < 0x31 then
    if p = 0x2B then tabCtlL.map fun s => if s.off = 0x120 then ⟨0x120, 4, 1, 1, [⟨23, 0, .ro, .val 0, []⟩]⟩ else s
    else tabCtlL
  else if p = 0x31 then tabCtlT
  else if 0x31 < p ∧ p < 0x36 then tabCtlP
  else if 0x40 ≤ p ∧ p < 0x50 then
    [tabMac0, tabMac1, tabMac2, tabMac3, tabMac4, tabMac5, tabMac6, tabMac7].getD (p % 8) []
  else if 0x50 ≤ p ∧ p < 0x53 then [tabXpt0, tabXpt1, tabXpt2].getD (p - 0x50) []
  else if 0x58 ≤ p ∧ p < 0x5E then [tabCph0, tabCph1, tabCph2, tabCph3, tabCph4, tabCph5].getD (p - 0x58) []
  else if p = 0x60 then tabMch ++ tabMch0
  else if 0x60 < p ∧ p < 0x64 then tabMch
  else if p = 0x73 then tabMed3
  else if 0x70 ≤ p ∧ p < 0x90 then [tabMed0, tabMed1, tabMed2].getD (p % 4) []
  else []

/-- The register row that holds offset `o`, with the index in its array and the word of its value. -/
def findSpec (tab : List RegSpec) (o : Nat) : Option (RegSpec × Nat × Nat) :=
  match tab with
  | [] => none
  | s :: tab =>
    let i := (o - s.off) / s.stride
    let w := (o - s.off) % s.stride / 4
    if s.off ≤ o ∧ i < s.count ∧ w < s.words then some (s, i, w) else findSpec tab o

/-- CTL[28:0] of the MCHn pages: REBUILD (R222). -/
def tabHdrMch : List RegSpec :=
  tabHdr.map fun s => if s.off = 0x10 then ⟨0x10, 4, 1, 1, ⟨0, 0, .cmd, .val 0, []⟩ :: s.flds⟩ else s

/-- The register at management address `a`; none where the page has none or does not exist. -/
def specOf (a : Nat) : Option (RegSpec × Nat × Nat) :=
  let p := a / 4096
  let o := a % 4096
  if (pageInfo p).isNone then none
  else if o < 0x100 then findSpec (if 0x60 ≤ p ∧ p < 0x64 then tabHdrMch else tabHdr) o
  else findSpec (pageTab p) o

/-! ### Reset values -/

/-- A loop's signal exponent: R346, and 10 for threshold loops (R352). -/
def loopEs (n : Nat) : Nat :=
  if n < 12 then [11, 8, 8, 8, 8, 8, 8, 8, 8, 11, 11, 11].getD n 0 else if n < 16 then 0 else 10

/-- SP_TARGET, SAFE and RAMP of a plant loop at reset, as mantissas, with PERIOD in µs and SAFE_W in 0.1 W (R346, R358). -/
def loopRst (n : Nat) : Nat × Nat × Nat × Nat × Nat :=
  let mv (v : Nat) : Nat := v * 4096
  let th (t safe10 : Nat) : Nat × Nat × Nat × Nat × Nat := (t * 32768, safe10 * 32768 / 10, 16384, 100000, safe10)
  match n with
  | 0 => (mv 750, mv 800, 2048, 10, 200)
  | 1 => th 95 60
  | 2 => th 95 50
  | 3 => th 95 20
  | 4 => th 95 60
  | 5 => th 95 30
  | 6 => th 95 30
  | 7 => th 70 40
  | 8 => th 70 40
  | 9 => (mv 600, mv 620, 2048, 10, 80)
  | 10 => (0, 0, 20480, 100, 0)
  | 11 => (mv 1050, mv 1080, 2048, 10, 40)
  | _ => (0, 0, 0, 0, 0)

/-- Reset values of the loop and profile pages that the register table leaves to R346, R358 and R376. Signals of a
profile given in DAC steps or corrected bits are mantissas at ES 10. -/
def ctlRst (n o : Nat) : Option Nat :=
  if n < 16 then
    let (sp, safe, ramp, per, w) := loopRst n
    if o = 0x108 then
      some (loopEs n * 2 ^ 24 + (if n < 12 then 2 ^ 16 + 2 ^ 8 else 0) + Config.factoryReg (0x21108 + n * 4096) % 8)
    else if o = 0x10C then some per
    else if o = 0x110 then some w
    else if o = 0x120 then some sp
    else if o = 0x128 then some ramp
    else if o = 0x130 ∨ o = 0x134 ∨ o = 0x138 then some safe
    else none
  else
    let step (k : Int) : Nat := toTwos 24 (k * 8192)
    if o = 0x108 then some (10 * 2 ^ 24 + 1)
    else if o = 0x10C then some 10000
    else if o = 0x128 then some (step 16)
    else if o = 0x138 then some 0
    else if o = 0x13C ∨ o = 0x144 then some (step (-48))
    else if o = 0x140 ∨ o = 0x148 then some (step 48)
    else if o = 0x14C then some (step 96)
    else if o = 0x158 then some 0
    else if o = 0x15C then some (step 4)
    else if o = 0x180 then some 100
    else if o = 0x184 then some 0
    else if o = 0x188 then some 64
    else if o = 0x200 then some 0x020000
    else if o = 0x20C then some 0x800000
    else if 0x200 ≤ o ∧ o < 0x218 then some 0
    else if 0x300 ≤ o then some (Config.factoryReg (0x32000 + o))
    else none

/-- The word of the link-local address a port forms from its MAC address (R99): fe80::/64 with the modified EUI-64. -/
def linkLocalWord (mac : BitVec 48) (w : Nat) : Nat :=
  let m := mac.toNat
  match w with
  | 0 => 0xFE800000
  | 1 => 0
  | 2 => (bitsN m 47 24 ^^^ 0x020000) * 256 + 0xFF
  | _ => 0xFE000000 + bitsN m 23 0

/-- The cost table in nJ (R381): the entries of every shipped drive at NRG page VERSION.MAJOR 1. -/
def costTable : List Nat :=
  [1079000000, 8000, 12000, 800, 500, 4000, 1000, 235000, 3000, 4000000, 45000]

/-- Reset values the tables give by a rule. -/
def ruleRst (a : Nat) : Option Nat :=
  let p := a / 4096
  let o := a % 4096
  if p = 3 ∧ 0x200 ≤ o ∧ o < 0x240 then some (costTable.getD ((o - 0x200) / 4) 0) else
  if 0x21 ≤ p ∧ p < 0x31 then ctlRst (p - 0x21) o
  else if 0x32 ≤ p ∧ p < 0x36 then ctlRst 17 o
  else if p = 0x59 ∧ 0x180 ≤ o ∧ o < 0x200 then
    let q := (o - 0x180) / 4
    some (if q < 16 then 1 + q % 8 else if q < 24 then 8 else if q < 27 then 4 else 1)
  else if 0x40 ≤ p ∧ p < 0x50 ∧ p % 8 = 5 then
    let base := Reg.MAC_IPV6_ADDR ((p - 0x40) / 8) 0
    if base ≤ a ∧ a < base + 16 then some (linkLocalWord (Config.macAddr ((p - 0x40) / 8)) ((a - base) / 4)) else none
  else none

/-- What the register at address `a` reads at reset. A per-path copy has its register's value. -/
def rstVal (k : Nat) : Word :=
  let a := k % 2 ^ 24
  match ruleRst a with
  | some n => word n
  | none =>
    match specOf a with
    | none => 0
    | some (s, _, w) =>
      let n := (s.flds.map fun f =>
        match f.rst with
        | .val n => n % 2 ^ (f.hi + 1 - f.lo) * 2 ^ f.lo
        | .factory => bitsN (Config.factoryReg a) (f.hi - f.lo) 0 * 2 ^ f.lo).foldl (· + ·) 0
      word (n / 2 ^ (32 * w))

/-! ### Reading and writing by hardware -/

/-- What a meaning knows beside the drive: the clock, the factory data, and whether READ_ONLY is latched. -/
structure Env where
  clk : Clock
  fac : Factory
  readOnly : Bool
  deriving DecidableEq, Repr

/-- The part number in ASCII over 16 bytes, first character first, padded with 0x00: IWK-512-E3L-S or IWK-512-E3L-X (R5,
R46). -/
def Factory.part (f : Factory) : List Byte :=
  [0x49, 0x57, 0x4B, 0x2D, 0x35, 0x31, 0x32, 0x2D, 0x45, 0x33, 0x4C, 0x2D, if f.variantX then 0x58 else 0x53, 0, 0, 0]

/-- The path's code: 0 chain, 1 I3C, 2 network. -/
def Path.code : Path → Nat
  | .chain => 0
  | .i3c => 1
  | .net => 2

/-- The key of path `p`'s own copy of the register at `a` (R215). -/
def pk (p : Path) (a : Nat) : Nat := a + 2 ^ 24 * (Path.code p + 1)

/-- The fields of a register that are kept through every reset and loss and reloaded when the domain comes ON, as a
mask: the configuration store's and the AON parameter store's registers that no SAVE command stores (R307, R344,
R405, R456), the base of the accounting counters, which DRAM holds with them (R212), and WAKE_CTL, which only a power-on
reset returns to its reset value (R102). -/
def keptMask (a : Nat) : Nat :=
  if a = Reg.JRN_CTL then 0xFFF0
  else if a = Reg.JRN_STAT then 0x40
  else if a = Reg.JRN_RPT_CTL then 0xFFFFFFFF
  else if Reg.JRN_RPL_KIND ≤ a ∧ a < Reg.JRN_FLUSH_BYTES + 8 then 0xFFFFFFFF
  else if a = Reg.MED_USER_BANDS ∨ a = Reg.MED_SPARE_CTL ∨ a = Reg.MED_GC_CTL ∨ a = Reg.MED_WL_CTL ∨
      a = Reg.MED_CACHE_CTL then 0xFFFFFFFF
  else if a = Reg.NRG_ALLOT_CTL ∨ a = Reg.NRG_CREDIT_CAP ∨ a = Reg.NRG_CHG_CTL ∨ a = Reg.NRG_WT_CTL ∨
      a = Reg.NRG_PS_CTL ∨ a = Reg.NRG_PS_GRACE then 0xFFFFFFFF
  else if Reg.MCH_ACCT_BASE_PCYC ≤ a ∧ a < Reg.MCH_ACCT_BASE_MS + 8 then 0xFFFFFFFF
  else if a = Reg.WAKE_CTL then 0xFFFFFFFF
  else 0

/-- The register at key `a`. -/
def Drive.reg (d : Drive) (a : Nat) : Word := FMap.get rstVal d.regs a

/-- Write the whole register at key `a`, and its kept fields into the store. -/
def Drive.setReg (d : Drive) (a : Nat) (w : Word) : Drive :=
  { d with
    regs := FMap.set rstVal d.regs a w
    saved :=
      if keptMask a = 0 then d.saved
      else FMap.set rstVal d.saved a ((w &&& word (keptMask a)) ||| (rstVal a &&& ~~~ word (keptMask a))) }

/-- Bits `hi:lo` of the register at `a`. -/
def Drive.fld (d : Drive) (a hi lo : Nat) : Nat := bits (d.reg a) hi lo

/-- Bit `i` of the register at `a`. -/
def Drive.flag (d : Drive) (a i : Nat) : Bool := bit (d.reg a) i

/-- Write bits `hi:lo` of the register at `a`. -/
def Drive.poke (d : Drive) (a hi lo v : Nat) : Drive := d.setReg a (word (setBitsN (d.reg a).toNat hi lo v))

/-- The two-word value at `a`. -/
def Drive.wide (d : Drive) (a : Nat) : Nat := (d.reg a).toNat + (d.reg (a + 4)).toNat * 2 ^ 32

/-- Write the two-word value at `a`. -/
def Drive.setWide (d : Drive) (a n : Nat) : Drive := (d.setReg a (word n)).setReg (a + 4) (word (n / 2 ^ 32))

/-- Count `k` more in the 32-bit counter at `a`, which saturates (R20, R43, R58, R145, R261, R303). -/
def Drive.bump (d : Drive) (a k : Nat) : Drive := d.setReg a (satAdd32 (d.reg a) k)

/-- Count `k` more in a 32-bit counter for which no saturation is stated. -/
def Drive.bumpOpen (d : Drive) (a k : Nat) : Drive :=
  let n := (d.reg a).toNat + k
  d.setReg a (word (if n < 2 ^ 32 then n else Config.counterOverflow n))

/-- Count `k` more in a 64-bit counter. -/
def Drive.bumpWide (d : Drive) (a k : Nat) : Drive :=
  let n := d.wide a + k
  d.setWide a (if n < 2 ^ 64 then n else Config.counterOverflow n)

/-- Keep the highest value seen in bits `hi:lo`, saturating. -/
def Drive.peak (d : Drive) (a hi lo v : Nat) : Drive :=
  let v := min v (2 ^ (hi + 1 - lo) - 1)
  if d.fld a hi lo < v then d.poke a hi lo v else d

/-- The next draw of a free value: the draw's number, and the drive with the draw counted. -/
def Drive.draw (d : Drive) : Nat × Drive := (d.free, { d with free := d.free + 1 })

/-! ### Domains and interrupts -/

/-- The state of power domain `i` (R21). -/
def Drive.pdSt (d : Drive) (i : Nat) : PdState := ((d.pwr.pds[i]?).getD ⟨.off, false, false, false, .off⟩).st

/-- Domain `i` is ON. -/
def Drive.isOn (d : Drive) (i : Nat) : Bool := d.pdSt i == .on

/-- Domain `i` is ON or DRAINING: its registers can be read. -/
def Drive.isUp (d : Drive) (i : Nat) : Bool := d.pdSt i == .on || d.pdSt i == .draining

/-- The domain of the register with key `k`. -/
def keyDom (k : Nat) : Nat := match pageInfo (k % 2 ^ 24 / 4096) with | some i => i.dom | none => 30

/-- Every register of domain `dom` at its reset value, then its kept and saved fields reloaded. -/
def Drive.resetDom (d : Drive) (dom : Nat) : Drive :=
  let out (m : FMap) : FMap := m.filter fun e => !(keyDom e.1 == dom)
  let d := { d with regs := out d.regs, snaps := out d.snaps, bufs := out d.bufs }
  { d with regs := (d.saved.filter fun e => keyDom e.1 == dom).foldl (fun m e => FMap.set rstVal m e.1 e.2) d.regs }

/-- INT_STAT, INT_EN and ERR_CNT of page `p`. -/
def intStatA (p : Nat) : Nat := p * 4096 + 0x18
def intEnA (p : Nat) : Nat := p * 4096 + 0x1C
def errCntA (p : Nat) : Nat := p * 4096 + 0x20

/-- The page interrupt of page `p` is pending (R59). -/
def Drive.intPend (d : Drive) (p : Nat) : Bool := (d.reg (intStatA p) &&& d.reg (intEnA p)) != 0

/-- Apply `f`, which may change INT_STAT or INT_EN of page `p`, and note the edge from no pending interrupt to some
(R60); while MGMT is not ON the delivery is deferred (R61). -/
def Drive.withEdge (d : Drive) (p : Nat) (f : Drive → Drive) : Drive :=
  let d' := f d
  if !d.intPend p && d'.intPend p then
    if d.isOn 3 then { d' with edges := d'.edges ++ [(p, d'.reg (intStatA p))] }
    else if d'.deferred.contains p then d' else { d' with deferred := d'.deferred ++ [p] }
  else if d.intPend p && !d'.intPend p then { d' with deferred := d'.deferred.filter (· != p) }
  else d'

/-- INT_STAT bit `b` of page `p` is set by its event: at once where the page's domain is ON or DRAINING, otherwise when
it next reaches ON (R61). -/
def Drive.setInt (d : Drive) (p b : Nat) : Drive :=
  if d.isUp (keyDom (p * 4096)) then d.withEdge p fun d => d.poke (intStatA p) b b 1
  else if d.late.contains (p, b) then d else { d with late := d.late ++ [(p, b)] }

/-- Set the INT_STAT bits of domain `dom`'s pages whose events came while it was not up. -/
def Drive.lateInts (d : Drive) (dom : Nat) : Drive :=
  let mine := d.late.filter fun e => keyDom (e.1 * 4096) == dom
  let d := { d with late := d.late.filter fun e => !(keyDom (e.1 * 4096) == dom) }
  mine.foldl (fun d e => d.setInt e.1 e.2) d

/-- ERR_CNT of page `p` counts one more (R43). -/
def Drive.errCnt (d : Drive) (p : Nat) : Drive := d.bump (errCntA p) 1

/-- The page numbers of the blocks' interrupts. -/
def pgMgmt : Nat := 1
def pgAon : Nat := 2
def pgNrg : Nat := 3
def pgChn : Nat := 4
def pgWake : Nat := 5
def pgRec : Nat := 6
def pgHup : Nat := 7
def pgCl : Nat := 8
def pgFab : Nat := 12
def pgJrn : Nat := 13
def pgDrm : Nat := 14
def pgScb : Nat := 15
def pgCtl : Nat := 0x20
def pgMac (n : Nat) : Nat := 0x40 + 8 * n
def pgXpt : Nat := 0x50
def pgCph : Nat := 0x58
def pgMch (n : Nat) : Nat := 0x60 + n
def pgMed (k : Nat) : Nat := 0x70 + 4 * k

end Sys2Proof.Machine
end

