-- ==== Sys2Proof/Machine/Recorder.lean ====
section
/-! DEFINITION. The event recorder (R435 to R457): offering an event, its rate limits and drop accounts, the programs
into the NOR, freezing, reading and clearing. The rows that are writes of REC registers act through Fabric.lean, which
calls the operations of this file. -/

namespace Sys2Proof.Machine

/-- Codes exempt from rate limits (R441). -/
def recExempt (code : Nat) : Bool := [0x1, 0x2, 0x3, 0x100, 0x104, 0x708, 0x801].contains code

/-- DEPTH and RATE of a code's bucket (R443). -/
def Recorder.limit (r : Recorder) (code : Nat) : Nat × Nat :=
  match r.limits.find? (·.1 == code) with
  | some (_, n) => n
  | none => (32, 600)

/-- A bucket brought up to the operating time `now`: RATE tokens a minute, DEPTH at most. -/
def Bucket.settle (b : Bucket) (depth rate now : Nat) : Bucket :=
  ⟨min (depth * 60000) (b.tok + rate * (now - b.at_)), now⟩

/-- The bucket of `code` at operating time `now`; a bucket never drawn on is full. -/
def Recorder.bucket (r : Recorder) (code now : Nat) : Bucket :=
  let (depth, rate) := r.limit code
  match r.buckets.find? (·.1 == code) with
  | some (_, b) => b.settle depth rate now
  | none => ⟨depth * 60000, now⟩

/-- Replace the bucket of `code`. -/
def Recorder.setBucket (r : Recorder) (code : Nat) (b : Bucket) : Recorder :=
  { r with buckets := (code, b) :: r.buckets.filter fun e => !(e.1 == code) }

/-- Count a drop of `code` for the reason of bit 16 + `why` (R444). -/
def Recorder.drop (r : Recorder) (code why now : Nat) : Recorder :=
  let bit := 2 ^ why
  match r.drops.find? (·.code == code) with
  | some _ =>
    { r with drops := modIf r.drops (·.code == code) fun x =>
        { x with count := x.count + 1, last := now, reasons := x.reasons ||| bit } }
  | none => { r with drops := r.drops ++ [⟨code, 1, now, now, bit⟩] }

/-- Put an event into the queue with the time it enters and its ordinal within that millisecond (R437). -/
def Recorder.enter (r : Recorder) (clk : Clock) (code p0 p1 p2 p3 : Nat) : Recorder :=
  let sub := match r.lastMs with
    | some (ms, n) => if ms = clk.optime then n else 0
    | none => 0
  { r with
    queue := r.queue ++ [⟨code, sub, clk.pcycle, clk.optime, p0 % 2 ^ 32, p1 % 2 ^ 32, p2 % 2 ^ 32, p3 % 2 ^ 32⟩]
    lastMs := some (clk.optime, sub + 1) }

/-- Lift a change of the recorder to the drive. -/
def Drive.onRec (d : Drive) (f : Recorder → Recorder) : Drive := { d with recorder := f d.recorder }

/-- A drop, with INT_STAT.DROP (R456). -/
def Drive.recDrop (d : Drive) (code why now : Nat) : Drive :=
  (d.onRec fun r => r.drop code why now).setInt pgRec 2

/-- An event enters the queue; REC_QUEUE.PEAK follows. -/
def Drive.recEnter (d : Drive) (clk : Clock) (code p0 p1 p2 p3 : Nat) : Drive :=
  let d := d.onRec fun r => r.enter clk code p0 p1 p2 p3
  d.peak Reg.REC_QUEUE 14 8 d.recorder.queue.length

/-- An event reaches the recorder (R442): it enters the queue if a token and a queue entry are free, or is dropped and
counted. `host` is the path of a host record, whose bucket REC_HOST_RL configures. -/
def Drive.offer (d : Drive) (clk : Clock) (host : Option Path) (code p0 p1 p2 p3 : Nat) : Drive :=
  let r := d.recorder
  let now := clk.optime
  if r.clearing then d.recDrop code 2 now
  else if r.full then d.onRec fun r => { r with fullDrops := r.fullDrops + 1 }
  else if r.frozen then d.recDrop code 2 now
  else if r.norFault then d.recDrop code 1 now
  else if host = none ∧ recExempt code then
    if r.queue.length < 64 then d.recEnter clk code p0 p1 p2 p3 else d.recDrop code 1 now
  else
    let b := match host with
      | none => r.bucket code now
      | some p =>
        ((r.hostBuckets[Path.code p]?).getD ⟨0, now⟩).settle (d.fld Reg.REC_HOST_RL 23 16) (d.fld Reg.REC_HOST_RL 15 0) now
    if b.tok < 60000 then d.recDrop code 0 now
    else if 64 ≤ r.queue.length then d.recDrop code 1 now
    else
      let b := ⟨b.tok - 60000, now⟩
      let d := d.onRec fun r =>
        match host with
        | none => r.setBucket code b
        | some p => { r with hostBuckets := r.hostBuckets.set (Path.code p) b }
      d.recEnter clk code p0 p1 p2 p3

/-- One of the drive's own events (R441). -/
def Drive.event (d : Drive) (e : Env) (code p0 p1 p2 p3 : Nat) : Drive := d.offer e.clk none code p0 p1 p2 p3

/-- Codes the drive's blocks may write (R440). -/
def recOwnCode (code : Nat) : Bool := 1 ≤ code && code < 0xC00

/-- An event of the drive's own is offered. -/
def evOffer (e : Env) (code : Nat) (p0 p1 p2 p3 : Word) (d : Drive) : Drive :=
  if recOwnCode code then d.event e code p0.toNat p1.toNat p2.toNat p3.toNat else d

/-- The FULL record written in place of event `ev` (R448). -/
def fullRecord (ev : RecEvent) : RecEvent := ⟨0x3, ev.sub, ev.pcycle, ev.optime, ev.code, 0, 0, 0⟩

/-- The last slot is next: FULL is staged in place of `ev`, and recording stops. -/
def Drive.recFull (d : Drive) (ev : RecEvent) : Drive :=
  (d.onRec fun r => { r with staging := some (fullRecord ev, 0), queue := [], full := true }).setInt pgRec 1

/-- REC copies the head of the queue into its staging register and starts its program (R445, R448). -/
def recProgramOp (_ : Env) (d : Drive) : Drive :=
  let r := d.recorder
  if !d.pwr.aux || !r.scanDone || r.frozen || r.freezing || r.clearing || r.norFault || r.full || r.staging.isSome then d
  else match r.queue with
    | [] => d
    | ev :: q =>
      if r.nor.length = 1048575 then d.recFull ev
      else d.onRec fun r => { r with staging := some (ev, 0), queue := q }

/-- A freeze that waited for the program takes effect (R450). -/
def Recorder.settleFreeze (r : Recorder) (now : Nat) : Recorder :=
  if r.freezing then { r with frozen := true, freezing := false, frozenAt := now } else r

/-- NEAR_FULL when REC_COUNT first reaches WARN_PCT percent (R449). -/
def Drive.recNearFull (d : Drive) (e : Env) : Drive :=
  let n := d.recorder.nor.length
  if !d.recorder.nearDone && d.fld Reg.REC_CTL 6 0 * 1048576 ≤ 100 * n then
    ((d.onRec fun r => { r with nearDone := true }).setInt pgRec 0).event e 0x4 n 0 0 0
  else d

/-- The program has finished and been read back (R446). -/
def recProgramDoneOp (ok : Bool) (e : Env) (d : Drive) : Drive :=
  match d.recorder.staging with
  | none => d
  | some (ev, fails) =>
    if ok then
      (d.onRec fun r => { r with nor := r.nor ++ [NorSlot.good ev], staging := none }.settleFreeze e.clk.optime).recNearFull e
    else
      let (n, d) := d.draw
      let d := (d.bumpOpen Reg.REC_PROG_FAIL 1).errCnt pgRec
      let d := d.onRec fun r => { r with nor := r.nor ++ [NorSlot.bad (padTo 32 (Config.randomBytes n))] }
      let d := d.recNearFull e
      if fails = 2 then
        (d.onRec fun r => { r with staging := none, norFault := true }.settleFreeze e.clk.optime).setInt pgRec 6
      else if d.recorder.nor.length = 1048575 ∧ ev.code ≠ 0x3 then d.recFull ev
      else if 1048576 ≤ d.recorder.nor.length then d.onRec fun r => { r with staging := none }.settleFreeze e.clk.optime
      else d.onRec fun r => { r with staging := some (ev, fails + 1) }

/-- The summary of the pending drops `x` is due: QUIET_MS without one, MAX_S since the first, or time 0 of a flush (R444). -/
def Drive.summaryDue (d : Drive) (e : Env) (x : Drop) : Bool :=
  decide (x.last + d.fld Reg.REC_SUM_CTL 15 0 ≤ e.clk.optime) || decide (x.first + d.fld Reg.REC_SUM_CTL 31 16 * 1000 ≤ e.clk.optime) ||
    d.jrn.flush.isSome

/-- A due summary of `code` enters the queue, those of lower codes before it (R444). -/
def summaryDueOp (code : Nat) (e : Env) (d : Drive) : Drive :=
  let r := d.recorder
  match r.drops.find? (·.code == code) with
  | none => d
  | some x =>
    if 32 ≤ r.queue.length || r.frozen || r.clearing || r.full || r.norFault || !d.summaryDue e x ||
        r.drops.any (fun y => decide (y.code < code) && d.summaryDue e y) then d
    else
      (d.onRec fun r => { r with drops := r.drops.filter fun y => !(y.code == code) }).recEnter e.clk 0x1
        (x.reasons * 65536 + code) x.count x.first x.last

/-- Give the CLEARED record of clear mark `m` the time `clk` (R437); the record waits in `cleared`. -/
def Recorder.stampCleared (r : Recorder) (clk : Clock) (m : Nat × Nat × Nat × Nat) : Recorder :=
  let x := { r with queue := [] }.enter clk 0x2 m.1 m.2.1 m.2.2.1 m.2.2.2
  { x with queue := r.queue, cleared := x.queue.head? }

/-- The NOR is erased, and the CLEARED record goes into slot 0 (R453, step 3; R454). -/
def Recorder.writeCleared (r : Recorder) : Recorder :=
  { r with
    nor := (r.cleared.map NorSlot.good).toList, fullDrops := 0, full := false, norFault := false, mark := none, cleared := none
    clearing := false, frozen := false, freezing := false, nearDone := false }

/-- The power-up search for the first blank slot; an interrupted clear is finished first (R447, R454). Events held meanwhile
go to REC_FULL_DROPS where the NOR proves full (R448). -/
def recorderScanOp (_ : Env) (d : Drive) : Drive :=
  if d.recorder.scanDone then d
  else
    d.onRec fun r =>
      let r :=
        if r.cleared.isSome then r.writeCleared
        else if 1048576 ≤ r.nor.length then { r with full := true, fullDrops := r.fullDrops + r.queue.length, queue := [] }
        else r
      { r with scanDone := true }

/-- The NOR erase of a clear completes (R453, steps 3 and 4). -/
def recClearDoneOp (e : Env) (d : Drive) : Drive :=
  match d.recorder.clearing, d.recorder.mark with
  | true, some m => (d.onRec fun r => (r.stampCleared e.clk m).writeCleared).setInt pgRec 4
  | _, _ => d

/-- The freeze has lasted TIMEOUT_S (R450). -/
def freezeTimeoutOp (e : Env) (d : Drive) : Drive :=
  if !d.recorder.frozen || d.recorder.clearing || decide (e.clk.optime < d.recorder.frozenAt + d.fld Reg.REC_FREEZE_CTL 9 0 * 1000) then d
  else
    ((d.onRec fun r => { r with frozen := false, freezing := false }).setInt pgRec 3).event e 0x5
      d.recorder.freezePath 0 0 0

/-- The challenge has lived 60 s of operating time (R452). -/
def challengeExpiryOp (e : Env) (d : Drive) : Drive :=
  d.onRec fun r => { r with chal := r.chal.filter fun c => decide (e.clk.optime < c.born + 60000) }

/-! ### Register commands of the REC page -/

/-- A write of REC_FREEZE (R450). -/
def recFreezeW (p : Path) (v : Word) (e : Env) (d : Drive) : Drive :=
  if bits v 31 24 ≠ 0xA5 ∨ d.recorder.clearing then d
  else if bits v 1 0 = 1 then
    d.onRec fun r =>
      { r with
        freezePath := Path.code p, frozenAt := e.clk.optime
        frozen := r.frozen || r.staging.isNone
        freezing := r.freezing || (!r.frozen && r.staging.isSome) }
  else if bits v 1 0 = 2 then d.onRec fun r => { r with frozen := false, freezing := false }
  else d

/-- The 32 bytes of a record (R435). -/
def recBytes (ev : RecEvent) : List Byte :=
  let head := leBytes 2 ev.code ++ leBytes 2 ev.sub ++ leBytes 4 ev.pcycle ++ leBytes 6 ev.optime
  let tail := leBytes 4 ev.p0 ++ leBytes 4 ev.p1 ++ leBytes 4 ev.p2 ++ leBytes 4 ev.p3
  head ++ leBytes 2 (crc32c (head ++ tail)).toNat ++ tail

/-- Bytes of slot `i` and whether it holds a valid record, and whether it is bad; past the last slot 0 (R451). -/
def Recorder.slot (r : Recorder) (i : Nat) : List Byte × Bool × Bool :=
  match r.nor[i]? with
  | some (.good ev) => (recBytes ev, true, false)
  | some (.bad bs) => (bs, false, true)
  | none => if i < 1048576 then (List.replicate 32 0xFF, false, false) else (zeros 32, false, false)

/-- Write the words `ws` to the registers from key `a` on. -/
def Drive.setRegs (d : Drive) (a : Nat) (ws : List Word) : Drive :=
  ((List.range ws.length).zip ws).foldl (fun d iw => d.setReg (a + 4 * iw.1) iw.2) d

/-- The words of a byte string, byte 4k of it in bits [7:0] of word k. -/
def leWords (bs : List Byte) : List Word :=
  (List.range (ceilDiv bs.length 4)).map fun k => word (leNat (slice bs (4 * k) 4))

/-- The bytes of the `n` registers from key `a` on, byte 4k in bits [7:0] of word k. -/
def Drive.regBytes (d : Drive) (a n : Nat) : List Byte :=
  ((List.range n).map fun i => leBytes 4 (d.reg (a + 4 * i)).toNat).flatten

/-- A write of REC_RD_SEL latches 16 slots for the writing path (R451). -/
def recRdSelW (p : Path) (_ : Env) (d : Drive) : Drive :=
  let i := d.fld (pk p Reg.REC_RD_SEL) 19 0
  let ss := (List.range 16).map fun r => d.recorder.slot (i + r)
  let bad := (ss.filter fun s => s.2.2).length
  let valid := ((List.range 16).zip ss).foldl (fun n e => n + (if e.2.2.1 then 2 ^ e.1 else 0)) 0
  let d := d.setRegs (pk p (Reg.REC_RD 0)) (leWords (ss.map (·.1)).flatten)
  let d := d.setReg (pk p Reg.REC_RD_STAT) (word (2 ^ 31 + valid))
  (d.bumpOpen Reg.REC_CHK_BAD bad).bump (errCntA pgRec) bad

/-- A write of REC_HOST_GO offers the path's host record (R439). -/
def recHostGoW (p : Path) (v : Word) (e : Env) (d : Drive) : Drive :=
  if bits v 0 0 = 1 then
    let par (j : Nat) : Nat := (d.reg (pk p (Reg.REC_HOST_PARAM j))).toNat
    d.offer e.clk (some p) (d.fld (pk p Reg.REC_HOST_CODE) 15 0) (par 0) (par 1) (par 2) (par 3)
  else d

/-- A write of REC_RL_SEL latches the selected code's window (R457). -/
def recRlSelW (p : Path) (v : Word) (e : Env) (d : Drive) : Drive :=
  let code := bits v 15 0
  if code < 4 ∨ 0x7FFF < code then d
  else
    let (depth, rate) := d.recorder.limit code
    let ex := recExempt code
    let drops := ((d.recorder.drops.find? (·.code == code)).map (·.count)).getD 0
    let d := d.setReg (pk p Reg.REC_RL_CFG) (word (if ex then 2 ^ 31 else depth * 65536 + rate))
    let d := d.setReg (pk p Reg.REC_RL_DROPS) (word drops)
    d.setReg (pk p Reg.REC_RL_TOKENS) (word (if ex then 0 else (d.recorder.bucket code e.clk.optime).tok / 60000))

/-- A write of REC_RL_CFG sets the selected code's DEPTH and RATE; a bucket holds at most its DEPTH (R443). -/
def recRlCfgW (p : Path) (v : Word) (e : Env) (d : Drive) : Drive :=
  let code := d.fld (pk p Reg.REC_RL_SEL) 15 0
  let a := pk p Reg.REC_RL_CFG
  if code = 0 then d.setReg a 0
  else if recExempt code then d.setReg a (word (2 ^ 31))
  else
    let (depth, rate) := d.recorder.limit code
    let depth' := if 1 ≤ bits v 23 16 then bits v 23 16 else depth
    let rate' := if 1 ≤ bits v 15 0 ∧ bits v 15 0 ≤ 60000 then bits v 15 0 else rate
    let d := d.setReg a (word (depth' * 65536 + rate'))
    d.onRec fun r =>
      let b := r.bucket code e.clk.optime
      let r := { r with limits := (code, depth', rate') :: r.limits.filter fun x => !(x.1 == code) }
      r.setBucket code ⟨min b.tok (depth' * 60000), b.at_⟩

/-- A write of REC_HOST_RL, from `was`: each path's bucket is brought up to the time of the write (R443). -/
def hostRlW (was : Word) (e : Env) (d : Drive) : Drive :=
  d.onRec fun r => { r with
    hostBuckets := r.hostBuckets.map fun b =>
      let b := b.settle (bits was 23 16) (bits was 15 0) e.clk.optime
      ⟨min b.tok (d.fld Reg.REC_HOST_RL 23 16 * 60000), b.at_⟩ }

/-- What RECORD loses at a power-on reset; the NOR, the limits and a clear mark stay (R443, R447, R454). The CLEARED record of
a mark takes the first record time of this power-up, before every event of the queue (R437). -/
def Recorder.powerUp (r : Recorder) (clk : Clock) (depth : Nat) : Recorder :=
  let r :=
    { r with
      queue := [], staging := none, buckets := [], hostBuckets := List.replicate 3 ⟨depth * 60000, clk.optime⟩, drops := []
      lastMs := none, frozen := false, freezing := false, freezePath := 0, frozenAt := 0, clearing := false, full := false
      norFault := false, scanDone := false, fullDrops := 0, cleared := none, chal := none }
  match r.mark with
  | some m => r.stampCleared clk m
  | none => r

end Sys2Proof.Machine
end

