-- ==== Sys2Proof/Machine/Alarm.lean ====
section
/-! DEFINITION. The frames a drive puts on the chain by itself (R409, R410) and the alarms it raises (R425). What the
chain does with frames is in Chain.lean. -/

namespace Sys2Proof.Machine

/-- The drive's herd address in the R7 form; 0xFFFF without one. -/
def Chn.addrHalf (c : Chn) : Half := match c.addr with | some a => a.setWidth 16 | none => 0xFFFF

/-- A frame of the drive's own with `body` padded to 52 bytes. -/
def Chn.frame (c : Chn) (ty : Byte) (bcast : Bool) (dst : Half) (body : List Byte) : Frame :=
  { ty := ty, bcast := bcast, auth := false, resp := false, rid := 0, src := c.addrHalf, dst := if bcast then 0xFFFF else dst
    lap := false, hops := 0, body := padTo 52 body }

/-- Queue a frame of the drive's own for a slot (R412). -/
def Drive.chainSend (d : Drive) (f : Frame) : Drive := { d with chn := { d.chn with txq := d.chn.txq ++ [(f, .own)] } }

/-- The body of an ALARM (R425). -/
def alarmBody (code level epoch p0 : Nat) : List Byte :=
  beBytes 2 code ++ beBytes 1 level ++ [0] ++ beBytes 8 epoch ++ beBytes 4 p0 ++ zeros 12

/-- The drive sends alarm `code` by itself: addressed, with the code's SEND bit 1, at most once a second of operating
time (R425). -/
def Drive.alarm (d : Drive) (e : Env) (code level p0 : Nat) : Drive :=
  let recent := d.chn.alarms.any fun a => a.1 == code && decide (e.clk.optime < a.2 + 1000)
  if d.chn.addr.isSome && d.flag Reg.CHN_ALARM_CTL code && !recent then
    let f := d.chn.frame 0x06 true 0xFFFF (alarmBody code level (d.wide Reg.CHN_EPOCH) p0)
    let d := d.chainSend f
    { d with chn := { d.chn with alarms := (code, e.clk.optime) :: d.chn.alarms.filter fun a => !(a.1 == code) } }
  else d

end Sys2Proof.Machine
end

