-- ==== Sys2Proof/Machine/Energy.lean ====
section
/-! DEFINITION. The energy ledger and the hold-up pack (R377 to R393, R499 to R501): the reserve, the flush need, the
admission inequalities, the allotment, credits, retry hints, the demand for write-through, and the pack in its bay.
Energies are in nJ unless a name says mJ; powers in µW, which is nJ per ms of operating time. -/

namespace Sys2Proof.Machine

/-- Cost of table entry `i` in nJ (R381). -/
def cost (i : Nat) : Nat := costTable.getD i 0

/-- VF in mV: 7.0 V + 3.0 A × ESR (R377). -/
def Pack.vf (k : Pack) : Nat := 7000 + 3 * k.esr

/-- R in mJ at pack voltage `mv`: η × C × (V² − VF²) ÷ 2, rounded down; 0 at or below VF (R377). -/
def Pack.reserveAt (k : Pack) (eta mv : Nat) : Nat := eta * k.capMf * (mv ^ 2 - k.vf ^ 2) / (2 * 10 ^ 9)

/-- The usable reserve R in mJ: 0 while HOLDUP is not ON or no pack is connected; during a pack test the value before it
less 1,000 mJ (R377, R378). -/
def Drive.reserve (e : Env) (d : Drive) : Nat :=
  if !d.isOn 4 || !d.pack.closed then 0
  else match d.pack.test with
    | .running r => r - 1000
    | _ => d.pack.reserveAt e.fac.eta d.pack.mv

/-- R at 16.2 V (NRG_RESERVE_FULL). -/
def Drive.reserveFull (e : Env) (d : Drive) : Nat := d.pack.reserveAt e.fac.eta 16200

/-- Unit slots a record holds: those of its payload, and its extent-list slot. -/
def JRec.slots (r : JRec) : Nat := r.units.length + (if r.xlist.isSome then 1 else 0)

/-- Unit slots allocated, all records. -/
def Jrn.unitsUsed (j : Jrn) : Nat := (j.recs.map JRec.slots).foldl (· + ·) 0

/-- Unit slots that count in N: not those of commands accepted in write-through (R382). -/
def Jrn.unitsNeed (j : Jrn) : Nat := ((j.recs.filter fun r => !r.wt).map JRec.slots).foldl (· + ·) 0

/-- N with `r` record pairs and `u` unit slots (R382). -/
def flushNeed (r u : Nat) : Nat := cost 0 + cost 1 * r + cost 2 * u

/-- The flush need N now. -/
def Drive.need (d : Drive) : Nat := flushNeed d.jrn.recs.length d.jrn.unitsNeed

/-- The admission inequality with `r` more record pairs and `u` more unit slots: 5 × N′ ≤ 4 × R (R383). -/
def Drive.admits (e : Env) (d : Drive) (r u : Nat) : Bool :=
  decide (5 * flushNeed (d.jrn.recs.length + r) (d.jrn.unitsNeed + u) ≤ 4 * (d.reserve e * 10 ^ 6))

/-- NRG_STAT.SHORT (R383). -/
def Drive.short (e : Env) (d : Drive) : Bool := !d.admits e 0 0

/-- The write-ready level in mJ (R382). -/
def nrgLevel : Nat := 31250

/-- The allotment A in 0.1 W: the lower of the live grants, DFLT without one (R386). -/
def Drive.allot (d : Drive) : Nat :=
  let n := d.nrg
  if n.chainGrant = 0 ∧ n.i3cGrant = 0 then d.fld Reg.NRG_ALLOT_CTL 25 16
  else if n.chainGrant = 0 then n.i3cGrant
  else if n.i3cGrant = 0 then n.chainGrant
  else min n.chainGrant n.i3cGrant

/-- NRG_ALLOT.SRC. -/
def Drive.allotSrc (d : Drive) : Nat :=
  let n := d.nrg
  if n.chainGrant = 0 ∧ n.i3cGrant = 0 then 0
  else if n.i3cGrant = 0 then 1
  else if n.chainGrant = 0 then 2
  else if n.chainGrant = n.i3cGrant then 3
  else if n.chainGrant < n.i3cGrant then 1 else 2

/-- A − P_S in µW, at least 0. -/
def Drive.spare (d : Drive) : Nat := d.allot * 100000 - d.nrg.static

/-- FAULT is set (R380). -/
def Pack.fault (k : Pack) : Bool := !k.faults.isEmpty

/-- FAULT_CAUSE: the first cause other than 4 that has arisen, or 4 (R380). -/
def Pack.faultCause (k : Pack) : Nat :=
  match k.faults.find? (· != 4) with
  | some c => c
  | none => if k.faults.isEmpty then 0 else 4

/-- Loop 10 regulates: it is in AUTO or RAMPING. -/
def Drive.chargeLoop (d : Drive) : Bool :=
  d.isOn 5 && (d.fld (Reg.CTL_L_STAT 10) 2 0 == 1 || d.fld (Reg.CTL_L_STAT 10) 2 0 == 2)

/-- The charger power the pack could take: min(MAX_W, A − P_S) below 16.2 V, 0 when the pack is full, absent or
faulted, while its test runs, and during a flush (R378, R389, R391). -/
def Drive.chargeWant (d : Drive) : Nat :=
  let testing := match d.pack.test with | .running _ => true | _ => false
  if d.isOn 4 && d.pack.closed && !d.pack.fault && !testing && d.jrn.flush.isNone && decide (d.pack.mv < 16200) then
    min (d.fld Reg.NRG_CHG_CTL 7 0 * 100000) d.spare
  else 0

/-- P_C: 0 while loop 10 does not regulate (R389). DESIGN CHOICE: R30 has HOLDUP charge on through a reset, R369 has the
charger hold SAFE, 0 mA, at every reset of R30; R369 is followed (log entry 131). -/
def Drive.chargePower (d : Drive) : Nat := if d.chargeLoop then d.chargeWant else 0

/-- NRG_CREDIT_CAP.CAP in nJ. -/
def Drive.creditCap (d : Drive) : Nat := d.fld Reg.NRG_CREDIT_CAP 15 0 * 10 ^ 6

/-- The fast clocks that domain `k` needs (R22). -/
def clocksOf (k : Nat) : List ClkId :=
  if k ≤ 2 then []
  else if k = 11 then [.dram]
  else if k = 12 ∨ k = 13 then [.serdes (k - 12), .core]
  else if 20 ≤ k ∧ k ≤ 27 then [.mediaIo (k - 20), .core]
  else [.core]

/-- The domains that plant loop `n` limits (R346). -/
def loopDoms (n : Nat) : List Nat :=
  match n with
  | 0 => (List.range 30).filter fun k => (clocksOf k).contains .core
  | 1 => [6, 7, 8, 9]
  | 2 => [10, 14, 15]
  | 3 => [16, 17, 18, 19, 28]
  | 4 => [12, 13]
  | 5 => [20, 21, 22, 23]
  | 6 => [24, 25, 26, 27]
  | 7 => [20, 21, 22, 23]
  | 8 => [24, 25, 26, 27]
  | 9 => [20, 21, 22, 23, 24, 25, 26, 27]
  | 10 => [4]
  | 11 => [11]
  | _ => []

/-- The limit of plant loop `n` on its domains, in µW: the output of a thermal loop in AUTO, at ES 8; SAFE_W after an exit from
AUTO, until the loop is next in AUTO (R346, R366, R390). -/
def Drive.loopDraw (d : Drive) (n : Nat) : Option Nat :=
  if d.isOn 5 && decide (1 ≤ n) && decide (n ≤ 8) && d.fld (Reg.CTL_L_STAT n) 2 0 == 2 then
    some ((fromTwos 24 (d.fld (Reg.CTL_L_OUT n) 23 0)).toNat * 10 ^ 6 / 2 ^ 15)
  else if (((d.ctl.runs[n]?).map (·.limited)).getD false) then some (d.fld (Reg.CTL_L_SAFE_W n) 9 0 * 100000)
  else none

/-- The room of loop `n` after `ms` of operating time under the limit `w`. DESIGN CHOICE: the draw is averaged over 100 ms, or
over the time that 20 mJ last, where that is longer (assumption log). -/
def roomAfter (room : Int) (w ms : Nat) : Int := min (room + (w * ms : Nat)) (if w = 0 then 0 else max (100 * w) (20 * 10 ^ 6) : Nat)

/-- Credit for `ms` of operating time (R388), and what the loops' limits let their domains draw in it (R390). -/
def Drive.refill (d : Drive) (ms : Nat) : Drive :=
  let c := d.nrg.credit + (((d.spare - d.chargePower) * ms : Nat) : Int)
  let room := d.nrg.room.zipIdx.map fun x => match d.loopDraw x.2 with | some w => roomAfter x.1 w ms | none => 0
  { d with nrg := { d.nrg with credit := min c (d.creditCap : Int), room := room } }

/-- Debit an operation when it is issued; the balance goes to −CAP at most (R388). -/
def Drive.debit (d : Drive) (c : Nat) : Drive :=
  { d with nrg := { d.nrg with
      credit := max (d.nrg.credit - (c : Int)) (-(d.creditCap : Int)), window := d.nrg.window + c } }

/-- Debit `k` operations of cost entry `i` (R381, R388). -/
def Drive.spend (d : Drive) (i k : Nat) : Drive := if k = 0 then d else d.debit (cost i * k)

/-- Domains `ks` draw the energy of `k` operations of cost entry `i`, which is debited (R388, R390). -/
def Drive.pay (d : Drive) (ks : List Nat) (i k : Nat) : Drive :=
  let d := d.spend i k
  let take (x : Int × Nat) : Int :=
    if (d.loopDraw x.2).isSome && (loopDoms x.2).any ks.contains then x.1 - (cost i * k : Nat) else x.1
  { d with nrg := { d.nrg with room := d.nrg.room.zipIdx.map take } }

/-- Every limit on the domains `ks` has room for `c` (R390). -/
def Drive.roomFor (d : Drive) (ks : List Nat) (c : Nat) : Bool :=
  d.nrg.room.zipIdx.all fun x =>
    (d.loopDraw x.2).isNone || !(loopDoms x.2).any ks.contains || decide ((c : Int) ≤ x.1)

/-- The balance covers the cost `c` of work in the domains `ks` (R388), and so does every limit on them (R390). -/
def Drive.affords (d : Drive) (ks : List Nat) (c : Nat) : Bool := decide ((c : Int) ≤ d.nrg.credit) && d.roomFor ks c

/-- Grants to a flow on port `n` wait while the balance is below −CAP; it stands at −CAP at the lowest, so that is where they
wait (R388). They wait too while a limit on its MAC or on XPORT has no room (R390). -/
def Drive.grantsWait (d : Drive) (n : Nat) : Bool :=
  decide (d.nrg.credit ≤ -(d.creditCap : Int)) || !d.roomFor [12 + n, 14] 1

/-- 1 to 60,000 ms (R185). -/
def hintLimit (n : Nat) : Nat := max 1 (min n 60000)

/-- The charging time in ms to a reserve of `r` nJ, rounded up (R385): the stored energy C × (V_t² − V²) ÷ 2 over
0.92 × P_C; 60,000 where the charger is stopped. -/
def Drive.chargeMs (e : Env) (d : Drive) (r : Nat) : Nat :=
  let k := d.pack
  let num : Int := (k.capMf * e.fac.eta : Nat) * ((k.vf ^ 2 : Nat) - (k.mv ^ 2 : Nat) : Int) + (2000 * r : Nat)
  if num ≤ 0 then 0
  else if d.chargePower = 0 then 60000
  else ceilDiv (num.toNat * 25) (46 * e.fac.eta * d.chargePower)

/-- The step 11 hint under R383: until the reserve admits one more record pair; before write-ready, until NRG_LEVEL and
the work of R331 (whose time the drive estimates: a free value). -/
def Drive.deferHint (e : Env) (d : Drive) : Nat × Drive :=
  if d.nrg.writeReady then
    let n := 5 * flushNeed (d.jrn.recs.length + 1) d.jrn.unitsNeed
    (hintLimit (d.chargeMs e (ceilDiv n 4)), d)
  else
    let c := d.chargeMs e (nrgLevel * 10 ^ 6)
    if d.flag Reg.JRN_STAT 5 then
      let (n, d) := d.draw
      (hintLimit (max c (Config.estimateMs n)), d)
    else (hintLimit c, d)

/-- The cost of a write-through command in nJ: its record page, spill segments and final segments (R384): an XTS page
and its program for the record, and each segment encrypted and programmed twice. -/
def wtCost (units : Nat) : Nat :=
  let segs := ceilDiv units 16
  cost 6 + cost 7 + 2 * segs * (cost 5 + cost 7)

/-- E_wt: the costs of the accepted write-through commands not yet committed. -/
def Drive.wtHeld (d : Drive) : Nat :=
  ((d.jrn.recs.filter fun r => r.wt && r.st == .accepted).map fun r => wtCost (ceilDiv r.payload 4096)).foldl (· + ·) 0

/-- The write-through test of step 11 (R384), with the hint where it fails (R385). -/
def Drive.wtTest (d : Drive) (units : Nat) : Option Nat :=
  let have_ := d.spare * d.fld Reg.NRG_WT_CTL 15 0
  let want := d.wtHeld + wtCost units
  if want ≤ have_ then none
  else some (if d.spare = 0 then 60000 else hintLimit (ceilDiv (want - have_) d.spare))

/-! ### The demand for write-through (R338, R341, R392) -/

/-- JRN_STAT.MODE. -/
def Drive.jrnMode (d : Drive) : Nat := d.fld Reg.JRN_STAT 1 0

/-- Set JRN_STAT.MODE, with INT_STAT.MODE_CHANGE when it changes. -/
def Drive.setMode (d : Drive) (m : Nat) : Drive :=
  if d.jrnMode = m then d else (d.poke Reg.JRN_STAT 1 0 m).setInt pgJrn 0

/-- Records committed and not yet on flash. -/
def Jrn.undrained (j : Jrn) : List JRec := j.recs.filter fun r => r.st == .committed

/-- Write-through is asked for: the mode leaves PROTECTED (R338). -/
def Drive.enterWt (d : Drive) : Drive := if d.jrnMode = 0 then d.setMode 1 else d

/-- The exposure of R341, for the committed records that are not DRAINED. -/
def Drive.expose (e : Env) (d : Drive) (cause : Nat) : Drive :=
  let cs := d.jrn.undrained.map (·.csn)
  match cs with
  | [] => d
  | c :: _ =>
    let lo := cs.foldl min c
    let hi := cs.foldl max c
    let lo := match d.jrn.exposed with | some (l, _) => min l lo | none => lo
    let hi := match d.jrn.exposed with | some (_, h) => max h hi | none => hi
    let d := { d with jrn := { d.jrn with exposed := some (lo, hi) } }
    ((d.poke Reg.JRN_STAT 7 7 1).setInt pgJrn 7).event e 0x802 lo hi cause 0

/-- A cause of R392 arises. -/
def Drive.wtCause (e : Env) (d : Drive) (c : Nat) : Drive :=
  if !d.pwr.v12 || (c != 3 && !d.nrg.writeReady) then d
  else
    let was := d.nrg.demand
    let d := { d with nrg := { d.nrg with causes := c :: d.nrg.causes.filter (· != c), demand := true } }
    let d := if was then d else ((d.setInt pgNrg 2).errCnt pgNrg).enterWt
    if c = 3 then d else d.expose e c

/-- Cause `c` has cleared. -/
def Drive.wtCleared (e : Env) (d : Drive) (c : Nat) : Bool :=
  match c with
  | 1 => d.pack.closed
  | 2 => !d.pack.fault
  | 3 => d.pack.swap == 0 || d.pack.swap == 3
  | _ => decide (d.need ≤ d.reserve e * 10 ^ 6)

/-- MODE returns to PROTECTED once nothing asks for write-through and the reserve is at the admission level (R340). -/
def Drive.wtExit (e : Env) (d : Drive) : Drive :=
  if d.jrnMode ≠ 0 ∧ !d.nrg.demand ∧ !d.flag Reg.JRN_CTL 0 ∧ nrgLevel ≤ d.reserve e then
    (d.poke Reg.JRN_STAT 3 3 0).setMode 0
  else d

/-- The demand ends when every cause has cleared and the pack is present, unfaulted and at NRG_LEVEL (R392, R393). -/
def Drive.wtEnd (e : Env) (d : Drive) : Drive :=
  let d :=
    if d.nrg.demand && d.nrg.causes.all (fun c => d.wtCleared e c) && d.pack.closed && !d.pack.fault &&
        decide (nrgLevel ≤ d.reserve e) then
      { d with
        nrg := { d.nrg with demand := false, causes := [] }
        pack := { d.pack with swap := if d.pack.swap = 3 then 0 else d.pack.swap } }
    else d
  d.wtExit e

/-- Write-ready: the first time after 12 V good that R ≥ NRG_LEVEL with REPLAY_DRAIN 0 (R383); it also needs the index
loaded (R34). -/
def Drive.tryWriteReady (e : Env) (d : Drive) : Drive :=
  if !d.nrg.writeReady && d.pwr.v12 && d.pwr.readReady && !d.flag Reg.JRN_STAT 5 && decide (nrgLevel ≤ d.reserve e) &&
      d.jrn.flush.isNone then
    ({ d with nrg := { d.nrg with writeReady := true } }).setInt pgNrg 1
  else d

/-! ### The pack -/

/-- The pack test starts: R is held at its value (R378). -/
def Drive.startTest (e : Env) (d : Drive) : Drive :=
  if d.isOn 4 && d.pack.closed && d.jrn.flush.isNone then
    match d.pack.test with
    | .running _ => d
    | _ => { d with pack := { d.pack with test := .running (d.reserve e) } }
  else d

/-- A test that falls due by its period or by GO: it waits while write-through is demanded (R378). -/
def Drive.dueTest (e : Env) (d : Drive) : Drive :=
  if !d.isOn 4 || !d.pack.closed then d
  else if d.nrg.demand then
    match d.pack.test with
    | .none => { d with pack := { d.pack with test := .due } }
    | _ => d
  else d.startTest e

/-- A test that waited runs once no demand stands. -/
def Drive.runDueTest (e : Env) (d : Drive) : Drive :=
  match d.pack.test with
  | .due => if d.nrg.demand then d else d.startTest e
  | _ => d

/-- WORN, when a measured pack's full reserve is 90,000 mJ or less (R379). -/
def Drive.judgeWorn (e : Env) (d : Drive) : Drive :=
  if d.pack.measured && !d.pack.worn && decide (d.reserveFull e ≤ 90000) then
    (({ d with pack := { d.pack with worn := true } }).setInt pgHup 2).event e 0xA01 (d.reserveFull e) d.pack.capMf
      d.pack.esr 0
  else d

/-- The isolation switch closes when R500's conditions hold; the serial number is read (R393). -/
def Drive.tryClose (d : Drive) : Drive :=
  let k := d.pack
  if d.isOn 4 && !k.closed && k.det && k.recOk && k.latched && (!k.fault || k.faultCause == 4) && (k.swap != 2 || k.refit) then
    let k := { k with closed := true, seen := false, refit := false, swap := if k.swap = 2 then 3 else k.swap }
    let k :=
      if k.baySerial = k.serial then k
      else { k with serial := k.baySerial, capMf := 1034, esr := 300, measured := false, ms := 0, losses := 0 }
    ({ d with pack := k }).setInt pgHup 0
  else d

/-- The switch opens: PRESENT goes to 0 (R501); outside a swap's isolation that is cause 1 (R392). -/
def Drive.openSwitch (e : Env) (d : Drive) : Drive :=
  if d.pack.closed then
    let d := ({ d with pack := { d.pack with closed := false, test := .none } }).setInt pgHup 0
    d.wtCause e 1
  else d

/-- Step 2 of a swap: isolation once WT_SAFE is 1 (R393). -/
def Drive.swapIsolate (d : Drive) : Drive :=
  if d.pack.swap = 1 ∧ d.flag Reg.JRN_STAT 3 then
    let was := d.pack.closed
    let d := { d with pack := { d.pack with closed := false, swap := 2, test := .none } }
    let d := if was then d.setInt pgHup 0 else d
    d.setInt pgHup 4
  else d

/-- HUP_SWAP OP 1, or the latch opened with a pack present (R393, R501). -/
def Drive.swapRequest (e : Env) (d : Drive) : Drive :=
  if !d.pwr.v12 || !d.isOn 4 || d.pack.swap == 1 || d.pack.swap == 2 then d
  else
    let d := { d with pack := { d.pack with swap := 1 } }
    (d.wtCause e 3).swapIsolate

/-- HUP_SWAP OP 2, or the latch closed again (R393, R501): in step 1 or 2 the swap ends and the switch closes. -/
def Drive.swapCancel (e : Env) (d : Drive) : Drive :=
  if d.pack.swap = 1 ∨ d.pack.swap = 2 then
    (({ d with pack := { d.pack with swap := 0 } }).tryClose).wtEnd e
  else d

/-- HUP measures V (R377): the reserve, SHORT, the demand and write-ready follow. -/
def reserveMeasureOp (mv : Nat) (e : Env) (d : Drive) : Drive :=
  if !d.isOn 4 || !d.pack.closed then d
  else
    let d := { d with pack := { d.pack with mv := mv % 65536, seen := true } }
    let d :=
      if d.pack.test8 && decide (8000 ≤ mv) then
        ({ d with pack := { d.pack with test8 := false } }).startTest e
      else d
    let d := if !d.nrg.causes.contains 4 && decide (d.reserve e * 10 ^ 6 < d.need) then d.wtCause e 4 else d
    ((d.wtEnd e).tryWriteReady e).runDueTest e

/-- PERIOD_H hours have passed (R378). -/
def packTestPeriodOp (e : Env) (d : Drive) : Drive := d.dueTest e

/-- A write of HUP_MEAS_CTL.GO (R378). -/
def hupMeasGoW (v : Word) (e : Env) (d : Drive) : Drive := if bit v 31 then d.dueTest e else d

/-- A fault cause arises (R380). -/
def packFaultOp (cause : Nat) (e : Env) (d : Drive) : Drive :=
  if cause = 0 ∨ 6 < cause ∨ !d.isOn 4 then d
  else
    let was := d.pack.fault
    let k := d.pack
    let k := { k with faults := if k.faults.contains cause then k.faults else k.faults ++ [cause] }
    let d := ({ d with pack := { k with hot := k.hot || cause == 4 } }).setInt pgHup 1
    let d := (d.errCnt pgHup).event e 0xA00 d.pack.faultCause d.pack.mv 0 0
    if was then d else (d.alarm e 3 1 d.pack.faultCause).wtCause e 2

/-- The 50 ms test ends with its C and ESR (R378, R379); an ESR above 600 mΩ is fault cause 3. -/
def packTestDoneOp (capMf esr : Nat) (e : Env) (d : Drive) : Drive :=
  match d.pack.test with
  | .running _ =>
    let k := { d.pack with test := .none, capMf := capMf % 65536, esr := esr % 65536, measured := true }
    let d := (({ d with pack := k }).setInt pgHup 3).judgeWorn e
    let d := if 600 < esr % 65536 then packFaultOp 3 e d else d
    (d.wtEnd e).tryWriteReady e
  | _ => d

/-- The pack has cooled below 60 °C: cause 4 clears (R380). -/
def packCooledOp (e : Env) (d : Drive) : Drive :=
  let d := { d with pack := { d.pack with hot := false, faults := d.pack.faults.filter (· != 4) } }
  (d.tryClose).wtEnd e

/-- The identity record passes R499's and R500's checks. -/
def packRecordOk (r : List Byte) : Bool :=
  r.length == 64 && beAt r 0 4 == 0x4957504B && beAt r 4 1 == 1 &&
  slice r 16 16 == padTo 16 [0x49#8, 0x57#8, 0x50#8, 0x2D#8, 0x31#8, 0x35#8, 0x30#8] &&
  beAt r 60 4 == (crc32c (r.take 60)).toNat

/-- A pack is in the bay (R500): faults and WORN clear, and it is tested at 8.0 V; in a swap charging begins (R393). -/
def packFittedOp (record : List Byte) (mv : Nat) (e : Env) (d : Drive) : Drive :=
  if d.pack.det then d
  else
    let k := { d.pack with
      det := true, recOk := packRecordOk record, baySerial := beAt record 8 8, faults := [], hot := false
      worn := false, mv := mv % 65536, test8 := true, refit := d.pack.swap == 2 }
    (({ d with pack := k }).tryClose).wtEnd e

/-- PACK_DET goes high: the switch opens and PRESENT goes to 0 (R501). -/
def packRemovedOp (e : Env) (d : Drive) : Drive :=
  if d.pack.det then ({ d with pack := { d.pack with det := false, recOk := false, refit := false } }).openSwitch e else d

/-- The latch is opened with a pack present: a swap is requested (R501). -/
def packLatchOpenOp (e : Env) (d : Drive) : Drive :=
  if d.pack.latched then
    let d := { d with pack := { d.pack with latched := false } }
    if d.pack.det then d.swapRequest e else d
  else d

/-- The latch is closed before PACK_DET goes high: the swap is cancelled (R501). -/
def packLatchCloseOp (e : Env) (d : Drive) : Drive :=
  if d.pack.latched then d
  else
    let d := { d with pack := { d.pack with latched := true } }
    if !d.pack.det then d else if d.pack.refit then (d.tryClose).wtEnd e else (d.swapCancel e).tryClose

/-- A write of HUP_SWAP (R393). -/
def hupSwapW (v : Word) (e : Env) (d : Drive) : Drive :=
  if bits v 31 24 ≠ 0xA5 then d
  else if bits v 1 0 = 1 then d.swapRequest e
  else if bits v 1 0 = 2 then d.swapCancel e
  else d

/-! ### Grants -/

/-- A change of the grants; a changed A raises ALLOT_CHANGE (R386). -/
def Drive.setGrants (d : Drive) (f : Nrg → Nrg) : Drive :=
  let d' := { d with nrg := f d.nrg }
  if d'.allot = d.allot then d' else d'.setInt pgNrg 3

/-- A grant value of path `p` (R386): 200 to 700 sets it, 0 withdraws it, others are ignored. -/
def Drive.grant (d : Drive) (p : Path) (w : Nat) : Drive :=
  if w = 0 ∨ (200 ≤ w ∧ w ≤ 700) then
    d.setGrants fun n =>
      match p with
      | .chain => { n with chainGrant := w }
      | .i3c => { n with i3cGrant := w }
      | .net => n
  else d

/-- The chain grant lapses (R386). -/
def chainLeaseExpiryOp (_ : Env) (d : Drive) : Drive :=
  if d.nrg.chainGrant = 0 ∨ d.fld Reg.NRG_ALLOT_CTL 7 0 = 0 then d
  else (d.setGrants fun n => { n with chainGrant := 0 }).setInt pgNrg 4

/-- The 100 ms estimate of P_S from a measured 12 V draw of `sample` µW (R388): less the energy debited in the window
and the charger power, filtered. -/
def staticDrawEstimateOp (sample : Nat) (_ : Env) (d : Drive) : Drive :=
  let x := sample - d.nrg.window / 100 - d.chargePower
  { d with nrg := { d.nrg with static := Config.staticFilter d.nrg.static x, window := 0 } }

end Sys2Proof.Machine
end

