-- ==== Sys2Proof/Machine/Dies.lean ====
section
/-! DEFINITION. The dies and their arrangement (R266 to R273, R293 to R296): the record of every die, the groups, the
good blocks of a group and the spare. -/

namespace Sys2Proof.Machine

/-- Die blocks a die offers (R267). -/
def dieBlocks : Nat := 5461

/-- The record of a die that has not changed since shipment (R266). -/
def dieFactory (ch p : Nat) : Die :=
  { ch := ch, p := p, st := if p < 16 then .active else .spare, pos := p, pe := [], retired := [], clean := []
    corr := 0, recon := 0, hits := [], shifts := [], levelling := false }

/-- Physical die `p` of channel `ch`. -/
def Med.die (m : Med) (ch p : Nat) : Die :=
  match m.dies.find? fun x => x.ch == ch && x.p == p with
  | some x => x
  | none => dieFactory ch p

/-- Change the record of a die. -/
def Med.setDie (m : Med) (x : Die) : Med :=
  { m with dies := x :: m.dies.filter fun y => !(y.ch == x.ch && y.p == x.p) }

/-- Lift a change of the media store to the drive. -/
def Drive.onMed (d : Drive) (f : Med → Med) : Drive := { d with med := f d.med }

/-- Good blocks of a die: those not bad at shipment and not retired. -/
def Die.good (x : Die) (fac : Factory) : Nat := dieBlocks - (fac.bad[17 * x.ch + x.p]?).getD 0 - x.retired.length

/-- P/E count of a block. -/
def Die.peOf (x : Die) (b : Nat) : Nat := ((x.pe.find? (·.1 == b)).map (·.2)).getD 0

/-- The group of a channel's position (R268), and the channel half and position of a group. -/
def groupOf (ch pos : Nat) : Nat := 16 * (ch / 16) + pos

/-- The media engine that drives a channel. -/
def engineOf (ch : Nat) : Nat := ch / 4

/-- The channels of group `g` whose position is not retired (R268, R296). -/
def Med.present (m : Med) (g : Nat) : List Nat :=
  ((List.range 16).map (16 * (g / 16) + ·)).filter fun ch => !m.gone.contains (g, ch)

/-- The die that serves position `pos` of channel `ch`: a spare that takes the position over serves it from then on. -/
def Med.serving (m : Med) (ch pos : Nat) : Option Die :=
  ((List.range 17).map (m.die ch)).find? fun x => x.pos == pos && (x.st == .active || x.st == .rebuild)

/-- W(g). -/
def Med.w (m : Med) (g : Nat) : Nat := (m.present g).length

/-- G(g): the fewest good die blocks on any present die of the group (R273). -/
def Med.gMin (m : Med) (fac : Factory) (g : Nat) : Nat :=
  (m.present g).foldl
    (fun a ch => match m.serving ch (g % 16) with | some x => min a (x.good fac) | none => a) dieBlocks

/-- usable(g) (R273). -/
def Med.usable (m : Med) (fac : Factory) (g : Nat) : Nat := m.gMin fac g * (m.w g - 1) / 15

/-- SPARE_BANDS (R273), with `bands` the setting of MED_USER_BANDS. -/
def Med.spareBands (m : Med) (fac : Factory) (bands : Nat) : Nat :=
  ((List.range 32).map (m.usable fac)).foldl (· + ·) 0 - (64 + 874 + 128 + bands)

/-- SPARE_BANDS of the drive. -/
def Drive.spareBands (d : Drive) (e : Env) : Nat := d.med.spareBands e.fac (d.fld Reg.MED_USER_BANDS 17 0)

/-- USER_CAP in bytes for a setting of MED_USER_BANDS (R274). -/
def userCapOf (bands : Nat) : Nat := 448 * 2 ^ 40 * bands / 163400 / 4096 * 4096

/-- Bands of a group that are in use, whatever for; two bands of each group are the system area's (R272). -/
def Med.usedBands (m : Med) (g : Nat) : Nat := (m.bands.filter fun b => b.group == g && b.st != .flush).length + 2

/-- Free bands of a group. -/
def Med.freeBands (m : Med) (fac : Factory) (g : Nat) : Nat := m.gMin fac g - m.usedBands g

/-- The GC level of a group (R287). -/
def Drive.gcLevel (d : Drive) (e : Env) (g : Nat) : Nat :=
  let f := d.med.freeBands e.fac g
  if f ≤ d.fld Reg.MED_GC_CTL 15 8 then 2 else if f ≤ d.fld Reg.MED_GC_CTL 23 16 then 1 else 0

/-- A group is rebuilding or moving off a retired position. -/
def Med.rebuilding (m : Med) (g : Nat) : Bool := m.rebuilds.any fun r => r.group == g

end Sys2Proof.Machine
end

