-- ==== Sys2Proof/Machine/Control.lean ====
section
/-! DEFINITION. The control engine (R346 to R376): the law of a loop in block floating point, set-points and ramps,
modes and transfers, supervision, threshold loops, saving and restoring. A plant loop's state is in its registers where
they show it; a threshold loop's in its record. -/

namespace Sys2Proof.Machine

/-! ### Arithmetic (R352, R353) -/

/-- The mantissa in bits [23:0] of a word. -/
def mant (w : Word) : Int := fromTwos 24 (bits w 23 0)

/-- A mantissa as register bits. -/
def mantBits (i : Int) : Word := word (toTwos 24 i)

/-- `x ÷ 2^k`, rounded to nearest with ties to even. -/
def roundShift (x : Int) (k : Nat) : Int :=
  let q := x / (2 ^ k : Int)
  let r := x % (2 ^ k : Int)
  if 2 * r < 2 ^ k then q else if 2 * r = 2 ^ k then q + q % 2 else q + 1

/-- `x ÷ n`, rounded to nearest with ties to even. -/
def roundDiv (x : Int) (n : Nat) : Int :=
  let q := x / (n : Int)
  let r := x % (n : Int)
  if 2 * r < n then q else if 2 * r = n then q + q % 2 else q + 1

/-- Saturation to 24 bits, with the number of saturations. -/
def sat24 (x : Int) : Int × Nat :=
  if x < -(2 ^ 23) then (-(2 ^ 23), 1) else if 2 ^ 23 - 1 < x then (2 ^ 23 - 1, 1) else (x, 0)

/-- `x` limited to `lo` to `hi`. -/
def clampI (lo hi x : Int) : Int := max lo (min hi x)

/-- The coefficients of a section. -/
structure Coef where
  b0 : Int
  b1 : Int
  b2 : Int
  a1 : Int
  a2 : Int
  exp : Int
  deriving DecidableEq, Repr

/-- One line of R351: products and a signal term at full width, shifted with rounding, saturated. -/
def macLine (exp : Int) (prods : Int) (term : Int) : Int × Nat :=
  let k := (23 - exp).toNat
  sat24 (roundShift (prods + term * 2 ^ k) k)

/-- One section for input `x` and state (s1, s2): output, new state, saturations (R351). -/
def section1 (c : Coef) (x : Int) (s : Int × Int) : Int × (Int × Int) × Nat :=
  let (y, n0) := macLine c.exp (c.b0 * x) s.1
  let (s1, n1) := macLine c.exp (c.b1 * x - c.a1 * y) s.2
  let (s2, n2) := macLine c.exp (c.b2 * x - c.a2 * y) 0
  (y, (s1, s2), n0 + n1 + n2)

/-- The cascade: output, new states, saturations. -/
def cascade : List Coef → Int → List (Int × Int) → Int × List (Int × Int) × Nat
  | c :: cs, x, s :: ss =>
    let (y, s', n) := section1 c x s
    let (z, ss', m) := cascade cs y ss
    (z, s' :: ss', n + m)
  | _, x, ss => (x, ss, 0)

/-- What a loop or a profile is configured to. -/
structure LoopCfg where
  coefs : List Coef
  sections : Nat
  umin : Int
  umax : Int
  imin : Int
  imax : Int
  safe : Int
  ramp : Int
  feLimit : Int
  feTime : Nat
  y0 : Int
  modelBand : Int
  noiseBand : Int
  move : Int
  alpha : Nat
  k : Int
  kExp : Int
  modelLimit : Nat
  frozenN : Nat
  target : Int
  deriving DecidableEq, Repr

/-- The configuration on loop page `n` (0 to 15 plant loops, 17 to 20 threshold profiles 0 to 3). -/
def Drive.loopCfg (d : Drive) (n : Nat) : LoopCfg :=
  let m (a : Nat) : Int := mant (d.reg a)
  { coefs := (List.range 4).map fun s =>
      ⟨m (Reg.CTL_L_S_B0 n s), m (Reg.CTL_L_S_B1 n s), m (Reg.CTL_L_S_B2 n s), m (Reg.CTL_L_S_A1 n s),
       m (Reg.CTL_L_S_A2 n s), fromTwos 8 (d.fld (Reg.CTL_L_S_EXP n s) 7 0)⟩
    sections := d.fld (Reg.CTL_L_CFG n) 2 0
    umin := m (Reg.CTL_L_UMIN n), umax := m (Reg.CTL_L_UMAX n), imin := m (Reg.CTL_L_IMIN n)
    imax := m (Reg.CTL_L_IMAX n), safe := m (Reg.CTL_L_SAFE n), ramp := m (Reg.CTL_L_RAMP n)
    feLimit := m (Reg.CTL_L_FE_LIMIT n), feTime := d.fld (Reg.CTL_L_FE_TIME n) 15 0
    y0 := m (Reg.CTL_L_MODEL_Y0 n), modelBand := m (Reg.CTL_L_MODEL_BAND n)
    noiseBand := m (Reg.CTL_L_NOISE_BAND n), move := m (Reg.CTL_L_MOVE n)
    alpha := d.fld (Reg.CTL_L_MODEL_A n) 23 0, k := m (Reg.CTL_L_MODEL_K n)
    kExp := fromTwos 8 (d.fld (Reg.CTL_L_MODEL_K n) 31 24)
    modelLimit := d.fld (Reg.CTL_L_MODEL_LIMIT n) 15 0, frozenN := d.fld (Reg.CTL_L_FROZEN_N n) 15 0
    target := m (Reg.CTL_L_SP_TARGET n) }

/-- GO_AUTO is not refused (R354). -/
def LoopCfg.valid (c : LoopCfg) : Bool :=
  decide (1 ≤ c.sections) && decide (c.sections ≤ 4) &&
  (c.coefs.take c.sections).all (fun x => decide (-24 ≤ x.exp) && decide (x.exp ≤ 22)) &&
  decide (c.imin ≤ c.imax) && decide (c.umin ≤ c.umax) && decide (c.umin ≤ c.safe) && decide (c.safe ≤ c.umax) &&
  (match c.coefs[c.sections - 1]? with
   | some x => decide (0 ≤ x.exp) && decide (x.a1 * 2 ^ x.exp.toNat = -(2 ^ 23)) && x.a2 == 0
   | none => false)

/-- One computation of the law for error `e` (R351 to R354): y, the states with the integrator clamped, whether it
clamped, saturations. -/
def LoopCfg.law (c : LoopCfg) (e : Int) (ss : List (Int × Int)) : Int × List (Int × Int) × Bool × Nat :=
  let (y, ss', n) := cascade (c.coefs.take c.sections) e (ss.take c.sections)
  let i := c.sections - 1
  let s1 := ((ss'[i]?).getD (0, 0)).1
  let s1' := clampI c.imin c.imax s1
  (y, modAt ss' i (fun s => (s1', s.2)) ++ ss.drop c.sections, s1' != s1, n)

/-- The section states a transfer from MANUAL presets (R360). -/
def LoopCfg.preset (c : LoopCfg) (out : Int) : List (Int × Int) :=
  (List.range 4).map fun i => if i + 1 = c.sections then (clampI c.imin c.imax (sat24 out).1, 0) else (0, 0)

/-- The plant model's next prediction (R364), rounded once to nearest, ties to even, and saturated. -/
def LoopCfg.model (c : LoopCfg) (yhat u : Int) : Int :=
  let inner := c.k * u * 2 ^ (c.kExp + 24).toNat + (c.y0 - yhat) * 2 ^ 47
  (sat24 (yhat + roundShift (c.alpha * inner) 70)).1

/-- One ramp step (R358); a RAMP of 0 goes at once. -/
def LoopCfg.rampStep (c : LoopCfg) (sp : Int) : Int :=
  if c.ramp ≤ 0 then c.target
  else if sp < c.target then min c.target (sp + c.ramp) else max c.target (sp - c.ramp)

/-- The FROZEN condition over the last FROZEN_N samples, newest first (R364). -/
def LoopCfg.isFrozen (c : LoopCfg) (hist : List (Int × Int)) : Bool :=
  match c.frozenN, hist.take c.frozenN with
  | n + 1, h :: t =>
    decide ((h :: t).length = n + 1) &&
    decide ((t.map (·.1)).foldl max h.1 - (t.map (·.1)).foldl min h.1 ≤ c.noiseBand) &&
    decide (c.move ≤ (t.map (·.2)).foldl max h.2 - (t.map (·.2)).foldl min h.2)
  | _, _ => false

/-- The feed-forward of a plant loop for `n` operations (R356). -/
def Drive.ff (d : Drive) (loop n : Nat) : Int :=
  let i := min (n / 34) 15
  let a := mant (d.reg (Reg.CTL_L_FF loop i))
  let b := mant (d.reg (Reg.CTL_L_FF loop (i + 1)))
  a + roundDiv ((b - a) * ((n : Int) - 34 * i)) 34

/-! ### Plant loops -/

/-- Code of a mode (CTL_Ln_STAT.MODE). -/
def LMode.code : LMode → Nat
  | .manual => 0
  | .ramping => 1
  | .auto => 2
  | .tripped => 3

/-- Mode of a code. -/
def lmodeOf (n : Nat) : LMode := if n = 0 then .manual else if n = 1 then .ramping else if n = 2 then .auto else .tripped

/-- Mode of plant loop `n`. -/
def Drive.lmode (d : Drive) (n : Nat) : LMode := lmodeOf (d.fld (Reg.CTL_L_STAT n) 2 0)

/-- Set the mode of plant loop `n`; in AUTO its ledger limit ends (R366). -/
def Drive.setLmode (d : Drive) (n : Nat) (m : LMode) : Drive :=
  let d := d.poke (Reg.CTL_L_STAT n) 2 0 m.code
  if m = .auto then { d with ctl := { d.ctl with runs := modAt d.ctl.runs n fun r => { r with limited := false } } } else d

/-- What plant loop `n` carries between samples. -/
def Drive.lrun (d : Drive) (n : Nat) : LRun := (d.ctl.runs[n]?).getD LRun.reset

/-- Change it. -/
def Drive.onRun (d : Drive) (n : Nat) (f : LRun → LRun) : Drive :=
  { d with ctl := { d.ctl with runs := modAt d.ctl.runs n f } }

/-- The ledger limits the loop's domains to SAFE_W until it is next in AUTO (R366, R472). -/
def Drive.limitLoop (d : Drive) (n : Nat) : Drive :=
  if (d.lrun n).limited then d else (d.onRun n fun r => { r with limited := true }).setInt pgNrg 6

/-- The plant loop's section states. -/
def Drive.lstates (d : Drive) (n : Nat) : List (Int × Int) :=
  (List.range 4).map fun s => (mant (d.reg (Reg.CTL_L_S_S1 n s)), mant (d.reg (Reg.CTL_L_S_S2 n s)))

/-- Write them. -/
def Drive.setLstates (d : Drive) (n : Nat) (ss : List (Int × Int)) : Drive :=
  ((List.range 4).zip ss).foldl
    (fun d e => (d.setReg (Reg.CTL_L_S_S1 n e.1) (mantBits e.2.1)).setReg (Reg.CTL_L_S_S2 n e.1) (mantBits e.2.2)) d

/-- What every forced exit records (R366, steps 4 and 5). -/
def Drive.forcedRecord (d : Drive) (e : Env) (loop cause : Nat) (out fb : Int) : Drive :=
  let d := d.event e 0x900 loop cause (mantBits out).toNat (mantBits fb).toNat
  let d := ((d.bumpOpen Reg.CTL_FORCED 1).errCnt pgCtl).setReg Reg.CTL_LAST_FORCED (word (cause * 65536 + loop))
  let d := d.setInt pgCtl 0
  if cause = 5 then d.setInt pgCtl 1 else d

/-- A forced exit of plant loop `n` (R366). -/
def Drive.forcedExit (d : Drive) (e : Env) (n cause : Nat) : Drive :=
  let out := mant (d.reg (Reg.CTL_L_OUT n))
  let fb := mant (d.reg (Reg.CTL_L_FB n))
  let d := (d.poke (Reg.CTL_L_STAT n) 7 4 cause).setReg (Reg.CTL_L_MAN n) (mantBits (mant (d.reg (Reg.CTL_L_SAFE n))))
  let d := d.onRun n fun r => { r with cmd := none, next := none, feRun := 0, modelRun := 0 }
  let d := (d.setLmode n (if cause = 5 then .tripped else .manual)).limitLoop n
  (d.forcedRecord e n cause out fb).alarm e 4 1 (cause * 65536 + n)

/-- GO_AUTO to a plant loop in MANUAL with feedback `fb`, `peops` announced (R359, R360). -/
def Drive.loopGoAuto (d : Drive) (n : Nat) (fb : Int) (peops : Nat) : Drive :=
  let c := d.loopCfg n
  if c.valid then
    let out := mant (d.reg (Reg.CTL_L_OUT n))
    let d := (d.poke (Reg.CTL_L_STAT n) 7 3 0).setLstates n (c.preset (out - d.ff n peops))
    let d := (d.setReg (Reg.CTL_L_SP_NOW n) (mantBits fb)).setReg (Reg.CTL_L_MODEL_Y n) (mantBits fb)
    (d.onRun n fun r => { r with feRun := 0, modelRun := 0, spWritten := false }).setLmode n .ramping
  else (d.poke (Reg.CTL_L_STAT n) 3 3 1).setInt pgCtl 5

/-- GO_MANUAL: MAN takes the output in force; the ledger holds SAFE_W (R359, R472). -/
def Drive.loopGoManual (d : Drive) (n : Nat) : Drive :=
  let d := (d.setReg (Reg.CTL_L_MAN n) (d.reg (Reg.CTL_L_OUT n))).onRun n fun r => { r with next := none }
  (d.setLmode n .manual).limitLoop n

/-- CLEAR_TRIP: MAN = SAFE (R359). -/
def Drive.loopClearTrip (d : Drive) (n : Nat) : Drive :=
  (d.setReg (Reg.CTL_L_MAN n) (d.reg (Reg.CTL_L_SAFE n))).setLmode n .manual

/-- A command takes effect at a tick (R359, R361). -/
def Drive.loopCmd (d : Drive) (n : Nat) (cmd : LCmd) (fb : Option Int) (peops : Nat) : Drive :=
  match cmd, d.lmode n, fb with
  | .goAuto, .manual, some fb => d.loopGoAuto n fb peops
  | .goManual, .auto, _ => d.loopGoManual n
  | .goManual, .ramping, _ => d.loopGoManual n
  | .clearTrip, .tripped, _ => d.loopClearTrip n
  | _, _, _ => d

/-- An overrun of plant loop `n` is counted (R365). -/
def Drive.overrun (d : Drive) (n : Nat) : Drive :=
  let d := ((d.bumpOpen (Reg.CTL_L_OVERRUNS n) 1).bumpOpen Reg.CTL_OVERRUNS 1).setInt pgCtl 2
  let d := d.onRun n fun r => { r with ovr := r.ovr + 1 }
  d.poke (Reg.CTL_L_STAT n) 17 16 (min 3 (d.lrun n).ovr)

/-- The output that plant loop `n` applies at a tick (R349, R350). -/
def Drive.applyOut (d : Drive) (n : Nat) : Drive :=
  match d.lmode n with
  | .manual =>
    let d := match (d.lrun n).manNext with
      | some v => (d.setReg (Reg.CTL_L_MAN n) (mantBits v)).onRun n fun r => { r with manNext := none }
      | none => d
    d.setReg (Reg.CTL_L_OUT n) (d.reg (Reg.CTL_L_MAN n))
  | .tripped => d.setReg (Reg.CTL_L_OUT n) (d.reg (Reg.CTL_L_SAFE n))
  | _ =>
    match (d.lrun n).next with
    | some u => d.setReg (Reg.CTL_L_OUT n) (mantBits u)
    | none => d

/-- The law for a plant loop in AUTO or RAMPING at feedback `fb` (R351 to R356). -/
def Drive.loopLaw (d : Drive) (n : Nat) (fb : Int) (peops : Nat) : Drive :=
  let c := d.loopCfg n
  let (er, n0) := sat24 (mant (d.reg (Reg.CTL_L_SP_NOW n)) - fb)
  let (y, ss, clamped, n1) := c.law er (d.lstates n)
  let (u, n2) := sat24 (d.ff n peops + y)
  let sats := n0 + n1 + n2
  let d := (d.setLstates n ss).onRun n fun r => { r with next := some (clampI c.umin c.umax u), ovr := 0 }
  let d := (d.poke (Reg.CTL_L_STAT n) 9 9 (b2n clamped)).poke (Reg.CTL_L_STAT n) 8 8 (b2n (sats != 0))
  let d := d.poke (Reg.CTL_L_STAT n) 17 16 0
  if sats = 0 then d else (d.bumpOpen (Reg.CTL_L_SAT_CNT n) sats).setInt pgCtl 3

/-- The cause supervision finds in a sample, if any (R363, R364). -/
def LoopCfg.judge (c : LoopCfg) (frozen : Bool) (modelRun feRun : Nat) : Option Nat :=
  if frozen then some 2
  else if c.modelLimit ≠ 0 ∧ c.modelLimit ≤ modelRun then some 3
  else if c.feTime ≠ 0 ∧ c.feTime ≤ feRun then some 5
  else none

/-- The set-point of a plant loop moves toward its target in RAMPING (R358); on reaching it the loop goes to AUTO. -/
def Drive.spStep (d : Drive) (n : Nat) : Drive :=
  let c := d.loopCfg n
  if d.lmode n = .ramping ∧ !(d.lrun n).spWritten then
    let sp := c.rampStep (mant (d.reg (Reg.CTL_L_SP_NOW n)))
    let d := d.setReg (Reg.CTL_L_SP_NOW n) (mantBits sp)
    if sp = c.target then (d.setLmode n .auto).setInt pgCtl 4 else d
  else d

/-- What supervision finds at one sample: the prediction and the three flags (R363, R364). -/
structure Judged where
  yhat : Int
  modelOut : Bool
  frozen : Bool
  feOut : Bool
  deriving DecidableEq, Repr

/-- The plausibility checks at feedback `fb`: `yhat` is the last prediction, `u` the output in force at the last sample,
`sp` the set-point; `live` in AUTO or RAMPING. -/
def LoopCfg.check (c : LoopCfg) (live : Bool) (yhat u fb sp : Int) (hist : List (Int × Int)) : Judged :=
  let y := if live then c.model yhat u else fb
  { yhat := y, modelOut := decide (c.modelBand < |fb - y|), frozen := c.isFrozen hist
    feOut := decide (c.feLimit < |sp - fb|) }

/-- A run of samples with a flag: one more where the flag is up. -/
def runOf (flag : Bool) (n : Nat) : Nat := if flag then n + 1 else 0

/-- The results of supervision written into a plant loop's registers. -/
def Drive.putJudged (d : Drive) (n : Nat) (j : Judged) : Drive :=
  let d := d.setReg (Reg.CTL_L_MODEL_Y n) (mantBits j.yhat)
  ((d.poke (Reg.CTL_L_STAT n) 12 12 (b2n j.modelOut)).poke (Reg.CTL_L_STAT n) 11 11 (b2n j.frozen)).poke
    (Reg.CTL_L_STAT n) 10 10 (b2n j.feOut)

/-- Commands and register writes that completed before this tick take effect (R358, R361), then the law runs. -/
def Drive.loopAct (d : Drive) (n : Nat) (run : LRun) (fb : Int) (peops : Nat) : Drive :=
  let cmd := if !run.seen ∧ run.cmd = none ∧ d.flag (Reg.CTL_L_CFG n) 16 then some .goAuto else run.cmd
  let d := d.onRun n fun r => { r with cmd := none, spWritten := false }
  let d := match cmd with
    | some k => d.loopCmd n k (some fb) peops
    | none => d
  let d :=
    if run.spWritten ∧ (d.lmode n = .auto ∨ d.lmode n = .ramping) then
      (d.setReg (Reg.CTL_L_SP_NOW n) (mantBits fb)).setLmode n .ramping
    else d
  match d.lmode n with
  | .auto => d.loopLaw n fb peops
  | .ramping => d.loopLaw n fb peops
  | _ => d.onRun n fun r => { r with next := none, ovr := 0 }

/-- A tick of plant loop `n` with a valid feedback (R349 to R364). -/
def Drive.loopSample (d : Drive) (e : Env) (n : Nat) (fb : Int) (peops : Nat) : Drive :=
  let c := d.loopCfg n
  let run := d.lrun n
  let live := d.lmode n == .auto || d.lmode n == .ramping
  let d := ((d.setReg (Reg.CTL_L_FB n) (mantBits fb)).poke (Reg.CTL_L_STAT n) 13 13 0).spStep n
  let hist := ((fb, mant (d.reg (Reg.CTL_L_OUT n))) :: run.hist).take 65535
  let j := c.check live (mant (d.reg (Reg.CTL_L_MODEL_Y n))) ((d.ctl.prevU[n]?).getD 0) fb
    (mant (d.reg (Reg.CTL_L_SP_NOW n))) hist
  let mRun := runOf j.modelOut run.modelRun
  let fRun := runOf (j.feOut && live) run.feRun
  let d := (d.putJudged n j).onRun n fun r =>
    { r with hist := hist, modelRun := mRun, feRun := fRun, lostRun := 0, seen := true }
  match (if live then c.judge j.frozen mRun fRun else none) with
  | some cause => d.forcedExit e n cause
  | none => d.loopAct n run fb peops

/-- A tick whose conversion is invalid (R364): FB stays and no law step is taken; it is an overrun only behind another
invalid one, and the third in a row fails the LOST check. -/
def Drive.loopInvalid (d : Drive) (e : Env) (n peops : Nat) : Drive :=
  let run := d.lrun n
  let live := d.lmode n = .auto ∨ d.lmode n = .ramping
  let d := (d.poke (Reg.CTL_L_STAT n) 13 13 1).onRun n fun r => { r with lostRun := r.lostRun + 1, next := none }
  let d := if 1 ≤ run.lostRun then d.overrun n else d
  if live ∧ 2 ≤ run.lostRun then d.forcedExit e n 4
  else if live ∧ 3 ≤ (d.lrun n).ovr then d.forcedExit e n 1
  else
    match run.cmd with
    | some k => (d.onRun n fun r => { r with cmd := none }).loopCmd n k none peops
    | none => d

/-- LOOP_TICK: the previous output is applied, then the sample is taken (R349, R365). `peops` is the number of die
operations announced for the next tick (R355). -/
def loopTickOp (n : Nat) (s : Sample) (peops : Nat) (e : Env) (d : Drive) : Drive :=
  if !d.isOn 5 || 12 ≤ n then d
  else
    let peops := min peops 544
    let d := (d.setReg Reg.CTL_PEOPS (word peops)).peak Reg.CTL_PEOPS_PEAK 9 0 peops
    let d := d.applyOut n
    let u := mant (d.reg (Reg.CTL_L_OUT n))
    let d :=
      if s.overrun then
        let live := d.lmode n = .auto ∨ d.lmode n = .ramping
        let d := (d.overrun n).onRun n fun r => { r with next := none }
        if live ∧ 3 ≤ (d.lrun n).ovr then d.forcedExit e n 1 else d
      else
        match s.fb with
        | some fb => d.loopSample e n (sat24 fb).1 peops
        | none => d.loopInvalid e n peops
    { d with ctl := { d.ctl with prevU := d.ctl.prevU.set n u } }

/-- A keyed write of CTL_Ln_CMD (R359): the command waits for the next tick (R361). -/
def loopCmdW (n : Nat) (v : Word) (_ : Env) (d : Drive) : Drive :=
  if bits v 31 24 ≠ 0xA5 ∨ 12 ≤ n then d
  else
    let c := if bits v 1 0 = 1 then some LCmd.goAuto else if bits v 1 0 = 2 then some .goManual
      else if bits v 1 0 = 3 then some .clearTrip else none
    match c with
    | some c => d.onRun n fun r => { r with cmd := some c }
    | none => d

/-- A write of SP_TARGET (R358). -/
def spTargetW (n : Nat) (_ : Env) (d : Drive) : Drive :=
  if d.lmode n = .auto ∨ d.lmode n = .ramping then d.onRun n fun r => { r with spWritten := true } else d

/-- A write of MAN (R359): outside MANUAL it waits until the loop is next in MANUAL. -/
def manW (n : Nat) (v : Word) (_ : Env) (d : Drive) : Drive :=
  if d.lmode n = .manual then d else d.onRun n fun r => { r with manNext := some (mant v) }

/-- The ledger sets loop 10's SP_TARGET to min(2,500 mA, P_C ÷ V) (R389). -/
def ledgerSp (_ : Env) (d : Drive) : Drive :=
  if !d.isOn 5 then d
  else
    let ma := if d.pack.mv = 0 then 2500 else min 2500 (d.chargeWant / d.pack.mv)
    let sp := mantBits ((if d.chargeWant = 0 then 0 else ma) * 4096 : Nat)
    if d.reg (Reg.CTL_L_SP_TARGET 10) = sp then d
    else
      let d := d.setReg (Reg.CTL_L_SP_TARGET 10) sp
      if d.lmode 10 = .auto ∨ d.lmode 10 = .ramping then d.onRun 10 fun r => { r with spWritten := true } else d

/-! ### Threshold loops -/

/-- The page index of profile `p` for `loopCfg`. -/
def profPage (p : Nat) : Nat := 17 + p

/-- A threshold loop with no saved state: in MANUAL at SAFE (R368). -/
def Drive.thDefault (d : Drive) (t : Nat) : ThLoop :=
  let safe := mant (d.reg (Reg.CTL_L_SAFE (profPage 0)))
  { t := t, mode := .manual, cause := 0, profile := 0, v := safe, spNow := 0, man := safe, fb := 0, nsamp := 0
    yhat := 0, s := List.replicate 4 (0, 0), feOut := false, frozen := false, run := LRun.reset, sum := 0, n := 0
    neg := false }

/-- Threshold loop `t`. -/
def Drive.th (d : Drive) (t : Nat) : ThLoop := (d.ctl.th.find? (·.t == t)).getD (d.thDefault t)

/-- Change a threshold loop. -/
def Drive.setTh (d : Drive) (l : ThLoop) : Drive :=
  { d with ctl := { d.ctl with th := l :: d.ctl.th.filter fun x => !(x.t == l.t) } }

/-- The die that loop `t` serves (R348). -/
def Drive.thDie (d : Drive) (t : Nat) : Die := d.med.die (t / 17) (t % 17)

/-- The loop is held (R367). -/
def Drive.thHeld (d : Drive) (t : Nat) : Bool :=
  !d.isOn (20 + engineOf (t / 17)) ||
    (let st := (d.thDie t).st; st == .spare || st == .failing || st == .failed)

/-- Every threshold loop's number. -/
def allTh : List Nat := List.range 544

/-- One sample of a threshold loop: a corrected-bit count with its sign (R348). -/
def Drive.thSample (d : Drive) (t : Nat) (x : Int) : Drive :=
  if d.thHeld t || !d.isOn 5 then d
  else
    let l := d.th t
    d.setTh { l with sum := l.sum + x, n := l.n + 1, neg := decide (x < 0) }

/-- The sample of a failed decode: the correction limit, with the previous sample's sign. -/
def Drive.thSampleFail (d : Drive) (t : Nat) : Drive :=
  let l := d.th t
  d.thSample t (if l.neg then -(Config.corrLimit : Int) else Config.corrLimit)

/-- The P/E band of a block (R357). -/
def peBand (pe : Nat) : Nat := min (pe / 200) 15

/-- The shift of the die's base thresholds for a rung 0 read of block `b`: the loop's output v and the profile's entry for the
block's band, in mantissas (R348, R350, R357). -/
def Drive.thShift (d : Drive) (ch p b : Nat) : Int :=
  let l := d.th (17 * ch + p)
  l.v + mant (d.reg (Reg.CTL_L_FF (profPage l.profile) (peBand ((d.med.die ch p).peOf b))))

/-- A forced exit of a threshold loop (R366, without a ledger request). -/
def Drive.thForced (d : Drive) (e : Env) (l : ThLoop) (cause : Nat) : Drive :=
  let safe := mant (d.reg (Reg.CTL_L_SAFE (profPage l.profile)))
  let l' := { l with
    cause := cause, man := safe, mode := if cause = 5 then .tripped else .manual
    run := { l.run with cmd := none, next := none, feRun := 0, modelRun := 0 } }
  (d.setTh l').forcedRecord e (2 ^ 10 + l.t) cause l.v l.fb

/-- A command to a threshold loop at the end of its period. -/
def Drive.thCmd (d : Drive) (l : ThLoop) (cmd : LCmd) : Drive :=
  let c := d.loopCfg (profPage l.profile)
  match cmd, l.mode with
  | .goAuto, .manual =>
    if c.valid then
      d.setTh { l with mode := .ramping, cause := 0, s := c.preset l.v, spNow := l.fb, yhat := l.fb }
    else (d.setTh l).setInt pgCtl 5
  | .goManual, .auto => d.setTh { l with mode := .manual, man := l.v }
  | .goManual, .ramping => d.setTh { l with mode := .manual, man := l.v }
  | .clearTrip, .tripped => d.setTh { l with mode := .manual, man := c.safe }
  | _, _ => d.setTh l

/-- The output of the previous period's sample is applied (R349, R350). -/
def ThLoop.apply (l : ThLoop) (c : LoopCfg) : ThLoop :=
  match l.mode with
  | .manual =>
    let v := l.run.manNext.getD l.man
    { l with v := v, man := v, run := { l.run with next := none, manNext := none } }
  | .tripped => { l with v := c.safe, run := { l.run with next := none } }
  | _ => { l with v := l.run.next.getD l.v, run := { l.run with next := none } }

/-- The loop runs its law: AUTO or RAMPING. -/
def ThLoop.live (l : ThLoop) : Bool := l.mode == .auto || l.mode == .ramping

/-- The set-point moves (R358). -/
def ThLoop.spStep (l : ThLoop) (c : LoopCfg) : ThLoop :=
  if l.mode = .ramping ∧ !l.run.spWritten then
    let sp := c.rampStep l.spNow
    { l with spNow := sp, mode := if sp = c.target then .auto else .ramping }
  else l

/-- What supervision found, with the period's mean `fb` and the samples taken up. -/
def ThLoop.putJudged (l : ThLoop) (j : Judged) (fb : Int) (live : Bool) (hist : List (Int × Int)) : ThLoop :=
  { l with
    fb := fb, nsamp := min l.n 65535, sum := 0, n := 0, yhat := j.yhat, feOut := j.feOut, frozen := j.frozen
    run := { l.run with
      hist := hist, modelRun := runOf j.modelOut l.run.modelRun, feRun := runOf (j.feOut && live) l.run.feRun
      ovr := 0, seen := true } }

/-- The law of loop `t` where it runs, at feedback `fb`. -/
def Drive.thLaw (d : Drive) (l : ThLoop) (fb : Int) : Drive :=
  let c := d.loopCfg (profPage l.profile)
  let l := if l.run.spWritten ∧ l.live then
      { l with spNow := fb, mode := .ramping, run := { l.run with spWritten := false } } else l
  if l.live then
    let er := sat24 (l.spNow - fb)
    let (y, ss, _, n1) := c.law er.1 l.s
    let d := d.setTh { l with s := ss, run := { l.run with next := some (clampI c.umin c.umax y) } }
    if er.2 + n1 = 0 then d else d.setInt pgCtl 3
  else d.setTh l

/-- A period of loop `l` that has samples: the mean, supervision, the command that waits, the law (R348). -/
def Drive.thSamples (d : Drive) (e : Env) (l : ThLoop) (cmd : Option LCmd) : Drive :=
  let c := d.loopCfg (profPage l.profile)
  let live := l.live
  let fb := (sat24 (roundDiv (l.sum * 8192) l.n)).1
  let m := l.spStep c
  let d := if l.mode = .ramping ∧ m.mode = .auto then d.setInt pgCtl 4 else d
  let hist := ((fb, l.v) :: l.run.hist).take 65535
  let j := c.check live l.yhat l.v fb m.spNow hist
  let m := m.putJudged j fb live hist
  match (if live then c.judge j.frozen m.run.modelRun m.run.feRun else none) with
  | some cause => d.thForced e m cause
  | none =>
    let d := match cmd with
      | some k => d.thCmd m k
      | none => d.setTh m
    d.thLaw (d.th l.t) fb

/-- TH_LOOP_PERIOD (R348): the mean of the period's samples, the law and supervision, and the next v. -/
def thLoopPeriodOp (t : Nat) (overrun : Bool) (e : Env) (d : Drive) : Drive :=
  if !d.isOn 5 || 544 ≤ t || d.thHeld t then d
  else
    let l := d.th t
    let l := l.apply (d.loopCfg (profPage l.profile))
    let cmd := l.run.cmd
    if overrun then
      let l := { l with sum := 0, n := 0, run := { l.run with ovr := l.run.ovr + 1 } }
      let d := ((d.setTh l).bumpOpen Reg.CTL_OVERRUNS 1).setInt pgCtl 2
      if l.live ∧ 3 ≤ l.run.ovr then d.thForced e l 1 else d
    else
      let l := { l with run := { l.run with cmd := none } }
      if l.n = 0 then
        match cmd with
        | some k => d.thCmd l k
        | none => d.setTh l
      else d.thSamples e l cmd

/-- A command given to threshold loop `t` (R361, R367): ignored for a FAILING or FAILED die. -/
def Drive.thGive (d : Drive) (t : Nat) (c : LCmd) : Drive :=
  let st := (d.thDie t).st
  if st = .failing ∨ st = .failed then d
  else
    let l := d.th t
    d.setTh { l with run := { l.run with cmd := some c } }

/-- The command code of CTL_TH_CMD and CTL_TH_BULK. -/
def lcmdOf (n : Nat) : Option LCmd :=
  if n = 1 then some .goAuto else if n = 2 then some .goManual else if n = 3 then some .clearTrip else none

/-- A write of CTL_TH_CMD on path `p` (R375). -/
def thCmdW (p : Path) (v : Word) (_ : Env) (d : Drive) : Drive :=
  if bits v 31 24 ≠ 0xA5 then d
  else match lcmdOf (bits v 1 0) with
    | some c => d.thGive (d.fld (pk p Reg.CTL_TH_SEL) 9 0) c
    | none => d

/-- A write of CTL_TH_BULK: every loop of profile PSEL that is not held (R375). -/
def thBulkW (v : Word) (_ : Env) (d : Drive) : Drive :=
  if bits v 31 24 ≠ 0xA5 then d
  else match lcmdOf (bits v 1 0) with
    | some c =>
      (allTh.filter fun t => (d.th t).profile == bits v 5 4 && !d.thHeld t).foldl (fun d t => d.thGive t c) d
    | none => d

/-- A write of CTL_TH_MAN acts on the selected loop (R375). -/
def thManW (p : Path) (v : Word) (_ : Env) (d : Drive) : Drive :=
  let l := d.th (d.fld (pk p Reg.CTL_TH_SEL) 9 0)
  d.setTh (if l.mode = .manual then { l with man := mant v }
    else { l with run := { l.run with manNext := some (mant v) } })

/-- A write of CTL_TH_PROFILE acts on the selected loop (R375). -/
def thProfileW (p : Path) (v : Word) (_ : Env) (d : Drive) : Drive :=
  let l := d.th (d.fld (pk p Reg.CTL_TH_SEL) 9 0)
  d.setTh { l with profile := bits v 1 0 }

/-- A write of CTL_TH_SEL latches a snapshot of the selected loop (R375). -/
def ctlThSelW (p : Path) (v : Word) (_ : Env) (d : Drive) : Drive :=
  let t := bits v 9 0
  if 543 < t then d
  else
    let l := d.th t
    let c := d.loopCfg (profPage l.profile)
    let st := min 3 l.run.ovr * 2 ^ 16 + b2n (d.thHeld t) * 2 ^ 12 + b2n l.frozen * 2 ^ 11 + b2n l.feOut * 2 ^ 10 +
      l.profile * 2 ^ 8 + l.cause * 16 + l.mode.code
    let integ := ((l.s[c.sections - 1]?).getD (0, 0)).1
    let d := (d.setReg (pk p Reg.CTL_TH_STATE) (word st)).setReg (pk p Reg.CTL_TH_V) (mantBits l.v)
    let d := (d.setReg (pk p Reg.CTL_TH_INTEG) (mantBits integ)).setReg (pk p Reg.CTL_TH_FB) (mantBits l.fb)
    d.setReg (pk p Reg.CTL_TH_NSAMP) (word l.nsamp)

/-- A write of a profile's SP_TARGET: its loops in AUTO or RAMPING ramp again (R358). -/
def thSpTargetW (prof : Nat) (_ : Env) (d : Drive) : Drive :=
  let sel (l : ThLoop) : Bool := l.profile == prof && l.live
  let th := modIf d.ctl.th sel fun l => { l with run := { l.run with spWritten := true } }
  { d with ctl := { d.ctl with th := th } }

/-- The threshold states are saved (R368). -/
def thStateSaveOp (_ : Env) (d : Drive) : Drive :=
  if d.isUp 5 then
    { d with ctl := { d.ctl with thSaved := d.ctl.th.map fun l =>
        let c := d.loopCfg (profPage l.profile)
        ⟨l.t, l.mode, l.profile, ((l.s[c.sections - 1]?).getD (0, 0)).1⟩ } }
  else d

/-- A threshold loop restored from its saved state (R368). -/
def Drive.thRestore (d : Drive) (x : ThSaved) : ThLoop :=
  let c := d.loopCfg (profPage x.profile)
  let l := d.thDefault x.t
  let live := x.mode = .auto ∨ x.mode = .ramping
  { l with
    mode := x.mode, profile := x.profile, man := c.safe, v := if live then clampI c.umin c.umax x.integ else c.safe
    spNow := c.target, s := (List.range 4).map fun i => if i + 1 = c.sections then (x.integ, 0) else (0, 0) }

/-- CTLENG comes ON (R368, R369): plant loops in MANUAL at SAFE, threshold loops as saved. A limit of the ledger stands on
(R366). -/
def Drive.ctlUp (d : Drive) : Drive :=
  let d := { d with ctl := { d.ctl with
    runs := (List.range 16).map fun n => { LRun.reset with limited := (d.lrun n).limited }, th := [], saving := none, prevU := List.replicate 16 0 } }
  let d := (List.range 16).foldl (fun d n =>
    let safe := d.reg (Reg.CTL_L_SAFE n)
    let d := (d.setReg (Reg.CTL_L_MAN n) safe).setReg (Reg.CTL_L_OUT n) safe
    { d with ctl := { d.ctl with prevU := d.ctl.prevU.set n (mant safe) } }) d
  { d with ctl := { d.ctl with th := d.ctl.thSaved.map d.thRestore } }

/-- The fields CTL_SAVE stores: RW and RWL of the loop and profile pages (R372). -/
def savePages (d : Drive) (inPages : Nat → Bool) : FMap :=
  (d.regs.filter fun e => decide (e.1 < 2 ^ 24) && inPages (e.1 / 4096)).foldl (fun (m : FMap) (e : Nat × Word) =>
    match specOf e.1 with
    | some (s, _, w) =>
      let mask := s.flds.foldl (fun n f =>
        if f.acc = .rw ∨ f.acc = .rwl then n + (2 ^ (f.hi + 1) - 2 ^ f.lo) else n) 0 / 2 ^ (32 * w)
      FMap.set rstVal m e.1 ((e.2 &&& word mask) ||| (rstVal e.1 &&& ~~~ word mask))
    | none => m) []

/-- A write of CTL_SAVE.SAVE (R372). -/
def ctlSaveW (v : Word) (_ : Env) (d : Drive) : Drive :=
  if bit v 0 ∧ d.ctl.saving = none then
    let m := savePages d fun p => decide (0x21 ≤ p) && decide (p < 0x36) && p != 0x31
    ({ d with ctl := { d.ctl with saving := some m } }).poke Reg.CTL_SAVE 31 31 1
  else d

/-- The store completes (R373). -/
def ctlSaveDoneOp (_ : Env) (d : Drive) : Drive :=
  match d.ctl.saving with
  | none => d
  | some m =>
    let keep := d.saved.filter fun e => !(keyDom e.1 == 5)
    let d := { d with saved := m.foldl (fun (s : FMap) (e : Nat × Word) => FMap.insert s e.1 e.2) keep, ctl := { d.ctl with saving := none } }
    d.poke Reg.CTL_SAVE 31 31 0

/-- Loop 10 goes to MANUAL at 0 mA at a supply loss (R370); no event and no cause. -/
def Drive.chargeOff (d : Drive) : Drive :=
  if d.isOn 5 then
    ((d.setReg (Reg.CTL_L_MAN 10) 0).onRun 10 fun r => { r with next := none, cmd := none }).poke (Reg.CTL_L_STAT 10) 2 0 0
  else d

end Sys2Proof.Machine
end

