-- ==== Sys2Proof/Machine/Match.lean ====
section
/-! DEFINITION. The policy match engine (R198 to R226): search keys, geometries, the winner and the deciding row,
accounting, the entry steps, shadows, scrubbing, saving and rebuilding, throttling and diagnostic searches. The
meaning of an allow or a deny to a command is in Commands.lean. -/

namespace Sys2Proof.Machine

/-! ### Keys and tables (R198 to R207) -/

/-- A search key: the base key and the three further parts of R199, 320 bits each. -/
abbrev SKey := List (BitVec 320)

/-- Bytes `o` to `o + 39` of a prefix source as one part of the key. -/
def keyPart (pre : List Byte) (o : Nat) : BitVec 320 := BitVec.ofNat 320 (beNat (padTo 40 (pre.drop o)))

/-- The search key of R198 and R199. -/
def searchKey (tenant ns port cls vid : Nat) (pre : List Byte) : SKey :=
  let top := tenant % 4096 * 2 ^ 308 + ns % 4096 * 2 ^ 296 + port % 2 * 2 ^ 295 + cls % 8 * 2 ^ 292 + vid % 4096 * 2 ^ 280
  let base := top + min pre.length 255 * 2 ^ 272 + beNat (padTo 34 pre)
  [BitVec.ofNat 320 base, keyPart pre 34, keyPart pre 74, keyPart pre 114]

/-- The key staged in path `p`'s MCH_SKEY registers: words 10j to 10j + 9 are part j. -/
def Drive.stagedKey (d : Drive) (p : Path) : SKey :=
  (List.range 4).map fun j => BitVec.ofNat 320 (leNat (d.regBytes (pk p (Reg.MCH_SKEY (10 * j))) 10))

/-- Value and mask agree with a key part (R200). -/
def Entry.hits (x : Entry) (k : BitVec 320) : Bool := (x.value ^^^ k) &&& x.mask == 0

/-- The segments of table `t` in geometry `g`, and whether entries span them in width (R205). -/
def tableSegs (g t : Nat) : Option (Bool × List Nat) :=
  if g = 0 then some (false, [t % 4])
  else if (g = 1 ∨ g = 3) ∧ t < 2 then some (g == 1, [2 * t, 2 * t + 1])
  else if (g = 2 ∨ g = 4) ∧ t = 0 then some (g == 2, [0, 1, 2, 3])
  else none

/-- A match: its priority, table index and result row. -/
structure Hit where
  prio : Nat
  index : Nat
  row : Nat
  deriving DecidableEq, Repr

/-- The order of R208: priority from highest, index from lowest. -/
def Hit.before (a b : Hit) : Bool := b.prio < a.prio || (a.prio == b.prio && a.index < b.index)

/-- Insert into a list in R208's order. -/
def Hit.insert (a : Hit) : List Hit → List Hit
  | [] => [a]
  | b :: l => if a.before b then a :: b :: l else b :: Hit.insert a l

/-- Segment `n` of the engine. -/
def Mch.seg (m : Mch) (n : Nat) : List Entry := (m.segs[n]?).getD []

/-- The parts of entry `i` in the further segments of a width table agree with the key's further parts (R206); a part
never written has mask 0. -/
def Mch.restHits (m : Mch) (i : Nat) : List Nat → SKey → Bool
  | n :: ns, k :: ks =>
    (match (m.seg n).find? (·.idx == i) with | some x => x.hits k | none => true) && m.restHits i ns ks
  | _, _ => true

/-- Every match of a key in a table, in R208's order. -/
def Mch.matches (m : Mch) (wide : Bool) (segs : List Nat) (key : SKey) : List Hit :=
  let k0 := key.headD 0
  let found : List Hit :=
    if wide then
      ((m.seg (segs.headD 0)).filter fun x => x.valid && x.hits k0 && m.restHits x.idx segs.tail key.tail).map
        fun x => ⟨x.prio.toNat, x.idx, x.row.toNat⟩
    else
      ((List.range segs.length).zip segs).flatMap fun ks =>
        ((m.seg ks.2).filter fun x => x.valid && x.hits k0).map fun x => ⟨x.prio.toNat, ks.1 * 16384 + x.idx, x.row.toNat⟩
  found.foldl (fun l h => h.insert l) []

/-- MCH_ENG_CTL.GEOM and RUN. -/
def Drive.geom (d : Drive) : Nat := d.fld Reg.MCH_ENG_CTL 10 8
def Drive.mchRun (d : Drive) : Bool := d.flag Reg.MCH_ENG_CTL 0

/-- The table an opcode class is searched in (R207). -/
def Drive.classTable (d : Drive) (cls : Nat) : Nat := d.fld Reg.MCH_CLASS_MAP (2 * cls + 1) (2 * cls)

/-- Searches of table `t` are held: one of its segments rebuilds or is not in service (R219). -/
def Drive.tableHeld (d : Drive) (t : Nat) : Bool :=
  match tableSegs d.geom t with
  | some (_, segs) => segs.any fun n => d.mch.rebuilding.contains n || !d.isOn (16 + n)
  | none => false

/-! ### The result row (R201) -/

/-- Fields of a result row. -/
def rowAction (r : Nat) : Nat := bitsN r 63 62
def rowQos (r : Nat) : Nat := bitsN r 61 59
def rowSlot (r : Nat) : Nat := bitsN r 58 46
def rowQuota (r : Nat) : Nat := bitsN r 45 34
def rowSelf (r : Nat) : Bool := bitN r 33

/-- The accounting IDs a row names. -/
def rowIds (r : Nat) : List Nat := [bitsN r 31 20, bitsN r 19 8].filter (· != 0xFFF)

/-- How a search ends (R208): the deciding row, the limit on count-only rows, or no further match; with the rows passed
and the number of steps. -/
structure Walk where
  passed : List Hit
  decide : Option Hit
  limit : Bool
  deriving DecidableEq, Repr

/-- Step over count-only rows, `left` of which may still be passed. -/
def walk (left : Nat) : List Hit → Walk
  | [] => ⟨[], none, false⟩
  | h :: l =>
    if rowAction h.row ≠ 3 then ⟨[], some h, false⟩
    else match left with
      | 0 => ⟨[], none, true⟩
      | n + 1 =>
        let w := walk n l
        { w with passed := h :: w.passed }

/-- The decision for a miss (R209). -/
def Drive.missVerdict (d : Drive) (ids : List Nat) : Verdict :=
  { allow := d.flag Reg.MCH_ENG_CTL 14, pin := false, qos := d.fld Reg.MCH_ENG_CTL 13 11, slot := 0x1FFF, quotaId := 0
    quotaSelf := true, ids := ids, table := 0, index := 0 }

/-! ### Accounting (R211, R212) -/

/-- Lift a change of the engine to the drive. -/
def Drive.onMch (d : Drive) (f : Mch → Mch) : Drive := { d with mch := f d.mch }

/-- The counters of an accounting ID. -/
def Mch.account (m : Mch) (id : Nat) : Acct := (m.acct.find? (·.id == id)).getD ⟨id, 0, 0, 0⟩

/-- A 64-bit count of `k` more. -/
def count64 (n k : Nat) : Nat := if n + k < 2 ^ 64 then n + k else Config.counterOverflow (n + k)

/-- Change the counters of an ID. -/
def Mch.setAccount (m : Mch) (id : Nat) (f : Acct → Acct) : Mch :=
  { m with acct := f (m.account id) :: m.acct.filter fun a => !(a.id == id) }

/-- HITS of every ID in `ids` (each listed once). -/
def Drive.countHits (d : Drive) (ids : List Nat) : Drive :=
  d.onMch fun m => ids.foldl (fun m id => m.setAccount id fun a => { a with hits := count64 a.hits 1 }) m

/-- A command counted under `ids` has ended OK with `bytes` (R211). -/
def Drive.countOps (d : Drive) (ids : List Nat) (bytes : Nat) : Drive :=
  d.onMch fun m => ids.foldl
    (fun m id => m.setAccount id fun a => { a with ops := count64 a.ops 1, bytes := count64 a.bytes bytes }) m

/-- The accounting counters restart at 0 (R212). -/
def Drive.acctRestart (d : Drive) (e : Env) : Drive :=
  let d := d.onMch fun m => { m with acct := [] }
  (d.setReg Reg.MCH_ACCT_BASE_PCYC (word e.clk.pcycle)).setWide Reg.MCH_ACCT_BASE_MS (e.clk.optime % 2 ^ 48)

/-! ### A policy search (R208 to R210) -/

/-- The search of a key in the table of class `cls`, with everything it counts. -/
def Drive.search (d : Drive) (cls : Nat) (key : SKey) : Verdict × Drive :=
  let t := d.classTable cls
  let hits := match d.mchRun, tableSegs d.geom t with
    | true, some (wide, segs) => d.mch.matches wide segs key
    | _, _ => []
  let w := walk (d.fld Reg.MCH_ENG_CTL 18 16) hits
  let ids := ((w.passed ++ w.decide.toList).flatMap fun h => rowIds h.row).eraseDups
  let tie := match hits with
    | a :: b :: _ => a.prio == b.prio
    | _ => false
  let page := pgMch (match tableSegs d.geom t with | some (_, n :: _) => n | _ => 0)
  let d := d.bumpWide Reg.MCH_SEARCHES (1 + w.passed.length)
  let d := if 2 ≤ hits.length then d.bumpOpen Reg.MCH_MULTI 1 else d
  let d := if tie then (d.bumpOpen Reg.MCH_TIES 1).setInt page 2 else d
  let d := if w.limit then d.bumpOpen Reg.MCH_CO_LIMIT 1 else d
  let d := d.countHits ids
  match w.decide with
  | some h =>
    ({ allow := rowAction h.row != 1, pin := rowAction h.row == 2, qos := rowQos h.row, slot := rowSlot h.row
       quotaId := rowQuota h.row, quotaSelf := rowSelf h.row, ids := ids, table := t, index := h.index }, d)
  | none => (d.missVerdict ids, d.bumpOpen Reg.MCH_MISSES 1)

/-- The deciding row of a class 2 command of `tenant` is bad (R204). -/
def Drive.rowBad (d : Drive) (v : Verdict) (tenant : BitVec 12) : Bool :=
  (v.slot != 0x1FFF && decide (4095 < v.slot)) ||
  (match d.cph.slots.find? (·.num == v.slot) with
   | some s => decide (v.slot ≤ 4095) && s.st != .empty && s.owner != tenant
   | none => false) ||
  (!v.quotaSelf && match d.nss.find? (·.id == v.quotaId) with
   | some n => n.owner != tenant
   | none => true)

/-- A bad row is counted and recorded (R204). -/
def Drive.countRowBad (d : Drive) (e : Env) (v : Verdict) (tenant : BitVec 12) (ns : Nat) : Drive :=
  (d.bumpOpen Reg.MCH_ROW_BAD 1).event e 0x500 v.table v.index tenant.toNat ns

/-! ### Entry steps (R213 to R215) -/

/-- Entry `i` of a segment or shadow; one never written has every bit 0. -/
def entryOf (l : List Entry) (i : Nat) : Entry := (l.find? (·.idx == i)).getD ⟨i, 0, 0, 0, false, 0⟩

/-- Replace an entry. -/
def putEntry (l : List Entry) (x : Entry) : List Entry := x :: l.filter fun y => !(y.idx == x.idx)

/-- Change entry `i` of segment `n` and its shadow together. -/
def Mch.entStep (m : Mch) (n i : Nat) (f : Entry → Entry) : Mch :=
  { m with
    segs := modAt m.segs n fun l => putEntry l (f (entryOf l i))
    shadows := modAt m.shadows n fun l => putEntry l (f (entryOf l i)) }

/-- The entry staged by path `p` for index `i` of segment `n`. -/
def Drive.stagedEntry (d : Drive) (p : Path) (n i : Nat) : Entry :=
  { idx := i
    value := BitVec.ofNat 320 (leNat (d.regBytes (pk p (Reg.MCH_ENT_VAL n 0)) 10))
    mask := BitVec.ofNat 320 (leNat (d.regBytes (pk p (Reg.MCH_ENT_MASK n 0)) 10))
    prio := BitVec.ofNat 12 (d.fld (pk p (Reg.MCH_ENT_PRIO n)) 11 0), valid := false
    row := BitVec.ofNat 64 (d.wide (pk p (Reg.MCH_ENT_RES n))) }

/-- The result of a step for path `p`. -/
def Drive.entStat (d : Drive) (p : Path) (n i result : Nat) : Drive :=
  d.setReg (pk p (Reg.MCH_ENT_STAT n)) (word (b2n (entryOf (d.mch.seg n) i).valid * 256 + result))

/-- A write of MCHn_ENT_CMD on path `p` (R213). -/
def entCmdW (n : Nat) (p : Path) (v : Word) (_ : Env) (d : Drive) : Drive :=
  let i := d.fld (pk p (Reg.MCH_ENT_IDX n)) 13 0
  let x := entryOf (d.mch.seg n) i
  match bits v 1 0 with
  | 0 =>
    let d := (d.setReg (pk p (Reg.MCH_ENT_PRIO n)) (word x.prio.toNat)).setWide (pk p (Reg.MCH_ENT_RES n)) x.row.toNat
    let d := d.setRegs (pk p (Reg.MCH_ENT_VAL n 0)) (leWords (leBytes 40 x.value.toNat))
    (d.setRegs (pk p (Reg.MCH_ENT_MASK n 0)) (leWords (leBytes 40 x.mask.toNat))).entStat p n i 0
  | op =>
    if d.mch.saving.isSome then d.entStat p n i 2
    else if op = 1 then (d.onMch fun m => m.entStep n i fun x => { x with valid := false }).entStat p n i 0
    else if op = 2 then
      if x.valid then d.entStat p n i 1
      else
        let y := d.stagedEntry p n i
        let d := d.onMch fun m =>
          { m.entStep n i fun _ => y with badShadow := m.badShadow.filter (· != (n, i)), shadowUe := m.shadowUe.filter (· != (n, i)) }
        d.entStat p n i 0
    else (d.onMch fun m => m.entStep n i fun x => { x with valid := true }).entStat p n i 0

/-! ### Geometry, saving, rebuilding (R207, R218, R219) -/

/-- GEOM has changed: every VALID bit of every segment and shadow is cleared. -/
def geomChanged (d : Drive) : Drive :=
  d.onMch fun m =>
    let off (l : List Entry) : List Entry := l.map fun x => { x with valid := false }
    { m with segs := m.segs.map off, shadows := m.shadows.map off }

/-- A write of MCH_ENG_CTL.SAVE (R218): what is stored is what stands now. -/
def mchSaveW (v : Word) (_ : Env) (d : Drive) : Drive :=
  if bit v 1 ∧ d.mch.saving = none then
    d.onMch fun m => { m with saving := some (m.shadows, d.reg Reg.MCH_ENG_CTL, d.reg Reg.MCH_CLASS_MAP) }
  else d

/-- The store completes. -/
def mchSaveDoneOp (_ : Env) (d : Drive) : Drive :=
  match d.mch.saving with
  | none => d
  | some (t, c, m) =>
    let d := d.onMch fun x => { x with saved := some (t, c, m), saving := none }
    { d with saved := FMap.set rstVal (FMap.set rstVal d.saved Reg.MCH_ENG_CTL c) Reg.MCH_CLASS_MAP m }

/-- Segment `n` begins to rebuild from its shadow (R219). -/
def Drive.rebuildSeg (d : Drive) (n : Nat) : Drive :=
  if d.mch.rebuilding.contains n then d else d.onMch fun m => { m with rebuilding := m.rebuilding ++ [n] }

/-- A write of MCHn_CTL.REBUILD. -/
def mchCtlW (n : Nat) (v : Word) (_ : Env) (d : Drive) : Drive := if bit v 0 then d.rebuildSeg n else d

/-- The rebuild of segment `n` has copied its shadow. -/
def Drive.segRebuilt (d : Drive) (n : Nat) : Drive :=
  if d.mch.rebuilding.contains n then
    (d.onMch fun m =>
      { m with rebuilding := m.rebuilding.filter (· != n), segs := m.segs.set n ((m.shadows[n]?).getD []) }).setInt
        (pgMch n) 4
  else d

/-- The stored tables are loaded into the shadows at start-up (R218); entries never saved are lost. -/
def Drive.loadShadows (d : Drive) : Drive :=
  d.onMch fun m =>
    { m with
      shadows := (match m.saved with | some (t, _, _) => t | none => List.replicate 4 []), badShadow := [], shadowUe := [] }

/-- MATCHn comes ON: its segment is rebuilt (R219). -/
def Drive.matchUp (d : Drive) (n : Nat) : Drive := (d.onMch fun m => { m with segs := m.segs.set n [] }).rebuildSeg n

/-! ### Scrubbing (R216, R217) -/

/-- What a repair or a loss counts on both pages. -/
def Drive.scrubNote (d : Drive) (e : Env) (n i bitScb bitMch cntA code : Nat) : Drive :=
  let d := ((d.bumpOpen cntA 1).setReg Reg.SCB_MCH_LAST (word (n * 65536 + i))).setInt pgScb bitScb
  let d := ((d.errCnt pgScb).errCnt (pgMch n)).setInt (pgMch n) bitMch
  d.event e code n i 0 0

/-- The scrubber compares entry `i` of segment `n` with its shadow, whose line may be bad: it finds so itself, or the patrol
has (R226). The last entry of the last segment ends a pass. -/
def scrubCompareOp (n i : Nat) (bad : Bool) (e : Env) (d : Drive) : Drive :=
  if !d.isOn 28 || !d.isOn (16 + n) || 16384 ≤ i then d
  else
    let x := entryOf (d.mch.seg n) i
    let y := entryOf ((d.mch.shadows[n]?).getD []) i
    let d :=
      if d.mch.badShadow.contains (n, i) then d
      else if bad || d.mch.shadowUe.contains (n, i) then
        let d := d.onMch fun m =>
          { m.entStep n i fun x => { x with valid := false } with
            badShadow := m.badShadow ++ [(n, i)], shadowUe := m.shadowUe.filter (· != (n, i)) }
        d.scrubNote e n i 1 1 Reg.SCB_MCH_LOST 0x502
      else if x = y then d
      else
        let d := d.onMch fun m => { m with segs := modAt m.segs n fun l => putEntry l y }
        d.scrubNote e n i 0 0 Reg.SCB_MCH_FIXED 0x501
    if n = 3 ∧ i = 16383 then d.bumpOpen Reg.SCB_MCH_PASSES 1 else d

/-! ### Throttling (R220) -/

/-- The step a junction temperature calls for. -/
def stepOf (t : Nat) : Nat :=
  if t ≤ 85 then 0 else if t ≤ 90 then 1 else if t ≤ 95 then 2 else if t ≤ 100 then 3 else if t < 105 then 4 else 5

/-- The lower threshold of a step. -/
def stepFloor (k : Nat) : Nat := 80 + 5 * k

/-- The throttle state after the hottest junction reads `t` at `now`: step and since when it is cool enough. -/
def throttle (step : Nat) (cool : Option Nat) (t now : Nat) : Nat × Option Nat :=
  if step < stepOf t then (stepOf t, none)
  else if step = 0 ∨ stepFloor step < t + 2 then (step, none)
  else match cool with
    | none => (step, some now)
    | some at_ => if 100 ≤ now - at_ then (max (stepOf t) (step - 1), none) else (step, some at_)

/-- The 1 ms sample of the junction sensors, in °C. -/
def matchTempSampleOp (ts : List Nat) (e : Env) (d : Drive) : Drive :=
  let live := (List.range 4).filter fun n => d.isUp (16 + n)
  if live.isEmpty then d
  else
    let temps := (List.range 4).map fun n => if live.contains n then (ts[n]?).getD 0 else (d.mch.temps[n]?).getD 0
    let hot := (live.map fun n => (ts[n]?).getD 0).foldl max 0
    let (k, cool) := throttle d.mch.step d.mch.coolSince hot e.clk.optime
    let was := d.mch.step
    let d := d.onMch fun m => { m with temps := temps, step := k, coolSince := cool }
    if k = was then d else d.setInt (pgMch 0) 3

/-! ### Diagnostic searches (R221) and the accounting window -/

/-- Report a match, or that none remains, to path `p`. -/
def Drive.report (d : Drive) (p : Path) (all : List Hit) (h : Option Hit) : Drive :=
  match h with
  | none => (d.setReg (pk p Reg.MCH_SRCH_RES) 0).setReg (pk p Reg.MCH_SRCH_IDX) 0 |>.setWide (pk p Reg.MCH_SRCH_ROW) 0
  | some h =>
    let tie := decide (2 ≤ (all.filter fun x => x.prio == h.prio).length)
    let res := 2 ^ 31 + b2n (decide (2 ≤ all.length)) * 2 ^ 30 + b2n tie * 2 ^ 29 + h.prio
    ((d.setReg (pk p Reg.MCH_SRCH_RES) (word res)).setReg (pk p Reg.MCH_SRCH_IDX) (word h.index)).setWide
      (pk p Reg.MCH_SRCH_ROW) h.row

/-- The matches of the key path `p` has staged, in the table it names; none while RUN is 0. -/
def Drive.diagMatches (d : Drive) (p : Path) : List Hit :=
  match d.mchRun, tableSegs d.geom (d.fld (pk p Reg.MCH_SRCH_CTL) 1 0) with
  | true, some (wide, segs) => d.mch.matches wide segs (d.stagedKey p)
  | _, _ => []

/-- A diagnostic search, or its next match, on path `p`. -/
def Drive.diagSearch (d : Drive) (p : Path) (next : Bool) : Drive :=
  let t := d.fld (pk p Reg.MCH_SRCH_CTL) 1 0
  let all := d.diagMatches p
  let d := d.bumpWide Reg.MCH_SEARCHES 1
  if next then
    let last : Hit := ⟨d.fld (pk p Reg.MCH_SRCH_RES) 11 0, d.fld (pk p Reg.MCH_SRCH_IDX) 15 0, 0⟩
    if d.flag (pk p Reg.MCH_SRCH_RES) 31 then d.report p all (all.find? fun h => last.before h) else d.report p all none
  else
    let tie := match all with
      | a :: b :: _ => a.prio == b.prio
      | _ => false
    let page := pgMch (match tableSegs d.geom t with | some (_, n :: _) => n | _ => 0)
    let d := if 2 ≤ all.length then d.bumpOpen Reg.MCH_MULTI 1 else d
    let d := if tie then (d.bumpOpen Reg.MCH_TIES 1).setInt page 2 else d
    d.report p all all.head?

/-- A write of MCH_SRCH_CTL on path `p`: held while a segment of the table rebuilds. -/
def srchCtlW (p : Path) (v : Word) (_ : Env) (d : Drive) : Drive :=
  if !bit v 8 && !bit v 9 then d
  else if d.tableHeld (bits v 1 0) then d.onMch fun m => { m with heldDiag := m.heldDiag ++ [(p, !bit v 8)] }
  else d.diagSearch p (!bit v 8)

/-- Held diagnostic searches whose tables are in service again run, oldest first. -/
def Drive.runHeldDiag (d : Drive) : Drive :=
  let hs := d.mch.heldDiag
  hs.foldl (fun d h =>
    if d.tableHeld (d.fld (pk h.1 Reg.MCH_SRCH_CTL) 1 0) then d.onMch fun m => { m with heldDiag := m.heldDiag ++ [h] }
    else d.diagSearch h.1 h.2) (d.onMch fun m => { m with heldDiag := [] })

/-- A write of MCH_ACCT_SEL on path `p` latches the ID's counters. -/
def acctSelW (p : Path) (v : Word) (_ : Env) (d : Drive) : Drive :=
  let a := d.mch.account (bits v 11 0)
  ((d.setWide (pk p Reg.MCH_ACCT_HITS) a.hits).setWide (pk p Reg.MCH_ACCT_OPS) a.ops).setWide
    (pk p Reg.MCH_ACCT_BYTES) a.bytes

end Sys2Proof.Machine
end

