-- ==== Sys2Proof/Machine/Cipher.lean ====
section
/-! DEFINITION. The cipher engine (R227 to R265): slots, generations and counters, the queues, the checks at dequeue,
completion, rewrites and erases. What a finished request means to its producer (a drain, a read, a page) is in
Drain.lean; a request's end is handed on as a `CphEnd`. -/

namespace Sys2Proof.Machine

/-! ### Slots (R227 to R237) -/

/-- Class of a slot: 0 tenant, 1 direct, 2 store (R227). -/
def slotClass (n : Nat) : Nat := if n < 4096 then 0 else if n < 4112 then 1 else 2

/-- A slot as the factory leaves it: tenant and direct slots EMPTY with GEN 0; a store slot holds the drive's first key. -/
def KeySlot.factory (n : Nat) : KeySlot :=
  if slotClass n = 2 then
    { num := n, st := .loaded, owner := 0, gen := 1, ctr := 0, ceil := 2 ^ 36
      gens := [(1, padTo 64 (Config.storeKey (n - 4112)))], waits := [], nearDone := false, blob := 0 }
  else
    { num := n, st := .empty, owner := 0, gen := 0, ctr := 0, ceil := 0, gens := [], waits := [], nearDone := false
      blob := 0 }

/-- Slot `n`. -/
def Drive.kslot (d : Drive) (n : Nat) : KeySlot := (d.cph.slots.find? (·.num == n)).getD (KeySlot.factory n)

/-- Lift a change of the cipher engine to the drive. -/
def Drive.onCph (d : Drive) (f : Cph → Cph) : Drive := { d with cph := f d.cph }

/-- The key-store image's record of slot `n` (R228, R234). -/
def Drive.kimage (d : Drive) (n : Nat) : KeyImage :=
  let s := KeySlot.factory n
  (d.cph.image.find? (·.num == n)).getD
    { num := n, st := s.st, owner := s.owner, gen := s.gen, ceil := s.ceil, gens := s.gens, ctrHw := 2 ^ 20
      exact := none, commit := 0, near := false, blob := 0 }

/-- The high-water mark for a counter: a multiple of 2^20 above it, not below the one that stands (R234). -/
def ctrMark (ctr : Nat) : Nat := (ctr / 2 ^ 20 + 1) * 2 ^ 20

/-- Write a slot's record, and the image's where the class has one. A load that waits under R239 is not in the image. -/
def Drive.setSlot (d : Drive) (s : KeySlot) : Drive :=
  let d := d.onCph fun c => { c with slots := s :: c.slots.filter fun x => !(x.num == s.num) }
  if slotClass s.num = 1 then d
  else
    let im := d.kimage s.num
    let im := { im with
      st := if s.st = .rekeyWait then .loaded else s.st
      owner := s.owner, gen := s.gen, ceil := s.ceil, gens := s.gens, near := s.nearDone, blob := s.blob
      ctrHw := if im.gen = s.gen then max im.ctrHw (ctrMark s.ctr) else ctrMark s.ctr }
    d.onCph fun c => { c with image := im :: c.image.filter fun x => !(x.num == s.num) }

/-- The image records `csn` as the commit position of the last load or erase it applied to slot `n` (R243). -/
def Drive.markCommit (d : Drive) (n csn : Nat) : Drive :=
  let im := { d.kimage n with commit := csn }
  d.onCph fun c => { c with image := im :: c.image.filter fun x => !(x.num == n) }

/-- RSV of a slot: the reservations of writes that have passed step 7 and whose segments are not yet dequeued (R235). -/
def Drive.rsvOf (d : Drive) (n : Nat) : Nat :=
  ((d.jrn.recs.filter fun r => r.keySlot == n).map (·.rsvLeft)).foldl (· + ·) 0 +
    ((d.jrn.heldAccept.filter fun h => h.rsv.1 == n).map (·.rsv.2)).foldl (· + ·) 0

/-- CEIL that a load gives (R232, R236). -/
def Drive.ceilDflt (d : Drive) (n : Nat) : Nat := if slotClass n = 2 then 2 ^ 36 else d.wide Reg.CPH_CEIL_DFLT

/-- SLOT_NEAR, the first time in a generation (R235). -/
def Drive.nearCheck (d : Drive) (e : Env) (n : Nat) : Drive :=
  let s := d.kslot n
  if slotClass n ≠ 2 ∧ s.st ≠ .empty ∧ !s.nearDone ∧ s.ceil * d.fld Reg.CPH_WARN 7 0 ≤ (s.ctr + d.rsvOf n) * 256 then
    ((d.setSlot { s with nearDone := true }).setInt pgCph 1).event e 0x600 n s.owner.toNat s.gen s.ctr
  else d

/-- SLOT_EXHAUSTED, when CTR reaches CEIL (R235). -/
def Drive.exhaustCheck (d : Drive) (e : Env) (n : Nat) : Drive :=
  let s := d.kslot n
  if slotClass n ≠ 2 ∧ s.st = .loaded ∧ s.ceil ≤ s.ctr then
    ((d.setSlot { s with st := .exhausted }).setInt pgCph 2).event e 0x601 n s.owner.toNat s.gen s.ctr
  else d

/-- A new generation of a slot comes into force with the key of load `w` (R230, R237). -/
def Drive.install (d : Drive) (n : Nat) (w : KeyWait) : Drive :=
  let s := d.kslot n
  d.setSlot { s with
    st := .loaded, owner := w.owner, gen := s.gen + 1, ctr := 0, ceil := d.ceilDflt n, gens := (s.gen + 1, w.key) :: s.gens
    nearDone := false, blob := w.blob }

/-- Generations a slot holds, and those that its waiting loads will take (R241). -/
def KeySlot.held (s : KeySlot) : Nat := s.gens.length + s.waits.length

/-- A load of slot `n` takes effect (R237, R239): at once into an EMPTY slot, and otherwise as a rewrite. The answer says
whether the key is in force. -/
def Drive.loadSlot (d : Drive) (n : Nat) (w : KeyWait) : Bool × Drive :=
  let s := d.kslot n
  match s.st with
  | .empty =>
    let d := d.install n w
    (true, if w.rsn.isSome then d.markCommit n w.csn else d)
  | _ => (false, d.setSlot { s with st := .rekeyWait, waits := s.waits ++ [w] })

/-! ### Requests (R244 to R249) -/

/-- An encrypting request: it takes a value of CTR (R231). -/
def CphOp.encrypts : CphOp → Bool
  | .gcmEnc => true
  | .xtsEnc => true
  | .cmacGen => true
  | _ => false

/-- Classes of R244, by mode. -/
def CphOp.isGcm : CphOp → Bool
  | .gcmEnc => true
  | .gcmDec => true
  | _ => false

def CphOp.isXts : CphOp → Bool
  | .xtsEnc => true
  | .xtsDec => true
  | _ => false

def CphOp.isCmac : CphOp → Bool
  | .cmacGen => true
  | .cmacVerify => true
  | _ => false

/-- The mode of an OP code (R246). -/
def cphOpOf (n : Nat) : CphOp :=
  if n = 1 then .gcmEnc else if n = 2 then .gcmDec else if n = 3 then .xtsEnc else if n = 4 then .xtsDec
  else if n = 5 then .cmacGen else if n = 6 then .cmacVerify else .undefined_ n

/-- Queue `q` accepts mode `op` (R244). -/
def queueMode (q : Nat) (op : CphOp) : Bool :=
  if q < 8 then op == .gcmEnc
  else if q < 16 then op == .gcmDec
  else if q < 24 then op.isXts
  else if q < 26 then op.isGcm
  else if q < 28 then op.isGcm || op.isXts
  else if q < 30 then op.isCmac
  else op.isXts || op.isCmac

/-- Queue `q` accepts slots of class `c` (R244). -/
def queueClass (q c : Nat) : Bool :=
  if q < 16 then c == 0
  else if q < 24 then c == 2
  else if q < 26 then c == 0
  else if q < 28 then c == 0 || c == 2
  else if q = 30 then c == 1 || c == 2
  else c == 1

/-- LEN is within the limits of R249. -/
def lenOk (q : Nat) (op : CphOp) (len : Nat) : Bool :=
  if q < 28 then
    if op.isGcm then decide (64 < len) && (len - 64) % 4096 == 0 && decide (1 ≤ (len - 64) / 4096) &&
      decide ((len - 64) / 4096 ≤ 16)
    else len == 4096 || len == 16384
  else
    (if op.isXts then decide (16 ≤ len) && decide (len ≤ 4096) else decide (len ≤ 4096)) &&
      (q != 31 || decide (len ≤ 1024))

/-- How a request ended: completion code, output and tag (R248). -/
structure CphEnd where
  req : CphReq
  code : Nat
  out : List Byte
  tag : List Byte
  deriving DecidableEq, Repr

/-- Enqueue a request on queue `q`; its number is the next one. -/
def Drive.enqueue (d : Drive) (q : Nat) (r : CphReq) : Drive :=
  d.onCph fun c => { c with nextId := c.nextId + 1, queues := modAt c.queues q (· ++ [{ r with id := c.nextId, queue := q }]) }

/-- A request with nothing filled in. -/
def CphReq.blank (op : CphOp) (slot len : Nat) (use : CphUse) : CphReq :=
  { id := 0, queue := 0, op := op, slot := slot, len := len, gen := 0, rsv := false, release := false, iv := 0, tag := []
    aad := [], src := [], use := use, stale := false, waited := false, bound := 0, ctr := 0, again := false, fails := none }

/-- OP of a mode (R246). -/
def CphOp.code : CphOp → Nat
  | .gcmEnc => 1
  | .gcmDec => 2
  | .xtsEnc => 3
  | .xtsDec => 4
  | .cmacGen => 5
  | .cmacVerify => 6
  | .undefined_ c => c % 256

/-- The two words of a 64-bit field, low word first. -/
def words2 (n : Nat) : List Word := [word n, word (n / 2 ^ 32)]

/-- The descriptor of a request: sixteen words, with the addresses of the buffers that its producer gave it (R246). -/
def CphReq.descriptor (r : CphReq) : List Word :=
  let tagged := r.op == .gcmDec || r.op == .cmacVerify
  [word (r.op.code * 2 ^ 24 + r.slot), word r.len, word r.gen, word (2 * b2n r.rsv + b2n r.release)] ++
    words2 (Config.bufAddr r.id 0) ++ words2 (if r.op.isCmac then 0 else Config.bufAddr r.id 1) ++
    words2 (if r.op.isGcm then Config.bufAddr r.id 2 else 0) ++ words2 r.iv ++
    leWords (padTo 16 (if tagged then r.tag else []))

/-- The completion record of a request: eight words (R248). -/
def CphEnd.record (x : CphEnd) : List Word :=
  let tagged := x.code == 0 && (x.req.op == .gcmEnc || x.req.op == .cmacGen)
  [word (x.code * 2 ^ 24 + x.req.slot), word x.req.bound] ++ words2 (if x.req.op.encrypts then x.req.ctr else 0) ++
    leWords (padTo 16 (if tagged then x.tag else []))

/-- What a completion counts (R260, R261); its record is written (R248). -/
def Drive.countEnd (d : Drive) (x : CphEnd) : Drive :=
  let d := d.onCph fun c => { c with lastDone := x.record }
  let d := if x.req.op.isCmac then d.bump Reg.CPH_CMAC 1 else d
  if x.code = 0 then
    match x.req.op with
    | .gcmEnc => d.bumpWide Reg.CPH_GCM_ENC 1
    | .gcmDec => d.bumpWide Reg.CPH_GCM_DEC 1
    | .xtsEnc => d.bumpWide Reg.CPH_XTS 1
    | .xtsDec => d.bumpWide Reg.CPH_XTS 1
    | _ => d
  else if x.code = 0x0A then d.bump Reg.CPH_REVOKED 1
  else if x.code = 0x0B then d.bump Reg.CPH_EXHAUSTED 1
  else if x.code = 3 ∨ x.code = 0x40 then d.bump Reg.CPH_BAD_REQ 1
  else if x.code = 0x41 then (d.setInt pgCph 7).errCnt pgCph
  else d

/-- The end of a register-window request (R258, R265). -/
def Drive.windowEnd (d : Drive) (p : Path) (x : CphEnd) : Drive :=
  let d := (d.setReg (pk p Reg.CPH_MQ_STAT) (word x.code)).setReg (pk p Reg.CPH_MQ_GEN) (word x.req.bound)
  let d := if x.code = 0 ∧ x.req.op = .cmacGen then d.setRegs (pk p (Reg.CPH_MQ_TAG 0)) (leWords x.tag) else d
  let d := if x.code = 0 ∧ x.req.op.isXts then d.setRegs (pk p (Reg.CPH_MQ_OUT 0)) (leWords x.out) else d
  d.setInt pgCph 5

/-- A request ends with nothing to show but its code. -/
def CphReq.ends (r : CphReq) (code : Nat) : CphEnd := ⟨r, code, [], []⟩

/-- One reserved segment of record `rsn` has been dequeued (R235). -/
def Drive.useRsv (d : Drive) (r : CphReq) : Drive :=
  match r.rsv && !r.again, r.use with
  | true, .drain rsn _ =>
    { d with jrn := { d.jrn with recs := modIf d.jrn.recs (·.rsn == rsn) fun x => { x with rsvLeft := x.rsvLeft - 1 } } }
  | _, _ => d

/-- A store slot's counter has reached 2^36 − 2^21: it is rekeyed with a fresh random key (R236). -/
def Drive.storeRekey (d : Drive) (n : Nat) : Drive :=
  let s := d.kslot n
  if slotClass n = 2 ∧ s.ctr = 2 ^ 36 - 2 ^ 21 ∧ s.st = .loaded then
    let (k, d) := d.draw
    (d.loadSlot n ⟨padTo 64 (Config.randomBytes k), 0, 0, none, 0⟩).2
  else d

/-- A request binds its generation and, encrypting, takes CTR; then it runs (R231, R237). At R247's step 7 it may end. -/
def Drive.bind (d : Drive) (e : Env) (r : CphReq) : List CphEnd × Drive :=
  let s := d.kslot r.slot
  if r.op.encrypts then
    let d := d.useRsv r
    if slotClass r.slot ≠ 2 ∧ s.ceil + (if r.rsv then 2 ^ 20 else 0) ≤ s.ctr then ([r.ends 0x0B], d)
    else
      let d := d.setSlot { s with ctr := s.ctr + 1 }
      let d := d.onCph fun c => { c with running := c.running ++ [{ r with bound := s.gen, ctr := s.ctr }] }
      ([], ((d.nearCheck e r.slot).exhaustCheck e r.slot).storeRekey r.slot)
  else
    let g := if r.op = .cmacVerify then s.gen else r.gen
    ([], d.onCph fun c => { c with running := c.running ++ [{ r with bound := g }] })

/-- Free slots of the release buffer (R253). -/
def Cph.relFree (c : Cph) : Nat := 384 - c.release.length

/-- The request's segment already has its release slot: it is the second decryption of R254. -/
def Cph.relHeld (c : Cph) (r : CphReq) : Bool :=
  match r.use with
  | .read job seg => c.release.any fun x => x.job == job && x.seg == seg
  | _ => false

/-- A release slot is taken for the output of a read. -/
def Drive.takeRel (d : Drive) (r : CphReq) : Drive :=
  match r.use with
  | .read job seg =>
    if d.cph.release.any fun x => x.job == job && x.seg == seg then d
    else
      let d := d.onCph fun c => { c with release := c.release ++ [⟨job, seg, [], false, false, false⟩] }
      if d.cph.relFree = 0 then d.setInt pgCph 6 else d
  | _ => d

/-- R247's checks, in order; none: the request binds (step 7 is part of binding). -/
def Drive.dequeueCheck (d : Drive) (q : Nat) (r : CphReq) : Option Nat :=
  let s := d.kslot r.slot
  if !queueMode q r.op then some 0x40
  else if 4119 < r.slot ∨ !queueClass q (slotClass r.slot) then some 0x40
  else if !lenOk q r.op r.len then some 3
  else if r.stale then some 0x0A
  else if s.st = .empty then some 0x30
  else if (r.op = .gcmDec ∨ r.op = .xtsDec) ∧ !(s.gens.any (·.1 == r.gen)) then some 0x0A
  else none

/-- WEIGHT of a bulk queue (R245, R262). -/
def Drive.weight (d : Drive) (q : Nat) : Nat := d.fld (Reg.CPH_Q_WEIGHT q) 3 0

/-- The requests of queue `q`. -/
def Cph.queue (c : Cph) (q : Nat) : List CphReq := (c.queues[q]?).getD []

/-- Every bulk queue that has a request has started its share of this round (R245). -/
def Drive.roundDone (d : Drive) : Bool :=
  (List.range 28).all fun q => (d.cph.queue q).isEmpty || decide (d.weight q ≤ (d.cph.served[q]?).getD 0)

/-- Queue `q` may start a request now (R245): the management queues first, in strict order. -/
def Drive.mayStart (d : Drive) (q : Nat) : Bool :=
  decide (q < 32) && decide (d.cph.running.length < 16) &&
  ((List.range 32).all fun m => decide (m < 28) || decide (q ≤ m && 28 ≤ q) || (d.cph.queue m).isEmpty) &&
  (decide (28 ≤ q) || d.roundDone || decide ((d.cph.served[q]?).getD 0 < d.weight q))

/-- One request of queue `q` counts in the round. -/
def Drive.serve (d : Drive) (q : Nat) : Drive :=
  if 28 ≤ q then d
  else
    let fresh := d.roundDone
    d.onCph fun c =>
      let served := if fresh then List.replicate 28 0 else c.served
      { c with served := modAt served q (· + 1) }

/-- The engine dequeues the head of queue `q` (R245, R247, R253). -/
def Drive.dequeue (d : Drive) (e : Env) (q : Nat) : List CphEnd × Drive :=
  if !d.isOn 15 || !d.mayStart q then ([], d)
  else match d.cph.queue q with
    | [] => ([], d)
    | r :: rest =>
      match d.dequeueCheck q r with
      | some code =>
        let d := (d.serve q).onCph fun c => { c with queues := c.queues.set q rest }
        ([r.ends code], d.useRsv r)
      | none =>
        if r.release ∧ d.cph.relFree = 0 ∧ !d.cph.relHeld r then
          if r.waited then ([], d)
          else
            let d := d.bump Reg.CPH_RELBUF_WAITS 1
            ([], d.onCph fun c => { c with queues := c.queues.set q ({ r with waited := true } :: rest) })
        else
          let d := (d.serve q).onCph fun c => { c with queues := c.queues.set q rest }
          if r.op.encrypts ∧ (d.kslot r.slot).st = .rekeyWait then
            ([], d.onCph fun c => { c with aside := c.aside ++ [r] })
          else (if r.release then d.takeRel r else d).bind e r

/-! ### Running a request -/

/-- The 24-byte AAD of a segment (R251). -/
def segAad (ns slot gen ver index units : Nat) : List Byte :=
  beBytes 2 ns ++ beBytes 2 slot ++ beBytes 4 gen ++ beBytes 8 ver ++ beBytes 4 index ++ beBytes 2 units ++ beBytes 2 0

/-- The 96-bit nonce (R233). -/
def gcmNonce (gen ctr : Nat) : List Byte := beBytes 4 gen ++ beBytes 8 ctr

/-- Key bytes of a generation a slot holds. -/
def KeySlot.key (s : KeySlot) (gen : Nat) : List Byte := ((s.gens.find? (·.1 == gen)).map (·.2)).getD []

/-- The AAD of a request with the generation bound at encryption put into its place. -/
def CphReq.boundAad (r : CphReq) : List Byte := r.aad.take 4 ++ beBytes 4 r.bound ++ r.aad.drop 8

/-- The 64-byte CRC block of a segment's units (R250). -/
def crcBlock (crcs : List Word) : List Byte := padTo 64 (crcs.map fun c => beBytes 4 c.toNat).flatten

/-- The units of a decrypted segment with the CRCs of its CRC block. -/
def plainUnits (pt : List Byte) : List (List Byte × Word) :=
  let n := (pt.length - 64) / 4096
  (List.range n).map fun j => (slice pt (4096 * j) 4096, word (beAt pt (4096 * n + 4 * j) 4))

/-- Every unit agrees with its CRC (R256). -/
def crcsOk (us : List (List Byte × Word)) : Bool := us.all fun u => crc32c u.1 == u.2

/-- What a running request computes. The contents of index and metadata pages are the drive's own: a page request carries
no bytes. -/
def Drive.compute (d : Drive) (r : CphReq) : CphEnd :=
  let key := (d.kslot r.slot).key r.bound
  match r.op with
  | .gcmEnc =>
    let (ct, tag) := gcmEnc key (gcmNonce r.bound r.ctr) r.boundAad r.src
    if crcsOk (plainUnits r.src) then ⟨r, 0, ct, tag⟩ else r.ends 0x41
  | .gcmDec =>
    match gcmDec key (gcmNonce r.bound r.iv) r.aad r.src r.tag with
    | some pt => if crcsOk (plainUnits pt) then ⟨r, 0, pt, []⟩ else r.ends 0x41
    | none => r.ends 9
  | .xtsEnc => ⟨r, 0, aesXtsAny false key (leBytes 16 r.iv) r.src, []⟩
  | .xtsDec => ⟨r, 0, aesXtsAny true key (leBytes 16 r.iv) r.src, []⟩
  | .cmacGen => ⟨r, 0, [], aesCmac (key.take 32) r.src⟩
  | .cmacVerify => r.ends (if aesCmac (key.take 32) r.src = r.tag then 0 else 9)
  | .undefined_ _ => r.ends 0x40

/-- Take a running request out of the engine. -/
def Drive.unrun (d : Drive) (id : Nat) : Option CphReq × Drive :=
  (d.cph.running.find? (·.id == id), d.onCph fun c => { c with running := c.running.filter fun x => !(x.id == id) })

/-- Requests bound to the current generation of slot `n` and not finished. -/
def Drive.boundTo (d : Drive) (n : Nat) : Nat :=
  (d.cph.running.filter fun r => r.slot == n && r.bound == (d.kslot n).gen).length

/-- A rewrite of slot `n` comes into force (R239): the key, the set-aside requests in their order, the next load that
waits. The answer names the journal record of the load and its generation. -/
def Drive.rekeyed (d : Drive) (e : Env) (n : Nat) : Option (Option Nat × Nat) × List CphEnd × Drive :=
  let s := d.kslot n
  match s.st, s.waits with
  | .rekeyWait, w :: rest =>
    if d.boundTo n ≠ 0 then (none, [], d)
    else
      let d := d.setSlot { s with waits := rest }
      let d := d.install n w
      let d := if w.rsn.isSome then d.markCommit n w.csn else d
      let mine := d.cph.aside.filter (·.slot == n)
      let d := d.onCph fun c => { c with aside := c.aside.filter fun r => !(r.slot == n) }
      let (ends, d) := mine.foldl (fun (acc : List CphEnd × Drive) r =>
        let (x, d) := acc.2.bind e r
        (acc.1 ++ x, d)) ([], d)
      let d := if rest.isEmpty then d else d.setSlot { d.kslot n with st := .rekeyWait }
      (some (w.rsn, (d.kslot n).gen), ends, d.setInt pgCph 3)
  | _, _ => (none, [], d)

/-- An erase of slot `n` takes effect (R240): waiting loads come into force and are destroyed with every generation;
requests that name the slot are aborted. The answer lists the loads that came into force, with their generations, and
the requests that end with KEY_REVOKED. -/
def Drive.eraseSlot (d : Drive) (e : Env) (n : Nat) : List (Option Nat × Nat) × List CphEnd × Drive :=
  let s := d.kslot n
  let loads := (s.waits.zipIdx 1).map fun w => (w.1.rsn, s.gen + w.2)
  let gen := s.gen + s.waits.length
  let mine (r : CphReq) : Bool := r.slot == n
  let queued := (d.cph.queues.flatten.filter fun r => mine r && !r.stale).length
  let now := d.cph.running.filter mine ++ d.cph.aside.filter mine
  let d := d.setSlot { s with
    st := .empty, owner := 0, gen := gen, ctr := if s.waits.isEmpty then s.ctr else 0, gens := [], waits := []
    nearDone := false, blob := 0 }
  let d := d.onCph fun c =>
    { c with
      queues := c.queues.map fun q => q.map fun r => if mine r then { r with stale := true } else r
      aside := c.aside.filter fun r => !(mine r), running := c.running.filter fun r => !(mine r) }
  let d := { d with jrn := { d.jrn with recs := modIf d.jrn.recs (·.keySlot == n) fun x => { x with rsvLeft := 0 } } }
  let d := (d.setInt pgCph 4).event e 0x602 n gen (queued + now.length) 0
  (loads, now.map fun r => r.ends 0x0A, d)

/-- A management request of the drive's own on queue `q` runs at once: its queue comes before every bulk queue, and its
answer is waited for (R244, R245). None where CIPHER is not ON, or while the slot waits to be rewritten. -/
def Drive.runNow (d : Drive) (e : Env) (q : Nat) (r : CphReq) : Option CphEnd × Drive :=
  if !d.isOn 15 || (r.op.encrypts && (d.kslot r.slot).st == .rekeyWait) then (none, d)
  else match d.dequeueCheck q r with
    | some code => (some (r.ends code), d.countEnd (r.ends code))
    | none =>
      let id := d.cph.nextId
      let (xs, d) := (d.onCph fun c => { c with nextId := id + 1 }).bind e { r with id := id, queue := q }
      match xs, d.unrun id with
      | x :: _, _ => (some x, d.countEnd x)
      | [], (some r, d) => (some (d.compute r), d.countEnd (d.compute r))
      | [], (none, d) => (none, d)

/-- The CMAC of `msg` under direct slot `n`, made on queue `q` (R230, R231). -/
def Drive.cmacGen (d : Drive) (e : Env) (q n : Nat) (msg : List Byte) : Option (List Byte) × Drive :=
  let r := CphReq.blank .cmacGen n msg.length .auth
  match d.runNow e q { r with src := msg } with
  | (some x, d) => (if x.code = 0 then some x.tag else none, d)
  | (none, d) => (none, d)

/-- The tag of `msg` is checked under direct slot `n` on queue `q`; none where the slot cannot be used. -/
def Drive.cmacCheck (d : Drive) (e : Env) (q n : Nat) (msg tag : List Byte) : Option Bool × Drive :=
  let r := CphReq.blank .cmacVerify n msg.length .auth
  match d.runNow e q { r with src := msg, tag := tag } with
  | (some x, d) => (if x.code = 0 then some true else if x.code = 9 then some false else none, d)
  | (none, d) => (none, d)

/-! ### CIPHER's domain -/

/-- CIPHER shuts down through DRAINING: the exact counters are saved (R234). -/
def Drive.cipherSaved (d : Drive) : Drive :=
  let save (im : KeyImage) : KeyImage :=
    let s := d.kslot im.num
    if s.gen = im.gen then { im with exact := some s.ctr } else im
  d.onCph fun c => { c with image := c.image.map save }

/-- CIPHER leaves ON: what it holds beside the image is lost. -/
def Drive.cipherLost (d : Drive) : Drive :=
  d.onCph fun c => { c with
    slots := [], queues := List.replicate 32 [], aside := [], running := [], release := []
    served := List.replicate 28 0 }

/-- CIPHER comes ON: the image is loaded; a counter resumes at its exact value after DRAINING, otherwise at CTR_HW (R228,
R234). Direct slots are EMPTY with GEN 0. -/
def Drive.cipherUp (d : Drive) (e : Env) : Drive :=
  let slots := d.cph.image.map fun im =>
    { num := im.num, st := im.st, owner := im.owner, gen := im.gen
      ctr := if im.st = .empty then 0 else im.exact.getD im.ctrHw
      ceil := im.ceil, gens := im.gens, waits := [], nearDone := im.near, blob := im.blob : KeySlot }
  let d := (d.cipherLost).onCph fun c => { c with slots := slots, image := c.image.map fun im => { im with exact := none } }
  slots.foldl (fun d s => (d.setSlot s).exhaustCheck e s.num) d

/-! ### Register commands -/

/-- A write of CPH_CEIL_SET (R232, R263). -/
def ceilSetW (v : Word) (e : Env) (d : Drive) : Drive :=
  let n := d.fld Reg.CPH_SLOT_SEL 12 0
  let new := d.wide Reg.CPH_CEIL_NEW
  let s := d.kslot n
  if bits v 31 24 ≠ 0xA5 ∨ !bit v 0 ∨ s.st = .empty ∨ slotClass n = 2 ∨ new = 0 ∨ 2 ^ 64 - 2 ^ 21 < new then d
  else
    let ceil := max new (s.ctr + d.rsvOf n)
    let st := if s.st = .exhausted ∧ s.ctr < ceil then .loaded else s.st
    ((d.setSlot { s with ceil := ceil, st := st }).nearCheck e n).exhaustCheck e n

/-- A write of CPH_DSLOT_CMD on path `p` (R264). -/
def dslotCmdW (p : Path) (v : Word) (e : Env) (d : Drive) : List CphEnd × Drive :=
  let n := 4096 + bits v 3 0
  let op := bits v 9 8
  if bits v 31 24 ≠ 0xA5 ∨ (op ≠ 1 ∧ op ≠ 2) then ([], d)
  else
    let key := d.regBytes (pk p (Reg.CPH_DKEY 0)) 16
    let d := d.setRegs (pk p (Reg.CPH_DKEY 0)) (List.replicate 16 0)
    if op = 1 then ([], if 65536 ≤ (d.kslot n).held then d else (d.loadSlot n ⟨key, 0, 0, none, 0⟩).2)
    else if (d.kslot n).st = .empty then ([], d)
    else
      let (_, ends, d) := d.eraseSlot e n
      (ends, d)

/-- A write of CPH_MQ_GO on path `p` (R258, R265). -/
def mqGoW (p : Path) (v : Word) (_ : Env) (d : Drive) : Drive :=
  if !bit v 0 || d.flag (pk p Reg.CPH_MQ_STAT) 31 then d
  else
    let c := d.reg (pk p Reg.CPH_MQ_CMD)
    let op := cphOpOf (bits c 31 24)
    let slot := 4096 + bits c 16 13
    let len := bits c 10 0
    let r := CphReq.blank op slot len (.window p)
    let r := { r with
      src := (d.regBytes (pk p (Reg.CPH_MQ_IN 0)) 256).take len, tag := d.regBytes (pk p (Reg.CPH_MQ_TAG 0)) 4
      iv := leNat (d.regBytes (pk p (Reg.CPH_MQ_TWEAK 0)) 4), gen := (d.kslot slot).gen }
    let d := d.setRegs (pk p (Reg.CPH_MQ_OUT 0)) (List.replicate 256 0)
    (d.poke (pk p Reg.CPH_MQ_STAT) 31 31 1).enqueue 31 r

/-- Code of a slot state (CPH_SLOT_STATE.STATE). -/
def SlotState.code : SlotState → Nat
  | .empty => 0
  | .loaded => 1
  | .exhausted => 2
  | .rekeyWait => 3

/-- A write of CPH_SLOT_SEL on path `p` latches the slot's record (R263). -/
def slotSelW (p : Path) (_ : Word) (_ : Env) (d : Drive) : Drive :=
  let n := d.fld Reg.CPH_SLOT_SEL 12 0
  let s := d.kslot n
  let owner := if slotClass n = 0 ∧ s.st ≠ .empty then s.owner.toNat else 0
  let aside := (d.cph.aside.filter fun r => r.slot == n).length
  let rsv := d.rsvOf n
  let bound := d.boundTo n
  let d := d.setReg (pk p Reg.CPH_SLOT_STATE) (word (owner * 2 ^ 16 + slotClass n * 16 + s.st.code))
  let d := (d.setReg (pk p Reg.CPH_SLOT_GEN) (word s.gen)).setWide (pk p Reg.CPH_SLOT_CTR) s.ctr
  let d := (d.setWide (pk p Reg.CPH_SLOT_RSV) rsv).setWide (pk p Reg.CPH_SLOT_CEIL) s.ceil
  let d := d.setReg (pk p Reg.CPH_SLOT_BOUND) (word (min aside 65535 * 65536 + bound))
  d.setReg (pk p Reg.CPH_SLOT_HELD) (word s.gens.length)

end Sys2Proof.Machine
end

