-- ==== Sys2Proof/Machine/RecClear.lean ====
section
/-! DEFINITION. The authorised clear of the event recorder (R452, R453): challenges, the tag that slot 4,111 verifies, and the
start of the clear. -/

namespace Sys2Proof.Machine

/-- REC_CLR_CMD OP 1: a fresh challenge bound to the path (R452). -/
def recChallengeW (p : Path) (e : Env) (d : Drive) : Drive :=
  let (n, d) := d.draw
  let c := padTo 16 (Config.randomBytes n)
  let d := d.onRec fun r => { r with chal := some ⟨p, c, r.nor.length, e.clk.pcycle, e.clk.optime⟩ }
  d.setRegs (pk p (Reg.REC_CHAL 0)) (leWords c)

/-- The message a clear is authorised over (R452). -/
def recClearMsg (e : Env) (c : Challenge) : List Byte :=
  c.bytes ++ beBytes 8 e.fac.serial.toNat ++ beBytes 4 c.count ++ beBytes 4 c.pcycle

/-- The RESULT of a clear command, by the first condition that fails (R453); the tag is verified on queue 29. -/
def Drive.recClearCheck (d : Drive) (e : Env) (p : Path) : Nat × Drive :=
  match d.recorder.chal with
  | none => (1, d)
  | some c =>
    if c.path ≠ p then (1, d)
    else if !d.recorder.frozen then (2, d)
    else if d.recorder.nor.length ≠ c.count then (5, d)
    else match d.cmacCheck e 29 4111 (recClearMsg e c) (d.regBytes (pk p (Reg.REC_CLR_TAG 0)) 4) with
      | (some true, d) => (0, d)
      | (some false, d) => (4, d)
      | (none, d) => (3, d)

/-- REC_CLR_CMD OP 2 (R453): on OK the recorder enters CLEARING with its mark written and its queue discarded. -/
def recClearW (p : Path) (e : Env) (d : Drive) : Drive :=
  if d.recorder.clearing then d else
  let (res, d) := d.recClearCheck e p
  let now := e.clk.optime
  let c := d.recorder.chal
  let d := d.poke (pk p Reg.REC_CLR_STAT) 10 8 res
  if res = 0 then
    let q := d.recorder.queue
    let d := q.foldl (fun d ev => d.recDrop ev.code 2 now) d
    d.onRec fun r =>
      { r with
        queue := [], clearing := true, chal := none
        mark := some (r.nor.length, r.fullDrops, (c.map (·.pcycle)).getD 0, Path.code p) }
  else
    let d := d.onRec fun r =>
      { r with chal := if res = 1 then r.chal else none }
    (d.setInt pgRec 5).event e 0x6 res (Path.code p) 0 0

/-- A write of REC_CLR_CMD. -/
def recClrCmdW (p : Path) (v : Word) (e : Env) (d : Drive) : Drive :=
  if bits v 31 24 ≠ 0xA5 then d
  else if bits v 1 0 = 1 then recChallengeW p e d
  else if bits v 1 0 = 2 then recClearW p e d
  else d

end Sys2Proof.Machine
end

