-- ==== Sys2Proof/Machine/Wire.lean ====
section
/-! DEFINITION. The bytes of a frame a port sends (R71, R84, R86 to R89): Ethernet header and tag, the bodies of ARP, IPv4,
IPv6, UDP, ICMP and Neighbor Discovery, the UDP checksum and the frame check sequence. Header fields the spec does not
state are free values. -/

namespace Sys2Proof.Machine

/-! ### Checks -/

/-- One bit of the reflected IEEE 802.3 CRC-32. -/
def fcsBit (c : Word) : Word := if c.getLsbD 0 then (c >>> 1) ^^^ 0xEDB88320#32 else c >>> 1

/-- One byte of it. -/
def fcsByte (c : Word) (b : Byte) : Word :=
  let c := c ^^^ b.setWidth 32
  fcsBit (fcsBit (fcsBit (fcsBit (fcsBit (fcsBit (fcsBit (fcsBit c)))))))

/-- The IEEE 802.3 frame check sequence of a byte string. -/
def fcs32 (bs : List Byte) : Word := ~~~ (bs.foldl fcsByte 0xFFFFFFFF#32)

/-- The sum of the big-endian 16-bit words of a byte string. -/
def halfSum : List Byte → Nat
  | [] => 0
  | [a] => a.toNat * 256
  | a :: b :: r => a.toNat * 256 + b.toNat + halfSum r

/-- The Internet checksum: the complement of the one's complement sum. -/
def inetSum (bs : List Byte) : Nat :=
  let s := halfSum bs
  65535 - (if s = 0 then 0 else (s - 1) % 65535 + 1)

/-! ### Internet headers. `x` supplies the fields the spec does not state. -/

/-- The IPv4 or IPv6 header in front of `len` bytes; `hop` is the IPv6 hop limit where a rule fixes it. -/
def ipHdr (ipv6 : Bool) (src dst : BitVec 128) (proto len x : Nat) (hop : Option Nat) : List Byte :=
  if ipv6 then
    beBytes 4 (6 * 2 ^ 28 + x % 2 ^ 28) ++ beBytes 2 len ++ beBytes 1 proto ++ beBytes 1 (hop.getD (x / 2 ^ 28 % 256)) ++
      beBytes 16 src.toNat ++ beBytes 16 dst.toNat
  else
    let a := beBytes 1 0x45 ++ beBytes 1 (x % 256) ++ beBytes 2 (20 + len) ++ beBytes 2 (x / 2 ^ 8 % 65536) ++
      beBytes 2 (x / 2 ^ 24 % 2 * 0x4000) ++ beBytes 1 (x / 2 ^ 28 % 256) ++ beBytes 1 proto
    let b := beBytes 4 src.toNat ++ beBytes 4 dst.toNat
    a ++ beBytes 2 (inetSum (a ++ b)) ++ b

/-- What a checksum of an upper layer covers beside its own bytes. -/
def pseudoHdr (ipv6 : Bool) (src dst : BitVec 128) (proto len : Nat) : List Byte :=
  if ipv6 then beBytes 16 src.toNat ++ beBytes 16 dst.toNat ++ beBytes 4 len ++ beBytes 4 proto
  else beBytes 4 src.toNat ++ beBytes 4 dst.toNat ++ beBytes 2 proto ++ beBytes 2 len

/-- A UDP datagram in its IP packet, with its checksum (R84). -/
def udpPacket (ipv6 : Bool) (src dst : BitVec 128) (sport port : Nat) (bs : List Byte) (x : Nat) : List Byte :=
  let len := 8 + bs.length
  let h := beBytes 2 sport ++ beBytes 2 port ++ beBytes 2 len
  let sum := inetSum (pseudoHdr ipv6 src dst 17 len ++ h ++ bs)
  ipHdr ipv6 src dst 17 len x none ++ h ++ beBytes 2 (if sum = 0 then 0xFFFF else sum) ++ bs

/-- An ICMP or ICMPv6 message in its IP packet: its type, then what follows its checksum. ICMPv6 sums a pseudo-header too. -/
def icmpPacket (ipv6 : Bool) (src dst : BitVec 128) (ty : Nat) (rest : List Byte) (x : Nat) (hop : Option Nat) : List Byte :=
  let len := 4 + rest.length
  let h := beBytes 1 ty ++ [0]
  let sum := inetSum ((if ipv6 then pseudoHdr ipv6 src dst 58 len else []) ++ h ++ rest)
  ipHdr ipv6 src dst (if ipv6 then 58 else 1) len x hop ++ h ++ beBytes 2 sum ++ rest

/-- An ARP message (R86). -/
def arpBytes (op mac ip toMac toIp : Nat) : List Byte :=
  beBytes 2 1 ++ beBytes 2 0x0800 ++ [6, 4] ++ beBytes 2 op ++ beBytes 6 mac ++ beBytes 4 ip ++ beBytes 6 toMac ++ beBytes 4 toIp

/-- The solicited-node multicast MAC and IPv6 address of an address. -/
def solicitedMac (a : Nat) : BitVec 48 := BitVec.ofNat 48 (0x3333FF000000 + a % 2 ^ 24)
def solicitedIp (a : Nat) : Nat := 0xFF0200000000000000000001FF000000 + a % 2 ^ 24

/-- The all-nodes multicast address. -/
def allNodes : BitVec 128 := 0xFF020000000000000000000000000001

/-! ### Frames -/

/-- The EtherType of a body. -/
def TxBody.ether : TxBody → Nat
  | .dgram v6 .. => if v6 then 0x86DD else 0x0800
  | .arpReply .. => 0x0806
  | .garp _ => 0x0806
  | .ns _ => 0x86DD
  | .na .. => 0x86DD
  | .echoReply v6 .. => if v6 then 0x86DD else 0x0800
  | .pfc .. => 0x8808

/-- The bytes behind the EtherType, from a port of address `mac`. A DAD solicitation comes from the unspecified address
with hop limit 255 and no option; an advertisement carries the port's address as an option, S where it answers, and O. -/
def TxBody.bytes (mac x : Nat) : TxBody → List Byte
  | .dgram v6 src ip sport port bs => udpPacket v6 src ip sport port bs x
  | .arpReply ip toMac toIp => arpBytes 2 mac ip.toNat toMac.toNat toIp.toNat
  | .garp ip => arpBytes 1 mac ip.toNat 0 ip.toNat
  | .ns t => icmpPacket true 0 (BitVec.ofNat 128 (solicitedIp t.toNat)) 135 (zeros 4 ++ beBytes 16 t.toNat) x (some 255)
  | .na ip t sol =>
    icmpPacket true t ip 136 (beBytes 4 (if sol then 0x60000000 else 0x20000000) ++ beBytes 16 t.toNat ++ [2, 1] ++ beBytes 6 mac) x
      (some 255)
  | .echoReply v6 src ip ident seqNo bs =>
    icmpPacket v6 src ip (if v6 then 129 else 0) (beBytes 2 ident.toNat ++ beBytes 2 seqNo.toNat ++ bs) x none
  | .pfc vec times => beBytes 2 0x0101 ++ beBytes 2 vec ++ (times.map fun t => beBytes 2 t).flatten

/-- Payload bytes of a body, without building them. -/
def TxBody.payload : TxBody → Nat
  | .dgram v6 _ _ _ _ bs => (if v6 then 40 else 20) + 8 + bs.length
  | .arpReply .. => 28
  | .garp _ => 28
  | .ns _ => 64
  | .na .. => 72
  | .echoReply v6 _ _ _ _ bs => (if v6 then 40 else 20) + 8 + bs.length
  | .pfc .. => 46

/-- Length on the wire of a frame with `n` bytes of payload behind its EtherType. -/
def frameLen (tag : Option Tci) (n : Nat) : Nat := max 64 (18 + n + (if tag.isSome then 4 else 0))

/-- A frame ready to queue. -/
def TxFrame.mk' (prio : Nat) (dst : BitVec 48) (tag : Option Tci) (body : TxBody) : TxFrame :=
  ⟨prio, dst, tag, body, frameLen tag body.payload⟩

/-- The frame as a port of address `mac` sends it: addresses, tag, body, padding to 60 bytes, FCS (R71, R84). The DEI of a
tag it sends is a free value. -/
def TxFrame.bytes (f : TxFrame) (mac x : Nat) : List Byte :=
  let tag := match f.tag with
    | some t => beBytes 2 0x8100 ++ beBytes 2 (t.pcp.toNat * 8192 + x / 2 ^ 36 % 2 * 4096 + t.vid.toNat)
    | none => []
  let b := beBytes 6 f.dst.toNat ++ beBytes 6 mac ++ tag ++ beBytes 2 f.body.ether ++ f.body.bytes mac x
  let b := b ++ zeros (60 - b.length)
  b ++ leBytes 4 (fcs32 b).toNat

/-! ### Receive descriptors (R75) -/

/-- The TCI as its 16 bits. -/
def tciHalf (t : Tci) : Nat := t.pcp.toNat * 8192 + t.dei.toNat * 4096 + t.vid.toNat

/-- Word 2 of a descriptor. -/
def Desc.word2 (x : Desc) : Nat :=
  b2n x.own * 2 ^ 31 + b2n x.sof * 2 ^ 30 + b2n x.eof * 2 ^ 29 + b2n x.discard * 2 ^ 28 + x.prio * 2 ^ 25 + b2n x.group * 2 ^ 24 +
    x.dest * 2 ^ 22 + x.err

/-- The 16 bytes of a descriptor in SRAM: four words, each little-endian. -/
def Desc.bytes (x : Desc) : List Byte :=
  let tci := match x.tci with | some t => tciHalf t * 65536 + 32768 | none => 0
  leBytes 4 x.bufAddr ++ leBytes 4 (tci + x.len) ++ leBytes 4 x.word2 ++ leBytes 4 (x.frameLen * 65536 + x.frameNo)

end Sys2Proof.Machine
end

