-- ==== Sys2Proof/Machine/Mac.lean ====
section
/-! DEFINITION. The two Ethernet ports and the wake detectors (R62 to R102): link bring-up, the address filter and
steering, the receive rings, per-priority pause, preemption and transmit order, the diagnostic queue, the address
offloads, and the saved configuration. A transport message's content is handled in Transport.lean. -/

namespace Sys2Proof.Machine

/-- Port `n`. -/
def Drive.port (d : Drive) (n : Nat) : Port := (d.ports[n]?).getD Port.reset

/-- Change port `n`. -/
def Drive.onPort (d : Drive) (n : Nat) (f : Port → Port) : Drive := { d with ports := modAt d.ports n f }

/-- MACn is ON. -/
def Drive.macOn (d : Drive) (n : Nat) : Bool := d.isOn (12 + n)

/-- The port's link is up. -/
def Drive.linkUp (d : Drive) (n : Nat) : Bool := d.macOn n && d.flag (Reg.MAC_LINK_STAT n) 0

/-- The port's own address (R94). -/
def Env.mac (e : Env) (n : Nat) : BitVec 48 := if n = 0 then e.fac.mac0 else e.fac.mac1

/-- IPv6 address `a` of a port, word 0 first. -/
def Drive.ipv6 (d : Drive) (n a : Nat) : Nat :=
  let w (i : Nat) : Word := d.reg (Reg.MAC_IPV6_ADDR n (4 * a + i))
  (w 0 ++ w 1 ++ w 2 ++ w 3 : BitVec 128).toNat

/-- Address `a` is VALID, TENTATIVE (R87). -/
def Drive.ipv6Valid (d : Drive) (n a : Nat) : Bool := d.flag (Reg.MAC_IPV6_STAT n) a
def Drive.ipv6Tentative (d : Drive) (n a : Nat) : Bool := d.flag (Reg.MAC_IPV6_STAT n) (8 + a)

/-- The addresses the port uses or tries, by index. -/
def Drive.ipv6Live (d : Drive) (n : Nat) : List Nat :=
  [0, 1, 2].filter fun a => d.ipv6Valid n a || d.ipv6Tentative n a

/-! ### Transmit (R71, R79, R82 to R84) -/

/-- Queue a frame on port `n`; while the link is down nothing is sent. -/
def Drive.send (d : Drive) (n : Nat) (f : TxFrame) : Drive :=
  if d.linkUp n then d.onPort n fun p => { p with txq := p.txq ++ [f] } else d

/-- A frame has gone out whole, FCS and checksum inserted (R84, R100). -/
def Drive.sent (d : Drive) (e : Env) (n : Nat) (f : TxFrame) : Drive :=
  let d := (d.bumpWide (Reg.MAC_TX_FRAMES n) 1).bumpWide (Reg.MAC_TX_BYTES n) f.len
  { d with out := d.out ++ [.wire (BitVec.ofNat 1 n) f (f.bytes (e.mac n).toNat (Config.ipOpen d.out.length))] }

/-- The express priority, whether preemption is active, and addFragSize (R81). -/
def Drive.express (d : Drive) (n : Nat) : Nat := d.fld (Reg.MAC_PREEMPT_CTL n) 6 4
def Drive.preempting (d : Drive) (n : Nat) : Bool := d.fld (Reg.MAC_LINK_STAT n) 9 8 == 2
def Drive.fragMin (d : Drive) (n : Nat) : Nat := 64 * (1 + d.fld (Reg.MAC_PREEMPT_CTL n) 3 2)

/-- Priority `p` is paused by the partner. -/
def Port.paused (x : Port) (p : Nat) : Bool := x.pauses.any (·.1 == p)

/-- The priorities in the order of R84. -/
def prioOrder (express : Nat) : List Nat := express :: ([7, 6, 5, 4, 3, 2, 1, 0].filter (· != express))

/-- The next frame that may start, if any: while a preemptable frame is suspended, only an express one (R82). -/
def Drive.nextFrame (d : Drive) (n : Nat) : Option TxFrame :=
  let x := d.port n
  let may := if x.suspended.isSome then [d.express n] else prioOrder (d.express n)
  ((may.filter fun p => !x.paused p).filterMap fun p => x.txq.find? (·.prio == p)).head?

/-- Remove the first queued frame equal to `f`. -/
def Port.unqueue (x : Port) (f : TxFrame) : Port := { x with txq := x.txq.erase f }

/-- `cut` is a legal fragment boundary of a frame of `len` bytes whose current fragment began at `from_` (R82). -/
def fragLegal (min_ len from_ cut : Nat) : Bool :=
  cut % 4 == 0 && decide (from_ < cut) && decide (min_ ≤ cut - from_ + 4) && decide (cut + 64 ≤ len)

/-- The frame on the wire completes, or yields at the legal boundary `cut`. -/
def Drive.transmit (d : Drive) (e : Env) (n : Nat) (f : TxFrame) (from_ : Nat) (cut : Option Nat) : Drive :=
  let whole := (if from_ = 0 then d else d.bumpOpen (Reg.MAC_FRAG_TX n) 1).sent e n f
  match cut with
  | none => whole
  | some c =>
    if d.preempting n && f.prio != d.express n && fragLegal (d.fragMin n) f.len from_ c then
      (d.bumpOpen (Reg.MAC_FRAG_TX n) 1).onPort n fun p => { p with suspended := some (f, c) }
    else whole

/-- TX_FRAME: the next frame that may start goes out; a suspended frame goes on when no express frame waits and its
priority is not paused. -/
def txFrameOp (n : Nat) (cut : Option Nat) (e : Env) (d : Drive) : Drive :=
  if !d.linkUp n then d
  else
    match d.nextFrame n with
    | some f => (d.onPort n fun p => p.unqueue f).transmit e n f 0 cut
    | none =>
      match (d.port n).suspended with
      | some (f, c) =>
        if (d.port n).paused f.prio then d
        else (d.onPort n fun p => { p with suspended := none }).transmit e n f c cut
      | none => d

/-- A suspended frame has been paused longer than HOLD_US (R83). -/
def preemptHoldOp (n : Nat) (e : Env) (d : Drive) : Drive :=
  match (d.port n).suspended with
  | some (f, _) =>
    if (d.port n).paused f.prio then
      let d := d.onPort n fun p => { p with suspended := none }
      ((d.bumpOpen (Reg.MAC_PREEMPT_ABORTS n) 1).setInt (pgMac n) 8).event e 0x202 n f.prio 0 0
    else d
  | none => d

/-! ### Per-priority pause (R77, R78) -/

/-- Buffers ring `p` owns and holds. -/
def Drive.ringBufs (d : Drive) (n p : Nat) : Nat := d.fld (Reg.MAC_RXQ_CFG n p) 11 0
def Drive.ringOcc (d : Drive) (n p : Nat) : Nat := (((d.port n).rings[p]?).getD []).length

/-- HIGH and LOW as used. -/
def Drive.wmHigh (d : Drive) (n p : Nat) : Nat := min (d.fld (Reg.MAC_RXQ_WM n p) 27 16) (d.ringBufs n p - 1)
def Drive.wmLow (d : Drive) (n p : Nat) : Nat := min (d.fld (Reg.MAC_RXQ_WM n p) 11 0) (d.wmHigh n p - 1)

/-- The port is pausing its partner for priority `p`. -/
def Drive.txPausing (d : Drive) (n p : Nat) : Bool := d.flag (Reg.MAC_PFC_STAT n) (8 + p)

/-- Send a PFC frame for priority `p` with `quanta`. -/
def Drive.pfcSend (d : Drive) (e : Env) (n p quanta : Nat) : Drive :=
  if d.linkUp n then
    let times := (List.range 8).map fun q => if q = p then quanta else 0
    let f := TxFrame.mk' (d.express n) 0x0180C2000001#48 none (.pfc (2 ^ p) times)
    (d.bumpOpen (Reg.MAC_PFC_TX n p) 1).sent e n f
  else d

/-- OCC of ring `p` has risen: its peak, and a pause at HIGH. -/
def Drive.occRose (d : Drive) (e : Env) (n p : Nat) : Drive :=
  let occ := d.ringOcc n p
  let d := d.peak (Reg.MAC_RXQ_OCC n p) 27 16 occ
  if d.wmHigh n p ≤ occ ∧ !d.txPausing n p ∧ d.flag (Reg.MAC_PFC_CTL n) p then
    (d.poke (Reg.MAC_PFC_STAT n) (8 + p) (8 + p) 1).pfcSend e n p (d.fld (Reg.MAC_PFC_QUANTA n) 15 0)
  else d

/-- RX_BUFFER_RELEASE: a consumer has released `k` buffers of ring `p`, the oldest first. -/
def rxBufferReleaseOp (n p k : Nat) (e : Env) (d : Drive) : Drive :=
  let d := d.onPort n fun x => { x with rings := modAt x.rings p (·.drop k) }
  if d.txPausing n p ∧ d.ringOcc n p ≤ d.wmLow n p then
    (d.poke (Reg.MAC_PFC_STAT n) (8 + p) (8 + p) 0).pfcSend e n p 0
  else d

/-- PFC_REFRESH: the interval has passed with OCC above LOW. -/
def pfcRefreshOp (n p : Nat) (e : Env) (d : Drive) : Drive :=
  if p < 8 ∧ d.txPausing n p ∧ d.wmLow n p < d.ringOcc n p then
    d.pfcSend e n p (d.fld (Reg.MAC_PFC_QUANTA n) 15 0)
  else d

/-- PFC_RECEIVED: each set bit counts, and loads or cancels the pause timer of an honoured priority. -/
def pfcReceivedOp (n : Nat) (vec : Byte) (times : List Half) (_ : Env) (d : Drive) : Drive :=
  if !d.linkUp n then d
  else
    ((List.range 8).filter fun p => vec.getLsbD p).foldl (fun (d : Drive) (p : Nat) =>
      let d := d.bumpOpen (Reg.MAC_PFC_RX n p) 1
      if d.flag (Reg.MAC_PFC_CTL n) (8 + p) then
        let t := ((times[p]?).getD 0).toNat
        d.onPort n fun x =>
          let rest := x.pauses.filter fun e => !(e.1 == p)
          { x with pauses := if t = 0 then rest else rest ++ [(p, t)] }
      else d) d

/-- PAUSE_TIMER_EXPIRY. -/
def pauseExpiryOp (n p : Nat) (_ : Env) (d : Drive) : Drive :=
  d.onPort n fun x => { x with pauses := x.pauses.filter fun e => !(e.1 == p) }

/-! ### Receive (R69 to R76, R85) -/

/-- The hash bin of a destination address (R69). -/
def hashBin (dst : BitVec 48) : Nat := bits (fcs32 (beBytes 6 dst.toNat)) 8 0

/-- A group address: the first octet's low bit. -/
def isGroup (dst : BitVec 48) : Bool := dst.getLsbD 40

/-- The port accepts the destination address (R69). -/
def Drive.accepts (d : Drive) (e : Env) (n : Nat) (dst : BitVec 48) : Bool :=
  let bin := hashBin dst
  dst == e.mac n ||
  (dst == 0xFFFFFFFFFFFF#48 && d.flag (Reg.MAC_FILT_CTL n) 0) ||
  dst == 0x0180C2000001#48 || dst == 0x333300000001#48 ||
  (d.ipv6Live n).any (fun a => dst == solicitedMac (d.ipv6 n a)) ||
  (isGroup dst && dst != 0xFFFFFFFFFFFF#48 && d.flag (Reg.MAC_FILT_CTL n) 1 &&
    d.flag (Reg.MAC_HASH n (bin / 32)) (bin % 32))

/-- Where a frame goes by its headers (R72). -/
inductive Steer where
  | control | legacyPause | xpt | offload | ipDrop | unclaimed
  deriving DecidableEq, Repr

/-- XPT_CTL.UDP_PORT: the transport port. -/
def Drive.udpPort (d : Drive) : Nat := d.fld Reg.XPT_CTL 31 16

/-- Steering behind the IP destination check. -/
def steerIp (drop udp icmp : Bool) : Steer :=
  if drop then .ipDrop else if udp then .xpt else if icmp then .offload else .unclaimed

/-- An IPv6 destination that reaches step 4 of R72. -/
def Drive.ipv6Mine (d : Drive) (n ip : Nat) : Bool :=
  (d.ipv6Live n).any (fun a => ip == d.ipv6 n a) || ip == 0xFF020000000000000000000000000001 ||
  [0, 1, 2].any fun a => d.ipv6 n a != 0 && ip == solicitedIp (d.ipv6 n a)

/-- A UDP datagram to the transport port whose first message byte after MAGIC and VER is `ty`: one sent to a group address
is claimed only where it is a PROBE (R139). -/
def groupClaimed (group : Bool) (ty : Byte) : Bool := !group || ty == 0x08

/-- The steering of a frame sent to address `mac`. A MAC control frame with an opcode other than PFC and PAUSE is dropped and
counted nowhere (DESIGN CHOICE: R72 sends it to a function that R78 and R80 describe for those two alone). -/
def Drive.steer (d : Drive) (n : Nat) (mac : BitVec 48) (b : RxBody) : Steer :=
  match b with
  | .pause => .legacyPause
  | .pfc => .control
  | .macOther => .control
  | .arp => .offload
  | .ipv4 dst ihl frag proto port bad ty =>
    let mine := dst != 0 && dst == d.reg (Reg.MAC_IPV4_ADDR n)
    if !mine then .unclaimed
    else steerIp (ihl != 5 || frag || (proto == 17 && bad))
      (proto == 17 && port.toNat == d.udpPort && groupClaimed (isGroup mac) ty) (proto == 1)
  | .ipv6 dst next port bad ty =>
    if !d.ipv6Mine n dst.toNat then .unclaimed
    else steerIp ((next != 17 && next != 58) || (next == 17 && bad))
      (next == 17 && port.toNat == d.udpPort && groupClaimed (isGroup mac || dst.toNat / 2 ^ 120 == 0xFF) ty) (next == 58)
  | .other => .unclaimed

/-- ERR bits 0 to 5 of a frame (R75). -/
def Drive.frameErr (d : Drive) (n : Nat) (f : RxFrame) : Nat :=
  b2n f.fcsBad + b2n (decide (f.len < 64)) * 2 + b2n (decide (d.fld (Reg.MAC_MAX_FRAME n) 13 0 < f.len)) * 4 +
  b2n (f.pcsBad || f.fecBad != 0) * 8 + b2n f.reasmBad * 16 + b2n f.truncated * 32

/-- Every ERR flag that has a counter of its own on page 6 counts. -/
def Drive.countErr (d : Drive) (n err : Nat) : Drive :=
  let cnt (d : Drive) (b a : Nat) : Drive := if bitN err b then d.bumpOpen a 1 else d
  let d := cnt (cnt (cnt d 0 (Reg.MAC_RX_FCS_ERR n)) 1 (Reg.MAC_RX_RUNT n)) 2 (Reg.MAC_RX_OVERSIZE n)
  let d := cnt (cnt (cnt d 3 (Reg.MAC_RX_PCS_ERR n)) 4 (Reg.MAC_RX_REASM_ERR n)) 5 (Reg.MAC_RX_TRUNC n)
  cnt (cnt d 7 (Reg.MAC_RX_UNCLAIMED n)) 8 (Reg.MAC_RX_IP_DROP n)

/-- DIAG_CAPTURE (R85): the flags are descriptor word 2 with OWN 0 (R101). The frame is kept whole, so SOF and EOF are 1;
DISCARD is 1, as the port discards it; and a frame that reaches no ring, which has no descriptor, shows DEST 0 (DESIGN
CHOICE: R101 does not say what those bits show). -/
def Drive.capture (d : Drive) (n : Nat) (f : RxFrame) (prio dest err : Nat) : Drive :=
  if !d.flag (Reg.MAC_DIAG_CTL n) 0 || (d.fld (Reg.MAC_DIAG_CTL n) 25 16 &&& err) == 0 then d
  else
    let q := (d.port n).diag
    if 64 ≤ q.length then (d.bumpOpen (Reg.MAC_DIAG_OVF n) 1).setInt (pgMac n) 5
    else
      let flags := Desc.word2 { own := false, bufAddr := 0, tci := f.tag, len := f.len, sof := true, eof := true, discard := true, prio := prio
                                group := isGroup f.dst, dest := dest, err := err, frameLen := f.len, frameNo := 0 }
      let d := d.onPort n fun x => { x with diag := x.diag ++ [⟨flags, f.len, f.head.take (min 256 f.len)⟩] }
      if q.isEmpty then d.setInt (pgMac n) 4 else d

/-- Bytes of one buffer (R73). -/
def Drive.bufSize (d : Drive) (n : Nat) : Nat := 1024 * 2 ^ d.fld (Reg.MAC_RX_BUF n) 1 0

/-- The descriptors of a frame of `len` bytes over `k` buffers. -/
def descs (d : Drive) (n : Nat) (f : RxFrame) (len k prio dest err no : Nat) (place : Nat) : List Desc :=
  (List.range k).map fun i =>
    { own := false, bufAddr := Config.placement (place + i) % 2 ^ 32, tci := f.tag
      len := min (d.bufSize n) (len - i * d.bufSize n), sof := i == 0, eof := i + 1 == k, discard := err != 0, prio := prio
      group := isGroup f.dst, dest := dest, err := err, frameLen := if i + 1 = k then len else 0, frameNo := no }

/-- Hand `k` buffers of a frame to its consumer. -/
def Drive.hand (d : Drive) (n : Nat) (f : RxFrame) (len k prio dest err : Nat) : Drive :=
  let place := d.free
  let no := ((d.port n).frameNo[prio]?).getD 0
  let ds := descs d n f len k prio dest err no place
  let d := { d with free := d.free + k }
  d.onPort n fun x =>
    { x with rings := modAt x.rings prio (· ++ ds), frameNo := x.frameNo.set prio ((no + 1) % 65536) }

/-- A claimed frame goes into the ring of its priority (R74, R76). A frame discarded for want of buffers counts in RX_NOBUF
alone and is captured with ERR.NOBUF alone, whatever its last byte shows (DESIGN CHOICE: R76 and R85 do not say how a frame
counts that is discarded for buffers and also bad). -/
def Drive.ringPut (d : Drive) (e : Env) (n : Nat) (f : RxFrame) (prio dest err : Nat) : Drive :=
  let len := min f.len (d.fld (Reg.MAC_MAX_FRAME n) 13 0) - (if f.tag.isSome then 4 else 0)
  let need := max 1 (ceilDiv len (d.bufSize n))
  let room := d.ringBufs n prio - d.ringOcc n prio
  if need ≤ room then
    let d := ((d.hand n f len need prio dest err).occRose e n prio).countErr n err
    if err = 0 then (d.bumpWide (Reg.MAC_RX_FRAMES n) 1).bumpWide (Reg.MAC_RX_BYTES n) f.len
    else d.capture n f prio dest err
  else
    let d := if room = 0 then d else (d.hand n f (room * d.bufSize n) room prio dest (2 ^ 6)).occRose e n prio
    let d := (d.bumpOpen (Reg.MAC_RX_NOBUF n) 1).setInt (pgMac n) 3
    let d := d.event e 0x201 n prio (d.reg (Reg.MAC_RX_NOBUF n)).toNat (d.fld (Reg.MAC_RXQ_OCC n prio) 27 16)
    d.capture n f prio dest (2 ^ 6)

/-- A frame that reaches no ring: counted and perhaps captured. -/
def Drive.dropFrame (d : Drive) (n : Nat) (f : RxFrame) (prio err : Nat) : Drive :=
  (d.countErr n err).capture n f prio 0 err

/-- What the FEC and the reassembly count on a frame (R65, R98). -/
def Drive.countBelow (d : Drive) (n : Nat) (f : RxFrame) : Drive :=
  let d := if f.fecCorr = 0 then d else d.bumpWide (Reg.MAC_FEC_CORR n) f.fecCorr
  let d := if f.fecBad = 0 then d else d.bumpOpen (Reg.MAC_FEC_UNCORR n) f.fecBad
  if f.frags = 0 then d else d.bumpOpen (Reg.MAC_FRAG_RX n) f.frags

/-- RX_FRAME (R69 to R76, R80, R85). -/
def rxFrameOp (n : Nat) (f : RxFrame) (e : Env) (d : Drive) : Drive :=
  if !d.linkUp n then d
  else
  let d := d.countBelow n f
  if !d.accepts e n f.dst then d.bumpOpen (Reg.MAC_RX_ADDR_FILTERED n) 1
  else
    let err := d.frameErr n f
    let prio := match f.tag with
      | some t => t.pcp.toNat
      | none => d.fld (Reg.MAC_VLAN_CTL n) 18 16
    if f.stag then (d.bumpOpen (Reg.MAC_RX_STAG n) 1).dropFrame n f prio (2 ^ 9 ||| err)
    else if f.tag.isSome && !d.flag (Reg.MAC_VLAN_CTL n) 0 then d.dropFrame n f prio err
    else if f.tag.isNone && !d.flag (Reg.MAC_VLAN_CTL n) 1 then d.dropFrame n f prio err
    else match d.steer n f.dst f.body with
      | .control => d.dropFrame n f prio err
      | .legacyPause => (d.bumpOpen (Reg.MAC_PAUSE_LEGACY n) 1).dropFrame n f prio (2 ^ 9 ||| err)
      | .unclaimed => d.dropFrame n f prio (2 ^ 7 ||| err)
      | .ipDrop => d.dropFrame n f prio (2 ^ 8 ||| err)
      | .xpt => d.ringPut e n f prio 0 err
      | .offload => d.ringPut e n f prio 1 err

/-- A write of MACn_DIAG_POP (R101). -/
def diagPopW (n : Nat) (v : Word) (_ : Env) (d : Drive) : Drive :=
  if bit v 0 then d.onPort n fun x => { x with diag := x.diag.tail } else d

/-! ### Address offloads (R86 to R89) -/

/-- Priority of a frame that arrived with tag state `tag`. -/
def Drive.prioOf (d : Drive) (n : Nat) (tag : Option Tci) : Nat :=
  match tag with
  | some t => t.pcp.toNat
  | none => d.fld (Reg.MAC_VLAN_CTL n) 18 16

/-- An offload reply goes back as its request came (R71, R89). -/
def Drive.reply (d : Drive) (r : Arrival) (body : TxBody) : Drive :=
  let n := r.port.toNat
  d.send n (TxFrame.mk' (d.prioOf n r.tag) r.mac r.tag body)

/-- The address an answer to what arrived like `r` comes from: the port's IPv4 address; or the IPv6 address it was sent to
where that is VALID, and the port's first VALID one where not. -/
def Drive.srcIp (d : Drive) (r : Arrival) : BitVec 128 :=
  let n := r.port.toNat
  if !r.ipv6 then (d.reg (Reg.MAC_IPV4_ADDR n)).setWidth 128
  else
    let ok := ([0, 1, 2].filter (d.ipv6Valid n)).map fun a => BitVec.ofNat 128 (d.ipv6 n a)
    if ok.contains r.dst then r.dst else ok.headD 0

/-- A gratuitous ARP (R86). It goes at priority 0, which is its tag's PCP (DESIGN CHOICE: R86 states its VID only). -/
def Drive.garp (d : Drive) (n : Nat) : Drive :=
  let ip := d.reg (Reg.MAC_IPV4_ADDR n)
  let pvid := d.fld (Reg.MAC_VLAN_CTL n) 15 4
  let tag := if pvid = 0 then none else some ⟨0, 0, BitVec.ofNat 12 pvid⟩
  if ip != 0 && d.flag (Reg.MAC_OFF_CTL n) 4 then d.send n (TxFrame.mk' 0 0xFFFFFFFFFFFF#48 tag (.garp ip)) else d

/-- Duplicate Address Detection of address `a` begins (R87). DESIGN CHOICE, where R87 says nothing: its solicitation, like
the unsolicited advertisement after it, goes untagged at priority 0 whatever PVID is; and while ND_EN is 0 an address that
is written, or whose link comes up, has none of VALID, DUP and TENTATIVE, so the port does not use it. -/
def Drive.dadStart (d : Drive) (n a : Nat) : Drive :=
  let ip := d.ipv6 n a
  let clear := ((d.poke (Reg.MAC_IPV6_STAT n) a a 0).poke (Reg.MAC_IPV6_STAT n) (4 + a) (4 + a) 0).poke
    (Reg.MAC_IPV6_STAT n) (8 + a) (8 + a) 0
  if ip ≠ 0 ∧ d.flag (Reg.MAC_OFF_CTL n) 1 then
    (clear.poke (Reg.MAC_IPV6_STAT n) (8 + a) (8 + a) 1).send n
      (TxFrame.mk' 0 (solicitedMac ip) none (.ns (BitVec.ofNat 128 ip)))
  else clear

/-- DAD_TIMEOUT: the address becomes VALID and is announced once, untagged at priority 0. -/
def dadTimeoutOp (n a : Nat) (_ : Env) (d : Drive) : Drive :=
  if a < 3 ∧ d.macOn n ∧ d.ipv6Tentative n a then
    let ip := BitVec.ofNat 128 (d.ipv6 n a)
    ((d.poke (Reg.MAC_IPV6_STAT n) (8 + a) (8 + a) 0).poke (Reg.MAC_IPV6_STAT n) a a 1).send n
      (TxFrame.mk' 0 0x333300000001#48 none (.na allNodes ip false))
  else d

/-- ARP_REQUEST: an ARP message arrives (R86). -/
def arpRequestOp (r : Arrival) (senderIp targetIp : Word) (senderMac : BitVec 48) (request : Bool) (e : Env)
    (d : Drive) : Drive :=
  let n := r.port.toNat
  let ip := d.reg (Reg.MAC_IPV4_ADDR n)
  if !d.linkUp n || ip == 0 then d
  else
    let d := if senderIp = ip ∧ senderMac ≠ e.mac n then (d.setInt (pgMac n) 6).event e 0x203 n 0 0 0 else d
    if request && targetIp == ip && d.flag (Reg.MAC_OFF_CTL n) 0 then d.reply r (.arpReply ip senderMac senderIp) else d

/-- A Neighbor Solicitation is answered where it came from; one from the unspecified address goes to all nodes, unsolicited
(RFC 4861, which Neighbor Discovery follows). -/
def Drive.naReply (d : Drive) (r : Arrival) (target : BitVec 128) : Drive :=
  if r.ip = 0 then d.send r.port.toNat (TxFrame.mk' (d.prioOf r.port.toNat r.tag) 0x333300000001#48 r.tag (.na allNodes target false))
  else d.reply r (.na r.ip target true)

/-- NEIGHBOR_SOLICITATION: a Neighbor Discovery message for `target`, a solicitation or an advertisement. A VALID address
answers a solicitation. A tentative one has a duplicate, as RFC 4862 has it, by an advertisement for it, or by a
solicitation from the unspecified address; a solicitation from a unicast address is silently ignored (R87). -/
def neighborSolicitationOp (r : Arrival) (target : BitVec 128) (advert : Bool) (e : Env) (d : Drive) : Drive :=
  let n := r.port.toNat
  if !d.linkUp n || !d.flag (Reg.MAC_OFF_CTL n) 1 then d
  else match [0, 1, 2].find? fun a => d.ipv6 n a == target.toNat && (d.ipv6Valid n a || d.ipv6Tentative n a) with
    | none => d
    | some a =>
      if d.ipv6Valid n a then if advert then d else d.naReply r target
      else if !advert && r.ip != 0 then d
      else
        let d := (d.poke (Reg.MAC_IPV6_STAT n) (8 + a) (8 + a) 0).poke (Reg.MAC_IPV6_STAT n) (4 + a) (4 + a) 1
        (d.setInt (pgMac n) 6).event e 0x203 n (1 + a) 0 0

/-- The bucket of echo replies as it stands at `now`, at `rate` replies per second and depth 16 (R88). Tokens are counted in
1/1,000. -/
def Bucket.icmp (b : Bucket) (rate now : Nat) : Bucket := ⟨min 16000 (b.tok + rate * (now - b.at_)), now⟩

/-- A write of MACn_ICMP_RATE: the time before it counted at the old rate, `was`. -/
def icmpRateW (n was : Nat) (e : Env) (d : Drive) : Drive := d.onPort n fun x => { x with icmp := x.icmp.icmp was e.clk.optime }

/-- ECHO_REQUEST: answered within the token bucket (R88). -/
def echoRequestOp (r : Arrival) (ident seqNo : Half) (payload : List Byte) (e : Env) (d : Drive) : Drive :=
  let n := r.port.toNat
  if !d.linkUp n || !d.flag (Reg.MAC_OFF_CTL n) (if r.ipv6 then 3 else 2) then d
  else
    let rate := d.fld (Reg.MAC_ICMP_RATE n) 15 0
    let b := (d.port n).icmp.icmp rate e.clk.optime
    if rate = 0 ∨ b.tok < 1000 then d.bumpOpen (Reg.MAC_ICMP_DROP n) 1
    else (d.onPort n fun x => { x with icmp := ⟨b.tok - 1000, b.at_⟩ }).reply r
      (.echoReply r.ipv6 (d.srcIp r) r.ip ident seqNo payload)

/-! ### Link (R63 to R68, R73, R81) -/

/-- Link status bits of a resolved PHY: SPEED and LANE_LOCK. -/
def phySpeed (i : Nat) : Nat := i + 1
def phyLanes (i : Nat) : Nat := if i = 2 then 15 else if i = 1 then 3 else 1

/-- The port is enabled and may train. -/
def Drive.macEnabled (d : Drive) (n : Nat) : Bool := d.macOn n && d.flag (Reg.MAC_LINK_CTL n) 0

/-- AUTONEG_RESOLVED: the highest PHY both ends advertise. -/
def autonegResolvedOp (n partner : Nat) (_ : Env) (d : Drive) : Drive :=
  let own := d.fld (Reg.MAC_LINK_CTL n) 6 4
  let gone := d.fld (Reg.MAC_LINK_STAT n) 6 4
  if !d.macEnabled n || d.linkUp n then d
  else match [2, 1, 0].find? fun i => bitN own i && !bitN gone i && bitN partner i with
    | none => d
    | some i => d.onPort n fun x => { x with phy := some i, training := true, tries := if x.phy = some i then x.tries else 0 }

/-- TRAINING_ATTEMPT_FAILED: auto-negotiation restarts. -/
def trainingFailedOp (n : Nat) (_ : Env) (d : Drive) : Drive :=
  if (d.port n).training then d.onPort n fun x => { x with training := false, tries := x.tries + 1 } else d

/-- PHY_FALLBACK: FALLBACK_TRIES attempts in a row have failed at one PHY other than 100GBASE-KR1 (R64). -/
def phyFallbackOp (n : Nat) (e : Env) (d : Drive) : Drive :=
  match (d.port n).phy with
  | some (i + 1) =>
    if d.macOn n && decide (d.fld (Reg.MAC_LINK_CTL n) 10 8 ≤ (d.port n).tries) then
      let d := (d.onPort n fun x => { x with tries := 0 }).poke (Reg.MAC_LINK_STAT n) (5 + i) (5 + i) 1
      (d.setInt (pgMac n) 2).event e 0x200 n (2 ^ (i + 1)) 0 0
    else d
  | _ => d

/-- LINK_UP: speed, lanes and bring-up time; verify, gratuitous ARP and DAD begin (R67, R81, R86, R87). -/
def linkUpOp (n us : Nat) (_ : Env) (d : Drive) : Drive :=
  if !d.macEnabled n || d.linkUp n || !(d.port n).training then d
  else
    let i := ((d.port n).phy).getD 0
    let ctl := d.reg (Reg.MAC_PREEMPT_CTL n)
    let pre := if !bit ctl 0 then 0 else if bit ctl 1 then 1 else 2
    let d := d.onPort n fun x => { x with training := false, tries := 0 }
    let d := ((d.poke (Reg.MAC_LINK_STAT n) 2 0 (phySpeed i * 2 + 1)).poke (Reg.MAC_LINK_STAT n) 9 8 pre).poke
      (Reg.MAC_LINK_STAT n) 15 12 (phyLanes i)
    let d := (d.setReg (Reg.MAC_TRAIN_TIME n) (word us)).setInt (pgMac n) 0
    [0, 1, 2].foldl (fun d a => d.dadStart n a) (d.garp n)

/-- The link goes down: what R68 does on that port. Pause timers of the partner that run end with it (DESIGN CHOICE: R68 and
R78 do not say whether they outlive the link). -/
def Drive.linkDrop (d : Drive) (n : Nat) : Drive :=
  let x := d.port n
  let lost := x.txq.length + (if x.suspended.isSome then 1 else 0)
  let up := d.linkUp n
  let d := d.onPort n fun x => { x with txq := [], suspended := none, pauses := [], training := false }
  let d := ((d.poke (Reg.MAC_LINK_STAT n) 2 0 0).poke (Reg.MAC_LINK_STAT n) 9 8 0).poke (Reg.MAC_LINK_STAT n) 15 12 0
  let d := if lost = 0 then d else d.bumpOpen (Reg.MAC_TX_FLUSHED n) lost
  if up then d.setInt (pgMac n) 1 else d

/-- LINK_DOWN: a loss of link that nothing on the drive caused counts in ERR_CNT. -/
def linkDownOp (n : Nat) (_ : Env) (d : Drive) : Drive :=
  if d.linkUp n then (d.linkDrop n).errCnt (pgMac n) else d

/-- Withdrawn PHYs return to the advertisement (R64). -/
def Drive.restorePhys (d : Drive) (n : Nat) : Drive :=
  (d.onPort n fun x => { x with phy := none, tries := 0 }).poke (Reg.MAC_LINK_STAT n) 6 4 0

/-- The rings ask for no more buffers than the pool holds (R73). -/
def Drive.poolOk (d : Drive) (n : Nat) : Bool :=
  decide (((List.range 8).map (d.ringBufs n)).foldl (· + ·) 0 ≤ 4096 / 2 ^ d.fld (Reg.MAC_RX_BUF n) 1 0)

/-- ENABLE goes from 0 to 1 (R64, R73). -/
def Drive.portEnable (d : Drive) (n : Nat) : Drive :=
  let d := d.restorePhys n
  if d.poolOk n then d.poke (Reg.MAC_LINK_STAT n) 10 10 0
  else (d.poke (Reg.MAC_LINK_STAT n) 10 10 1).poke (Reg.MAC_LINK_CTL n) 0 0 0

/-- A write of MACn_LINK_CTL: `was` is ENABLE before it (R64, R68, R73, R92). CFG_SAVE while a save is in progress is ignored:
the values stored are those at the first write (DESIGN CHOICE: R92 does not say). -/
def linkCtlW (n : Nat) (was : Bool) (v : Word) (_ : Env) (d : Drive) : Drive :=
  let now := d.flag (Reg.MAC_LINK_CTL n) 0
  let d := if !was && now then d.portEnable n else if was && !now then d.linkDrop n else d
  let d := if bit v 1 then (d.linkDrop n).restorePhys n else d
  if bit v 13 ∧ (d.port n).saving = none then
    let m := savePages d fun p => decide (pgMac n ≤ p) && decide (p < pgMac n + 6)
    d.onPort n fun x => { x with saving := some m }
  else d

/-- MAC_CFG_SAVE_DONE: the store is complete (R92). -/
def macSaveDoneOp (n : Nat) (_ : Env) (d : Drive) : Drive :=
  match (d.port n).saving with
  | none => d
  | some m =>
    let keep : FMap := d.saved.filter fun e => !(keyDom e.1 == 12 + n)
    let d := d.onPort n fun x => { x with saving := none }
    { d with saved := m.foldl (fun (s : FMap) (e : Nat × Word) => FMap.insert s e.1 e.2) keep }

/-- PREEMPT_VERIFY_DONE (R81). -/
def verifyDoneOp (n : Nat) (ok : Bool) (_ : Env) (d : Drive) : Drive :=
  if d.linkUp n ∧ d.fld (Reg.MAC_LINK_STAT n) 9 8 = 1 then
    let d := d.poke (Reg.MAC_LINK_STAT n) 9 8 (if ok then 2 else 3)
    if ok then d else d.setInt (pgMac n) 7
  else d

/-- EYE_REFRESH: the measured eye of a lane while the link is up (R66). -/
def eyeRefreshOp (n lane : Nat) (eye : Word) (_ : Env) (d : Drive) : Drive :=
  if d.linkUp n then d.setReg (Reg.MAC_EYE_LANE n lane) eye else d

/-- A write of MACn_IPV4_ADDR announces the address (R86). -/
def ipv4AddrW (n : Nat) (_ : Env) (d : Drive) : Drive := d.garp n

/-- An access has changed IPv6 address `a`: DAD begins where it is not zero (R87). -/
def Drive.ipv6Changed (d : Drive) (n a : Nat) : Drive := d.dadStart n a

/-- MACn comes ON with its registers loaded: an enabled port is checked as when ENABLE rises, every PHY is advertised, and
the bucket of echo replies is full (DESIGN CHOICE: R88 gives its depth and no first fill). -/
def Drive.macUp (d : Drive) (e : Env) (n : Nat) : Drive :=
  let d := d.onPort n fun x => { Port.reset with saving := x.saving, icmp := ⟨16000, e.clk.optime⟩ }
  if d.flag (Reg.MAC_LINK_CTL n) 0 then d.portEnable n else d

/-! ### Wake detectors (R90) -/

/-- WAKE_DETECTOR_ARM: lane 0 has been idle for QUIET ms in Fawn. -/
def wakeArmOp (n : Nat) (_ : Env) (d : Drive) : Drive :=
  if d.isOn 1 ∧ d.pwr.ps = .fawn ∧ d.flag Reg.WAKE_CTL n then d.poke Reg.WAKE_STAT n n 1 else d

/-- No detector is armed: they arm in Fawn alone. -/
def Drive.disarm (d : Drive) : Drive := d.poke Reg.WAKE_STAT 1 0 0

/-- The detector of port `n` fires, or both in one cycle: WAKE_STAT records the source, and the detectors arm again only in
the next Fawn; the wake itself is the sequencer's. -/
def Drive.wakeFire (d : Drive) (n : Nat) (both : Bool) : Drive :=
  ((d.poke Reg.WAKE_STAT 5 4 (if both then 3 else n + 1)).disarm).bumpOpen Reg.WAKE_COUNT 1

end Sys2Proof.Machine
end

