-- ==== Sys2Proof/Machine/Bands.lean ====
section
/-! DEFINITION. What lies on flash and where (R269 to R276, R289 to R296, R299): segments and page copies, bands and streams,
retirement, failing dies and the start of a rebuild, the opening and erasing of bands. Programs, garbage collection, reads
and the windows are in Media.lean. -/

namespace Sys2Proof.Machine

/-! ### Lookup -/

/-- Segment `id`. -/
def Med.seg (m : Med) (id : Nat) : Option Seg := m.segs.find? (·.id == id)

/-- Page copy `id`. -/
def Med.page (m : Med) (id : Nat) : Option Page := m.pages.find? (·.id == id)

/-- Band `id`. -/
def Med.band (m : Med) (id : Nat) : Option Band := m.bands.find? (·.id == id)

/-- Change band `id`. -/
def Drive.onBand (d : Drive) (id : Nat) (f : Band → Band) : Drive :=
  d.onMed fun m => { m with bands := modIf m.bands (·.id == id) f }

/-- Bytes a segment takes on flash: ciphertext and tail (R272). -/
def Seg.size (s : Seg) : Nat := s.ct.length + 92

/-- Bytes of a page: 16 KiB for an index page, 4 KiB for a metadata page (R257). -/
def PageKind.size : PageKind → Nat
  | .index _ => 16384
  | _ => 4096

/-- Where an object lies. -/
def Med.locOf (m : Med) : Obj → Option (Nat × Nat × Nat)
  | .seg id => (m.seg id).bind (·.loc)
  | .page id => (m.page id).bind (·.loc)

/-- Bytes of an object on flash. -/
def Med.objSize (m : Med) : Obj → Nat
  | .seg id => ((m.seg id).map Seg.size).getD 0
  | .page id => ((m.page id).map fun p => p.kind.size).getD 0

/-- Its 4 KiB units. -/
def Med.objUnits (m : Med) : Obj → Nat
  | .seg id => ((m.seg id).map (·.units)).getD 0
  | .page id => ((m.page id).map fun p => p.kind.size / 4096).getD 0

/-- Put an object somewhere. -/
def Med.place (m : Med) (o : Obj) (at_ : Nat × Nat × Nat) : Med :=
  match o with
  | .seg id => { m with segs := modIf m.segs (·.id == id) fun s => { s with loc := some at_ } }
  | .page id => { m with pages := modIf m.pages (·.id == id) fun p => { p with loc := some at_ } }

/-- Bytes of a die-page program (R267). -/
def diePage : Nat := 196608

/-- The die-pages of stripe `w` that hold data, in order of the die index (R269). -/
def Band.dataDies (b : Band) (w : Nat) : List (Nat × Nat × Nat) :=
  ((b.blocks.zipIdx).filter fun x => x.2 != w % b.blocks.length).map (·.1)

/-- Channel, physical die and block that hold unit `j` of an object that lies at `loc`. -/
def Med.unitDie (m : Med) (loc : Nat × Nat × Nat) (j : Nat) : Option (Nat × Nat × Nat) :=
  (m.band loc.1).bind fun b => (b.dataDies loc.2.1)[(loc.2.2 + 4096 * j) / diePage]?

/-- Media engine k is ON. -/
def Drive.medOn (d : Drive) (k : Nat) : Bool := d.isOn (20 + k)

/-- The engines of a group's half are ON. -/
def Drive.halfOn (d : Drive) (g : Nat) : Bool := (List.range 4).all fun i => d.medOn (4 * (g / 16) + i)

/-- The media domains of a group's half. -/
def halfDoms (g : Nat) : List Nat := (List.range 4).map (20 + 4 * (g / 16) + ·)

/-- Change the health log. -/
def Drive.onLog (d : Drive) (f : Hlog → Hlog) : Drive := d.onMed fun m => { m with hlog := f m.hlog }

/-- The health log is saved at every retirement, sparing and state change (R301). -/
def Drive.saveLog (d : Drive) : Drive := d.onMed fun m => { m with hlogSaved := some m.hlog }

/-- HEALTH_LOG_SAVE: every 60 s of operating time. -/
def healthLogSaveOp (_ : Env) (d : Drive) : Drive := d.saveLog

/-! ### What is live -/

/-- The segment a piece lies in. -/
def Piece.segId (p : Piece) : Option Nat :=
  match p.src with
  | .seg id _ => some id
  | _ => none

/-- The value segments of a run list that take bytes from flash segment `id`, by index. -/
def segsNaming (ps : List Piece) (id : Nat) : List Nat :=
  (ps.foldl (fun (acc : Nat × List Nat) p =>
    let v := acc.1
    let hit := p.segId == some id && decide (0 < p.len)
    (v + p.len, if hit then acc.2 ++ (List.range ((v + p.len - 1) / 65536 - v / 65536 + 1)).map (v / 65536 + ·) else acc.2))
    (0, [])).2.eraseDups

/-- Flash segments that a version's value segments name, those marked unreadable apart (R284). -/
def KeyRec.segIds (k : KeyRec) : List Nat :=
  (k.pieces.filterMap Piece.segId).eraseDups.filter fun id => !((segsNaming k.pieces id).all fun s => k.bad.contains s)

/-- Index pages of the trees, and of the checkpoints that stand or are being written. -/
def Drive.idxAll (d : Drive) : List IdxPage :=
  d.med.idx ++ d.jrn.ckpt.idx ++ d.jrn.ckptOld.idx ++ ((d.jrn.ckptOpen.map (·.ckpt.idx)).getD [])

/-- A page is in use: its index page is, or the record it holds, or a commit that it holds is of a record still held. -/
def Drive.pageLive (d : Drive) (p : Page) : Bool :=
  match p.kind with
  | .index n => d.idxAll.any (·.num == n)
  | .record rsn => d.jrn.recs.any (·.rsn == rsn)
  | .commit csn => d.jrn.recs.any fun r => r.wt && decide (0 < r.csn) && decide (r.csn ≤ csn)

/-- Objects in use: by a current version, a read in progress, a record, a tree. -/
def Drive.live (d : Drive) : List Obj :=
  (d.nss.flatMap (fun n => n.keys.flatMap KeyRec.segIds) ++
    d.jobs.flatMap (fun j => j.segs.flatMap fun s => s.pieces.filterMap Piece.segId) ++
    d.jrn.recs.flatMap (fun r =>
      (r.drain.getD []).filterMap (·.id) ++ r.spills.map (·.2.1) ++
        (if r.st == .committed then r.vmap.filterMap Piece.segId else []))).map Obj.seg ++
  d.med.reads.map (·.obj) ++ (d.med.pages.filter d.pageLive).map fun p => .page p.id

/-- Live objects of band `b`, in their order. -/
def Drive.liveIn (d : Drive) (b : Nat) : List Obj :=
  let live := d.live
  let in_ (o : Obj) : Bool := ((d.med.locOf o).map (·.1)) == some b && live.contains o
  (d.med.segs.map fun s => Obj.seg s.id).filter in_ ++ (d.med.pages.map fun p => Obj.page p.id).filter in_

/-- Valid data of band `b` in bytes. -/
def Drive.validIn (d : Drive) (b : Nat) : Nat := ((d.liveIn b).map d.med.objSize).foldl (· + ·) 0

/-- A read in progress reads from band `b` (R289). -/
def Med.readFrom (m : Med) (b : Nat) : Bool := m.reads.any fun r => r.loc.1 == b

/-! ### Marks (R284) -/

/-- Flash segment `id` is marked unreadable in the index, in every current version that names it. -/
def Drive.markBad (d : Drive) (id : Nat) : Drive :=
  let mark (k : KeyRec) : KeyRec :=
    { k with bad := k.bad ++ (segsNaming k.pieces id).filter fun s => !k.bad.contains s }
  { d with nss := d.nss.map fun n => { n with keys := n.keys.map mark } }

/-- A unit is found unreadable on engine `k`, in value segment `s` of version `v` of namespace `ns`: counted and recorded
(R167, R284, R302). -/
def Drive.countUnreadable (d : Drive) (e : Env) (k ns v s : Nat) : Drive :=
  let d := ((d.bump (Reg.MED_UNREADABLE k) 1).errCnt (pgMed k)).setInt (pgMed k) 3
  (d.onLog fun h => { h with unreadable := h.unreadable + 1 }).event e 0x703 ns v s 0

/-- One unit of an object is unreadable: a segment's is counted and its segment marked; a page's copy is of no use any
more (R280, R284). -/
def Drive.unreadable (d : Drive) (e : Env) (o : Obj) (ch : Nat) : Drive :=
  match o with
  | .seg id => match d.med.seg id with
    | some s => (d.countUnreadable e (engineOf ch) s.ns s.ver s.index).markBad id
    | none => d
  | .page id => d.onMed fun m => { m with pages := m.pages.filter fun p => !(p.id == id) }

/-! ### Streams and free blocks (R275, R276, R287) -/

/-- Index of a stream. -/
def MStream.idx : MStream → Nat
  | .host => 0
  | .gc => 1
  | .wl => 2
  | .pages => 3

/-- Items waiting in a stream. -/
def Med.waiting (m : Med) (s : MStream) : List Item := ((m.wait.find? (·.1 == s)).map (·.2)).getD []

/-- Replace them. -/
def Drive.setWaiting (d : Drive) (s : MStream) (l : List Item) : Drive :=
  d.onMed fun m => { m with wait := modIf m.wait (·.1 == s) fun x => (x.1, l) }

/-- The object an item puts on flash. -/
def Item.obj : Item → Obj
  | .new o => o
  | .move o _ => o

/-- The half in which an item must lie: the copies of an index page lie in different groups, copy 0 in the first half and
copy 1 in the second; a new page lies in the half of the engine that writes it (R257, R278). -/
def Med.itemHalf (m : Med) (i : Item) : Option Nat :=
  match i.obj with
  | .seg _ => none
  | .page id => (m.page id).bind fun p => match p.kind, i with
    | .index _, _ => some p.copy
    | _, .new _ => some (p.k / 4)
    | _, .move _ _ => none

/-- An item may lie in group `g`. -/
def Med.itemIn (m : Med) (i : Item) (g : Nat) : Bool :=
  match m.itemHalf i with
  | some h => g / 16 == h
  | none => true

/-- Drains of commands accepted before READ_ONLY are still to be done (R299). -/
def Drive.drainsLeft (d : Drive) : Bool :=
  d.jrn.recs.any fun r => (r.st == .accepted || r.st == .committed) &&
    match d.med.roRsn with | some n => decide (r.rsn < n) | none => true

/-- READ_ONLY, and every drain it still allows is complete: GC and WL have stopped, and nothing in the user area is erased or
programmed (R299, R300). -/
def Drive.sealedOff (d : Drive) (e : Env) : Bool := (e.readOnly || d.med.readOnly) && !d.drainsLeft

/-- Stream `s` may still write. -/
def Drive.mayProgram (d : Drive) (e : Env) (s : MStream) : Bool := s == .pages || !d.sealedOff e

/-- Free die blocks of a die: good, in no band, and not of the system area, which has two blocks of each die. -/
def Med.freeBlocks (m : Med) (fac : Factory) (x : Die) : List Nat :=
  let used := (m.bands.flatMap (·.blocks)).filterMap fun (c, p, b) => if c = x.ch ∧ p = x.p then some b else none
  (List.range (dieBlocks - (fac.bad[17 * x.ch + x.p]?).getD 0)).filter fun b =>
    decide (2 ≤ b) && !x.retired.contains b && !used.contains b

/-- The block a stream takes: lowest P/E for HOST and META, highest for GC and WL; of equals the lowest number. -/
def Med.pickBlock (m : Med) (fac : Factory) (s : MStream) (x : Die) : Option Nat :=
  match m.freeBlocks fac x with
  | [] => none
  | b :: bs =>
    let better (a c : Nat) : Bool :=
      if s = .host ∨ s = .pages then x.peOf a < x.peOf c else x.peOf c < x.peOf a
    some (bs.foldl (fun best a => if better a best then a else best) b)

/-- The die blocks of a new band of group `g`, if every present die has one. -/
def Med.pickBlocks (m : Med) (fac : Factory) (s : MStream) (g : Nat) : Option (List (Nat × Nat × Nat)) :=
  (m.present g).mapM fun ch => do
    let x ← m.serving ch (g % 16)
    let b ← m.pickBlock fac s x
    pure (ch, x.p, b)

/-- Stream `s` writes in group `g`: not while it rebuilds, and HOST and META not while its free bands are at the floor
(R275, R287). -/
def Drive.writesIn (d : Drive) (e : Env) (s : MStream) (g : Nat) : Bool :=
  d.halfOn g && !d.med.rebuilding g && ((s != .host && s != .pages) || decide (4 < d.med.freeBands e.fac g))

/-- The band of stream `s` that is open, or being opened, in group `g`. -/
def Med.openIn (m : Med) (s : MStream) (g : Nat) : Option Band :=
  m.bands.find? fun b => b.group == g && b.stream == s && (b.st == .open_ || b.st == .opening)

/-- The groups from the one in which the stream's turn begins. -/
def Med.order (m : Med) (s : MStream) : List Nat :=
  let from_ := (m.rr[s.idx]?).getD 0
  (List.range 32).map fun i => (from_ + i) % 32

/-- GC_URGENT each time a group enters level 2 (R287). -/
def Drive.urgentCheck (d : Drive) (e : Env) (g : Nat) : Drive :=
  if d.gcLevel e g = 2 then
    if d.med.urgent.contains g then d else (d.onMed fun m => { m with urgent := m.urgent ++ [g] }).setInt (pgMed 0) 4
  else d.onMed fun m => { m with urgent := m.urgent.filter (· != g) }

/-- Every group. -/
def Drive.urgentAll (d : Drive) (e : Env) : Drive := (List.range 32).foldl (fun d g => d.urgentCheck e g) d

/-- The block is erased and not programmed since. -/
def Med.isClean (m : Med) (x : Nat × Nat × Nat) : Bool := (m.die x.1 x.2.1).clean.contains x.2.2

/-- Stream `s` opens a band in group `g`. -/
def Drive.newBand (d : Drive) (e : Env) (s : MStream) (g : Nat) : Drive :=
  match d.med.pickBlocks e.fac s g with
  | none => d
  | some bs =>
    let left := (bs.filter fun x => !d.med.isClean x).map (·.1)
    let b : Band :=
      { id := d.med.nextBand, group := g, stream := s, st := if left.isEmpty then .open_ else .opening, blocks := bs
        left := left, stripes := 0, closedNo := 0, queued := 0, retireAfter := [], rebuilt := false }
    (d.onMed fun m => { m with bands := m.bands ++ [b], nextBand := m.nextBand + 1 }).urgentCheck e g

/-- The next group in turn that satisfies `ok` has a band of stream `s`, or one opens there, if a free band is left to the
stream (R275, R276, R287). -/
def Drive.openNext (d : Drive) (e : Env) (s : MStream) (ok : Nat → Bool) : Drive :=
  match (d.med.order s).find? fun g => ok g && d.writesIn e s g && ((d.med.openIn s g).isSome || decide (0 < d.med.freeBands e.fac g)) with
  | none => d
  | some g => if (d.med.openIn s g).isSome then d else d.newBand e s g

/-- Bands open for what waits in stream `s`. -/
def Drive.openBand (d : Drive) (e : Env) (s : MStream) : Drive :=
  let l := d.med.waiting s
  if l.isEmpty || !d.mayProgram e s then d
  else
    let halves := (l.filterMap d.med.itemHalf).eraseDups
    let d := if l.any fun i => (d.med.itemHalf i).isNone then d.openNext e s fun _ => true else d
    halves.foldl (fun d h => d.openNext e s fun g => g / 16 == h) d

/-- Put an item into a stream, and open a band for it where none is. -/
def Drive.put (d : Drive) (e : Env) (s : MStream) (i : Item) : Drive :=
  (d.setWaiting s (d.med.waiting s ++ [i])).openBand e s

/-- A band closes (R271, R288). -/
def Drive.closeBand (d : Drive) (id : Nat) : Drive :=
  let n := d.med.closedNo
  (d.onBand id fun b => { b with st := .closed, closedNo := n }).onMed fun m => { m with closedNo := n + 1 }

/-! ### Wear (R291) -/

/-- P/E of the die's good blocks: highest, lowest, and their mean. -/
def Die.peStats (x : Die) (fac : Factory) : Nat × Nat × Nat :=
  let ps := (x.pe.filter fun e => !x.retired.contains e.1).map (·.2)
  let n := x.good fac
  (ps.foldl max 0, if ps.length < n then 0 else ps.foldl min (ps.headD 0), if n = 0 then 0 else ps.foldl (· + ·) 0 / n)

/-- The wear-levelling check after an erase on a die (R291). -/
def Drive.wlCheck (d : Drive) (e : Env) (ch p : Nat) : Drive :=
  let x := d.med.die ch p
  let (hi, lo, _) := x.peStats e.fac
  let spread := d.fld Reg.MED_WL_CTL 25 16
  let on := if spread < hi - lo then true else if hi - lo ≤ spread - 25 then false else x.levelling
  if on = x.levelling then d else d.onMed fun m => m.setDie { x with levelling := on }

/-- A block has been erased: counted and paid, one P/E cycle, clean, its reconstruction count 0; wear levelling is checked. -/
def Drive.erased (d : Drive) (e : Env) (ch p b : Nat) : Drive :=
  let d := d.onMed fun m =>
    let x := m.die ch p
    m.setDie { x with
      pe := (b, x.peOf b + 1) :: x.pe.filter fun e => !(e.1 == b)
      clean := b :: x.clean.filter (· != b), hits := x.hits.filter fun h => !(h.1 == b) }
  d.wlCheck e ch p

/-! ### Spare, READ_ONLY, failing dies, retirement -/

/-- SPARE_LOW and READ_ONLY follow SPARE_BANDS (R273, R299). -/
def Drive.spareCheck (d : Drive) (e : Env) : Drive :=
  let n := d.spareBands e
  let low := decide (n ≤ d.fld Reg.MED_SPARE_CTL 31 16)
  let d :=
    if low && !d.med.spareLow then (d.setInt (pgMed 0) 5).event e 0x707 n 0 0 0 else d
  let d := d.onMed fun m => { m with spareLow := low }
  if n = 0 ∧ !d.med.readOnly ∧ !e.readOnly then
    let d := d.onMed fun m => { m with readOnly := true, roRsn := some d.jrn.rsnNext }
    let d := (d.setInt (pgMed 0) 6).event e 0x708 0 0 0 0
    (d.alarm e 2 2 0).saveLog
  else d

/-- Bands of group `g` in the order of R295: metadata first, then value data by decreasing valid data. -/
def Drive.rebuildOrder (d : Drive) (g : Nat) : List Nat :=
  let bs := (d.med.bands.filter fun b => b.group == g && b.st != .erasing).map fun b => (b.stream == .pages && b.st != .flush, d.validIn b.id, b.id)
  let after (a b : Bool × Nat × Nat) : Bool := if a.1 = b.1 then b.2.1 ≤ a.2.1 else a.1
  (bs.mergeSort after).map (·.2.2)

/-- Units of band `b` on physical die `p` of channel `ch`. -/
def Drive.unitsOn (d : Drive) (b ch p : Nat) : List (Obj × Nat) :=
  (d.liveIn b).flatMap fun o =>
    match d.med.locOf o with
    | none => []
    | some loc => ((List.range (d.med.objUnits o)).filter fun j =>
        match d.med.unitDie loc j with | some (c, q, _) => c == ch && q == p | none => false).map fun j => (o, j)

/-- A second die of a group fails while it rebuilds: each band not rebuilt loses the units on both dies, and writes its event
(R295). -/
def Drive.bandLoss (d : Drive) (e : Env) (r : Rebuild) (ch p : Nat) : Drive :=
  r.left.foldl (fun d b =>
    let lost := r.dies.flatMap (fun q => d.unitsOn b r.ch q) ++ d.unitsOn b ch p
    (lost.foldl (fun d u => d.unreadable e u.1 ch) d).event e 0x706 r.group b lost.length 0) d

/-- Writing in group `g` stops (R295): a band being opened is free again; an open one closes, and what waits for it goes to
the other groups. A GC destination is recorded with the failing die's block (R290). -/
def Drive.stopGroup (d : Drive) (e : Env) (g ch : Nat) : Drive :=
  let bs := d.med.bands.filter fun b => b.group == g && b.st == .open_
  let d := bs.foldl (fun d b =>
    let d := d.closeBand b.id
    match b.stream, b.blocks.find? (·.1 == ch) with
    | .gc, some (_, p, blk) => d.event e 0x704 g p blk 0
    | _, _ => d) d
  d.onMed fun m => { m with bands := m.bands.filter fun b => !(b.group == g && b.st == .opening) }

/-- Reads in progress of units on a die go on by parity reconstruction (R293). -/
def Drive.divertReads (d : Drive) (ch p : Nat) : Drive :=
  let rung := 2 * d.fld (Reg.MED_RETRY_CTL (engineOf ch)) 6 4 + 2
  let unit (loc : Nat × Nat × Nat) (u : UnitRd × Nat) : UnitRd :=
    match u.1, d.med.unitDie loc u.2 with
    | .rung r, some (c, q, _) => if c = ch ∧ q = p then .rung (max r rung) else .rung r
    | x, _ => x
  d.onMed fun m => { m with reads := m.reads.map fun r => { r with units := r.units.zipIdx.map (unit r.loc) } }

/-- The position `pos` of channel `ch` is retired with the dies `dies` (R296). -/
def Drive.retirePos (d : Drive) (e : Env) (g ch : Nat) (dies : List Nat) : Drive :=
  let left := d.rebuildOrder g
  let d := d.onMed fun m =>
    { m with
      gone := m.gone ++ [(g, ch)]
      rebuilds := m.rebuilds.filter (fun r => !(r.group == g && r.ch == ch)) ++ [⟨g, ch, none, dies, left, 0, []⟩] }
  (((d.onLog fun h => { h with posRetired := h.posRetired + 1 }).saveLog).spareCheck e).urgentCheck e g

/-- A die becomes FAILING (R293, R294): its position goes to the channel's spare, or is retired. -/
def Drive.dieFailing (d : Drive) (e : Env) (ch p criterion : Nat) : Drive :=
  let x := d.med.die ch p
  if x.st = .failing ∨ x.st = .failed then d
  else
    let k := engineOf ch
    let d := (d.setInt (pgMed k) 1).event e 0x701 ch p x.pos criterion
    let d := d.alarm e 5 1 (ch * 32 + p)
    if x.st = .spare then (d.onMed fun m => m.setDie { x with st := .failed, pos := 31 }).saveLog
    else
      let g := groupOf ch x.pos
      let d := match d.med.rebuilds.find? (fun r => r.group == g && r.ch != ch) with
        | some r => d.bandLoss e r ch p
        | none => d
      let d := (d.divertReads ch p).stopGroup e g ch
      let spare := ((List.range 17).map (d.med.die ch)).find? (·.st == .spare)
      let d := d.onMed fun m => m.setDie { x with st := .failing, pos := 31 }
      match x.st, spare with
      | .active, some s =>
        let left := d.rebuildOrder g
        let free := d.med.freeBands e.fac g
        let d := d.onMed fun m => { m with rebuilds := m.rebuilds ++ [⟨g, ch, some s.p, [p], left, free, []⟩] }
        (d.onMed fun m => m.setDie { s with st := .rebuild, pos := x.pos }).saveLog
      | _, _ =>
        let old := ((d.med.rebuilds.filter fun r => r.group == g && r.ch == ch).flatMap (·.dies))
        d.retirePos e g ch (old ++ [p])

/-- A block is retired (R292); cause 0 erase, 1 program, 2 read. -/
def Drive.retire (d : Drive) (e : Env) (ch p b cause : Nat) : Drive :=
  let x := d.med.die ch p
  if x.retired.contains b then d
  else
    let d := d.onMed fun m => m.setDie { x with retired := x.retired ++ [b], clean := x.clean.filter (· != b) }
    let d := d.onLog fun h =>
      if cause = 0 then { h with retiredErase := h.retiredErase + 1 }
      else if cause = 1 then { h with retiredProg := h.retiredProg + 1 } else { h with retiredRead := h.retiredRead + 1 }
    let d := (d.setInt (pgMed (engineOf ch)) 0).event e 0x700 ch p b cause
    let d := (d.saveLog).spareCheck e
    let d := if x.pos < 16 then d.urgentCheck e (groupOf ch x.pos) else d
    if d.fld Reg.MED_SPARE_CTL 11 0 ≤ (d.med.die ch p).retired.length then d.dieFailing e ch p 0 else d

/-! ### Erasing (R276, R289 to R292, R300) -/

/-- Band `id` is free again, and what lay in it is gone. A retired store generation that no page on flash refers to any more
is dropped (R236). -/
def Drive.freeBand (d : Drive) (e : Env) (id : Nat) : Drive :=
  let g := ((d.med.band id).map (·.group)).getD 0
  let out (l : Option (Nat × Nat × Nat)) : Bool := match l with | some (x, _, _) => x == id | none => false
  let d := d.onMed fun m =>
    { m with
      bands := m.bands.filter fun x => !(x.id == id)
      segs := m.segs.filter fun s => !out s.loc, pages := m.pages.filter fun p => !out p.loc }
  let held (n gen : Nat) (x : Nat × List Byte) : Bool :=
    decide (n < 4112) || x.1 == gen || d.med.pages.any fun p => 4112 + p.k == n && p.gen == x.1
  let d := d.onCph fun c => { c with
    slots := c.slots.map fun (s : KeySlot) => { s with gens := s.gens.filter (held s.num s.gen) }
    image := c.image.map fun (s : KeyImage) => { s with gens := s.gens.filter (held s.num s.gen) } }
  d.urgentCheck e g

/-- Erases of a band begin on the channels whose dies may be accessed and whose blocks are not retired. -/
def Drive.startErase (d : Drive) (e : Env) (id : Nat) : Drive :=
  match d.med.band id with
  | none => d
  | some b =>
    let left := (b.blocks.filter fun x =>
      let y := d.med.die x.1 x.2.1
      (y.st == .active || y.st == .rebuild) && !y.retired.contains x.2.2).map (·.1)
    if left.isEmpty then d.freeBand e id
    else d.onBand id fun b => { b with st := .erasing, left := left }

/-- A rebuild or a move off a position is complete (R294). -/
def Drive.rebuildDone (d : Drive) (e : Env) (r : Rebuild) : Drive :=
  let d := r.dies.foldl (fun d p => d.onMed fun m => m.setDie { m.die r.ch p with st := .failed, pos := 31 }) d
  let d := d.onMed fun m => { m with rebuilds := m.rebuilds.filter fun x => !(x.group == r.group && x.ch == r.ch) }
  match r.spare with
  | some p =>
    let x := d.med.die r.ch p
    let d := (d.onMed fun m => m.setDie { x with st := .active }).setInt (pgMed (engineOf r.ch)) 2
    (((d.event e 0x702 r.ch p x.pos 0).onLog fun h => { h with diesSpared := h.diesSpared + 1 }).saveLog).spareCheck e
  | none => d.saveLog

/-- A position move is complete when the data of every band of the group that existed has moved. -/
def Drive.movesDone (d : Drive) (e : Env) : Drive :=
  let ended (r : Rebuild) : Bool := r.spare.isNone && r.left.isEmpty &&
    !(d.med.bands.any fun b => r.moved.contains b.id && b.st == .moving)
  (d.med.rebuilds.filter ended).foldl (fun d r => d.rebuildDone e r) d

/-- Moved bands whose valid data has all gone and that no read uses: blocks due for it are retired, and the band is erased
(R286, R289). -/
def Drive.finishMoves (d : Drive) (e : Env) : Drive :=
  let d := (d.med.bands.filter fun b => b.st == .moving).foldl (fun d b =>
    if !(d.liveIn b.id).isEmpty || d.med.readFrom b.id then d
    else (b.retireAfter.foldl (fun d x => d.retire e x.1 x.2.1 x.2.2 2) d).startErase e b.id) d
  d.movesDone e

/-- Channel `ch` of band `id` needs no erase any more. -/
def Drive.eraseLeft (d : Drive) (e : Env) (id ch : Nat) : Drive :=
  let d := d.onBand id fun b => { b with left := b.left.filter (· != ch) }
  match d.med.band id with
  | some b =>
    if !b.left.isEmpty then d
    else if b.st = .opening then d.onBand id fun b => { b with st := .open_ }
    else d.freeBand e id
  | none => d

/-- An erase fails on a block: counted, and the block is retired (R292). -/
def Drive.eraseFails (d : Drive) (e : Env) (ch p b : Nat) : Drive :=
  let k := engineOf ch
  ((d.bump (Reg.MED_ERASE_FAIL k) 1).errCnt (pgMed k)).retire e ch p b 0

/-- A program or its read-back fails on a block: counted, and the block is retired (R292). -/
def Drive.programFails (d : Drive) (e : Env) (ch p b : Nat) : Drive :=
  let k := engineOf ch
  ((d.bump (Reg.MED_PROG_FAIL k) 1).errCnt (pgMed k)).retire e ch p b 1

/-- ERASE_DONE. Once the drains of READ_ONLY are complete, nothing in the user area is erased (R299, R300). -/
def eraseDoneOp (id ch : Nat) (ok : Bool) (e : Env) (d : Drive) : Drive :=
  match d.med.band id with
  | none => d
  | some b =>
    match b.left.contains ch, b.blocks.find? (·.1 == ch) with
    | true, some (c, p, blk) =>
      let k := engineOf c
      if !d.medOn k || !d.mayProgram e b.stream || !d.affords [20 + k] (cost 9) then d
      else
        let d := (d.bump (Reg.MED_ERASES k) 1).pay [20 + k] 9 1
        if ok then (d.erased e c p blk).eraseLeft e id ch
        else
          let d := d.eraseFails e c p blk
          if b.st = .opening then
            let d := if b.stream = .gc then d.event e 0x704 b.group p blk 0 else d
            match d.med.band id, d.med.pickBlock e.fac b.stream (d.med.die c p) with
            | some _, some nb =>
              let d := d.onBand id fun b => { b with blocks := b.blocks.map fun x => if x.1 = ch then (c, p, nb) else x }
              if d.med.isClean (c, p, nb) then d.eraseLeft e id ch else d
            | _, _ => d.onMed fun m => { m with bands := m.bands.filter fun x => !(x.id == id) }
          else d.eraseLeft e id ch
    | _, _ => d

end Sys2Proof.Machine
end

