-- ==== Sys2Proof/Machine/Media.lean ====
section
/-! DEFINITION. The media engines at work (R266 to R307): stripes programmed, garbage collection, wear levelling, rebuilds, the
read ladder, the value cache and the health log. A segment is listed from its encryption until its band is erased. -/

namespace Sys2Proof.Machine

/-! ### Reads begin (R281, R283, R293) -/

/-- MAX_SHIFT of engine k; the numbers of the soft and the reconstruction rung. -/
def Drive.maxShift (d : Drive) (k : Nat) : Nat := d.fld (Reg.MED_RETRY_CTL k) 6 4
def Drive.softRung (d : Drive) (k : Nat) : Nat := 2 * d.maxShift k + 1
def Drive.parityRung (d : Drive) (k : Nat) : Nat := 2 * d.maxShift k + 2

/-- The rung after `r`: a disabled one is skipped; none after the last (R281). -/
def Drive.nextRung (d : Drive) (k r : Nat) : UnitRd :=
  let n := 2 * d.maxShift k
  let soft := d.flag (Reg.MED_RETRY_CTL k) 1
  let parity := d.flag (Reg.MED_RETRY_CTL k) 0
  if r < n then .rung (r + 1)
  else if r = n ∧ soft then .rung (n + 1)
  else if r ≤ n + 1 ∧ parity then .rung (n + 2)
  else .bad

/-- Where a unit's read begins. A FAILING or FAILED die is read by reconstruction (R293), and so is what lies on a block
retired for a failed program (R292). -/
def Drive.firstRung (d : Drive) (loc : Nat × Nat × Nat) (j : Nat) : UnitRd :=
  match d.med.unitDie loc j with
  | some (ch, p, b) =>
    let x := d.med.die ch p
    if x.st = .failing ∨ x.st = .failed ∨ x.retired.contains b then .rung (d.parityRung (engineOf ch)) else .rung 0
  | none => .rung 0

/-- A media read of an object begins (R281); the second one of a segment is its reconstruction (R283). -/
def Drive.startRead (d : Drive) (use : RdUse) (o : Obj) (second : Bool) : Drive :=
  match d.med.locOf o with
  | none => d
  | some loc =>
    let k (j : Nat) : Nat := match d.med.unitDie loc j with | some (ch, _, _) => engineOf ch | none => 0
    let units := (List.range (d.med.objUnits o)).map fun j => if second then .rung (d.parityRung (k j)) else d.firstRung loc j
    let d := if second then d.bump (Reg.MED_TAG_REREAD (k 0)) 1 else d
    d.onMed fun m => { m with reads := m.reads ++ [⟨m.nextRd, use, o, loc, units, second⟩], nextRd := m.nextRd + 1 }

/-- A band's valid data is read for stream `s`, every unit through the ladder (R289). -/
def Drive.moveBand (d : Drive) (e : Env) (id : Nat) (s : MStream) : Drive :=
  let objs := d.liveIn id
  let d := d.onBand id fun b => { b with st := .moving }
  (objs.foldl (fun d o => d.startRead (.move id s) o false) d).finishMoves e

/-! ### Programming (R269, R270, R275, R292) -/

/-- The open band of stream `s` that takes the next stripe: the first in turn that something waits for (R275). -/
def Drive.turn (d : Drive) (e : Env) (s : MStream) : Option Nat :=
  (d.med.order s).findSome? fun g =>
    match d.med.openIn s g with
    | some b => if b.st == .open_ && d.writesIn e s g && (d.med.waiting s).any (fun i => d.med.itemIn i g) then some b.id else none
    | none => none

/-- As many items from the front as fit into `cap` bytes of group `g`, each with its offset; and the rest. -/
def Med.fill (m : Med) (g cap off : Nat) : List Item → List (Item × Nat) × List Item
  | [] => ([], [])
  | i :: l =>
    if !m.itemIn i g then
      let (a, r) := m.fill g cap off l
      (a, i :: r)
    else if off + m.objSize i.obj ≤ cap then
      let (a, r) := m.fill g cap (off + m.objSize i.obj) l
      ((i, off) :: a, r)
    else ([], i :: l)

/-- The engine that writes an item's page. -/
def Med.itemEngine (m : Med) (i : Item) : Nat :=
  match i.obj with
  | .page id => ((m.page id).map (·.k)).getD 0
  | .seg _ => 0

/-- New pages go to die-pages of the engines that write them (R257); `used` are the bytes taken of each data die-page. -/
def Med.fillPages (m : Med) (dies : List (Nat × Nat × Nat)) (g : Nat) :
    List Nat → List Item → List (Item × Nat) × List Item
  | _, [] => ([], [])
  | used, i :: l =>
    let n := m.objSize i.obj
    let at_ := (List.range dies.length).find? fun j =>
      engineOf ((dies[j]?.map (·.1)).getD 0) == m.itemEngine i && decide ((used[j]?).getD 0 + n ≤ diePage)
    match m.itemIn i g, at_ with
    | true, some j =>
      let u := (used[j]?).getD 0
      let (a, r) := m.fillPages dies g (used.set j (u + n)) l
      ((i, diePage * j + u) :: a, r)
    | _, _ =>
      let (a, r) := m.fillPages dies g used l
      (a, i :: r)

/-- What the next stripe of band `b` holds, and what waits on. -/
def Med.nextStripe (m : Med) (b : Band) : List (Item × Nat) × List Item :=
  let l := m.waiting b.stream
  let dies := b.dataDies b.stripes
  if b.stream = .pages then m.fillPages dies b.group (dies.map fun _ => 0) l else m.fill b.group (diePage * dies.length) 0 l

/-- Place a programmed item; a move that its source has forestalled changes nothing. -/
def Drive.placeItem (d : Drive) (b w : Nat) (i : Item × Nat) : Drive :=
  let put (o : Obj) : Drive := d.onMed fun m => m.place o (b, w, i.2)
  match i.1 with
  | .new o => put o
  | .move o src => if (d.med.locOf o).map (·.1) = some src then put o else d

/-- The engines count a stripe's die-page programs, with their read-back. -/
def Drive.countStripe (d : Drive) (b : Band) : Drive :=
  let d := b.blocks.foldl (fun d x => d.bumpWide (Reg.MED_PROGS (engineOf x.1)) 1) d
  let n := b.blocks.length
  let d := (d.pay (halfDoms b.group) 7 n).pay (halfDoms b.group) 8 (12 * n)
  d.onLog fun h => { h with mediaBytes := h.mediaBytes + diePage * (n - 1) }

/-- Bytes moved by GC or WL count (R302, R307). -/
def Drive.countMoved (d : Drive) (s : MStream) (n : Nat) : Drive :=
  match s with
  | .gc => (d.bumpWide Reg.MED_GC_BYTES n).onLog fun h => { h with gcBytes := h.gcBytes + n }
  | .wl => (d.bumpWide Reg.MED_WL_BYTES n).onLog fun h => { h with wlBytes := h.wlBytes + n }
  | _ => d

/-- The blocks of a band are programmed: none is clean any more. -/
def Drive.unclean' (d : Drive) (bs : List (Nat × Nat × Nat)) : Drive :=
  bs.foldl (fun d x => d.onMed fun m =>
    let y := m.die x.1 x.2.1
    if y.clean.contains x.2.2 then m.setDie { y with clean := y.clean.filter (· != x.2.2) } else m) d

/-- WL programs of group `g` in this second of operating time. -/
def Drive.wlCount (d : Drive) (e : Env) (g : Nat) : Nat :=
  ((d.med.wlSec.find? fun x => x.1 == g && x.2.1 == e.clk.optime / 1000).map (·.2.2)).getD 0

/-- One more WL program keeps within RATE_PCT percent of the group's program time of this second (R291). -/
def Drive.wlAllowed (d : Drive) (e : Env) (g : Nat) : Bool :=
  decide ((d.wlCount e g + 1) * Config.tProg * 100 ≤ d.fld Reg.MED_WL_CTL 7 0 * 1000000)

/-- A WL program is counted in its second. -/
def Drive.wlProgram (d : Drive) (e : Env) (b : Band) : Drive :=
  if b.stream = .wl then
    let n := d.wlCount e b.group
    d.onMed fun m => { m with wlSec := (b.group, e.clk.optime / 1000, n + 1) :: m.wlSec.filter fun x => x.1 != b.group }
  else d

/-- The turn of a stream passes on behind group `g`. -/
def Drive.passTurn (d : Drive) (s : MStream) (g : Nat) : Drive :=
  d.onMed fun m => { m with rr := m.rr.set s.idx ((g + 1) % 32) }

/-- A stripe is programmed and read back: its items, now on flash. -/
def Drive.stripeDone (d : Drive) (e : Env) (b : Band) : List Item × Drive :=
  let (put, rest) := d.med.nextStripe b
  if put.isEmpty then ([], d)
  else
    let moved := ((put.filter fun i => match i.1 with | .move _ _ => true | _ => false).map fun i => d.med.objSize i.1.obj).foldl (· + ·) 0
    let d := put.foldl (fun d i => d.placeItem b.id b.stripes i) (d.setWaiting b.stream rest)
    let d := ((d.unclean' b.blocks).countStripe b).wlProgram e b
    let d := (d.countMoved b.stream moved).onBand b.id fun b => { b with stripes := b.stripes + 1 }
    let d := if b.stripes + 1 = 1024 then d.closeBand b.id else d
    let d := (d.passTurn b.stream b.group).openBand e b.stream
    (put.map (·.1), d.finishMoves e)

/-- A program or its read-back has failed on channel `ch` (R290, R292): the block is retired, the band closes and is first
for GC; its items stay with their sources. -/
def Drive.stripeFailed (d : Drive) (e : Env) (b : Band) (ch : Nat) : Drive :=
  match b.blocks.find? (·.1 == ch) with
  | none => d
  | some (c, p, blk) =>
    let d := ((d.unclean' b.blocks).countStripe b).wlProgram e b
    let d := (d.programFails e c p blk).closeBand b.id
    let d := d.onBand b.id fun b => { b with queued := 2 }
    let d := if b.stream = .gc then d.event e 0x704 b.group p blk 0 else d
    d.openBand e b.stream

/-! ### Garbage collection, wear levelling, rebuilds -/

/-- The victim of a group (R286, R288, R295). -/
def Drive.victim (d : Drive) (g : Nat) : Option Nat :=
  let ok (b : Band) : Bool := b.group == g && b.st == .closed && !(d.med.rebuilds.any fun r => r.group == g && r.left.contains b.id)
  let cs := (d.med.bands.filter ok).map fun b => (b.queued, d.validIn b.id, b.closedNo, b.id)
  let before (a b : Nat × Nat × Nat × Nat) : Bool :=
    if a.1 = b.1 then (if a.2.1 = b.2.1 then a.2.2.1 < b.2.2.1 else a.2.1 < b.2.1) else b.1 < a.1
  match cs with
  | [] => none
  | c :: cs => some (cs.foldl (fun best a => if before a best then a else best) c).2.2.2

/-- A host drain waits to begin. -/
def Drive.drainDue (d : Drive) : Bool :=
  d.jrn.recs.any fun r => r.st == .committed && r.effect && r.payload != 0 && r.drain.isNone

/-- Urgent collection waits to begin: it takes its credits before host drains (R287). -/
def Drive.gcDue (d : Drive) : Bool := d.med.urgent.any fun g => (d.victim g).isSome

/-- GC_COPY (R287 to R289): the victim's valid data goes to the GC stream. At level 1 its credits come after those of the
host drains that wait. Fawn entry stops GC, WL and rebuild at their next band (R396). -/
def gcCopyOp (g : Nat) (e : Env) (d : Drive) : Drive :=
  let level := d.gcLevel e g
  let ahead := if level < 2 && d.drainDue then cost 5 else 0
  let d := d.finishMoves e
  if 32 ≤ g || !d.halfOn g || d.pwr.fawnStep == 3 || !d.affords (halfDoms g) (cost 8 + ahead) || d.sealedOff e then d
  else match d.victim g with
    | none => d
    | some id =>
      let queued := ((d.med.band id).map (·.queued)).getD 0
      if level = 0 ∧ queued = 0 then d else d.moveBand e id .gc

/-- WEAR_LEVEL_MOVE (R291): the closed band that holds the die's least worn block moves into the WL stream. -/
def wearLevelMoveOp (ch p : Nat) (e : Env) (d : Drive) : Drive :=
  let x := d.med.die ch p
  if 32 ≤ ch || 17 ≤ p || !x.levelling || d.pwr.fawnStep == 3 || d.med.rebuilding (groupOf ch x.pos) || !d.affords (halfDoms (groupOf ch x.pos)) (cost 8) ||
      d.sealedOff e then d
  else
    let lo := (x.peStats e.fac).2.1
    match d.med.bands.find? fun b => b.st == .closed && b.blocks.any fun y => y.1 == ch && y.2.1 == p && x.peOf y.2.2 == lo with
    | some b => d.moveBand e b.id .wl
    | none => d

/-- DIE_OP_TIMEOUT: three consecutive operations have gone unanswered (R293). -/
def dieOpTimeoutOp (ch p : Nat) (e : Env) (d : Drive) : Drive :=
  if ch < 32 ∧ p < 17 ∧ d.medOn (engineOf ch) then d.dieFailing e ch p 1 else d

/-- A write of MEDk_SPARE_CMD (R304). -/
def spareCmdW (k : Nat) (v : Word) (e : Env) (d : Drive) : Drive :=
  let ch := 4 * k + bits v 9 8
  if bits v 31 24 ≠ 0xA5 ∨ 15 < bits v 4 0 then d
  else match d.med.serving ch (bits v 4 0) with
    | some x => d.dieFailing e ch x.p 2
    | none => d

/-- A die-block erase is issued: counted and paid. -/
def Drive.issueErase (d : Drive) (ch : Nat) : Drive := (d.bump (Reg.MED_ERASES (engineOf ch)) 1).pay [20 + engineOf ch] 9 1

/-- A band's missing die-pages are written to block `nb` of the spare die, each as the XOR of its stripe's others (R295). The
units read for it count at rung 0, since the row brings no outcome of theirs (DESIGN CHOICE, assumption log). -/
def Drive.rebuildOnto (d : Drive) (e : Env) (r : Rebuild) (b : Band) (p nb : Nat) : Drive :=
  let n := b.stripes
  let d := d.onBand b.id fun b =>
    { b with rebuilt := true, blocks := b.blocks.map fun x => if x.1 = r.ch then (r.ch, p, nb) else x }
  let others := b.blocks.filter fun x => x.1 != r.ch
  let d := others.foldl (fun d x =>
    (d.bumpWide (Reg.MED_READS (engineOf x.1)) (48 * n)).bump (Reg.MED_RUNG (engineOf x.1) 0) (48 * n)) d
  let d := ((d.issueErase r.ch).erased e r.ch p nb).bumpWide (Reg.MED_PROGS (engineOf r.ch)) n
  let d := (d.pay [20 + engineOf r.ch] 7 n).pay (halfDoms r.group) 8 (12 * n * others.length)
  if n = 0 then d else d.unclean' [(r.ch, p, nb)]

/-- The next band of a rebuild is dealt with. -/
def Drive.rebuildNext (d : Drive) (e : Env) (r : Rebuild) (g : Rebuild → Rebuild) : Drive :=
  let d := d.onMed fun m => { m with rebuilds := modIf m.rebuilds (fun x => x.group == r.group && x.ch == r.ch) g }
  match d.med.rebuilds.find? fun x => x.group == r.group && x.ch == r.ch with
  | some x => if x.spare.isSome && x.left.isEmpty && x.free == 0 then d.rebuildDone e x else d.movesDone e
  | none => d

/-- REBUILD_BAND (R295 to R297): one band of a rebuilding group, in the order of R295, as the credits allow; `failed`, where
the spare-die block fails, and how: the band's rebuild then begins again on another block. -/
def rebuildBandOp (g : Nat) (failed : Option BlkFail) (e : Env) (d : Drive) : Drive :=
  match d.med.rebuilds.find? (·.group == g) with
  | none => d
  | some r =>
    if !d.halfOn g || d.pwr.fawnStep == 3 || !d.affords (halfDoms g) (if r.spare.isSome then cost 7 else cost 8) then d
    else match r.left with
      | [] => if 0 < r.free then d.rebuildNext e r fun x => { x with free := x.free - 1 } else d.rebuildNext e r id
      | id :: rest =>
        match d.med.band id, r.spare with
        | none, _ => d.rebuildNext e r fun x => { x with left := rest }
        | some b, some p =>
          match d.med.pickBlock e.fac .host (d.med.die r.ch p), failed with
          | none, _ => d
          | some nb, some .erase => (d.issueErase r.ch).eraseFails e r.ch p nb
          | some nb, some .program =>
            ((((d.issueErase r.ch).erased e r.ch p nb).bumpWide (Reg.MED_PROGS (engineOf r.ch)) 1).pay [20 + engineOf r.ch] 7 1).programFails e r.ch p nb
          | some nb, none => (d.rebuildOnto e r b p nb).rebuildNext e r fun x => { x with left := rest }
        | some b, none =>
          let d := if b.st = .closed then d.moveBand e id .gc else d
          d.rebuildNext e r fun x => { x with left := rest, moved := x.moved ++ [id] }

/-! ### Reading (R281 to R286) -/

/-- Change read `id`. -/
def Drive.onRd (d : Drive) (id : Nat) (f : Rd → Rd) : Drive :=
  d.onMed fun m => { m with reads := modIf m.reads (·.id == id) f }

/-- A band is queued for garbage collection by a read; a band queued already is not queued again (R286, R305). -/
def Drive.reclaim (d : Drive) (b k level : Nat) (after : Option (Nat × Nat × Nat)) : Drive :=
  match d.med.band b with
  | none => d
  | some x =>
    let d := d.onBand b fun b =>
      { b with
        queued := max b.queued level
        retireAfter := match after with
          | some y => if b.retireAfter.contains y then b.retireAfter else b.retireAfter ++ [y]
          | none => b.retireAfter }
    if x.queued = 0 then d.bump (Reg.MED_RECLAIMS k) 1 else d

/-- A unit resolved at rung `r` on engine `k` with `c` bits corrected on die `(ch, p)` (R281, R302, R306). -/
def Drive.resolved (d : Drive) (ch p r c : Nat) : Drive :=
  let d := d.onMed fun m => m.setDie { m.die ch p with corr := (m.die ch p).corr + c }
  let d := d.onLog fun h =>
    { h with
      corrBits := h.corrBits + c
      retry := if r = 0 then h.retry else modAt h.retry (min r 8 - 1) (· + 1) }
  d.bump (Reg.MED_RUNG (engineOf ch) r) 1

/-- The counterparts of a reconstructed unit are read on the band's other dies, each through rungs 0 to 2: `peers` says at
which rung each resolved, 0 where it says nothing, 3 where none did (R281, R297). -/
def Drive.readPeers (d : Drive) (band : Nat) (x : Nat × Nat × Nat) (peers : List Nat) : Drive :=
  let others := (((d.med.band band).map (·.blocks)).getD []).filter fun y => y.1 != x.1
  (others.zipIdx).foldl (fun d y =>
    let r := (peers[y.2]?).getD 0
    let d := d.bumpWide (Reg.MED_READS (engineOf y.1.1)) (min r 2 + 1)
    if r ≤ 2 then d.resolved y.1.1 y.1.2.1 r 0 else d) d

/-- A parity reconstruction of a unit on block `x` of band `band` (R281, R286, R302). -/
def Drive.countRecon (d : Drive) (band : Nat) (x : Nat × Nat × Nat) : Drive :=
  let (ch, p, b) := x
  let k := engineOf ch
  let y := d.med.die ch p
  let n := ((y.hits.find? (·.1 == b)).map (·.2)).getD 0 + 1
  let d := d.onMed fun m => m.setDie { y with recon := y.recon + 1, hits := (b, n) :: y.hits.filter fun h => !(h.1 == b) }
  let d := ((d.bump (Reg.MED_RECON k) 1).onLog fun h => { h with recon := h.recon + 1 }).pay [20 + k] 10 1
  if d.fld (Reg.MED_RECLAIM k) 3 0 ≤ n then d.reclaim band k 2 (some x) else d

/-- The shifts of the reads of rung `r` (R281): rung 0 as tracked; odd and even rungs by so many steps up and down; the soft
rung at three places; a reconstruction reads other dies. A step is a mantissa of 2^13 at ES 10. -/
def Drive.rungShifts (d : Drive) (ch p b r : Nat) : List Int :=
  let k := engineOf ch
  let t := d.thShift ch p b
  let s : Int := d.fld (Reg.MED_RETRY_CTL k) 15 8 * 2 ^ 13
  if r = 0 then [t]
  else if r = d.softRung k then [t, t + s, t - s]
  else if r = d.parityRung k then []
  else if r % 2 = 1 then [t + ((r + 1) / 2 : Nat) * s] else [t - (r / 2 : Nat) * s]

/-- What every read of a unit at rung `r` counts: its reads, three of them for a soft one, or the reconstruction; the
threshold sample of a rung 0 read (R281, R282, R348). -/
def Drive.readCounted (d : Drive) (rd : Rd) (r : Nat) (x : Nat × Nat × Nat) (res : ReadRes) (peers : List Nat) : Drive :=
  let k := engineOf x.1
  let t := 17 * x.1 + x.2.1
  let n := if r = d.softRung k then 3 else 1
  let d := if r = d.parityRung k then (d.readPeers rd.loc.1 x peers).countRecon rd.loc.1 x
    else (((d.bumpWide (Reg.MED_READS k) n).pay [20 + k] 8 n).onMed fun m =>
      m.setDie { m.die x.1 x.2.1 with shifts := d.rungShifts x.1 x.2.1 x.2.2 r })
  if r = 0 then
    match res with
    | .good n => d.thSample t n
    | .crcFail n => d.thSample t n
    | .decodeFail => d.thSampleFail t
  else d

/-- A unit read at rung `r` with its outcome; the read's unit moves on. -/
def Drive.unitRead (d : Drive) (e : Env) (rd : Rd) (j r : Nat) (x : Nat × Nat × Nat) (res : ReadRes) (peers : List Nat) : Drive :=
  let (ch, p, _) := x
  let k := engineOf ch
  let put (u : UnitRd) (d : Drive) : Drive := d.onRd rd.id fun y => { y with units := y.units.set j u }
  let d := d.readCounted rd r x res peers
  match res with
  | .good n =>
    let d := d.resolved ch p r n.natAbs
    let d := if d.fld (Reg.MED_RECLAIM k) 11 8 ≤ r then d.reclaim rd.loc.1 k 1 none else d
    put .good d
  | _ =>
    let next : UnitRd := if rd.second then .bad else d.nextRung k r
    let crc := match res with | .crcFail _ => true | _ => false
    let d := if crc && next != UnitRd.bad then
        (d.bump (Reg.MED_REREAD_CRC k) 1).onLog fun h => { h with rereadCrc := h.rereadCrc + 1 }
      else d
    let d := put next d
    if next = .bad then d.unreadable e rd.obj ch else d

/-- A read that a drain or a move makes waits for the ledger's credit (R388). -/
def Rd.credited (rd : Rd) : Bool :=
  match rd.use with
  | .job _ _ => false
  | .load _ => false
  | _ => true

/-- The outcome of reading unit `j` of read `id` at rung `r`, where that is the rung it is at. -/
def Drive.readUnit (d : Drive) (e : Env) (id j r : Nat) (res : ReadRes) (peers : List Nat) : Drive :=
  match d.med.reads.find? (·.id == id) with
  | none => d
  | some rd =>
    match rd.units[j]?, d.med.unitDie rd.loc j with
    | some (.rung r'), some x =>
      let c := if r = d.parityRung (engineOf x.1) then cost 10 else cost 8
      if r = r' ∧ d.medOn (engineOf x.1) ∧ (!rd.credited || d.affords [20 + engineOf x.1] c) then d.unitRead e rd j r x res peers else d
    | _, _ => d

/-! ### The value cache (R277) -/

/-- Bytes of a cached segment. -/
def Med.cacheSize (m : Med) (x : Nat × Bool) : Nat := ((m.seg x.1).map Seg.size).getD 0

/-- The newest entries whose sizes fit together: the others are the least recently used. -/
def Med.fitCache (m : Med) (cap : Nat) : List (Nat × Bool) → List (Nat × Bool)
  | [] => []
  | x :: l => if m.cacheSize x ≤ cap then x :: m.fitCache (cap - m.cacheSize x) l else []

/-- A segment's ciphertext enters the cache, or is used in it. Pin-hot entries hold up to PIN_PCT percent by right; all
others share the rest, pin-hot ones beyond that percentage among them. -/
def Drive.cachePut (d : Drive) (id : Nat) (pin : Bool) : Drive :=
  let total := 12 * 2 ^ 30
  let hot := total * d.fld Reg.MED_CACHE_CTL 6 0 / 100
  d.onMed fun m =>
    let was := m.cache.any fun x => x.1 == id && x.2
    let l := (id, pin || was) :: m.cache.filter fun x => !(x.1 == id)
    let pinned := m.fitCache hot (l.filter (·.2))
    let used := (pinned.map m.cacheSize).foldl (· + ·) 0
    let shared := m.fitCache (total - used) (l.filter fun x => !pinned.contains x)
    { m with cache := l.filter fun x => pinned.contains x || shared.contains x }

/-! ### Windows (R301 to R306) -/

/-- Code of a die state. -/
def DieState.code : DieState → Nat
  | .active => 0
  | .spare => 1
  | .rebuild => 2
  | .failing => 3
  | .failed => 4

/-- A write of MEDk_DIE_SEL on path `p` latches the die's record (R306). No event reports a package's own temperature: NOW is
a free value, and what the package reached before it another. -/
def dieSelW (k : Nat) (p : Path) (_ : Word) (e : Env) (d : Drive) : Drive :=
  let ch := 4 * k + d.fld (pk p (Reg.MED_DIE_SEL k)) 9 8
  let die := d.fld (pk p (Reg.MED_DIE_SEL k)) 4 0
  let x := d.med.die ch die
  let (hi, lo, avg) := x.peStats e.fac
  let now := Config.packageTemp d.free % 256
  let top := max ((d.med.pkgMax[ch]?).getD 0) (max now (Config.packageTemp (d.free + 1) % 256))
  let d := { d with free := d.free + 2, med := { d.med with pkgMax := d.med.pkgMax.set ch top } }
  let put (d : Drive) (a n : Nat) : Drive := d.setReg (pk p a) (word n)
  let d := put d (Reg.MED_DIE_STATE k) (x.pos * 65536 + x.st.code)
  let d := put (put d (Reg.MED_DIE_PE k) (min hi 65535 * 65536 + min lo 65535)) (Reg.MED_DIE_PE_AVG k) (min avg 65535)
  let d := put d (Reg.MED_DIE_BLOCKS k) (x.retired.length * 65536 + x.good e.fac)
  let d := put d (Reg.MED_DIE_FACT_BAD k) ((e.fac.bad[17 * ch + die]?).getD 0)
  let d := put d (Reg.MED_DIE_TEMP k) (top * 256 + now)
  let d := d.setWide (pk p (Reg.MED_DIE_CORR k)) x.corr
  put (put d (Reg.MED_DIE_RECON k) x.recon) (Reg.MED_DIE_LOOP k) (17 * ch + die)

/-- The hottest NAND package: the feedback of the two thermal loops of the packages (R346), in °C. -/
def Drive.packageTemp (d : Drive) : Nat :=
  let t (n : Nat) : Nat := (mant (d.reg (Reg.CTL_L_FB n)) / 32768).toNat
  max (t 7) (t 8)

/-- The bin of TEMP_HIST (R302). -/
def tempBin (t : Nat) : Nat := if t < 30 then 0 else if t < 80 then (t - 20) / 10 else if t < 85 then 6 else 7

/-- `ms` of operating time at the present hottest package: TEMP_HIST and TEMP_MAX. While the control engine is not ON no
event reports it: it is a free value. -/
def Drive.tempTime (d : Drive) (e : Env) (ms : Nat) : Drive :=
  let t := if d.isOn 5 then d.packageTemp else Config.packageTemp d.free % 256
  let d := if d.isOn 5 then d else { d with free := d.free + 1 }
  d.onLog fun h =>
    let h := { h with tempHist := modAt h.tempHist (tempBin t) (· + ms) }
    if h.tempMax < t then { h with tempMax := t, tempMaxPcycle := e.clk.pcycle, tempMaxMs := e.clk.optime } else h

/-- Every die that serves or is spare, and all of them. -/
def Med.allDies (m : Med) : List Die := (List.range 544).map fun t => m.die (t / 17) (t % 17)

/-- Units charged for a version (R298): those not entirely punched; then 4,096 bytes each, and the key. -/
def KeyRec.unitHole (k : KeyRec) (u : Nat) : Bool :=
  let step (acc : Nat × Bool) (p : Piece) : Nat × Bool :=
    let lo := acc.1
    let hi := acc.1 + p.len
    let meets := decide (lo < 4096 * u + 4096) && decide (4096 * u < hi) && decide (0 < p.len)
    (hi, acc.2 && (!meets || p.src == .hole))
  (k.pieces.foldl step (0, true)).2

/-- The charge of a version against USER_CAP. -/
def KeyRec.charge (k : KeyRec) : Nat :=
  k.key.length + 4096 * ((List.range (ceilDiv k.len 4096)).filter fun u => !k.unitHole u).length

/-- A write is charged from its acceptance on, and its version is not current yet (R182, R298, R339). -/
def JRec.pending (r : JRec) : Bool := r.st == .accepted || (r.st == .committed && !r.effect)

/-- USER_USED (R298): the charges of the current versions, and the full payloads of writes not committed. -/
def Drive.userUsed (d : Drive) : Nat :=
  (d.nss.flatMap fun n => n.keys.map KeyRec.charge).foldl (· + ·) 0 +
  ((d.jrn.recs.filter JRec.pending).map (·.payload)).foldl (· + ·) 0

/-- USER_CAP. -/
def Drive.userCap (d : Drive) : Nat := userCapOf (d.fld Reg.MED_USER_BANDS 17 0)

/-- A written MED_USER_BANDS is taken (R274). -/
def Drive.userBandsOk (d : Drive) (e : Env) (bands : Nat) : Bool :=
  decide (120000 ≤ bands) && decide (bands ≤ 163400) && decide (d.userUsed ≤ userCapOf bands) &&
    decide (1 ≤ d.med.spareBands e.fac bands)

/-- The status word of the health log: read-only, rebuilding, SPARE_LOW, the highest collection level. -/
def Drive.hlogStatus (d : Drive) (e : Env) : Nat :=
  let lvl := ((List.range 32).map (d.gcLevel e)).foldl max 0
  b2n (e.readOnly || d.med.readOnly) + b2n (!d.med.rebuilds.isEmpty) * 2 +
    b2n (decide (d.spareBands e ≤ d.fld Reg.MED_SPARE_CTL 31 16)) * 4 + lvl * 16

/-- The average, the highest and the lowest count of erasures over the good blocks of the active dies. -/
def Drive.hlogErases (d : Drive) (e : Env) : Nat × Nat × Nat :=
  let dies := d.med.allDies
  let act := dies.filter fun x => x.st == .active
  let hi := ((dies.filter fun x => x.st != .failed).map fun x => (x.peStats e.fac).1).foldl max 0
  let los := act.map fun x => (x.peStats e.fac).2.1
  let goods := (act.map fun x => x.good e.fac).foldl (· + ·) 0
  let sum := (act.map fun x => ((x.pe.filter fun q => !x.retired.contains q.1).map (·.2)).foldl (· + ·) 0).foldl (· + ·) 0
  (if goods = 0 then 0 else sum / goods, hi, los.foldl min (los.headD 0))

/-- The channels that still have a spare die. -/
def Drive.hlogSpares (d : Drive) : Nat :=
  ((List.range 32).filter fun ch => ((List.range 17).map (d.med.die ch)).any (·.st == .spare)).length

/-- Bytes 0 to 47 of the health log. -/
def Drive.hlogA (d : Drive) (e : Env) : List Byte :=
  let n := d.spareBands e
  let x := d.hlogErases e
  let sp := shippedSpare e.fac.bad
  leBytes 4 1 ++ leBytes 4 e.clk.pcycle ++ leBytes 8 (e.clk.optime % 2 ^ 48) ++ leBytes 4 (d.hlogStatus e) ++
    leBytes 4 (n * 10000 / max 1 sp) ++ leBytes 4 n ++ leBytes 4 sp ++ leBytes 4 (x.1 * 10000 / 3000) ++
    leBytes 4 x.1 ++ leBytes 4 x.2.1 ++ leBytes 4 x.2.2

/-- The bytes of the health log from the host bytes to the re-reads for a CRC. -/
def Drive.hlogB (d : Drive) (e : Env) : List Byte :=
  let h := d.med.hlog
  let c := leBytes 8 h.hostBytes ++ leBytes 8 h.mediaBytes ++ leBytes 8 d.userCap ++ leBytes 8 d.userUsed
  let f := leBytes 4 h.retiredErase ++ leBytes 4 h.retiredProg ++ leBytes 4 h.retiredRead ++
    leBytes 4 (e.fac.bad.foldl (· + ·) 0) ++ leBytes 4 h.diesSpared
  let g := leBytes 4 h.posRetired ++ leBytes 4 d.hlogSpares ++ leBytes 4 h.unreadable ++ leBytes 8 h.corrBits ++
    leBytes 4 h.recon ++ leBytes 4 h.rereadCrc
  c ++ f ++ g

/-- The bytes of the health log from the retry histogram on. -/
def Drive.hlogC (d : Drive) : List Byte :=
  let h := d.med.hlog
  let r := (h.retry.map (leBytes 4)).flatten ++ leBytes 4 h.lostKeys ++ leBytes 4 h.tempMax ++
    leBytes 4 h.tempMaxPcycle ++ leBytes 8 h.tempMaxMs
  r ++ leBytes 4 d.packageTemp ++ (h.tempHist.map (leBytes 8)).flatten ++ leBytes 8 h.gcBytes ++ leBytes 8 h.wlBytes

/-- The 512 bytes of the health log (R302). -/
def Drive.hlogBytes (d : Drive) (e : Env) : List Byte :=
  padTo 512 (d.hlogA e ++ d.hlogB e ++ d.hlogC)

/-- A write of MED_HLOG_SNAP on path `p` latches the health log (R301). -/
def hlogSnapW (p : Path) (v : Word) (e : Env) (d : Drive) : Drive :=
  if bit v 0 then d.setRegs (pk p (Reg.MED_HLOG 0)) (leWords (d.hlogBytes e)) else d

/-- What an unclean end leaves of the bands: open ones close at their last good stripe; a band that was being opened is
free again; moves start again from their sources (R271, R289). -/
def Drive.medCrash (d : Drive) : Drive :=
  let opens := (d.med.bands.filter fun b => b.st == .open_).map (·.id)
  let d := opens.foldl (fun d id => d.closeBand id) d
  d.onMed fun m =>
    let back (b : Band) : Band := if b.st = .moving then { b with st := .closed } else b
    { m with
      bands := (m.bands.filter fun b => b.st != .opening).map back
      wait := m.wait.map fun x => (x.1, []), segs := m.segs.filter fun s => s.loc.isSome
      pages := m.pages.filter fun p => p.loc.isSome, reads := [], heldLeaf := [] }

end Sys2Proof.Machine
end

