-- ==== Sys2Proof/Machine/Xport.lean ====
section
/-! DEFINITION. The drive transport below the command layer (R103 to R146): sequence order, datagrams and their checks,
flows and their command credits, bitmaps in both directions, the drive's messages with their units, acknowledgement and
re-sending, notices, probes and the register commands. What a reset does to journaled commands is in Flows.lean. -/

namespace Sys2Proof.Machine

/-! ### Sequence numbers (R119) -/

/-- `a` is before `b` in the order of R119. -/
def seqLt (a b : Word) : Bool := decide (1 ≤ (b - a).toNat) && decide ((b - a).toNat < 2 ^ 31)

/-- `a` is `b` or before it. -/
def seqLe (a b : Word) : Bool := a == b || seqLt a b

/-- `a` is after `b` in 16-bit serial order (R130). -/
def serialAfter (a b : Nat) : Bool := decide (1 ≤ (a + 65536 - b % 65536) % 65536) && decide ((a + 65536 - b % 65536) % 65536 < 32768)

/-! ### Flows (R108, R117, R120) -/

/-- The flow ID of a flow. -/
def Flow.id (f : Flow) : Word := word (f.inc * 65536 + f.slot)

/-- Change the transport. -/
def Drive.onXpt (d : Drive) (g : Xpt → Xpt) : Drive := { d with xpt := g d.xpt }

/-- The flow in a slot that is not FREE. -/
def Drive.flow? (d : Drive) (slot : Nat) : Option Flow := d.xpt.flows.find? (·.slot == slot)

/-- Change the flow in a slot. -/
def Drive.onFlow (d : Drive) (slot : Nat) (g : Flow → Flow) : Drive :=
  d.onXpt fun x => { x with flows := modIf x.flows (·.slot == slot) g }

/-- The slot is OPEN or CLOSING. -/
def Flow.live (f : Flow) : Bool := f.st != .tomb

/-- The live flow of a slot and incarnation. -/
def Drive.flowAt (d : Drive) (slot inc : Nat) : Option Flow :=
  d.xpt.flows.find? fun f => f.slot == slot && f.inc == inc && f.live

/-- The incarnation of a slot (R108). -/
def Xpt.incOf (x : Xpt) (slot : Nat) : Nat := ((x.incs.find? (·.1 == slot)).map (·.2)).getD x.incBase

/-- DONE (R120): the oldest message not finished; commands are kept in sequence order. -/
def Flow.done (f : Flow) : Word :=
  match f.cmds with
  | c :: _ => c.seq
  | [] =>
    match f.st, f.closeSeq with
    | .closing, some s => s
    | _, _ => f.rxNext

/-- Command slots the flow holds: LIMIT − DONE + 1 (R120). -/
def Flow.held (f : Flow) : Nat := if f.live then (f.limit - f.done + 1).toNat else 0

/-- Free slots of the shared pool (R120). -/
def Xpt.sharedFree (x : Xpt) : Nat := 65536 - ((x.flows.filter Flow.live).map fun f => f.held - 1).foldl (· + ·) 0

/-- The flow holds fewer than T slots. -/
def Flow.short (f : Flow) : Bool := f.live && decide (f.held < f.target)

/-- One flow takes what it can from the pool; a new LIMIT is to be told to the host. -/
def Drive.takeSlots (d : Drive) (slot : Nat) : Drive :=
  match d.flow? slot with
  | none => d
  | some f =>
    let n := min (f.target - f.held) d.xpt.sharedFree
    if n = 0 then d else d.onFlow slot fun f => { f with limit := f.limit + word n, ackDue := true }

/-- Flows below T take slots in the order in which they first fell short (R120). -/
def Drive.credits (d : Drive) : Drive :=
  let was := d.xpt.sharedFree
  let short := (d.xpt.flows.filter Flow.short).map (·.slot)
  let order := (d.xpt.waiters.filter short.contains) ++ short.filter fun s => !d.xpt.waiters.contains s
  let d := order.foldl Drive.takeSlots d
  let d := d.onXpt fun x => { x with waiters := order.filter fun s => x.flows.any fun f => f.slot == s && f.short }
  if 0 < was ∧ d.xpt.sharedFree = 0 then d.setInt pgXpt 1 else d

/-! ### Datagrams (R103 to R107) -/

/-- Header bytes 0 to 27. -/
def hdrBytes (ty : Nat) (flow seq ack credit : Word) (index flags len : Nat) : List Byte :=
  beBytes 2 0x4957 ++ [1#8] ++ beBytes 1 ty ++ beBytes 4 flow.toNat ++ beBytes 4 seq.toNat ++ beBytes 4 ack.toNat ++
    beBytes 4 credit.toNat ++ beBytes 4 index ++ beBytes 2 flags ++ beBytes 2 len

/-- A datagram with its HCRC (R105). -/
def dgram (ty : Nat) (flow seq ack credit : Word) (index flags : Nat) (body : List Byte) : List Byte :=
  let h := hdrBytes ty flow seq ack credit index flags body.length
  h ++ beBytes 4 (crc32c (if ty = 0x20 then h else h ++ body)).toNat ++ body

/-- Send a datagram of a flow where its last accepted datagram came from (R71, R89, R112). It carries ACK and LIMIT. -/
def Drive.flowSend (d : Drive) (slot ty : Nat) (seq : Word) (index flags : Nat) (body : List Byte) : Drive :=
  match d.flow? slot with
  | none => d
  | some f =>
    let bytes := dgram ty f.id seq f.rxNext f.limit index flags body
    let tag : Option Tci := f.arr.tag.map fun t => { t with pcp := BitVec.ofNat 3 f.qos }
    let d := d.send f.arr.port.toNat
      (TxFrame.mk' f.qos f.arr.mac tag (.dgram f.arr.ipv6 (d.srcIp f.arr) f.arr.ip d.udpPort f.arr.udp.toNat bytes))
    d.onFlow slot fun f => { f with ackDue := false }

/-- Send a datagram outside any flow to the source of what it answers. -/
def Drive.bareSend (d : Drive) (r : Arrival) (ty : Nat) (flow seq : Word) (body : List Byte) : Drive :=
  d.reply r (.dgram r.ipv6 (d.srcIp r) r.ip d.udpPort r.udp.toNat (dgram ty flow seq 0 0 0 0 body))

/-- A standalone ACK. -/
def Drive.ackSend (d : Drive) (slot : Nat) : Drive := d.flowSend slot 7 0 0 0 []

/-- The transport takes datagrams that arrive like `r` (R103, R140, R141): XPORT ON, firmware running, ENABLE, the IP
version accepted, the port's link up. -/
def Drive.xptTakes (d : Drive) (r : Arrival) : Bool :=
  d.isOn 14 && d.pwr.fw && d.flag Reg.XPT_CTL 0 && d.flag Reg.XPT_CTL (if r.ipv6 then 2 else 1) &&
    d.linkUp r.port.toNat

/-- The VID a header arrived with (R70). -/
def Drive.vidOf (d : Drive) (r : Arrival) : Nat :=
  let pvid := d.fld (Reg.MAC_VLAN_CTL r.port.toNat) 15 4
  match r.tag with
  | some t => if t.vid = 0 then pvid else t.vid.toNat
  | none => pvid

/-- One more answer within second `sec` of operating time, if fewer than `max` were given in it (R115, R138). -/
def Rate.take (x : Rate) (sec max : Nat) : Option Rate :=
  if x.sec = sec then (if x.count < max then some ⟨sec, x.count + 1⟩ else none) else some ⟨sec, 1⟩

/-- The RESET with cause 0x03 (R115), at most 1,000 per second per port. -/
def Drive.resetAnswer (d : Drive) (e : Env) (r : Arrival) (flow rx tx : Word) : Drive :=
  let n := r.port.toNat
  match ((d.xpt.resets[n]?).getD ⟨0, 0⟩).take (e.clk.optime / 1000) 1000 with
  | none => d
  | some x =>
    let body := beBytes 2 0x15 ++ beBytes 1 3 ++ beBytes 1 0 ++ beBytes 4 rx.toNat ++ beBytes 4 tx.toNat
    (d.onXpt fun t => { t with resets := t.resets.set n x }).bareSend r 6 flow 0 body

/-! ### The drive's messages (R132, R134, R135, R137) -/

/-- FLAGS of a header or TRAIL of attempt `n`. -/
def attFlags (req : Bool) (n n2 nblk : Nat) : Nat := b2n req * 32768 + nblk * 4096 + n * 512 + n2 * 64

/-- The bytes of a unit in a DATA body. -/
def TxUnit.wire (u : TxUnit) : List Byte := u.bytes ++ beBytes 4 u.crc.toNat

/-- Units cut into datagrams: TYPE, INDEX, FLAGS without REQ, body. Two neighbouring blocks share one where `two` (R125). -/
def packUnits (two : Bool) : List TxUnit → List (Nat × Nat × Nat × List Byte)
  | [] => []
  | [u] => [if u.trail then (0x21, u.idx, attFlags false u.att 0 0, u.bytes)
            else (0x20, u.idx, attFlags false u.att 0 1, u.wire)]
  | u :: v :: rest =>
    if u.trail then (0x21, u.idx, attFlags false u.att 0 0, u.bytes) :: packUnits two (v :: rest)
    else if two && !v.trail && v.idx == u.idx + 1 then
      (0x20, u.idx, attFlags false u.att v.att 2, u.wire ++ v.wire) :: packUnits two rest
    else (0x20, u.idx, attFlags false u.att 0 1, u.wire) :: packUnits two (v :: rest)

/-- Two-block DATA fits the flow and the sending port (R125). -/
def Drive.twoFit (d : Drive) (f : Flow) : Bool :=
  let len := if f.arr.ipv6 then 8280 else 8260
  decide (len ≤ f.mtu) && decide (len + 22 ≤ d.fld (Reg.MAC_MAX_FRAME f.arr.port.toNat) 13 0)

/-- Send units of message `seq`, which bear their attempts already; REQ on the last frame where `req`. -/
def Drive.emit (d : Drive) (slot : Nat) (seq : Word) (us : List TxUnit) (req : Bool) : Drive :=
  match d.flow? slot with
  | none => d
  | some f =>
    let frames := packUnits (d.twoFit f) us
    let blocks := (us.filter fun u => !u.trail).length
    let again := (us.filter fun u => decide (1 < u.att)).length
    let d := frames.zipIdx.foldl (fun d x =>
      let last := req && x.2 + 1 == frames.length
      d.flowSend slot x.1.1 seq x.1.2.1 (x.1.2.2.1 + b2n last * 32768) x.1.2.2.2) d
    let d := (d.bumpWide Reg.XPT_TX_BLOCKS blocks).pay [12 + f.arr.port.toNat, 14] 4 blocks
    if again = 0 then d
    else (d.bump Reg.XPT_TX_RESENT again).onFlow slot fun f => { f with resends := f.resends + again }

/-- A unit waits to be sent: not sent yet, or reported NACK. -/
def TxUnit.due (u : TxUnit) : Bool := !u.acked && (u.att == 0 || u.nacked)

/-- Blocks of a message that are neither ACK nor reported NACK (R131). -/
def DMsg.outstanding (m : DMsg) : Nat :=
  (m.units.filter fun u => !u.trail && decide (0 < u.att) && !u.acked && !u.nacked).length

/-- The due units that a window of `n` blocks lets go, in ascending index order; a TRAIL goes once no block before it
waits. -/
def dueUnits : Nat → List TxUnit → List TxUnit
  | _, [] => []
  | n, u :: us =>
    if !u.due then dueUnits n us
    else if u.trail then [u]
    else match n with
      | 0 => []
      | k + 1 => u :: dueUnits k us

/-- Send what the host's window lets go of message `m`. -/
def Drive.sendDue (d : Drive) (slot : Nat) (seq : Word) : Drive :=
  match d.flow? slot with
  | none => d
  | some f =>
    match f.msgs.find? (·.seq == seq) with
    | none => d
    | some m =>
      let out := (f.msgs.map DMsg.outstanding).foldl (· + ·) 0
      let go := (dueUnits (f.credit - out) m.units).map fun u => { u with att := u.att + 1, nacked := false }
      if go.isEmpty then d
      else
        let set_ (u : TxUnit) : TxUnit := (go.find? (·.idx == u.idx)).getD u
        let d := d.onFlow slot fun f => { f with
          msgs := modIf f.msgs (·.seq == seq) fun m => { m with units := m.units.map set_ } }
        d.emit slot seq go (go.any fun u => u.trail || decide (1 < u.att))

/-- Send what the host's window lets go of every message of a flow. -/
def Drive.sendWaiting (d : Drive) (slot : Nat) : Drive :=
  match d.flow? slot with
  | none => d
  | some f => f.msgs.foldl (fun d m => d.sendDue slot m.seq) d

/-- Send the header of a message at its present attempt. -/
def Drive.sendHdr (d : Drive) (slot : Nat) (m : DMsg) : Drive :=
  d.flowSend slot m.ty m.seq 0 (attFlags false m.att 0 0) m.body

/-- A new sequenced message of the drive: its header goes out; the answer is its sequence number. -/
def Drive.newMsg (d : Drive) (slot ty : Nat) (cmdSeq : Word) (body : List Byte) (whole : Bool) : Word × Drive :=
  match d.flow? slot with
  | none => (0, d)
  | some f =>
    let m : DMsg := { seq := f.txNext, ty := ty, body := body, att := 1, cmdSeq := cmdSeq, units := [], whole := whole, bmapNo := 0 }
    (m.seq, (d.onFlow slot fun f => { f with txNext := f.txNext + 1, msgs := f.msgs ++ [m] }).sendHdr slot m)

/-- Add units to a message, and send what may go. -/
def Drive.addUnits (d : Drive) (slot : Nat) (seq : Word) (us : List TxUnit) (whole : Bool) : Drive :=
  let d := d.onFlow slot fun f => { f with
    msgs := modIf f.msgs (·.seq == seq) fun m => { m with units := m.units ++ us, whole := m.whole || whole } }
  d.sendDue slot seq

/-- A block to send, and the TRAIL of R135. -/
def txBlock (idx : Nat) (b : List Byte × Word) : TxUnit := ⟨idx, b.1, b.2, false, 0, false, false⟩
def txTrail (idx status sent failSeg : Nat) : TxUnit :=
  ⟨idx, beBytes 2 status ++ beBytes 2 0 ++ beBytes 4 sent ++ beBytes 4 failSeg, 0, true, 0, false, false⟩

/-- NOTICEs of a flow that are not yet complete. -/
def Flow.notes (f : Flow) : Nat := (f.msgs.filter fun m => m.ty == 0x12).length

/-- The NOTICEs of a flow that wait go out while it has room. Of the T + 128 drive messages a flow may have unacknowledged
(R137) T are its commands' responses, so 128 are NOTICEs. `fuel` bounds them. -/
def noticesOut (slot : Nat) : Nat → Drive → Drive
  | 0, d => d
  | fuel + 1, d =>
    match d.flow? slot with
    | none => d
    | some f =>
      match f.notices with
      | [] => d
      | (page, stat) :: rest =>
        if f.st ≠ .open_ ∨ 128 ≤ f.notes then d
        else
          let d := d.onFlow slot fun f => { f with notices := rest }
          noticesOut slot fuel (d.newMsg slot 0x12 0 (beBytes 2 page ++ beBytes 2 0 ++ beBytes 4 stat.toNat) true).2

/-- The NOTICEs of a flow that wait go out while it has room. -/
def Drive.noticesGo (d : Drive) (slot : Nat) : Drive :=
  match d.flow? slot with
  | some f => noticesOut slot f.notices.length d
  | none => d

/-- A page interrupt goes to every subscribed flow (R60, R137): at once where the flow has room, else as soon as it has. -/
def Drive.noticeSend (d : Drive) (page : Nat) (stat : Word) : Drive :=
  let fs := d.xpt.flows.filter fun f => f.st == .open_ && f.subs.contains page
  fs.foldl (fun d f => (d.onFlow f.slot fun f => { f with notices := f.notices ++ [(page, stat)] }).noticesGo f.slot) d

/-! ### Acknowledgement of the drive's messages (R119, R121, R132) -/

/-- A message is complete: its header is acknowledged and every unit it sent is ACK (R132). -/
def DMsg.complete (m : DMsg) (acked : Word) : Bool := seqLt m.seq acked && m.whole && m.units.all (·.acked)

/-- A record pair can be freed: it is DRAINED under a checkpoint, or ENDED, and its command needs no entry or has it. -/
def Drive.freeable (d : Drive) (r : JRec) : Bool :=
  ((r.st == .drained && decide (r.csn ≤ d.jrn.ckpt.csn)) || r.st == .ended) && (r.finished || r.reported)

/-- Messages that are complete leave; commands whose response they were finish (R121), which frees their credit, and their
record pairs where nothing else holds them (R320). -/
def Drive.finishMsgs (d : Drive) (slot : Nat) : Drive :=
  match d.flow? slot with
  | none => d
  | some f =>
    let gone := f.msgs.filter (·.complete f.txAcked)
    if gone.isEmpty then d
    else
      let fin (c : FlowCmd) : Bool := match c.rsp with
        | some s => gone.any fun m => m.ty == 0x11 && m.seq == s
        | none => false
      let rsns := (f.cmds.filter fin).filterMap (·.rsn)
      let d := d.onFlow slot fun f => { f with
        msgs := f.msgs.filter fun m => !m.complete f.txAcked, cmds := f.cmds.filter fun c => !fin c }
      let d := { d with jrn := { d.jrn with
        recs := modIf d.jrn.recs (fun r => rsns.contains r.rsn) fun r => { r with finished := true } } }
      let d := { d with jrn := { d.jrn with recs := d.jrn.recs.filter fun r => !d.freeable r } }
      d.credits.noticesGo slot

/-- An ACK value arrives (R119): sequenced messages before it are received. -/
def Drive.ackTo (d : Drive) (slot : Nat) (ack : Word) : Drive :=
  match d.flow? slot with
  | none => d
  | some f =>
    if seqLt f.txAcked ack && seqLe ack f.txNext then
      (d.onFlow slot fun f => { f with txAcked := ack }).finishMsgs slot
    else d

/-- A datagram of a flow is accepted (R112): where it came from, the window it carries, its ACK. -/
def Drive.takeHdr (d : Drive) (e : Env) (f : Flow) (r : Arrival) (h : Hdr) : Drive :=
  let d := d.onFlow f.slot fun f => { f with arr := r, credit := h.credit.toNat, lastRx := e.clk.optime }
  (d.ackTo f.slot h.ack).sendWaiting f.slot

/-- What becomes of a datagram that names a flow (R112, R115, R117): the live flow it belongs to; or it is discarded,
counted, or answered. -/
def Drive.findFlow (d : Drive) (e : Env) (r : Arrival) (h : Hdr) : Option Flow × Drive :=
  if !d.xptTakes r || r.group then (none, d)
  else
    match d.xpt.flows.find? fun f => f.id == h.flow with
    | none => (none, d.resetAnswer e r h.flow 0 0)
    | some f =>
      if !f.live then (none, d.resetAnswer e r h.flow f.rxNext f.txNext)
      else if f.ip != r.ip || f.ipv6 != r.ipv6 || f.udp != r.udp then (none, d.bump Reg.XPT_RX_SRC_MISMATCH 1)
      else (some f, d.takeHdr e f r h)

/-- A datagram is discarded under R104. -/
def Drive.badDgram (d : Drive) : Drive := d.bump Reg.XPT_RX_HDR_BAD 1

/-- The body of a host message of type `ty` does not fit it (R104). -/
def bodyBad (ty : Nat) (b : List Byte) : Bool :=
  let n := b.length
  if ty = 1 then n != 20
  else if ty = 6 then n != 12
  else if ty = 8 then n != 8
  else if ty = 0x22 then decide (n < 8) || decide (4096 < beAt b 2 2) || n != 8 + ceilDiv (beAt b 2 2) 8
  else if ty = 0x10 then decide (n < 24)
  else ty != 0x20 && n != 0

/-- A UDP payload at the transport port fails a check of R104 or exceeds R107. -/
def dgramBad (bs : List Byte) : Bool :=
  let ty := beAt bs 3 1
  let len := beAt bs 26 2
  let nblk := beAt bs 24 2 / 4096 % 4
  let h := bs.take 28
  let b := bs.drop 32
  decide (bs.length < 32) || beAt bs 0 2 != 0x4957 || !([1, 4, 6, 7, 8, 0x10, 0x20, 0x22, 0x23].contains ty) ||
    (ty != 1 && beAt bs 2 1 != 1) || len != b.length || (ty == 0x20 && ((nblk != 1 && nblk != 2) || len != nblk * 4100)) ||
    bodyBad ty b || (ty != 0x20 && decide (4132 < bs.length)) ||
    (crc32c (if ty = 0x20 then h else h ++ b)).toNat != beAt bs 28 4

/-- BAD_TRANSPORT_DATAGRAM: a UDP payload that the transport would take but for its contents (R104, R107, R139). -/
def badTransportDatagramOp (r : Arrival) (bs : List Byte) (_ : Env) (d : Drive) : Drive :=
  if d.xptTakes r && groupClaimed r.group (BitVec.ofNat 8 (beAt bs 3 1)) && dgramBad bs then d.badDgram else d

/-- An ACK message. -/
def ackMessageOp (r : Arrival) (h : Hdr) (e : Env) (d : Drive) : Drive := (d.findFlow e r h).2

/-- ACK_DELAY_US has passed with news unsent (R119). -/
def ackDelayOp (slot : Nat) (_ : Env) (d : Drive) : Drive :=
  match d.flow? slot with
  | some f => if d.isOn 14 && f.live && f.ackDue then d.ackSend slot else d
  | none => d

/-! ### Bitmaps of host payloads (R126 to R130) -/

/-- The command of a flow with a sequence number. -/
def Flow.cmd? (f : Flow) (seq : Word) : Option FlowCmd := f.cmds.find? (·.seq == seq)

/-- Change it. -/
def Drive.onFcmd (d : Drive) (slot : Nat) (seq : Word) (g : FlowCmd → FlowCmd) : Drive :=
  d.onFlow slot fun f => { f with cmds := modIf f.cmds (·.seq == seq) g }

/-- The lowest unit not received good. -/
def FlowCmd.base (c : FlowCmd) : Nat :=
  ((List.range c.blocks).find? fun i => !(c.units.any fun u => u.idx == i && u.good)).getD c.blocks

/-- A unit's report: ACK, NACK or undecided (R129). `nacked` is one more than the attempt last reported NACK. -/
def FlowCmd.verdict (c : FlowCmd) (i : Nat) : Option Bool :=
  match c.units.find? (·.idx == i) with
  | none => none
  | some u =>
    if u.good then some true
    else if (u.bad || u.missing) && u.nacked != u.att + 1 then some false
    else none

/-- The reported bits from unit `i` on, `fuel` at most: COUNT ends before the first undecided unit. -/
def FlowCmd.bits (c : FlowCmd) : Nat → Nat → List Bool
  | 0, _ => []
  | fuel + 1, i =>
    if c.blocks ≤ i then []
    else match c.verdict i with
      | none => []
      | some b => b :: FlowCmd.bits c fuel (i + 1)

/-- Bits packed eight to a byte, the first in bit 7. -/
def packBits (bs : List Bool) : List Byte :=
  (List.range (ceilDiv bs.length 8)).map fun j =>
    BitVec.ofNat 8 (((List.range 8).map fun k => b2n ((bs[8 * j + k]?).getD false) * 2 ^ (7 - k)).foldl (· + ·) 0)

/-- The drive sends a BITMAP for a command's payload (R128, R129). -/
def Drive.bitmapSend (d : Drive) (slot : Nat) (seq : Word) : Drive :=
  match (d.flow? slot).bind (·.cmd? seq) with
  | none => d
  | some c =>
    let base := c.base
    let bs := c.bits 4096 base
    let rep (i : Nat) : Bool := decide (base ≤ i) && !((bs[i - base]?).getD true)
    let miss := (c.units.filter fun u => rep u.idx && !u.bad).length
    let body := beBytes 2 (c.bmapNo + 1) ++ beBytes 2 bs.length ++ beBytes 4 c.grantEnd ++ packBits bs
    let d := d.onFcmd slot seq fun c => { c with
      bmapNo := (c.bmapNo + 1) % 65536
      units := modIf c.units (fun u => rep u.idx) fun u => { u with nacked := u.att + 1, missing := false } }
    (if miss = 0 then d else d.bump Reg.XPT_RX_MISSING miss).flowSend slot 0x22 seq base 0 body

/-- The BITMAP of a message held beyond a gap: it has no grant, and no unit of it has arrived. -/
def Drive.gapBitmap (d : Drive) (slot : Nat) (m : GapMsg) : Drive :=
  let no := m.bmapNo + 1
  let d := d.onFlow slot fun f => { f with gap := modIf f.gap (·.seq == m.seq) fun m => { m with bmapNo := no % 65536 } }
  d.flowSend slot 0x22 m.seq 0 0 (beBytes 2 no ++ beBytes 2 0 ++ beBytes 4 0)

/-- BMAP_REQ: answered for a message the drive holds, in sequence or beyond a gap (R119, R127). -/
def bmapReqOp (r : Arrival) (h : Hdr) (msg : Word) (e : Env) (d : Drive) : Drive :=
  match d.findFlow e r h with
  | (some f, d) =>
    match (d.flow? f.slot).bind fun f => f.gap.find? (·.seq == msg) with
    | some m => d.gapBitmap f.slot m
    | none => d.bitmapSend f.slot msg
  | (none, d) => d

/-- Unit `i` can be missing: a higher unit of the message has arrived, or a frame with REQ came when `i` was granted (R129,
R130: such a frame asks for the range granted till then). -/
def FlowCmd.awaited (c : FlowCmd) (i : Nat) : Bool :=
  decide (i < c.reqTo) || c.units.any fun u => decide (i < u.idx) && (u.good || u.bad)

/-- REORDER_US has passed for the units `missing` of a command, or since a frame with REQ (R129). -/
def reorderOp (slot : Nat) (seq : Word) (missing : List Nat) (_ : Env) (d : Drive) : Drive :=
  match (d.flow? slot).bind (·.cmd? seq) with
  | none => d
  | some c =>
    if !d.isOn 14 then d
    else
      let lost := missing.filter fun i =>
        decide (i < c.grantEnd) && c.awaited i && !(c.units.any fun u => u.idx == i && (u.good || u.bad))
      let mark (us : List RxUnit) (i : Nat) : List RxUnit :=
        if us.any (·.idx == i) then modIf us (·.idx == i) fun u => { u with missing := true }
        else us ++ [⟨i, false, false, 0, false, 0, true⟩]
      if lost.isEmpty && !c.reqDue then d
      else (d.onFcmd slot seq fun c => { c with units := lost.foldl mark c.units, reqDue := false }).bitmapSend slot seq

/-- Raise a command's GRANT_END, with the bitmap that tells it (R126). -/
def Drive.grantTo (d : Drive) (slot : Nat) (seq : Word) (g : Nat) : Drive :=
  match (d.flow? slot).bind (·.cmd? seq) with
  | some c => if c.grantEnd < g then (d.onFcmd slot seq fun c => { c with grantEnd := g }).bitmapSend slot seq else d
  | none => d

/-- Blocks received good and not confirmed, or granted and not received: what GRANT_BLOCKS bounds (R126). -/
def FlowCmd.unconfirmed (c : FlowCmd) : Nat := c.grantEnd - (c.units.filter (·.conf)).length

/-- The whole payload has arrived with good CRCs; and every block's copy is confirmed. -/
def FlowCmd.arrived (c : FlowCmd) : Bool := (c.units.filter (·.good)).length == c.blocks
def FlowCmd.confirmed (c : FlowCmd) : Bool := (c.units.filter (·.conf)).length == c.blocks

/-! ### Bitmaps of the drive's responses (R130) -/

/-- What a host bitmap says of a unit. -/
def TxUnit.reported (u : TxUnit) (base count : Nat) (bits_ : List Byte) : TxUnit :=
  if u.acked || u.att == 0 then u
  else if u.idx < base then { u with acked := true, nacked := false }
  else if u.idx < base + count then
    let i := u.idx - base
    if (((bits_[i / 8]?).getD 0).toNat / 2 ^ (7 - i % 8)) % 2 = 1 then { u with acked := true, nacked := false }
    else { u with nacked := true }
  else u

/-! ### Probes (R138, R139) -/

/-- PROBE. -/
def probeOp (r : Arrival) (_ : Hdr) (body : List Byte) (e : Env) (d : Drive) : Drive :=
  if !d.xptTakes r then d
  else if body.length ≠ 8 then d.badDgram
  else if !d.flag Reg.XPT_CTL 3 then d
  else
    let n := r.port.toNat
    match ((d.xpt.probes[n]?).getD ⟨0, 0⟩).take (e.clk.optime / 1000) 100 with
    | none => d.bump Reg.XPT_PROBE_DROP 1
    | some x =>
      let d := (d.onXpt fun t => { t with probes := t.probes.set n x }).bump Reg.XPT_PROBE_ANS 1
      let st := b2n d.pwr.readReady + 2 * b2n d.nrg.writeReady
      let ans := body ++ beBytes 8 e.fac.serial.toNat ++ beBytes 2 d.chn.addrHalf.toNat ++ beBytes 1 n ++ beBytes 1 st ++
        beBytes 4 (65536 - d.xpt.flows.length) ++ e.fac.part
      d.bareSend r 9 0 0 ans

/-! ### Register commands (R143, R144, R146) -/

/-- XPT_CTL.CFG_SAVE: the RW and RWL fields of page 0 are stored. -/
def xptCfgSaveW (v : Word) (_ : Env) (d : Drive) : Drive :=
  if bit v 4 ∧ d.xpt.saving = none then d.onXpt fun x => { x with saving := some (savePages d (· == 0x50)) } else d

/-- The store is complete. -/
def xptCfgSaveDoneOp (_ : Env) (d : Drive) : Drive :=
  match d.xpt.saving with
  | none => d
  | some m =>
    let keep : FMap := d.saved.filter fun e => !(e.1 / 4096 == 0x50)
    let d := d.onXpt fun x => { x with saving := none }
    { d with saved := m.foldl (fun (s : FMap) (e : Nat × Word) => FMap.insert s e.1 e.2) keep }

/-- Code of a flow state. -/
def FlowState.code : FlowState → Nat
  | .open_ => 1
  | .closing => 2
  | .tomb => 3

/-- A write of XPT_FLOW_SEL latches the slot's snapshot (R146). A FREE slot shows its flow ID and zeros. -/
def xptFlowSelW (_ : Word) (e : Env) (d : Drive) : Drive :=
  let slot := d.fld Reg.XPT_FLOW_SEL 15 0
  match d.flow? slot with
  | none => d.setRegs Reg.XPT_FLOW_ID (word (d.xpt.incOf slot * 65536 + slot) :: List.replicate 14 0)
  | some f =>
    let st := f.tenant.toNat * 65536 + f.arr.port.toNat * 16 + b2n f.ipv6 * 8 + f.st.code
    let ip := (List.range 4).map fun i => word (f.ip.toNat / 2 ^ (32 * (3 - i)))
    d.setRegs Reg.XPT_FLOW_ID ([f.id, word st, word (f.target * 65536 + f.mtu)] ++ ip ++
      [f.udp.setWidth 32, f.rxNext, f.limit, f.txNext, f.txAcked, word f.held, word f.resends,
       word (min (e.clk.optime - f.lastRx) 0xFFFFFFFF)])

end Sys2Proof.Machine
end

