-- ==== Sys2Proof/Machine/Values.lean ====
section
/-! DEFINITION. Values as runs of bytes, namespaces with their versions, quotas and usage counters, the conditions of
steps 7 and 8 of R157 for the commands with a journal record, the effect of each of their commits on the namespaces
(R147 to R191), and a command's response (R134, R155). -/

namespace Sys2Proof.Machine

/-! ### Runs of bytes -/

/-- The source `n` bytes further on. -/
def Src.adv (s : Src) (n : Nat) : Src :=
  match s with
  | .hole => .hole
  | .pay r o => .pay r (o + n)
  | .seg i o => .seg i (o + n)
  | .lit us o => .lit us (o + n)

/-- The first `n` bytes of a run list, and the rest. -/
def cutAt : Nat → List Piece → List Piece × List Piece
  | _, [] => ([], [])
  | n, p :: ps =>
    if n = 0 then ([], p :: ps)
    else if p.len ≤ n then let (a, b) := cutAt (n - p.len) ps; (p :: a, b)
    else ([⟨n, p.src⟩], ⟨p.len - n, p.src.adv n⟩ :: ps)

/-- Bytes in a run list. -/
def runLen (ps : List Piece) : Nat := (ps.map (·.len)).foldl (· + ·) 0

/-- Bytes `o` to `o + n − 1`. -/
def subRuns (ps : List Piece) (o n : Nat) : List Piece := (cutAt n (cutAt o ps).2).1

/-- A run of zeros, if it has any. -/
def holeRun (n : Nat) : List Piece := if n = 0 then [] else [⟨n, .hole⟩]

/-- `ps` with `new` over the bytes from `o` on; zeros fill up to `o`. -/
def splice (ps : List Piece) (o : Nat) (new : List Piece) : List Piece :=
  let a := (cutAt o ps).1
  a ++ holeRun (o - runLen a) ++ new ++ (cutAt (o + runLen new) ps).2

/-- Whole units that `n` bytes fill. -/
def unitLen (n : Nat) : Nat := 4096 * ceilDiv n 4096

/-- The source at byte `v`. -/
def srcAt : List Piece → Nat → Src
  | [], _ => .hole
  | p :: ps, v => if v < p.len then p.src.adv v else srcAt ps (v - p.len)

/-- `ps` cut at each of the offsets. -/
def cutAll (ps : List Piece) (at_ : List Nat) : List Piece :=
  at_.foldl (fun ps n => let (a, b) := cutAt n ps; a ++ b) ps

/-- Ends of the runs. -/
def runEnds (ps : List Piece) : List Nat := (ps.foldl (fun acc p => ((acc.headD 0) + p.len) :: acc) []).reverse

/-- Of bytes `lo` to `hi − 1` of `cur`, those that come from where `old` has them now lie in segment `id`, byte `lo` at its
start (R252, R316). -/
def remap (old : List Piece) (lo hi id : Nat) (cur : List Piece) : List Piece :=
  let ps := cutAll cur ([lo, hi] ++ runEnds old)
  (ps.foldl (fun (acc : Nat × List Piece) p =>
    let v := acc.1
    let same := decide (lo ≤ v) && decide (v < hi) && p.src != .hole && p.src == srcAt old v
    (v + p.len, acc.2 ++ [if same then ⟨p.len, .seg id (v - lo)⟩ else p])) (0, [])).2

/-- Punched bytes among the first `n`. -/
def holesIn (ps : List Piece) (n : Nat) : Nat :=
  (((cutAt n ps).1.filter fun p => p.src == .hole).map (·.len)).foldl (· + ·) 0

/-! ### Units and their checks (R16 to R19) -/

/-- Bytes `o` to `o + n − 1` of a list of stored units, cut at the units' bounds. -/
def unitFrags (us : List GUnit) (o n : Nat) : List Frag :=
  (List.range (ceilDiv (o % 4096 + n) 4096)).map fun i =>
    let lo := if i = 0 then o % 4096 else 0
    ⟨min 4096 (o % 4096 + n - 4096 * i) - lo, some ((us[o / 4096 + i]?).getD (zeros 4096, crc32c (zeros 4096))), lo⟩

/-- The bytes of a fragment. -/
def Frag.bytes (f : Frag) : List Byte :=
  match f.unit with
  | some u => padTo f.len (slice u.1 f.off f.len)
  | none => zeros f.len

/-- The stored units that a fragment list takes bytes from all agree with their CRCs (R19). -/
def fragsOk (fs : List Frag) : Bool :=
  fs.all fun f => match f.unit with
    | some u => crc32c u.1 == u.2
    | none => true

/-- The first `n` bytes of a fragment list, and the rest. -/
def cutFrags : Nat → List Frag → List Frag × List Frag
  | _, [] => ([], [])
  | n, f :: fs =>
    if n = 0 then ([], f :: fs)
    else if f.len ≤ n then let (a, b) := cutFrags (n - f.len) fs; (f :: a, b)
    else ([{ f with len := n }], { f with len := f.len - n, off := f.off + n } :: fs)

/-- Bytes in a fragment list. -/
def fragLen (fs : List Frag) : Nat := (fs.map (·.len)).foldl (· + ·) 0

/-- A 4 KiB unit from its fragments: a stored unit as a whole keeps the CRC it carries; any other unit gets the CRC that its
assembly generates, zeros behind its last byte (R18, R19). -/
def assemble (fs : List Frag) : GUnit :=
  let made : GUnit := (padTo 4096 (fs.map Frag.bytes).flatten, crc32c (padTo 4096 (fs.map Frag.bytes).flatten))
  match fs.filter fun f => f.len != 0 with
  | [f] => match f.unit with
    | some u => if f.len = 4096 ∧ f.off = 0 then u else made
    | none => made
  | _ => made

/-- The first `n` units of a fragment list. -/
def assembleAll : Nat → List Frag → List GUnit
  | 0, _ => []
  | n + 1, fs => assemble (cutFrags 4096 fs).1 :: assembleAll n (cutFrags 4096 fs).2

/-! ### Keys and namespaces -/

/-- Stored bytes of a version (R176). -/
def KeyRec.stored (k : KeyRec) : Nat := k.key.length + (k.len - holesIn k.pieces k.len)

/-- Stored bytes of a namespace. -/
def Ns.stored (n : Ns) : Nat := (n.keys.map KeyRec.stored).foldl (· + ·) 0

/-- BYTE_MS brought up to operating time `now` (R192). -/
def Ns.settle (n : Ns) (now : Nat) : Ns :=
  { n with byteMs := n.byteMs + n.stored * (now - n.byteAt), byteAt := max n.byteAt now }

/-- The key's current version. -/
def Ns.find (n : Ns) (key : List Byte) : Option KeyRec := n.keys.find? (·.key == key)

/-- Put a key in its place in the order of R148. -/
def insertKey (k : KeyRec) : List KeyRec → List KeyRec
  | [] => [k]
  | x :: xs => if k.key == x.key then k :: xs else if bytesLt k.key x.key then k :: x :: xs else x :: insertKey k xs

/-- A namespace by its ID. -/
def nsOf (nss : List Ns) (id : Nat) : Option Ns := nss.find? (·.id == id)

/-- Change it. -/
def onNsOf (nss : List Ns) (id : Nat) (g : Ns → Ns) : List Ns := modIf nss (·.id == id) g

/-- Lift a change of a namespace to the drive. -/
def Drive.onNs (d : Drive) (id : Nat) (g : Ns → Ns) : Drive := { d with nss := onNsOf d.nss id g }

/-- The namespaces in ascending order of ID. -/
def insertNs (n : Ns) : List Ns → List Ns
  | [] => [n]
  | x :: xs => if n.id < x.id then n :: x :: xs else x :: insertNs n xs

/-! ### Bodies (R154, R177, R186 to R196); offsets are those of the CMD less 56 -/

def bodyNs (b : List Byte) : Nat := beAt b 0 2
def bodyKeyLen (b : List Byte) : Nat := beAt b 2 2
def bodyArg0 (b : List Byte) : Nat := beAt b 8 8
def bodyArg1 (b : List Byte) : Nat := beAt b 16 8
def bodyKey (b : List Byte) : List Byte := b.drop 32

end Sys2Proof.Machine

namespace Sys2Proof

/-- Opcode class (R152). -/
def Op.cls : Op → Nat
  | .get => 1 | .getRange => 1 | .stat => 1 | .list => 1
  | .put => 2 | .putRange => 2 | .cas => 2 | .delete => 2 | .punch => 2
  | .flush => 3 | .replayReport => 3
  | .nsCreate => 4 | .nsDelete => 4 | .nsUsage => 4
  | .keyLoad => 5 | .keyErase => 5
  | _ => 6

/-- Opcode number (R152). -/
def Op.code : Op → Nat
  | .put => 1 | .putRange => 2 | .cas => 3 | .delete => 4 | .punch => 5
  | .get => 0x10 | .getRange => 0x11 | .stat => 0x12 | .list => 0x13
  | .flush => 0x20 | .replayReport => 0x21
  | .nsCreate => 0x30 | .nsDelete => 0x31 | .nsUsage => 0x32
  | .keyLoad => 0x40 | .keyErase => 0x41
  | .mgmtRead => 0x50 | .mgmtWrite => 0x51 | .noticeSubscribe => 0x52
  | .unknown c => c.toNat

/-- Opcodes with a journal record (R152). -/
def Op.journaled : Op → Bool
  | .put => true | .putRange => true | .cas => true | .delete => true | .punch => true
  | .nsCreate => true | .nsDelete => true | .keyLoad => true | .keyErase => true
  | _ => false

/-- Keyed commands (R154), and those with a payload. -/
def Op.keyed : Op → Bool
  | .put => true | .putRange => true | .cas => true | .delete => true | .punch => true
  | .get => true | .getRange => true | .stat => true
  | _ => false

def Op.paid : Op → Bool
  | .put => true | .putRange => true | .cas => true
  | _ => false

end Sys2Proof

namespace Sys2Proof.Machine

/-- The namespace a command names, if its opcode names one (R147): NS_CREATE without UPDATE may name 0xFFFF. -/
def cmdNs (op : Op) (b : List Byte) : Option Nat :=
  match op with
  | .flush => if beAt b 0 1 = 2 then some (beAt b 2 2) else none
  | .nsCreate => some (bodyNs b)
  | .nsDelete => some (bodyNs b)
  | .nsUsage => some (bodyNs b)
  | .list => some (bodyNs b)
  | op => if op.keyed then some (bodyNs b) else none

/-! ### Versions (R150) -/

/-- What the drive keeps of ID `id`. -/
def Drive.verOf (d : Drive) (id : Nat) : VerRes := (d.vers.find? (·.id == id)).getD ⟨id, 0, 2 ^ 24, 0⟩

/-- Version `v` has been issued under `id`; the reservation stays above it. -/
def Drive.issued (d : Drive) (id v : Nat) : Drive :=
  let x := d.verOf id
  let y : VerRes := ⟨id, max x.last v, if x.res ≤ v + 1 then (v / 2 ^ 24 + 2) * 2 ^ 24 else x.res, x.skip⟩
  { d with vers := y :: d.vers.filter fun z => !(z.id == id) }

/-- The version a namespace issues next: one more than the last, or, after a replay that counted a lost record, the VER_RES
of then (R150). -/
def Ns.nextVersion (n : Ns) : Nat := max (n.version + 1) n.skip

/-! ### Quota (R182) -/

/-- The usage of quota `q`. -/
def quotaUse (nss : List Ns) (q : Nat) : Nat :=
  ((nss.flatMap fun n => n.keys.filter (·.quota == q)).map KeyRec.stored).foldl (· + ·) 0

/-- Growth of writes charged to `q` that are accepted and whose commit has not taken effect (R182, R339). -/
def Drive.quotaGrowth (d : Drive) (q : Nat) : Nat :=
  ((d.jrn.recs.filter fun r => r.pending && r.op.paid && r.quota == q).map (·.growth)).foldl (· + ·) 0

/-! ### Step 8 of the writes, and what their commits do to the namespaces (R161, R162, R168 to R173) -/

/-- A command's status with the version it reports. -/
structure Judge where
  status : Nat
  version : Nat
  deriving DecidableEq, Repr

/-- Step 8 of a keyed write against the namespaces (R168 to R172). -/
def judgeWrite (nss : List Ns) (ns : Nat) (op : Op) (cflags : Half) (payload : Nat) (b : List Byte) : Judge :=
  match nsOf nss ns with
  | none => ⟨0x14, 0⟩
  | some n =>
    match op, n.find (bodyKey b) with
    | .put, some k => if cflags.getLsbD 1 then ⟨2, k.version⟩ else ⟨0, 0⟩
    | .put, none => if cflags.getLsbD 2 then ⟨1, 0⟩ else ⟨0, 0⟩
    | .cas, k =>
      let v := (k.map (·.version)).getD 0
      if v = bodyArg0 b then ⟨0, 0⟩ else ⟨0x12, v⟩
    | _, none => ⟨1, 0⟩
    | .putRange, some k => if k.len < bodyArg0 b then ⟨0x13, 0⟩ else (if payload = 0 then ⟨3, 0⟩ else ⟨0, 0⟩)
    | .punch, some k => if k.len < bodyArg0 b + bodyArg1 b then ⟨0x13, 0⟩ else ⟨0, 0⟩
    | _, some _ => ⟨0, 0⟩

/-- The value bytes that a write of key version `k` leaves: length, and pieces over whole units, with `pay` the pieces of
its payload (R123, R168 to R171). -/
def writeRuns (k : Option KeyRec) (op : Op) (payload : Nat) (b : List Byte) (pay : List Piece) : Nat × List Piece :=
  match op, k with
  | .putRange, some k =>
    let o := bodyArg0 b
    let len := max k.len (o + payload)
    let ps := splice (cutAt k.len k.pieces).1 o (cutAt payload pay).1
    (len, ps ++ holeRun (unitLen len - runLen ps))
  | .punch, some k =>
    let o := bodyArg0 b
    let n := if o + bodyArg1 b = k.len then unitLen k.len - o else bodyArg1 b
    (k.len, splice k.pieces o (holeRun n))
  | _, _ => (payload, pay)

/-- Segments marked unreadable that stay so: those whose contents the write does not replace as a whole (R285). -/
def badAfter (k : Option KeyRec) (op : Op) (payload : Nat) (b : List Byte) : List Nat :=
  match k with
  | none => []
  | some k =>
    let keep (n : Nat) : List Nat := k.bad.filter fun s =>
      !(decide (bodyArg0 b ≤ 65536 * s) && decide (min (65536 * s + 65536) k.len ≤ bodyArg0 b + n))
    match op with
    | .putRange => keep payload
    | .punch => keep (bodyArg1 b)
    | _ => []

/-- The key's record after a value write of version `v`. -/
def writeKey (k : Option KeyRec) (r : JRec) (v : Nat) (pay : List Piece) : KeyRec :=
  let (len, ps) := writeRuns k r.op r.payload r.body pay
  let slot := match r.op, k with
    | .punch, some k => k.slot
    | _, _ => r.keySlot
  let quota := match r.op, k with
    | .punch, some k => k.quota
    | _, _ => r.quota
  let rev := match r.op, k with
    | .punch, some k => k.revoked
    | .putRange, some k => k.revoked || r.erased
    | _, _ => r.erased
  { key := bodyKey r.body, version := v, len := len, opq := r.opq, slot := slot, revoked := rev, quota := quota
    rsn := r.rsn, pieces := ps, bad := badAfter k r.op r.payload r.body }

/-- What a commit leaves: the namespaces, the version it took, RES0 and, for a value write, the value's pieces. -/
structure Done where
  nss : List Ns
  version : Nat
  res0 : Nat
  vmap : List Piece
  deriving DecidableEq, Repr

/-- The commit of a class 2 command at operating time `now` (R161, R168 to R173, R190). `v` is the version of a replayed
record. -/
def commitWrite (nss : List Ns) (r : JRec) (now : Nat) (v : Option Nat) (pay : List Piece) : Done :=
  let id := bodyNs r.body
  match nsOf nss id with
  | none => ⟨nss, 0, 0, []⟩
  | some n =>
    let v := v.getD n.nextVersion
    let old := n.find (bodyKey r.body)
    let n := n.settle now
    let n := { n with version := max n.version v, writeOps := n.writeOps + 1, writeBytes := n.writeBytes + r.payload }
    match r.op with
    | .delete =>
      let n := { n with keys := n.keys.filter fun k => !(k.key == bodyKey r.body) }
      ⟨onNsOf nss id fun _ => n, v, (old.map (·.version)).getD 0, []⟩
    | _ =>
      let k := writeKey old r v pay
      ⟨onNsOf nss id fun _ => { n with keys := insertKey k n.keys }, v, k.len, k.pieces⟩

/-! ### Namespace commands (R188, R189) -/

/-- The lowest free namespace ID. -/
def lowestNs (nss : List Ns) : Nat := ((List.range 4096).find? fun i => (nsOf nss i).isNone).getD 4096

/-- Fields of NS_CREATE. -/
def nscOwner (b : List Byte) : BitVec 12 := BitVec.ofNat 12 (beAt b 2 2)
def nscSlot (b : List Byte) : Nat := beAt b 4 2
def nscUpdate (b : List Byte) : Bool := beAt b 6 2 % 2 == 1
def nscQuota (b : List Byte) : Nat := beAt b 8 8

/-- A namespace of `tenant`, visible to it as R151 has it for the namespace commands. -/
def nsVisible (nss : List Ns) (tenant : BitVec 12) (id : Nat) : Bool :=
  match nsOf nss id with
  | some n => tenant == 0 || n.owner == tenant
  | none => false

/-- Step 8 of NS_CREATE (R188). -/
def judgeNsCreate (nss : List Ns) (slotOf : Nat → KeySlot) (tenant : BitVec 12) (b : List Byte) : Nat :=
  let id := bodyNs b
  if !nscUpdate b && id != 0xFFFF && (nsOf nss id).isSome then 2
  else if nscUpdate b && !nsVisible nss tenant id then 0x14
  else if 4096 ≤ nss.length then 0x121
  else if nscOwner b != tenant && tenant != 0 then 0x122
  else if 4095 < nscSlot b then 0x132
  else if (slotOf (nscSlot b)).st = .empty then 0x130
  else if (slotOf (nscSlot b)).owner ≠ nscOwner b then 0x131
  else 0

/-- The commit of an NS_CREATE at operating time `now`; `ver` is what the drive keeps of the ID (R150). -/
def commitNsCreate (nss : List Ns) (b : List Byte) (ver : Nat → VerRes) (now : Nat) : Done :=
  let id := if bodyNs b = 0xFFFF then lowestNs nss else bodyNs b
  if nscUpdate b then
    ⟨onNsOf nss id fun n => { n with limit := nscQuota b, defSlot := nscSlot b }, 0, id, []⟩
  else
    let n : Ns :=
      { id := id, owner := nscOwner b, limit := nscQuota b, defSlot := nscSlot b, keys := [], version := (ver id).last
        skip := (ver id).skip, byteMs := 0, byteAt := now, writeOps := 0, writeBytes := 0 }
    ⟨insertNs n nss, 0, id, []⟩

/-- The commit of an NS_DELETE: RES0 is the number of keys deleted. -/
def commitNsDelete (nss : List Ns) (id : Nat) : Done :=
  ⟨nss.filter fun n => !(n.id == id), 0, ((nsOf nss id).map (·.keys.length)).getD 0, []⟩

/-! ### Responses (R134, R155, R211) -/

/-- A response without blocks. -/
structure Ans where
  status : Nat
  version : Nat := 0
  retry : Nat := 0
  res0 : Nat := 0
  res1 : Nat := 0
  extra : List Byte := []
  deriving DecidableEq, Repr

/-- The body of an RSP. -/
def rspBody (tag cmdSeq : Word) (blocks bytes : Nat) (a : Ans) : List Byte :=
  beBytes 4 tag.toNat ++ beBytes 4 cmdSeq.toNat ++ beBytes 2 a.status ++ beBytes 2 0 ++ beBytes 4 blocks ++
    beBytes 8 bytes ++ beBytes 8 a.version ++ beBytes 4 a.retry ++ beBytes 4 0 ++ beBytes 8 a.res0 ++
    beBytes 8 a.res1 ++ a.extra

/-- The RSP of the command `seq` on the flow of a slot and incarnation goes out, if the flow still lives; `blocks` not 0
when response blocks follow. The answer is the message's sequence number. -/
def Drive.rspSend (d : Drive) (e : Env) (slot inc : Nat) (seq : Word) (blocks bytes : Nat) (a : Ans) : Word × Drive :=
  match (d.flowAt slot inc).bind (·.cmd? seq) with
  | none => (0, d)
  | some c =>
    let (s, d) := d.newMsg slot 0x11 seq (rspBody c.tag seq blocks bytes a) (blocks == 0)
    (s, { d.onFcmd slot seq fun c => { c with rsp := some s } with lastRsp := some e.clk.optime })

/-- A command answered without blocks. -/
def Drive.answer (d : Drive) (e : Env) (slot inc : Nat) (seq : Word) (a : Ans) : Drive :=
  (d.rspSend e slot inc seq 0 0 a).2

/-- A payload the drive builds itself goes out whole: its blocks, zero padding behind, then the TRAIL (R19, R123, R134). -/
def Drive.payloadSend (d : Drive) (e : Env) (slot inc : Nat) (seq : Word) (bytes : List Byte) (a : Ans) : Drive :=
  let n := ceilDiv bytes.length 4096
  if n = 0 then d.answer e slot inc seq a
  else
    let (s, d) := d.rspSend e slot inc seq n bytes.length { a with status := 0 }
    let blocks := (List.range n).map fun i =>
      let b := padTo 4096 (slice bytes (4096 * i) 4096)
      txBlock i (b, crc32c b)
    d.addUnits slot s (blocks ++ [txTrail n a.status n 0xFFFFFFFF]) true

/-- The counters of namespace `id` that outlive every loss (R191). -/
def Drive.useOf (d : Drive) (id : Nat) : NsUse := (d.uses.find? (·.id == id)).getD ⟨id, 0, 0, 0, 0⟩

/-- Change them. -/
def Drive.onUse (d : Drive) (id : Nat) (g : NsUse → NsUse) : Drive :=
  { d with uses := g (d.useOf id) :: d.uses.filter fun u => !(u.id == id) }

/-- A namespace is created or deleted: its counters begin at 0, or go with it (R188, R189). -/
def Drive.dropUse (d : Drive) (id : Nat) : Drive := { d with uses := d.uses.filter fun u => !(u.id == id) }

/-- A class 1 or class 2 command that passed step 5 has ended: its namespace counts it (R190, R191). -/
def Drive.countEnd' (d : Drive) (op : Op) (ns status bytes : Nat) : Drive :=
  match op.cls, status with
  | 1, 0 => d.onUse ns fun n => { n with readOps := n.readOps + 1, readBytes := n.readBytes + bytes }
  | 1, _ => d.onUse ns fun n => { n with readRefused := n.readRefused + 1 }
  | 2, 0 => d
  | 2, _ => d.onUse ns fun n => { n with writeRefused := n.writeRefused + 1 }
  | _, _ => d

end Sys2Proof.Machine
end

