-- ==== Sys2Proof/Machine/Reads.lean ====
section
/-! DEFINITION. Reads in progress: a GET's or GET_RANGE's segments on their way from the journal, the value cache or the
flash through the cipher engine and its release buffer to the transport, and every way such a response ends early
(R135, R166, R174, R175, R253 to R255, R277, R284). -/

namespace Sys2Proof.Machine

/-! ### Bytes -/

/-- A record by its RSN. -/
def Drive.rec? (d : Drive) (rsn : Nat) : Option JRec := d.jrn.recs.find? (·.rsn == rsn)

/-- Change it. -/
def Drive.onRec' (d : Drive) (rsn : Nat) (g : JRec → JRec) : Drive :=
  { d with jrn := { d.jrn with recs := modIf d.jrn.recs (·.rsn == rsn) g } }

/-- The stored units of a record's payload from unit `i` on, `n` of them; one that no slot holds reads as zeros. -/
def JRec.payUnits (r : JRec) (i n : Nat) : List GUnit :=
  (List.range n).map fun j => ((r.units.find? (·.unit == i + j)).bind (·.data)).getD (zeros 4096, crc32c (zeros 4096))

/-- A run with its journal units copied, their CRCs with them (R16, R166). -/
def Drive.snapRun (d : Drive) (p : Piece) : Piece :=
  match p.src with
  | .pay rsn o => match d.rec? rsn with
    | some r => ⟨p.len, .lit (r.payUnits (o / 4096) (ceilDiv (o % 4096 + p.len) 4096)) (o % 4096)⟩
    | none => ⟨p.len, .hole⟩
  | _ => p

/-- The fragments of a run, with the units of segments read. -/
def Piece.frags (p : Piece) (have_ : List (Nat × List GUnit)) : List Frag :=
  match p.src with
  | .lit us o => unitFrags us o p.len
  | .seg id o => unitFrags (((have_.find? (·.1 == id)).map (·.2)).getD []) o p.len
  | _ => [⟨p.len, none, 0⟩]

/-! ### Jobs -/

/-- Read job `id`. -/
def Drive.job? (d : Drive) (id : Nat) : Option Job := d.jobs.find? (·.id == id)

/-- Change it. -/
def Drive.onJob (d : Drive) (id : Nat) (g : Job → Job) : Drive := { d with jobs := modIf d.jobs (·.id == id) g }

/-- Segments of a job that need flash segment `seg` are marked with a fault. -/
def Drive.jobFault (d : Drive) (job seg fault : Nat) : Drive :=
  d.onJob job fun j => { j with
    segs := modIf j.segs (fun s => s.need.contains seg && s.fault == 0) fun s => { s with fault := fault } }

/-- Blocks of a job's response. -/
def Job.blocks (j : Job) : Nat := ceilDiv j.len 4096

/-- The response fields of a read (R174). -/
def Job.ans (j : Job) (status res1 : Nat) : Ans :=
  { status := status, version := j.version, res0 := j.total, res1 := res1, extra := beBytes 8 j.opq.toNat }

/-- A read ends with `status` (R135, R174, R190, R211, R255); `failSeg` is the segment whose tag failed. -/
def Drive.jobEnd (d : Drive) (e : Env) (j : Job) (status : Nat) (failSeg : Option Nat) : Drive :=
  let d := { d with jobs := d.jobs.filter fun x => !(x.id == j.id) }
  let d := d.onCph fun c => { c with release := c.release.filter fun s => !(s.job == j.id) || s.released }
  let d := d.countEnd' j.op j.ns status j.len
  let d := if status = 0 then d.countOps j.ids j.len else d
  if j.rspSent then
    d.addUnits j.slot j.seq [txTrail j.blocks status j.done (failSeg.getD 0xFFFFFFFF)] true
  else d.answer e j.slot j.inc j.cmdSeq (j.ans status (failSeg.getD 0))

/-- A job whose first unreleased segment has failed ends (R175, R254, R284). -/
def Drive.jobHead (d : Drive) (e : Env) (id : Nat) : Drive :=
  match d.job? id with
  | none => d
  | some j =>
    match j.segs with
    | s :: _ =>
      if s.fault = 0 then d
      else d.jobEnd e j s.fault (if s.fault = 9 then some s.index else none)
    | [] => d

/-- The decryption of flash segment `s` for a read job is asked for (R244, R251, R253). -/
def Drive.askDec (d : Drive) (use : CphUse) (q : Nat) (release : Bool) (s : Seg) (again : Bool := false) : Drive :=
  let r := CphReq.blank .gcmDec s.slot s.ct.length use
  d.enqueue q { r with
    gen := s.gen, iv := s.ctr, tag := s.tag, src := s.ct, release := release, waited := again
    aad := segAad s.ns s.slot s.gen s.ver s.index s.units }

/-- A flash segment a job needs is fetched: from the value cache, or by a media read (R277). -/
def Drive.fetchSeg (d : Drive) (j : Job) (id : Nat) : Drive :=
  match d.med.seg id with
  | none => d.jobFault j.id id 0xF
  | some s =>
    if d.med.cache.any (·.1 == id) then (d.cachePut id j.pin).askDec (.read j.id id) (8 + j.qos) true s
    else if s.loc.isSome then d.startRead (.job j.id id) (.seg id) false
    else d.askDec (.read j.id id) (8 + j.qos) true s

/-- A read of `len` bytes from byte `off` of version `k` begins (R174, R175, R284). A whole value keeps the padding of its
last unit as stored; a range is padded with zeros (R19, R123). -/
def Drive.startJob (d : Drive) (e : Env) (slot inc : Nat) (cmdSeq : Word) (op : Op) (ns : Nat) (k : KeyRec) (off len : Nat)
    (v : Verdict) : Drive :=
  let stop := if op = .get then unitLen k.len else off + len
  let seg (i : Nat) : JobSeg :=
    let lo := max off (65536 * i)
    let ps := (subRuns k.pieces lo (min stop (65536 * i + 65536) - lo)).map d.snapRun
    let need := (ps.filterMap Piece.segId).eraseDups
    if k.bad.contains i then ⟨i, [], [], [], 0xF⟩ else ⟨i, ps, need, [], 0⟩
  let first := off / 65536
  let segs := (List.range (ceilDiv (off + len) 65536 - first)).map fun i => seg (first + i)
  let j : Job :=
    { id := d.nextJob, slot := slot, inc := inc, cmdSeq := cmdSeq, op := op, ns := ns, version := k.version
      keySlot := k.slot, opq := k.opq, total := k.len, len := len, qos := v.qos, pin := v.pin, segs := segs, tail := []
      done := 0, rspSent := false, seq := 0, ids := v.ids }
  let d := { d with jobs := d.jobs ++ [j], nextJob := d.nextJob + 1 }
  if k.revoked then d.jobEnd e j 0xA none
  else if len = 0 then d.jobEnd e j 0 none
  else
    let d := ((segs.flatMap (·.need)).eraseDups).foldl (fun d id => d.fetchSeg j id) d
    d.jobHead e j.id

/-- RESEND_MAX (R17, R20). -/
def Drive.resendMax (d : Drive) : Nat := d.fld Reg.FAB_GUARD_CTL 2 0

/-- Unit `unit` of a read's response is abandoned on its way to the host (R17): counted, with its event. -/
def Drive.readGiveup (d : Drive) (e : Env) (j : Job) (unit : Nat) : Drive :=
  let tag := (((d.flowAt j.slot j.inc).bind (·.cmd? j.cmdSeq)).map (·.tag.toNat)).getD 0
  (d.bump Reg.FAB_GUARD_GIVEUP 1).event e 0x400 2 (j.inc * 65536 + j.slot) tag unit

/-- The blocks of a segment leave: each unit with the CRC that it carries or that its assembly generated (R18, R19). -/
def Drive.sendSeg (d : Drive) (e : Env) (j : Job) (s : JobSeg) (rest : List JobSeg) (fs : List Frag) : Drive :=
  let (seq, d) := if j.rspSent then (j.seq, d)
    else d.rspSend e j.slot j.inc j.cmdSeq j.blocks j.len { j.ans 0 0 with res1 := 0 }
  let last := rest.isEmpty
  let n := if last then ceilDiv (fragLen fs) 4096 else fragLen fs / 4096
  let d := d.addUnits j.slot seq ((assembleAll n fs).zipIdx.map fun u => txBlock (j.done + u.2) u.1) false
  let gone := s.have_.map (·.1)
  let keep := rest.flatMap fun x => x.need ++ x.have_.map (·.1)
  let d := d.onCph fun c => { c with
    release := modIf c.release (fun x => x.job == j.id && gone.contains x.seg && !keep.contains x.seg)
      fun x => { x with released := true } }
  let j := { j with segs := rest, tail := (cutFrags (4096 * n) fs).2, done := j.done + n, rspSent := true, seq := seq }
  let d := d.onJob j.id fun _ => j
  if last then d.jobEnd e j 0 none else d.jobHead e j.id

/-- SEGMENT_RELEASE (R134, R253, R255): the first segment of a job, all of whose bytes are at hand, leaves for the
transport, after the RSP if it is the first; the last one is followed by the TRAIL. `again` names a unit that fails its check
on the way, and how often in a row: it is sent again, or abandoned (R16, R17). A stored unit that does not agree with its CRC
fails every time. -/
def segmentReleaseOp (id : Nat) (again : Option (Nat × Nat)) (e : Env) (d : Drive) : Drive :=
  match d.job? id with
  | none => d
  | some j =>
    match j.segs with
    | [] => d
    | s :: rest =>
      if !s.need.isEmpty || s.fault ≠ 0 then d
      else
        let fs := j.tail ++ s.pieces.flatMap fun p => p.frags s.have_
        let most := d.resendMax
        let fails := if fragsOk fs then (again.map (·.2)).getD 0 else most
        let d := d.bump Reg.FAB_GUARD_EGRESS (min fails most)
        if most ≤ fails then (d.readGiveup e j ((again.map (·.1)).getD j.done)).jobEnd e j 0xF none
        else d.sendSeg e j s rest fs

/-- RELEASE_SLOT_FREE: the transport has confirmed its copies (R253). -/
def releaseSlotFreeOp (job seg : Nat) (_ : Env) (d : Drive) : Drive :=
  d.onCph fun c => { c with release := c.release.filter fun x => !(x.job == job && x.seg == seg && x.released) }

/-- The segments of a job that follow a failed one give up their release slots, zeroed (R254). -/
def Drive.dropRelease (d : Drive) (job seg : Nat) : Drive :=
  match d.job? job with
  | none => d
  | some j =>
    let at_ := ((j.segs.find? fun s => s.need.contains seg).map (·.index)).getD 0
    let later := (j.segs.filter fun s => decide (at_ ≤ s.index)).flatMap fun s => s.have_.map (·.1)
    d.onCph fun c => { c with release := c.release.filter fun x => !(x.job == job && (later.contains x.seg || x.seg == seg)) }

/-- A segment of a read fails its tag (R254, R283): the first time it is read again by reconstruction; the second time the
response ends there with AUTH_FAIL. -/
def Drive.readTagFail (d : Drive) (e : Env) (job : Nat) (r : CphReq) (seg : Nat) : Drive :=
  let held := d.cph.release.any fun x => x.job == job && x.seg == seg && x.held
  match d.job? job, d.med.seg seg with
  | some j, some _ =>
    if held then
      let idx := ((j.segs.find? fun x => x.need.contains seg).map (·.index)).getD 0
      let d := (((d.dropRelease job seg).bump Reg.CPH_AUTH_FAIL 1).errCnt pgCph).setInt pgCph 0
      let d := d.event e 0x603 j.ns r.slot r.gen idx
      (d.jobFault job seg 9).jobHead e job
    else
      let d := d.onCph fun c => { c with
        release := modIf c.release (fun x => x.job == job && x.seg == seg) fun x => { x with held := true } }
      d.startRead (.job job seg) (.seg seg) true
  | _, _ => d.onCph fun c => { c with release := c.release.filter fun x => !(x.job == job && x.seg == seg) }

/-- A unit of flash segment `seg` is abandoned on its way to a read job: the response ends at that segment (R17). -/
def Drive.readAbandon (d : Drive) (e : Env) (job seg unit : Nat) : Drive :=
  match d.job? job with
  | none => d.onCph fun c => { c with release := c.release.filter fun x => !(x.job == job && x.seg == seg) }
  | some j =>
    let idx := ((j.segs.find? fun s => s.need.contains seg).map (·.index)).getD 0
    let d := (d.readGiveup e j (16 * idx + unit)).dropRelease job seg
    (d.jobFault job seg 0xF).jobHead e job

/-- A request that ended with ENGINE_FAULT is made again, on the reservation that it took. -/
def Drive.retryReq (d : Drive) (r : CphReq) : Drive := d.enqueue r.queue { r with stale := false, again := true }

/-- A decryption of a read job has ended (R175, R248, R253, R254, R256). -/
def Drive.readEnd (d : Drive) (e : Env) (x : CphEnd) (job seg : Nat) : Drive :=
  if x.code = 0 then
    match d.job? job with
    | none => d.onCph fun c => { c with release := c.release.filter fun y => !(y.job == job && y.seg == seg) }
    | some _ =>
      let held := d.cph.release.any fun y => y.job == job && y.seg == seg && y.held
      let d := if held then d.bump Reg.CPH_TAG_RECOVERED 1 else d
      let d := d.onCph fun c => { c with
        release := modIf c.release (fun y => y.job == job && y.seg == seg)
          fun y => { y with verified := true, units := plainUnits x.out } }
      d.onJob job fun j => { j with
        segs := modIf j.segs (fun s => s.need.contains seg) fun s =>
          { s with need := s.need.filter (· != seg), have_ := s.have_ ++ [(seg, plainUnits x.out)] } }
  else if x.code = 9 then d.readTagFail e job x.req seg
  else if x.code = 0x41 then
    let f := x.req.fails.getD (0, 1)
    let d := d.bump Reg.FAB_GUARD_EGRESS 1
    if d.resendMax ≤ f.2 then d.readAbandon e job seg f.1
    else if (d.job? job).isSome then d.retryReq x.req
    else d
  else
    let d := d.dropRelease job seg
    match d.job? job with
    | none => d
    | some j => if j.rspSent then (d.jobFault job seg 9).jobHead e job else d.jobEnd e j 0xA none

/-- A media read for a read job has ended (R281, R283, R284). -/
def Drive.jobRead (d : Drive) (e : Env) (job seg : Nat) (good : Bool) : Drive :=
  match d.job? job, d.med.seg seg with
  | some j, some s =>
    if good then (d.cachePut s.id j.pin).askDec (.read job s.id) (8 + j.qos) true s
    else
      let d := d.onCph fun c => { c with release := c.release.filter fun x => !(x.job == job && x.seg == s.id) }
      (d.jobFault job s.id 0xF).jobHead e job
  | _, _ => d

end Sys2Proof.Machine
end

