-- ==== Sys2Proof/Machine/Segments.lean ====
section
/-! DEFINITION. How a journaled command's outcome is told and its record released (R319 to R321, R332 to R334, R341), and its
segments on their way to flash through the cipher engine (R16, R17, R19, R250 to R254, R285, R316). -/

namespace Sys2Proof.Machine

/-- Change the journal. -/
def Drive.onJrn (d : Drive) (g : Jrn → Jrn) : Drive := { d with jrn := g d.jrn }

/-- Totals of R308. -/
def pairTotal : Nat := 262144
def slotTotal : Nat := 1818624

/-! ### The replay report (R332 to R334) -/

/-- An entry is written: it replaces one with the same FLOW and TAG; a full table loses its oldest entry. -/
def Drive.reportPut (d : Drive) (x : Entry48) : Drive :=
  let rest := d.jrn.report.filter fun y => !(y.flow == x.flow && y.tag == x.tag)
  if 131072 ≤ rest.length then
    ((d.onJrn fun j => { j with report := rest.drop 1 ++ [x] }).bump Reg.JRN_RPT_DROPPED 1).setInt pgJrn 5
  else d.onJrn fun j => { j with report := rest ++ [x] }

/-- The entry of a record (R332). -/
def JRec.entry (r : JRec) (e : Env) (status final version : Nat) : Entry48 :=
  { flow := r.flow, tag := r.tag, cmdSeq := r.cmdSeq, op := r.op.code, status := status, final := final
    ns := if r.op.cls = 2 ∨ r.op.cls = 4 then bodyNs r.body % 4096 else 0
    version := version, opq := r.opq, pcycle := e.clk.pcycle, tenant := r.tenant, wrote := e.clk.optime }

/-- A record whose flow has ended gets its entry when its outcome is settled (R333); a replayed outcome says so. -/
def Drive.reportRec (d : Drive) (e : Env) (rsn status final version : Nat) : Drive :=
  match d.rec? rsn with
  | none => d
  | some r =>
    if r.finished || r.reported then d
    else (d.reportPut (r.entry e status final version)).onRec' rsn fun r => { r with reported := true }

/-- A command with a record has its final status: the RSP goes out, or, its flow having ended, the entry is written. -/
def Drive.outcome (d : Drive) (e : Env) (r : JRec) (a : Ans) : Drive :=
  if r.settled then d.reportRec e r.rsn a.status a.status a.version
  else d.answer e r.slot r.inc r.cmdSeq a

/-- REPORT_ENTRY_EXPIRY: KEEP_S has passed since the oldest entry was written (R334). -/
def reportExpiryOp (_ : Env) (d : Drive) : Drive := d.onJrn fun j => { j with report := j.report.drop 1 }

/-! ### Release (R319, R320, R341) -/

/-- Free the record pairs that can be freed; EXPOSED clears with the last record at risk. -/
def Drive.releaseRecs (d : Drive) : Drive :=
  let d := d.onJrn fun j => { j with recs := j.recs.filter fun r => !d.freeable r }
  match d.jrn.exposed with
  | none => d
  | some (lo, hi) =>
    if d.jrn.recs.any fun r => decide (lo ≤ r.csn) && decide (r.csn ≤ hi) && r.st == .committed then d
    else (d.onJrn fun j => { j with exposed := none }).poke Reg.JRN_STAT 7 7 0

/-- Records that R318 orders before `r`: of the same key, or, about its namespace, an NS_CREATE or NS_DELETE on either
side. -/
def JRec.after (r x : JRec) : Bool :=
  let cls (y : JRec) : Bool := y.op.cls == 2 || y.op.cls == 4
  cls r && cls x && decide (x.csn < r.csn) && x.st == .committed && bodyNs x.body == bodyNs r.body &&
    (r.op.cls == 4 || x.op.cls == 4 || bodyKey x.body == bodyKey r.body)

/-- Nothing that R318 orders before `r` is left to drain. -/
def Drive.clear (d : Drive) (r : JRec) : Bool := !(d.jrn.recs.any fun x => r.after x)

/-- A record becomes DRAINED: its unit slots are freed (R320). -/
def Drive.markDrained (d : Drive) (rsn : Nat) : Drive :=
  d.onRec' rsn fun r => { r with st := .drained, units := [], spills := [], drain := none }

/-- Committed records without a payload become DRAINED once nothing is ordered before them (R319); `fuel` bounds the
chain. -/
def drainEmpty : Nat → Drive → Drive
  | 0, d => d
  | fuel + 1, d =>
    match d.jrn.recs.find? fun r => r.st == .committed && r.effect && r.payload == 0 && r.op.cls != 5 && d.clear r with
    | some r => drainEmpty fuel (d.markDrained r.rsn)
    | none => d

/-- What follows when a record becomes DRAINED or ENDED. -/
def Drive.settleRecs (d : Drive) : Drive := (drainEmpty d.jrn.recs.length d).releaseRecs

/-- The numbers of `n` free unit slots, or of a free record pair. -/
def freeNums (used : List Nat) (total n : Nat) : List Nat :=
  let next := used.foldl (fun m x => max m (x + 1)) 0
  if next + n ≤ total then (List.range n).map (next + ·)
  else ((List.range total).filter fun i => !used.contains i).take n

/-- Unit slots in use by number. -/
def Jrn.slotNums (j : Jrn) : List Nat := j.recs.flatMap fun r => r.units.map (·.num) ++ r.xlist.toList

/-- A command with a record ends without effect: its payload is freed, its reservation falls (R162, R164). -/
def Drive.endRec (d : Drive) (e : Env) (rsn : Nat) (j : Judge) : Drive :=
  match d.rec? rsn with
  | none => d
  | some r =>
    let d := d.onRec' rsn fun r => { r with
      st := .ended, status := j.status, units := [], xlist := none, spills := [], drain := none, growth := 0, rsvLeft := 0 }
    let d := if r.op.cls = 2 then d.countEnd' r.op (bodyNs r.body) j.status 0 else d
    d.outcome e r { status := j.status, version := j.version }

/-! ### Asking for encryption (R16, R19, R250, R251) -/

/-- The GCM plaintext of a segment: its units and its CRC block, in which each unit's CRC travels (R16, R250). -/
def segPlain (us : List GUnit) : List Byte := (us.map (·.1)).flatten ++ crcBlock (us.map (·.2))

/-- Encryption of a segment of record `r` on queue `q` (R251, R316). -/
def Drive.askEnc (d : Drive) (r : JRec) (q ver index : Nat) (use : CphUse) (us : List GUnit) : Drive :=
  let src := segPlain us
  let x := CphReq.blank .gcmEnc r.keySlot src.length use
  d.enqueue q { x with
    rsv := true, src := src, aad := segAad (bodyNs r.body % 4096) r.keySlot 0 ver index us.length }

/-- The extent-list slot of a record, taken when the first of its segments is asked for (R310). -/
def Drive.takeXlist (d : Drive) (r : JRec) : Drive :=
  match r.xlist with
  | some _ => d
  | none => d.onRec' r.rsn fun r => { r with xlist := (freeNums d.jrn.slotNums slotTotal 1).head? }

/-- The fragments of a run, from the journal and from the old contents read; none where they cannot be read. -/
def Drive.drainRun (d : Drive) (have_ : List (Nat × Option (List GUnit))) (p : Piece) : Option (List Frag) :=
  match p.src with
  | .seg id o => match have_.find? (·.1 == id) with
    | some (_, some us) => some (unitFrags us o p.len)
    | _ => none
  | _ => some ((d.snapRun p).frags [])

/-- The value's bytes of segment `s` of a record. -/
def JRec.segRuns (r : JRec) (s : Nat) : List Piece := subRuns r.vmap (65536 * s) 65536

/-- Where payload byte 0 of a record lies in its value. -/
def JRec.payAt (r : JRec) : Nat := match r.op with | .putRange => bodyArg0 r.body | _ => 0

/-- The payload block that stands for unit `u` of drain segment `s`, or of a spill run (R17). -/
def JRec.unitAt (r : JRec) (s u : Nat) : Nat :=
  if 0x80000000 ≤ s then 16 * (s - 0x80000000) + u else 16 * s + u - r.payAt / 4096

/-- The drain segment in which such a block lies. -/
def JRec.segAt (r : JRec) (unit : Nat) : Nat := (unit + r.payAt / 4096) / 16

/-- Change a segment of a record's drain. -/
def Drive.onDrain (d : Drive) (rsn s : Nat) (g : DrainSeg → DrainSeg) : Drive :=
  d.onRec' rsn fun r => { r with drain := r.drain.map fun ds => modIf ds (·.index == s) g }

/-- A segment of a drain that writes no ciphertext is marked unreadable in its value (R284, R285). -/
def Drive.markSeg (d : Drive) (r : JRec) (s : Nat) : Drive :=
  d.onNs (bodyNs r.body) fun n => { n with
    keys := modIf n.keys (fun k => k.key == bodyKey r.body && !k.bad.contains s &&
      (subRuns k.pieces (65536 * s) 65536).any fun p => (subRuns r.vmap (65536 * s) 65536).any fun q => q.src == p.src)
      fun k => { k with bad := k.bad ++ [s] } }

/-- A segment of a drain will not be written. -/
def Drive.loseSeg (d : Drive) (r : JRec) (s : Nat) : Drive := (d.markSeg r s).onDrain r.rsn s fun x => { x with done := true }

/-- A unit is abandoned on its way from the journal (R17): a command not acknowledged yet ends with ABORTED_FAULT; the segment
of an acknowledged one waits for the next pass. -/
def Drive.drainAbandon (d : Drive) (e : Env) (r : JRec) (s u : Nat) : Drive :=
  let unit := r.unitAt s u
  let d := (d.bump Reg.FAB_GUARD_GIVEUP 1).event e 0x400 1 r.flow.toNat r.tag.toNat unit
  if r.pending then (d.endRec e r.rsn ⟨0x11, 0⟩).settleRecs
  else if 0x80000000 ≤ s then d.onRec' r.rsn fun r => { r with spills := r.spills.filter fun y => !(y.1 == s - 0x80000000) }
  else
    let n := ((r.passes.find? (·.1 == unit)).map (·.2)).getD 0 + 1
    (d.onDrain r.rsn s fun x => { x with asked := false, gone := true }).onRec' r.rsn fun r =>
      { r with passes := (unit, n) :: r.passes.filter fun p => !(p.1 == unit) }

/-- A unit has been abandoned on eight passes in a row: its segment is not asked for again (R17). -/
def JRec.givenUp (r : JRec) (s : Nat) : Bool := r.passes.any fun p => r.segAt p.1 == s && decide (8 ≤ p.2)

/-- A drain's segment all of whose old contents are at hand is encrypted, or, where they cannot be read, marked (R285). What a
stored unit that does not agree with its CRC would give fails every check (R19). -/
def Drive.drainReady (d : Drive) (e : Env) (rsn s : Nat) : Drive :=
  match d.rec? rsn with
  | none => d
  | some r =>
    match (r.drain.getD []).find? (·.index == s) with
    | none => d
    | some x =>
      if !x.need.isEmpty || x.asked || x.done || x.gone then d
      else if r.erased then d.onDrain rsn s fun x => { x with done := true }
      else
        match (r.segRuns s).mapM (d.drainRun x.have_) with
        | none => d.loseSeg r s
        | some fss =>
          let fs := fss.flatten
          if !fragsOk fs then (d.bump Reg.FAB_GUARD_DRAIN d.resendMax).drainAbandon e r s 0
          else
            let us := assembleAll (ceilDiv (fragLen fs) 4096) fs
            let q := if x.have_.isEmpty then r.qos else 25
            (d.askEnc r q r.version s (.drain rsn s) us).onDrain rsn s fun x => { x with asked := true }

/-- Every segment of a record's drain that is ready goes on. -/
def Drive.drainGo (d : Drive) (e : Env) (rsn : Nat) : Drive :=
  match d.rec? rsn with
  | none => d
  | some r => (r.drain.getD []).foldl (fun d x => d.drainReady e rsn x.index) d

/-- The segments a record's drain writes (R250, R252). -/
def JRec.drainSegs (r : JRec) : List Nat :=
  match r.op with
  | .putRange =>
    let o := bodyArg0 r.body
    let first := o / 65536
    (List.range ((o + r.payload - 1) / 65536 - first + 1)).map (first + ·)
  | _ => List.range (ceilDiv r.payload 65536)

/-- A segment of a drain as it begins: the flash segments that hold its old contents or its spilled bytes are needed first,
but for a record whose key is erased. -/
def JRec.drainSeg (r : JRec) (s : Nat) : DrainSeg :=
  ⟨s, if r.erased then [] else ((r.segRuns s).filterMap Piece.segId).eraseDups, [], false, none, false, false⟩

/-- What the read of flash segment `id` for a drain is: of a spill segment (R316), or of old contents (R252). -/
def Drive.oldUse (d : Drive) (rsn s id : Nat) : RdUse :=
  match d.rec? rsn with
  | some r => if r.spills.any (·.2.1 == id) then .spill rsn s else .merge rsn s
  | none => .merge rsn s

/-- Old contents cannot be read. -/
def Drive.oldGone (d : Drive) (rsn s id : Nat) : Drive :=
  d.onDrain rsn s fun x => { x with
    need := x.need.filter (· != id), have_ := (x.have_.filter fun h => !(h.1 == id)) ++ [(id, none)] }

/-- The segments that a drain's segment needs are read, or decrypted where they are cached (R252, R277). -/
def Drive.fetchOld (rsn : Nat) (d : Drive) (x : DrainSeg) : Drive :=
  x.need.foldl (fun d id =>
    match d.med.seg id with
    | some s => if d.med.cache.any (·.1 == id) then (d.cachePut id false).askDec (.merge rsn x.index) 24 false s
        else d.startRead (d.oldUse rsn x.index id) (.seg id) false
    | none => d.oldGone rsn x.index id) d

/-! ### Ends of the requests (R248, R254, R256) -/

/-- The media CRCs of a ciphertext, one for each 4 KiB of it and one for the rest (R16). -/
def mediaCrcs (ct : List Byte) : List Word := (List.range (ceilDiv ct.length 4096)).map fun i => crc32c (slice ct (4096 * i) 4096)

/-- A new segment with its ciphertext waits in the HOST stream (R252, R275). -/
def Drive.newSeg (d : Drive) (e : Env) (r : JRec) (x : CphEnd) (ver index : Nat) : Nat × Drive :=
  let id := d.med.nextSeg
  let s : Seg :=
    { id := id, ns := bodyNs r.body % 4096, slot := r.keySlot, gen := x.req.bound, ctr := x.req.ctr, ver := ver
      index := index, units := (x.out.length - 64) / 4096, ct := x.out, tag := x.tag, mcrc := mediaCrcs x.out, loc := none }
  (id, (d.onMed fun m => { m with segs := m.segs ++ [s], nextSeg := id + 1 }).put e .host (.new (.seg id)))

/-- The encryption of a drain's or spill's segment has ended. -/
def Drive.drainEnd (d : Drive) (e : Env) (x : CphEnd) (rsn s : Nat) : Drive :=
  match d.rec? rsn with
  | none => d
  | some r =>
    let spill := 0x80000000 ≤ s
    if x.code = 0 then
      let (id, d) := d.newSeg e r x (if spill then 0 else r.version) s
      if spill then d.onRec' rsn fun r => { r with
        spills := modIf r.spills (·.1 == s - 0x80000000) fun y => (y.1, id, false) }
      else
        let d := (d.onDrain rsn s fun y => { y with id := some id }).onRec' rsn fun r =>
          { r with passes := r.passes.filter fun p => !(r.segAt p.1 == s) }
        if r.pin then d.cachePut id true else d
    else if x.code = 0x41 then
      let f := x.req.fails.getD (0, 1)
      let d := d.bump Reg.FAB_GUARD_DRAIN 1
      if d.resendMax ≤ f.2 then d.drainAbandon e r s f.1 else d.retryReq x.req
    else if spill then d.onRec' rsn fun r => { r with spills := r.spills.filter fun y => !(y.1 == s - 0x80000000) }
    else if x.code = 0x0B then d.onDrain rsn s fun y => { y with asked := false }
    else d.onDrain rsn s fun y => { y with done := true }

/-- The media engine of a segment's first unit; engine 0 for one that is not on flash. -/
def Med.segEngine (m : Med) (s : Seg) : Nat :=
  match s.loc.bind fun l => m.unitDie l 0 with
  | some (ch, _, _) => engineOf ch
  | none => 0

/-- The decryption of old contents has ended (R252, R254, R285). A second tag failure loses them, which is counted and recorded
(R167). -/
def Drive.mergeEnd (d : Drive) (e : Env) (x : CphEnd) (rsn s : Nat) : Drive :=
  match d.med.segs.find? fun y => y.ct == x.req.src && y.tag == x.req.tag with
  | none => d
  | some sg =>
    if x.code = 0 then
      let d := if x.req.waited then d.bump Reg.CPH_TAG_RECOVERED 1 else d
      (d.onDrain rsn s fun y => { y with
        need := y.need.filter (· != sg.id)
        have_ := (y.have_.filter fun h => !(h.1 == sg.id)) ++ [(sg.id, some (plainUnits x.out))] }).drainGo e rsn
    else if x.code = 9 ∧ !x.req.waited ∧ sg.loc.isSome then d.startRead (d.oldUse rsn s sg.id) (.seg sg.id) true
    else if x.code = 9 then
      ((d.countUnreadable e (d.med.segEngine sg) sg.ns sg.ver sg.index).oldGone rsn s sg.id).drainGo e rsn
    else if x.code = 0x41 then
      let f := x.req.fails.getD (0, 1)
      let d := d.bump Reg.FAB_GUARD_EGRESS 1
      match d.rec? rsn with
      | some r => if d.resendMax ≤ f.2 then d.drainAbandon e r s f.1 else d.retryReq x.req
      | none => d
    else (d.oldGone rsn s sg.id).drainGo e rsn

/-- A media read of the old contents a drain takes up has ended (R252, R285, R316). -/
def Drive.mergeRead (d : Drive) (e : Env) (rd : Rd) (rsn s : Nat) (good : Bool) : Drive :=
  match rd.obj with
  | .page _ => d
  | .seg id =>
    match d.med.seg id with
    | some sg => if good then d.askDec (.merge rsn s) 24 false sg rd.second else (d.oldGone rsn s id).drainGo e rsn
    | none => (d.oldGone rsn s id).drainGo e rsn

end Sys2Proof.Machine
end

