-- ==== Sys2Proof/Machine/Journal.lean ====
section
/-! DEFINITION. The intake journal's records from acceptance to release (R161 to R164, R308 to R321, R332 to R341):
acceptance, grants, commits with their effects on namespaces and key slots, the replay report, checkpoints, and the
record window. Draining is in Drain.lean. -/

namespace Sys2Proof.Machine

/-! ### Acceptance (R235, R311 to R313, R317) -/

/-- The segment count of a write (R317). -/
def segCount (op : Op) (payload offset : Nat) (twice : Bool) : Nat :=
  let n := ceilDiv (ceilDiv payload 4096) 16
  match op with
  | .putRange => (offset + payload - 1) / 65536 - offset / 65536 + 1 + n
  | op => if op.paid then (if twice then 2 * n else n) else 0

/-- A payload of this size spills (R316). -/
def Drive.spills (d : Drive) (payload : Nat) : Bool := decide (d.fld Reg.JRN_CTL 15 4 * 1048576 < payload)

/-- Grant more blocks of a command's payload (R126, R311, R313): as far as GRANT_BLOCKS, the free unit slots, the ledger
and its balance allow. `count` counts a wait. -/
def Drive.grantMore (d : Drive) (e : Env) (slot : Nat) (seq : Word) (count : Bool) : Drive :=
  match (d.flow? slot).bind (·.cmd? seq) with
  | none => d
  | some c =>
    match c.rsn.bind d.rec? with
    | none => d
    | some r =>
      if r.st ≠ .accepted || c.rsp.isSome then d
      else
        let port := ((d.flow? slot).map (·.arr.port.toNat)).getD 0
        let want := min c.blocks ((c.units.filter (·.conf)).length + d.fld Reg.XPT_WINDOW 31 16) - c.grantEnd
        let free := slotTotal - d.jrn.unitsUsed
        let fits (n : Nat) : Bool := r.wt || d.admits e 0 n
        let n := if d.grantsWait port then 0
          else (((List.range (min want free + 1)).reverse.find? fits).getD 0)
        let d := if n < want && count then d.bump Reg.JRN_GRANT_WAITS 1 else d
        if n = 0 then d
        else
          let nums := freeNums d.jrn.slotNums slotTotal n
          let us := nums.zipIdx.map fun x => (⟨x.1, c.grantEnd + x.2, none⟩ : USlot)
          let d := d.onRec' r.rsn fun r => { r with units := r.units ++ us }
          let d := if d.jrn.unitsUsed = slotTotal then d.setInt pgJrn 6 else d
          d.grantTo slot seq (c.grantEnd + n)

/-- The key slot a class 2 command's deciding row names (R203). -/
def Drive.rowSlot (d : Drive) (v : Verdict) (ns : Nat) : Nat :=
  if v.slot = 0x1FFF then ((nsOf d.nss ns).map (·.defSlot)).getD 0 else v.slot

/-- The quota it charges (R182). -/
def rowQuotaNs (v : Verdict) (ns : Nat) : Nat := if v.quotaSelf then ns else v.quotaId

/-- The record of an accepted command (R309). -/
def Drive.newRec (d : Drive) (e : Env) (h : HeldCmd) (f : Flow) (v : Verdict) (growth : Nat) : JRec :=
  let ns := bodyNs h.cmd.body
  let pay := h.cmd.payload.toNat
  let wt := d.jrnMode != 0
  let spill := h.op.paid && (wt || d.spills pay)
  { pair := (freeNums (d.jrn.recs.map (·.pair)) pairTotal 1).headD 0, rsn := d.jrn.rsnNext, st := .accepted
    spill := spill, wt := wt, replayed := false, settled := false, finished := false, flow := f.id, slot := f.slot
    inc := f.inc, tag := h.cmd.tag, cmdSeq := h.cmd.hdr.seq, op := h.op, cflags := h.cmd.cflags, payload := pay
    opq := h.cmd.opq, tenant := f.tenant, keySlot := if h.op.paid then d.rowSlot v ns else 0xFFFF
    quota := if h.op.paid then rowQuotaNs v ns else 0xFFFF, qos := v.qos, body := h.cmd.body, csn := 0, version := 0
    status := 0, pcycle := e.clk.pcycle, optime := e.clk.optime
    rsvLeft := segCount h.op pay (bodyArg0 h.cmd.body) spill, commitMs := 0, growth := growth
    ordered := h.cmd.cflags.getLsbD 0, ids := v.ids, units := [], xlist := none, spills := [], drain := none, vmap := []
    pageDone := false, commitPage := false, effect := false, erased := false, res0 := 0, reported := false
    keyDone := false, full := 0, pin := v.pin, passes := [] }

/-! ### Ordering (R163) -/

/-- A command has neither committed nor ended. -/
def Drive.cmdOpen (d : Drive) (f : Flow) (c : FlowCmd) : Bool :=
  let mine (h : HeldCmd) : Bool := h.slot == f.slot && h.inc == f.inc && h.cmd.hdr.seq == c.seq
  match c.rsn with
  | some n => match d.rec? n with
    | some r => r.st == .accepted || (r.st == .committed && !r.effect)
    | none => false
  | none =>
    d.jrn.heldAccept.any mine || d.jrn.heldOrd.any mine || d.mch.heldCmds.any mine || d.med.heldLeaf.any mine ||
      (d.jobs.any fun j => j.slot == f.slot && j.inc == f.inc && j.cmdSeq == c.seq) ||
      d.jrn.flushes.any fun x => x.slot == f.slot && x.inc == f.inc && x.cmdSeq == c.seq

/-- An ORDERED command of this flow need not wait any longer. Records of a flow that has ended keep their order. -/
def Drive.orderOk (d : Drive) (slot inc : Nat) (seq : Word) (op : Op) (ns : Option Nat) : Bool :=
  let all_ := op == .flush || decide (4 ≤ op.cls)
  let names (x : Option Nat) : Bool := all_ || (x.isSome && x == ns)
  match d.flowAt slot inc with
  | some f => !(f.cmds.any fun c => seqLt c.seq seq && names c.ns && d.cmdOpen f c)
  | none =>
    !(d.jrn.recs.any fun r => r.slot == slot && r.inc == inc && seqLt r.cmdSeq seq &&
        names (cmdNs r.op r.body) && (r.st == .accepted || (r.st == .committed && !r.effect)))

/-! ### Key commands (R193, R194, R240 to R243) -/

/-- Fields of KEY_LOAD: SLOT, OWNER and BLOB. -/
def klSlot (b : List Byte) : Nat := beAt b 0 2
def klOwner (b : List Byte) : BitVec 12 := BitVec.ofNat 12 (beAt b 4 2)
def klBlob (b : List Byte) : List Byte := b.drop 8

/-- Step 8 of KEY_LOAD (R193, R241, R243). -/
def Drive.judgeKeyLoad (d : Drive) (e : Env) (tenant : BitVec 12) (b : List Byte) : Nat :=
  let s := d.kslot (klSlot b)
  let blob := klBlob b
  if 4095 < klSlot b then 0x132
  else if klOwner b ≠ tenant ∧ tenant ≠ 0 then 0x122
  else if s.st ≠ .empty ∧ s.owner ≠ klOwner b then 0x131
  else if 65536 ≤ s.held ∨ 0xFFFFFFFF ≤ s.gen + s.waits.length then 0x132
  else if blob.length ≠ 96 ∨ beAt b 2 2 ≠ 96 ∨ beAt blob 0 4 ≠ 0x49574B42 ∨ beAt blob 4 1 ≠ 1 ∨ beAt blob 6 2 ≠ 0 ∨
      beAt blob 20 4 ≠ 0 ∨ 4096 ≤ beAt blob 16 2 ∨ beAt blob 5 1 ≠ e.fac.importId.toNat % 256 then 0x133
  else if (Config.unwrap blob).isNone ∨ beAt blob 8 8 ≠ e.fac.serial.toNat ∨ beAt blob 16 2 ≠ (klOwner b).toNat ∨
      (beAt blob 18 2 ≠ 0xFFFF ∧ beAt blob 18 2 ≠ klSlot b) then 0x134
  else 0

/-- Step 8 of KEY_ERASE (R194). -/
def Drive.judgeKeyErase (d : Drive) (tenant : BitVec 12) (b : List Byte) : Nat :=
  let s := d.kslot (klSlot b)
  if 4095 < klSlot b then 0x132
  else if s.st = .empty then 0x130
  else if s.owner ≠ tenant ∧ tenant ≠ 0 then 0x131
  else 0

/-! ### Commit (R161, R162, R315, R339) -/

/-- The pieces of a record's payload, over whole units: its spill segments on flash, the rest in unit slots. -/
def JRec.payRuns (r : JRec) : List Piece :=
  let total := unitLen r.payload
  if r.spills.isEmpty then (if total = 0 then [] else [⟨total, .pay r.rsn 0⟩])
  else
    (List.range (ceilDiv total 65536)).map fun i =>
      let n := min 65536 (total - 65536 * i)
      match r.spills.find? fun x => x.1 == i && x.2.2 with
      | some x => ⟨n, .seg x.2.1 0⟩
      | none => ⟨n, .pay r.rsn (65536 * i)⟩

/-- The effect of a record's commit on the namespaces. -/
def Drive.effectOn (d : Drive) (nss : List Ns) (r : JRec) (now : Nat) (v : Option Nat) : Done :=
  match r.op with
  | .nsCreate => commitNsCreate nss r.body d.verOf now
  | .nsDelete => commitNsDelete nss (bodyNs r.body)
  | .keyLoad => ⟨nss, 0, 0, []⟩
  | .keyErase => ⟨nss, 0, 0, []⟩
  | _ => commitWrite nss r now v r.payRuns

/-- Commits whose effect has not taken place, in CSN order (R339). -/
def Jrn.pendingEffects (j : Jrn) : List JRec :=
  let l := j.recs.filter fun r => r.st == .committed && !r.effect
  l.mergeSort fun a b => decide (a.csn ≤ b.csn)

/-- The namespaces as every commit so far leaves them. -/
def Drive.projected (d : Drive) (now : Nat) : List Ns :=
  d.jrn.pendingEffects.foldl (fun nss r => (d.effectOn nss r now (some r.version)).nss) d.nss

/-- Step 7 of a write to slot `n` that asks for `count` more segments (R184, R235). -/
def Drive.judgeSlot (d : Drive) (n count : Nat) : Nat :=
  let s := d.kslot n
  if s.st = .empty then 0xA else if s.ceil < s.ctr + d.rsvOf n + count then 0xB else 0

/-- Step 7 of a write again, at its commit: its own segments are among those reserved (R162, R184). -/
def Drive.slotStands (d : Drive) (n : Nat) : Nat :=
  let s := d.kslot n
  if s.st = .empty then 0xA else if s.ceil < s.ctr + d.rsvOf n then 0xB else 0

/-- Steps 5, 7 and 8 against the state that earlier commits have left (R162). -/
def Drive.reevaluate (d : Drive) (e : Env) (nss : List Ns) (r : JRec) : Judge :=
  match r.op with
  | .nsCreate => ⟨judgeNsCreate nss d.kslot r.tenant r.body, 0⟩
  | .nsDelete =>
    let id := bodyNs r.body
    if !nsVisible nss r.tenant id then ⟨0x14, 0⟩
    else if beAt r.body 2 2 % 2 = 0 && ((nsOf nss id).map fun n => !n.keys.isEmpty).getD false then ⟨0x120, 0⟩
    else ⟨0, 0⟩
  | .keyLoad => ⟨d.judgeKeyLoad e r.tenant r.body, 0⟩
  | .keyErase => ⟨d.judgeKeyErase r.tenant r.body, 0⟩
  | op =>
    let slot := if op.paid then d.slotStands r.keySlot else 0
    if slot ≠ 0 then ⟨slot, 0⟩ else judgeWrite nss (bodyNs r.body) op r.cflags r.payload r.body

/-- The versions encrypted under slot `n` are lost to reads (R240). -/
def Drive.revokeKeys (d : Drive) (n : Nat) : Drive :=
  let segSlot (id : Nat) : Bool := ((d.med.seg id).map fun s => s.slot == n).getD false
  let hit (k : KeyRec) : Bool := k.slot == n || (k.pieces.filterMap Piece.segId).any segSlot
  { d with nss := d.nss.map fun (x : Ns) => { x with keys := modIf x.keys hit fun (k : KeyRec) => { k with revoked := true } } }

/-- An item of segment `id` waits in the HOST stream. -/
def Med.unplaced (m : Med) (id : Nat) : Bool := (m.seg id).any (·.loc.isNone)

/-- An erase of slot `n`: reads of its versions are lost; the values committed under it and not drained lose their plaintext,
and no ciphertext of them is programmed any more (R240). -/
def Drive.markRevoked (d : Drive) (n : Nat) : Drive :=
  let hit (r : JRec) : Bool := r.keySlot == n && r.st == .committed
  let drop := ((d.jrn.recs.filter hit).flatMap fun r => (r.drain.getD []).filterMap (·.id) ++ r.spills.map (·.2.1)).filter d.med.unplaced
  let d := d.onMed fun m => { m with segs := m.segs.filter fun s => !drop.contains s.id }
  let d := d.setWaiting .host ((d.med.waiting .host).filter fun i =>
    match i.obj with | .seg id => !drop.contains id | .page _ => true)
  (d.revokeKeys n).onJrn fun j => { j with
    recs := modIf j.recs hit fun (r : JRec) => { r with
      erased := true, units := r.units.map fun (u : USlot) => { u with data := u.data.map fun _ => (zeros 4096, crc32c (zeros 4096)) }
      spills := r.spills.filter fun y => !drop.contains y.2.1
      drain := r.drain.map fun ds => modIf ds (fun x => x.id.any drop.contains || (!x.asked && !x.done)) fun x => { x with done := true } } }

/-- What an erase does to the requests it ends at once (R175, R240). -/
def Drive.revokedEnds (d : Drive) (e : Env) (xs : List CphEnd) : Drive :=
  xs.foldl (fun d x =>
    let d := d.countEnd x
    match x.req.use with
    | .read job seg => d.readEnd e x job seg
    | .drain rsn s => d.drainEnd e x rsn s
    | .merge rsn s => d.mergeEnd e x rsn s
    | .window p => d.windowEnd p x
    | _ => d) d

/-- The loads that come into force answer their KEY_LOAD (R239). -/
def Drive.loadsDone (d : Drive) (e : Env) (loads : List (Option Nat × Nat)) : Drive :=
  loads.foldl (fun d x =>
    match x.1.bind d.rec? with
    | some r => (d.outcome e r { status := 0, res0 := x.2 }).onRec' r.rsn fun r => { r with keyDone := true, res0 := x.2 }
    | none => d) d

/-- The effect of a KEY_ERASE (R194, R240). -/
def Drive.keyEraseEffect (d : Drive) (e : Env) (r : JRec) : Drive :=
  let n := klSlot r.body
  let queued := (d.cph.queues.flatten.filter fun q => q.slot == n && !q.stale).length
  let (loads, ends, d) := d.eraseSlot e n
  let d := (d.markRevoked n).markCommit n r.csn
  let d := d.loadsDone e loads
  let early := d.jobs.filter fun j => j.keySlot == n && !j.rspSent
  let d := early.foldl (fun d j => d.jobEnd e j 0xA none) (d.revokedEnds e ends)
  let d := d.onRec' r.rsn fun r => { r with keyDone := true, res0 := queued + ends.length }
  d.outcome e r { status := 0, res0 := queued + ends.length }

/-- The effect of a KEY_LOAD (R193, R239): the answer waits until the key is in force. -/
def Drive.keyLoadEffect (d : Drive) (e : Env) (r : JRec) : Drive :=
  let n := klSlot r.body
  let key := ((Config.unwrap (klBlob r.body)).getD []).take 32
  let (now, d) := d.loadSlot n ⟨key, klOwner r.body, BitVec.ofNat 64 (beAt (klBlob r.body) 24 8), some r.rsn, r.csn⟩
  if now then d.loadsDone e [(some r.rsn, (d.kslot n).gen)] else d

/-- Writes of a deleted namespace that have not committed end without effect (R189). -/
def Drive.endWrites (d : Drive) (e : Env) (ns : Nat) : Drive :=
  let xs := d.jrn.recs.filter fun r => r.st == .accepted && r.op.cls == 2 && bodyNs r.body == ns
  xs.foldl (fun d r => d.endRec e r.rsn ⟨0x14, 0⟩) d

/-- The effects of a commit take place, all at once (R161). For a write-through record this moment is its commit (R339), and
COMMIT_MS is of this moment. -/
def Drive.takeEffect (d : Drive) (e : Env) (r : JRec) : Drive :=
  let now := e.clk.optime
  let x := d.effectOn d.nss r now (if r.op.cls = 2 then some r.version else none)
  let d := { d with nss := x.nss }
  let d := d.onRec' r.rsn fun r => { r with effect := true, vmap := x.vmap, res0 := x.res0, growth := 0, commitMs := now }
  let d := if r.op.cls = 2 then
      (d.issued (bodyNs r.body) r.version).onLog fun h => { h with hostBytes := h.hostBytes + r.payload }
    else d
  let d := d.countOps r.ids r.payload
  match r.op with
  | .keyLoad => d.keyLoadEffect e r
  | .keyErase => d.keyEraseEffect e r
  | .nsCreate => (if nscUpdate r.body then d else d.dropUse x.res0).outcome e r { status := 0, res0 := x.res0 }
  | .nsDelete => ((d.endWrites e (bodyNs r.body)).dropUse (bodyNs r.body)).outcome e r { status := 0, res0 := x.res0 }
  | _ => d.outcome e r { status := 0, version := r.version, res0 := x.res0 }

/-- A commit's effect may take place: the record is no write-through record, or its record page, spill segments and commit
page are on flash (R339). What replay commits takes effect at once (R328). -/
def JRec.effectReady (r : JRec) : Bool :=
  !r.wt || r.replayed || (r.pageDone && r.commitPage &&
    (!r.op.paid || (List.range (ceilDiv r.payload 65536)).all fun i => r.spills.any fun x => x.1 == i && x.2.2))

/-- Effects take place in CSN order as far as they may; `fuel` bounds them. -/
def runEffects (e : Env) : Nat → Drive → Drive
  | 0, d => d
  | fuel + 1, d =>
    match d.jrn.pendingEffects with
    | r :: _ => if r.effectReady then runEffects e fuel (d.takeEffect e r) else d
    | [] => d

/-! ### Pages and checkpoints (R257, R278, R279, R312, R320) -/

/-- A copy of a page goes to flash: it gets its identifier, and the engine that will write it encrypts it (R257). -/
def Drive.writePage (d : Drive) (kind : PageKind) (copy : Nat) : Nat × Drive :=
  let id := d.med.nextPage
  let k := match kind with | .index _ => 4 * copy + id % 4 | _ => id % 8
  let p : Page := ⟨id, k, kind, copy, 0, [], none⟩
  let r := CphReq.blank .xtsEnc (4112 + k) kind.size (.page id)
  (id, (d.onMed fun m => { m with pages := m.pages ++ [p], nextPage := id + 1 }).enqueue (16 + k)
    { r with iv := id, src := padTo kind.size (Config.pageBytes id) })

/-- The encryption of a page has ended: the ciphertext waits in the META stream with its store generation; a request that
failed is made again. -/
def Drive.pageEnd (d : Drive) (e : Env) (x : CphEnd) (id : Nat) : Drive :=
  if (d.med.page id).isNone then d
  else if x.code = 0 then
    (d.onMed fun m => { m with
      pages := modIf m.pages (·.id == id) fun (p : Page) => { p with gen := x.req.bound, ct := x.out } }).put e .pages (.new (.page id))
  else d.retryReq x.req

/-- A list cut into runs of `n`; `fuel` bounds them. -/
def chunksOf {α : Type} (n : Nat) : Nat → List α → List (List α)
  | 0, _ => []
  | fuel + 1, l => if l.isEmpty then [] else l.take n :: chunksOf n fuel (l.drop n)

/-- Both copies of index page `num` are on flash. -/
def Med.kept (m : Med) (num : Nat) : Bool :=
  [0, 1].all fun c => m.pages.any fun p => p.kind == .index num && p.copy == c && p.loc.isSome

/-- Pages of a new tree: one whose contents stand already is taken over, any other is written anew (R278: copy-on-write). The
number is the next one to give. -/
def Med.takePages (m : Med) : List IdxPage → Nat → List IdxPage × Nat
  | [], n => ([], n)
  | p :: ps, n =>
    match m.idx.find? fun q => q.ns == p.ns && q.leaf == p.leaf && q.keys == p.keys && q.below == p.below && m.kept q.num with
    | some q => let (qs, k) := m.takePages ps n; (q :: qs, k)
    | none => let (qs, k) := m.takePages ps (n + 1); ({ p with num := n } :: qs, k)

/-- The interior pages above a level, up to the root. -/
def Med.levels (m : Med) (ns : Nat) : Nat → List IdxPage → Nat → List IdxPage × Nat
  | 0, _, n => ([], n)
  | fuel + 1, ps, n =>
    if ps.length ≤ 1 then ([], n)
    else
      let above := (chunksOf (max 2 Config.fanOut) ps.length ps).map fun c => (⟨0, ns, false, [], c.map (·.num), true⟩ : IdxPage)
      let (qs, n) := m.takePages above n
      let (rs, n) := m.levels ns fuel qs n
      (qs ++ rs, n)

/-- The tree of a namespace (R278). -/
def Med.tree (m : Med) (x : Ns) (n : Nat) : List IdxPage × Nat :=
  let leaves := (chunksOf (max 1 Config.leafFill) x.keys.length x.keys).map fun c => (⟨0, x.id, true, c, [], true⟩ : IdxPage)
  let (ls, n) := m.takePages leaves n
  let (is_, n) := m.levels x.id ls.length ls n
  (ls ++ is_, n)

/-- The trees of every namespace. -/
def Med.trees (m : Med) (nss : List Ns) : List IdxPage × Nat :=
  nss.foldl (fun (acc : List IdxPage × Nat) x =>
    let (t, n) := m.tree x acc.2
    (acc.1 ++ t, n)) ([], m.nextIdx)

/-- The commit position that a checkpoint written now covers: every commit up to there has taken effect. -/
def Drive.ckptTop (d : Drive) : Nat :=
  match d.jrn.pendingEffects with
  | r :: _ => r.csn - 1
  | [] => d.jrn.csnLast

/-- Both copies of a checkpoint are written to its two system bands, in groups 8 and 24: one stripe of each present channel
(R272, R279). -/
def Drive.ckptWritten (d : Drive) : Drive :=
  let chs := d.med.present 8 ++ d.med.present 24
  (chs.foldl (fun d ch => (d.bumpWide (Reg.MED_PROGS (engineOf ch)) 1).pay [20 + engineOf ch] 7 1) d)

/-- A checkpoint stands: records it covers are released (R279, R320). -/
def Drive.closeCkpt (d : Drive) (c : Ckpt) : Drive :=
  (d.ckptWritten.onJrn fun j => { j with ckptOld := j.ckpt, ckpt := c, ckptOpen := none }).releaseRecs

/-- A checkpoint begins: the index with every commit whose effect has taken place. It stands once every page that is new in
its trees is on flash in both copies. -/
def Drive.startCkpt (d : Drive) (e : Env) : Drive :=
  if d.jrn.ckptOpen.isSome then d
  else
    let nss := d.nss.map fun n => n.settle e.clk.optime
    let d := { d with nss := nss }
    let (idx, next) := d.med.trees nss
    let fresh := (idx.filter fun p => decide (d.med.nextIdx ≤ p.num)).map (·.num)
    let d := d.onMed fun m => { m with idx := idx, nextIdx := next }
    let (ids, d) := (fresh.flatMap fun n => [(n, 0), (n, 1)]).foldl (fun (acc : List Nat × Drive) x =>
      let (id, d) := acc.2.writePage (.index x.1) x.2
      (acc.1 ++ [id], d)) ([], d)
    let c : Ckpt := ⟨d.ckptTop, e.clk.optime, nss, idx⟩
    if ids.isEmpty then d.closeCkpt c else d.onJrn fun j => { j with ckptOpen := some ⟨c, ids⟩ }

/-- Journal bytes of index changes that no checkpoint covers: the record pairs and the unit slots of their records. -/
def Jrn.uncovered (j : Jrn) : Nat :=
  4096 * (((j.recs.filter fun r => decide (j.ckpt.csn < r.csn)).map fun r => 1 + r.units.length + r.xlist.toList.length).foldl (· + ·) 0)

/-- A checkpoint is due: 75 % of the record pairs are in use (R312), uncovered changes hold 1 GiB (R279), or the way into
write-through has drained every record (R338). -/
def Drive.ckptDue (d : Drive) : Bool :=
  decide (d.jrn.ckpt.csn < d.ckptTop) &&
    (decide (3 * pairTotal ≤ 4 * d.jrn.recs.length) || decide (2 ^ 30 ≤ d.jrn.uncovered) ||
      (d.jrnMode == 1 && (d.jrn.recs.any fun r => !r.wt && r.st == .drained && decide (d.jrn.ckpt.csn < r.csn)) &&
        !(d.jrn.recs.any fun r => !r.wt && r.st == .committed)))

/-- A checkpoint that is due begins. -/
def Drive.ckptGo (d : Drive) (e : Env) : Drive := if d.isOn 10 && d.pwr.readReady && d.ckptDue then d.startCkpt e else d

/-- CHECKPOINT. -/
def checkpointOp (e : Env) (d : Drive) : Drive := if !d.isOn 10 || !d.pwr.readReady then d else d.startCkpt e

/-- Page copy `id` is on flash: the checkpoint that waits for it may stand; a record page and a commit page serve their
records (R339). -/
def Drive.pageOnFlash (d : Drive) (e : Env) (id : Nat) : Drive :=
  match (d.med.page id).map Page.kind with
  | some (.index _) =>
    match d.jrn.ckptOpen with
    | some c =>
      let wait := c.wait.filter (· != id)
      if wait.isEmpty && !c.wait.isEmpty then (d.closeCkpt c.ckpt).ckptGo e
      else d.onJrn fun j => { j with ckptOpen := some { c with wait := wait } }
    | none => d
  | some (.record rsn) => d.onRec' rsn fun r => { r with pageDone := true }
  | some (.commit csn) => d.onJrn fun j => { j with
      recs := modIf j.recs (fun r => r.wt && r.st == .committed && decide (r.csn ≤ csn)) fun (r : JRec) => { r with commitPage := true } }
  | none => d

/-- Effects that may take place do. -/
def Drive.effects (d : Drive) (e : Env) : Drive := (runEffects e d.jrn.recs.length d).settleRecs.ckptGo e

/-- The whole payload of a record is in the journal (R161, R316): every unit in its slot, or in a spill segment on flash,
and, while its flow lives, every copy confirmed. -/
def Drive.complete (d : Drive) (r : JRec) : Bool :=
  let unit (i : Nat) : Bool :=
    (r.units.any fun u => u.unit == i && u.data.isSome) || r.spills.any fun x => x.1 == i / 16 && x.2.2
  (List.range (ceilDiv r.payload 4096)).all unit &&
    (r.settled || match (d.flowAt r.slot r.inc).bind (·.cmd? r.cmdSeq) with
      | some c => c.confirmed
      | none => true)

/-- The place of a record of which the whole payload has come, among those of which it has (R163). -/
def Drive.markFull (d : Drive) (rsn : Nat) : Drive :=
  match d.rec? rsn with
  | some r =>
    if r.full = 0 && d.complete r then
      let n := d.jrn.fullNext
      (d.onRec' rsn fun r => { r with full := n }).onJrn fun j => { j with fullNext := n + 1 }
    else d
  | none => d

/-- A record without ORDERED was ready earlier and has not committed or ended (R163, R315). -/
def Drive.earlierFull (d : Drive) (r : JRec) : Bool :=
  !r.ordered && d.jrn.recs.any fun x =>
    x.st == .accepted && !x.ordered && decide (0 < x.full) && decide (x.full < r.full)

/-- A complete record commits, or ends where R162 fails (R315). -/
def Drive.commitNow (d : Drive) (e : Env) (r : JRec) : Drive :=
  let now := e.clk.optime
  let nss := d.projected now
  let j := d.reevaluate e nss r
  if j.status ≠ 0 then ((d.bump Reg.JRN_ENDED 1).endRec e r.rsn j).settleRecs
  else
    let x := d.effectOn nss r now none
    let d := d.onJrn fun j => { j with csnLast := j.csnLast + 1 }
    let d := (d.bumpWide Reg.JRN_COMMITS 1).onRec' r.rsn fun r => { r with
      st := .committed, csn := d.jrn.csnLast, version := x.version, commitMs := now, vmap := x.vmap }
    d.effects e

/-- COMMIT: a record that is ready commits, in the order in which records became ready (R161, R163, R315). -/
def Drive.commit (d : Drive) (e : Env) (rsn : Nat) : Drive :=
  match d.rec? rsn with
  | none => d
  | some r =>
    if r.st ≠ .accepted || !d.complete r || d.jrn.flush.isSome || !d.pwr.readReady || d.earlierFull r ||
        (r.ordered && !d.orderOk r.slot r.inc r.cmdSeq r.op (cmdNs r.op r.body)) then d
    else d.commitNow e r

/-- A command is accepted (R159, R311): its record is written; its payload's first grant follows, or, without a payload, its
commit. -/
def Drive.accept (d : Drive) (e : Env) (h : HeldCmd) (f : Flow) (v : Verdict) (growth : Nat) : Drive :=
  let r := d.newRec e h f v growth
  let d := d.onJrn fun j => { j with recs := j.recs ++ [r], rsnNext := j.rsnNext + 1 }
  let d := d.onFcmd h.slot h.cmd.hdr.seq fun c => { c with rsn := some r.rsn, passed := true }
  let d := if r.spill then d.bump Reg.JRN_SPILLS 1 else d
  let d := if r.wt then (d.writePage (.record r.rsn) 0).2 else d
  let d := (if h.op.paid then d.nearCheck e r.keySlot else d).ckptGo e
  if r.payload = 0 then (d.markFull r.rsn).commit e r.rsn
  else d.grantMore e h.slot h.cmd.hdr.seq true

/-- A command that has passed step 11 is accepted, or held for a record pair (R312), its segments reserved (R235). -/
def Drive.acceptOrHold (d : Drive) (e : Env) (h : HeldCmd) (f : Flow) (v : Verdict) (growth : Nat) : Drive :=
  if pairTotal ≤ d.jrn.recs.length ∨ !d.jrn.heldAccept.isEmpty then
    let r := d.newRec e h f v growth
    let d := d.onJrn fun j => { j with heldAccept := j.heldAccept ++ [{ h with v := some v, rsv := (r.keySlot, r.rsvLeft) }] }
    (if h.op.paid then d.nearCheck e r.keySlot else d).bump Reg.JRN_ACCEPT_WAITS 1
  else d.accept e h f v growth

/-! ### Leaf pages (R279, R280) -/

/-- The leaf page in whose range a key falls. -/
def Med.leafFor (m : Med) (ns : Nat) (key : List Byte) : Option IdxPage :=
  let ls := m.idx.filter fun p => p.leaf && p.ns == ns
  match (ls.filter fun p => !bytesLt key ((p.keys.head?.map (·.key)).getD [])).getLast? with
  | some p => some p
  | none => ls.head?

/-- The leaf pages that a keyed command or a LIST reads. -/
def Med.leavesOf (m : Med) (op : Op) (b : List Byte) : List IdxPage :=
  if op.keyed then (m.leafFor (bodyNs b) (bodyKey b)).toList
  else if op = .list then
    let pre := slice b 16 (beAt b 2 2)
    let from_ := slice b (16 + beAt b 2 2) (beAt b 4 2)
    m.idx.filter fun p => p.leaf && p.ns == bodyNs b && p.keys.any fun k => k.key.take pre.length == pre && !bytesLt k.key from_
  else []

/-- Those of them that DRAM does not hold. -/
def Med.leavesMissing (m : Med) (op : Op) (b : List Byte) : List IdxPage := (m.leavesOf op b).filter fun p => !p.here

/-- DRAM holds index page `num`. -/
def Drive.pageHere (d : Drive) (num : Nat) : Drive :=
  d.onMed fun m => { m with idx := modIf m.idx (·.num == num) fun (p : IdxPage) => { p with here := true } }

/-- A leaf page is lost in both copies (R280): what it holds of its namespace is removed, under one version; reads that wait
for it end with MEDIA_UNREADABLE. -/
def Drive.leafLost (d : Drive) (e : Env) (p : IdxPage) : Drive :=
  let now := e.clk.optime
  let needs (h : HeldCmd) : Bool :=
    (h.op == .get || h.op == .getRange || h.op == .list) && (d.med.leavesOf h.op h.cmd.body).any (·.num == p.num)
  let ended := d.med.heldLeaf.filter needs
  let d := d.onMed fun m => { m with idx := m.idx.filter fun q => !(q.num == p.num), heldLeaf := m.heldLeaf.filter fun h => !needs h }
  let next := ((nsOf (d.projected now) p.ns).map Ns.nextVersion).getD 0
  let d := match nsOf d.nss p.ns with
    | none => d
    | some n =>
      let inPage (k : KeyRec) : Bool := p.keys.any fun x => x.key == k.key && x.version == k.version
      let gone := n.keys.filter inPage
      if gone.isEmpty then d
      else
        let m := n.settle now
        let d := { d with nss := onNsOf d.nss p.ns fun _ => { m with keys := n.keys.filter (fun k => !inPage k), version := next } }
        let vs := gone.map (·.version)
        let d := (d.issued p.ns next).event e 0x705 p.ns gone.length (vs.foldl min (vs.headD 0)) (vs.foldl max 0)
        d.onLog fun h => { h with lostKeys := h.lostKeys + gone.length }
  ended.foldl (fun d h => (d.countEnd' h.op (bodyNs h.cmd.body) 0xF 0).answer e h.slot h.inc h.cmd.hdr.seq { status := 0xF }) d

/-- Index page `num` is needed: a copy of it is read; with no copy left a leaf page is lost, and an interior page is rebuilt
from the pages below it (R280). -/
def Drive.loadPage (d : Drive) (e : Env) (num : Nat) : Drive :=
  match d.med.idx.find? (·.num == num) with
  | none => d
  | some x =>
    let busy := d.med.reads.any (fun r => r.use == .load num) ||
      (d.cph.queues.flatten ++ d.cph.running).any fun r => match r.use with | .load n _ => n == num | _ => false
    if x.here || busy then d
    else match d.med.pages.find? fun p => p.kind == .index num && p.loc.isSome with
      | some p => d.startRead (.load num) (.page p.id) false
      | none => if x.leaf then d.leafLost e x else d.pageHere num

/-- The media read of a page copy has ended: a good one is decrypted under the store generation kept with it (R257). -/
def Drive.pageRead (d : Drive) (e : Env) (rd : Rd) (num : Nat) (good : Bool) : Drive :=
  match rd.obj, good with
  | .page id, true =>
    match d.med.page id with
    | some p =>
      let r := CphReq.blank .xtsDec (4112 + p.k) p.kind.size (.load num id)
      d.enqueue (16 + p.k) { r with gen := p.gen, iv := p.id, src := p.ct }
    | none => d.loadPage e num
  | _, _ => d.loadPage e num

/-- The decryption of index page `num` has ended. -/
def Drive.loadEnd (d : Drive) (x : CphEnd) (num : Nat) : Drive := if x.code = 0 then d.pageHere num else d.retryReq x.req

/-! ### Write-through (R338 to R341) -/

/-- A write of JRN_CTL: CKPT_NOW starts a checkpoint; WT_REQ asks for write-through or ends the request. -/
def jrnCtlW (was : Bool) (v : Word) (e : Env) (d : Drive) : Drive :=
  let d := if bit v 1 then checkpointOp e d else d
  let is_ := d.flag Reg.JRN_CTL 0
  if is_ && !was then d.enterWt
  else if !is_ && was then d.wtExit e
  else d

/-- WT_SAFE: no record accepted before the change of mode is held (R338). -/
def wtSafeOp (_ : Env) (d : Drive) : Drive :=
  if d.jrnMode = 1 && !(d.jrn.recs.any fun r => !r.wt) then
    (((d.setMode 2).poke Reg.JRN_STAT 3 3 1).setInt pgJrn 1).swapIsolate
  else d

/-- WT_COMMIT_PAGE: a commit page with the commits that wait goes out (R339). -/
def wtCommitPageOp (_ : Env) (d : Drive) : Drive :=
  let xs := d.jrn.recs.filter fun r => r.wt && r.st == .committed && !r.effect && !r.commitPage
  let top := (xs.map (·.csn)).foldl max 0
  if xs.isEmpty || d.med.pages.any (fun p => p.kind == .commit top) then d else (d.writePage (.commit top) 0).2

/-- WT_COMMIT_EFFECT: the effects whose pages are on flash take place, in CSN order (R339). -/
def wtCommitEffectOp (e : Env) (d : Drive) : Drive := d.effects e

/-! ### The record window (R343, R344) -/

/-- Code of a record state. -/
def RecState.code : RecState → Nat
  | .accepted => 1
  | .committed => 2
  | .ended => 3
  | .drained => 4

/-- Bytes 0 to 127 of a record entry (R309). -/
def JRec.bytes (r : JRec) : List Byte :=
  let flags := b2n r.spill + 2 * b2n r.wt + 4 * b2n r.replayed + 8 * b2n r.settled + 16 * b2n r.finished
  let a := leBytes 8 r.rsn ++ leBytes 4 r.flow.toNat ++ leBytes 4 r.tag.toNat ++ leBytes 4 r.cmdSeq.toNat ++
    leBytes 2 r.op.code ++ leBytes 2 r.cflags.toNat ++ leBytes 8 r.payload ++ leBytes 8 r.opq.toNat ++
    leBytes 2 r.tenant.toNat ++ leBytes 2 r.keySlot ++ leBytes 2 r.quota ++ leBytes 1 r.qos ++ leBytes 1 0 ++
    leBytes 4 (ceilDiv r.payload 4096) ++ leBytes 4 r.body.length
  let b := leBytes 8 r.csn ++ leBytes 8 r.version ++ leBytes 2 r.status ++ leBytes 2 0 ++ leBytes 4 r.pcycle ++
    leBytes 8 (r.optime % 2 ^ 48) ++ leBytes 8 r.rsvLeft ++ leBytes 4 (r.xlist.getD 0xFFFFFFFF) ++
    leBytes 8 (r.commitMs % 2 ^ 48) ++ zeros 8
  leBytes 4 0x4A524543 ++ leBytes 2 1 ++ leBytes 1 r.st.code ++ leBytes 1 flags ++ a ++ b ++
    leBytes 4 (crc32c (a ++ r.body)).toNat

/-- A write of JRN_REC_SEL on path `p` latches bytes 0 to 127 of the record pair; a FREE pair reads 0. -/
def jrnRecSelW (p : Path) (_ : Env) (d : Drive) : Drive :=
  let n := d.fld (pk p Reg.JRN_REC_SEL) 17 0
  let bs := match d.jrn.recs.find? (·.pair == n) with
    | some r => r.bytes
    | none => zeros 128
  d.setRegs (pk p (Reg.JRN_REC 0)) (leWords bs)

end Sys2Proof.Machine
end

