-- ==== Sys2Proof/Machine/Drain.lean ====
section
/-! DEFINITION. Bringing records to flash (R16, R17, R250 to R252, R283 to R286, R316 to R321): drains and spills through the
cipher engine and the HOST stream, what ends of cipher requests and programmed stripes mean for records and reads, and
the abandoned units of R17 and the DRAM errors of R321. -/

namespace Sys2Proof.Machine

/-! ### Drains and spills begin -/

/-- A record's drain may begin (R318). -/
def Drive.mayDrain (d : Drive) (r : JRec) : Bool :=
  r.st == .committed && r.effect && r.payload != 0 && r.drain.isNone && d.clear r

/-- Drains of class `q` begun in this round. -/
def Drive.drainsOf (d : Drive) (q : Nat) : Nat := (d.jrn.served[q]?).getD 0

/-- Every class with a record to drain has had its share of the round: q + 1 for class q (R318). -/
def Drive.drainRound (d : Drive) : Bool :=
  (List.range 8).all fun q => !(d.jrn.recs.any fun r => r.qos == q && d.mayDrain r) || decide (q + 1 ≤ d.drainsOf q)

/-- A drain of class `q` counts in the round. -/
def Drive.serveDrain (d : Drive) (q : Nat) : Drive :=
  let fresh := d.drainRound
  d.onJrn fun j => { j with served := modAt (if fresh then List.replicate 8 0 else j.served) q (· + 1) }

/-- The credit a drain needs: urgent collection that waits takes its own before it, but not on the way into write-through
(R287, R318, R338). -/
def Drive.drainCost (d : Drive) : Nat := cost 5 + (if d.gcDue && d.jrnMode != 1 then cost 8 else 0)

/-- The next pass of a record's drain: the segments of which a unit was abandoned are asked for again (R17). -/
def Drive.drainAgain (d : Drive) (e : Env) (r : JRec) (ds : List DrainSeg) : Drive :=
  let again := (ds.filter fun x => x.gone && !r.givenUp x.index).map fun x => { x with gone := false }
  let d := again.foldl (fun d x => d.onDrain r.rsn x.index fun _ => x) d
  ((again.foldl (Drive.fetchOld r.rsn) d).drainGo e r.rsn)

/-- JOURNAL_DRAIN (R17, R318): a committed record's drain begins, in the round robin of its class; old contents and spill
segments are read first. On a record whose drain has begun it is the next pass. -/
def journalDrainOp (rsn : Nat) (e : Env) (d : Drive) : Drive :=
  match d.rec? rsn with
  | none => d
  | some r =>
    if r.st ≠ .committed || !d.isOn 10 || !d.affords [15] d.drainCost then d
    else match r.drain with
      | some ds => d.drainAgain e r ds
      | none =>
        if !d.mayDrain r || !(d.drainRound || decide (d.drainsOf r.qos < r.qos + 1)) then d
        else
          let segs := r.drainSegs.map r.drainSeg
          let d := ((d.serveDrain r.qos).takeXlist r).onRec' rsn fun r => { r with drain := some segs }
          (segs.foldl (Drive.fetchOld rsn) d).drainGo e rsn

/-- SPILL_SEGMENT (R316, R339): a run of 16 units of a spilling write, or its final shorter run, is encrypted. -/
def spillSegmentOp (rsn run : Nat) (_ : Env) (d : Drive) : Drive :=
  match d.rec? rsn with
  | none => d
  | some r =>
    let total := ceilDiv r.payload 4096
    let n := min 16 (total - 16 * run)
    let have_ (i : Nat) : Bool := r.units.any fun u => u.unit == 16 * run + i && u.data.isSome
    if !r.spill || total ≤ 16 * run || r.spills.any (·.1 == run) || r.erased || r.drain.isSome ||
        !(List.range n).all have_ || (r.st ≠ .accepted && r.st ≠ .committed) || !d.isOn 10 then d
    else
      let d := (d.takeXlist r).onRec' rsn fun r => { r with spills := r.spills ++ [(run, 0, false)] }
      d.askEnc r r.qos 0 (0x80000000 + run) (.drain rsn (0x80000000 + run)) (r.payUnits (16 * run) n)

/-! ### Ends of cipher requests (R248, R256) -/

/-- The ends of cipher requests take effect. -/
def Drive.cphEnds (d : Drive) (e : Env) (xs : List CphEnd) : Drive :=
  xs.foldl (fun d x =>
    let d := d.countEnd x
    match x.req.use with
    | .drain rsn s => d.drainEnd e x rsn s
    | .read job seg => d.readEnd e x job seg
    | .merge rsn s => d.mergeEnd e x rsn s
    | .page id => d.pageEnd e x id
    | .load num _ => d.loadEnd x num
    | .auth => d
    | .window p => d.windowEnd p x) d

/-- CPH_DEQUEUE (R245, R247). The queues of the drive's own drains and pages wait for the ledger's credit (R388). -/
def cphDequeueOp (q : Nat) (e : Env) (d : Drive) : Drive :=
  let own := decide (q < 8) || (d.pwr.readReady && decide (16 ≤ q) && decide (q < 27))
  let c := if 16 ≤ q ∧ q < 24 then cost 6 else cost 5
  if own && !d.affords [15] c then d
  else
    let n := d.cph.running.length
    let (xs, d) := d.dequeue e q
    let d := if n < d.cph.running.length then
        (if q < 16 ∨ q = 24 ∨ q = 25 then d.pay [15] 5 1 else if q < 28 then d.pay [15] 6 1 else d) else d
    d.cphEnds e xs

/-- Unit `u` of a request has failed its check once more (R17). -/
def CphReq.failed (r : CphReq) (u : Nat) : CphReq :=
  { r with fails := some (u, match r.fails with | some (v, n) => if v = u then n + 1 else 1 | none => 1) }

/-- The first unit of a decrypted or plain segment that does not agree with its CRC. -/
def badUnit (us : List GUnit) : Nat := ((us.zipIdx.find? fun u => crc32c u.1.1 != u.1.2).map (·.2)).getD 0

/-- What a running request gives: computed, or with the code that the engine found. -/
def Drive.endOf (d : Drive) (r : CphReq) (code : Option Nat) : CphEnd :=
  match code with
  | some c => r.ends c
  | none =>
    let x := d.compute r
    if x.code = 0x41 then (r.failed (badUnit (plainUnits r.src))).ends 0x41 else x

/-- A running request ends (R248): computed, or, where the engine or the tag check fails, with that code. -/
def Drive.complete' (d : Drive) (e : Env) (id : Nat) (code : Option Nat) : Drive :=
  if !d.isOn 15 then d
  else
    match d.unrun id with
    | (none, _) => d
    | (some r, d) => d.cphEnds e [d.endOf r code]

/-- A unit of a request fails `n` checks in a row between the cipher engine and the media engine (R16): counted on its leg; the
answer says whether it is abandoned (R17), and what follows then. -/
def Drive.mediaLeg (d : Drive) (e : Env) (r : CphReq) (u n : Nat) : Bool × Drive :=
  let dead := decide (d.resendMax ≤ n)
  let k := min n d.resendMax
  match r.use with
  | .drain rsn s =>
    let d := d.bump Reg.FAB_GUARD_DRAIN k
    (dead, match dead, d.rec? rsn with | true, some x => (d.unrun r.id).2.drainAbandon e x s u | _, _ => d)
  | .merge rsn s =>
    let d := d.bump Reg.FAB_GUARD_EGRESS k
    (dead, match dead, d.rec? rsn with | true, some x => (d.unrun r.id).2.drainAbandon e x s u | _, _ => d)
  | .read job seg =>
    let d := d.bump Reg.FAB_GUARD_EGRESS k
    (dead, if dead then (d.unrun r.id).2.readAbandon e job seg u else d)
  | _ => (false, d)

/-- CPH_COMPLETION. `fault` is the unit that fails the engine's own check (R256), `media` a unit that fails its check on the leg
to or from the media engine, and how often in a row; what the engine refuses to encrypt reaches no media engine. -/
def cphCompletionOp (id : Nat) (fault : Option Nat) (media : Option (Nat × Nat)) (e : Env) (d : Drive) : Drive :=
  match d.cph.running.find? (·.id == id), d.isOn 15 with
  | some r, true =>
    let leg := if r.op.encrypts && fault.isSome then none else media
    let (dead, d) := match leg with | some (u, n) => d.mediaLeg e r u n | none => (false, d)
    if dead then d
    else match fault with
      | some u => (d.unrun id).2.cphEnds e [(r.failed u).ends 0x41]
      | none => d.complete' e id none
  | _, _ => d

/-- TAG_FAILURE: the segment a running GCM_DEC decrypts fails its tag (R254). -/
def tagFailureOp (id : Nat) (e : Env) (d : Drive) : Drive :=
  match d.cph.running.find? (·.id == id) with
  | some r => if r.op = .gcmDec then d.complete' e id (some 9) else d
  | none => d

/-- REKEY_IN_FORCE: the last request bound to a slot's retiring generation has finished (R239). -/
def rekeyInForceOp (slot : Nat) (e : Env) (d : Drive) : Drive :=
  let (x, ends, d) := d.rekeyed e slot
  let d := match x with
    | some (rsn, gen) => d.loadsDone e [(rsn, gen)]
    | none => d
  d.cphEnds e ends

/-- A write of CPH_DSLOT_CMD with what it ends (R264). -/
def dslotW (p : Path) (v : Word) (e : Env) (d : Drive) : Drive :=
  let (xs, d) := dslotCmdW p v e d
  d.cphEnds e xs

/-! ### Programmed stripes (R270, R316, R319) -/

/-- The bytes that `r`'s value had from byte `lo` to `hi − 1` now lie in segment `id`, everywhere the value or a version
made from it is described (R252). -/
def Drive.relocate (d : Drive) (r : JRec) (lo hi id : Nat) : Drive :=
  let ns := bodyNs r.body
  let key := bodyKey r.body
  let inKey (k : KeyRec) : KeyRec := if k.key == key then { k with pieces := remap r.vmap lo hi id k.pieces } else k
  let inNs (n : Ns) : Ns := if n.id == ns then { n with keys := n.keys.map inKey } else n
  let inRec (x : JRec) : JRec :=
    if x.op.cls == 2 && bodyNs x.body == ns && bodyKey x.body == key then { x with vmap := remap r.vmap lo hi id x.vmap } else x
  { d with
    nss := d.nss.map inNs
    jrn := { d.jrn with
      recs := d.jrn.recs.map inRec, ckpt := { d.jrn.ckpt with nss := d.jrn.ckpt.nss.map inNs }
      ckptOld := { d.jrn.ckptOld with nss := d.jrn.ckptOld.nss.map inNs }
      ckptOpen := d.jrn.ckptOpen.map fun c => { c with ckpt := { c.ckpt with nss := c.ckpt.nss.map inNs } } } }

/-- A spill segment is on flash: its unit slots are freed (R316). -/
def Drive.spillOnFlash (d : Drive) (r : JRec) (run id : Nat) : Drive :=
  let lo := r.payAt + 65536 * run
  let d := if r.st = .committed then d.relocate r lo (min (lo + 65536) (r.payAt + r.payload)) id else d
  d.onRec' r.rsn fun r => { r with
    spills := modIf r.spills (·.1 == run) fun y => (y.1, y.2.1, true)
    units := r.units.filter fun u => !(u.unit / 16 == run) }

/-- A new segment is on flash. -/
def Drive.segOnFlash (d : Drive) (id : Nat) : Drive :=
  match d.jrn.recs.find? fun r => (r.drain.getD []).any (·.id == some id) || r.spills.any (·.2.1 == id) with
  | none => d
  | some r =>
    match (r.drain.getD []).find? (·.id == some id) with
    | some x =>
      (d.onDrain r.rsn x.index fun x => { x with done := true }).relocate r (65536 * x.index) (65536 * x.index + 65536) id
    | none =>
      match r.spills.find? fun y => y.2.1 == id && !y.2.2 with
      | some y => d.spillOnFlash r y.1 id
      | none => d

/-- What the items of a programmed stripe mean. -/
def Drive.onFlash (d : Drive) (e : Env) (is_ : List Item) : Drive :=
  is_.foldl (fun d i =>
    match i with
    | .new (.seg id) => d.segOnFlash id
    | .new (.page id) => d.pageOnFlash e id
    | .move _ _ => d) d

/-- The ledger lets the next stripe of a band be programmed and read back (R388, R390). What a start-up writes before read-ready
is no work of a drain. -/
def Drive.stripeAfforded (d : Drive) (b : Band) : Bool :=
  (b.stream == .pages && !d.pwr.readReady) || d.affords (halfDoms b.group) (b.blocks.length * (cost 7 + 12 * cost 8))

/-- STRIPE_PROGRAM_DONE: the next stripe of the open band whose turn it is in its stream is programmed and read back, or has
failed on a channel (R270, R275, R291). -/
def stripeProgramDoneOp (band : Nat) (failed : Option Nat) (e : Env) (d : Drive) : Drive :=
  match d.med.band band with
  | none => d
  | some b =>
    if !d.halfOn b.group || !d.mayProgram e b.stream || d.turn e b.stream != some band ||
        (b.stream == .wl && !d.wlAllowed e b.group) || !d.stripeAfforded b then d
    else
      match failed with
      | none => let (is_, d) := d.stripeDone e b; d.onFlash e is_
      | some ch => if b.blocks.any (·.1 == ch) then d.stripeFailed e b ch else d

/-- The system-area block that held a superseded key-store image is erased (R228, R300). DESIGN CHOICE: it is block 1 of the die
at position 0 of channel 0 (assumption log). -/
def Drive.eraseImage (d : Drive) (e : Env) : Drive :=
  match d.med.serving 0 0 with
  | some x => if d.medOn 0 then (d.issueErase 0).erased e 0 x.p 1 else d
  | none => d

/-- RECORD_DRAINED: every segment of a record's drain is on flash, or, for a key command, the image holds its effect. -/
def recordDrainedOp (rsn : Nat) (e : Env) (d : Drive) : Drive :=
  match d.rec? rsn with
  | none => d
  | some r =>
    let done := match r.drain with
      | some ds => ds.all (·.done)
      | none => r.op.cls == 5 && r.keyDone
    if r.st = .committed && r.effect && done then
      let d := if r.op.cls = 5 then d.eraseImage e else d
      (d.markDrained rsn).settleRecs.ckptGo e
    else d

/-! ### Media reads -/

/-- Media reads all of whose units are resolved hand on what they gave. What a move read waits in its stream, unless it is no
longer in use; a unit that could not be read moves as its mark (R289). -/
def Drive.readsDone (d : Drive) (e : Env) : Drive :=
  let settled (u : UnitRd) : Bool := u == .good || u == .bad
  let fin := d.med.reads.filter fun rd => rd.units.all settled
  let d := d.onMed fun m => { m with reads := m.reads.filter fun rd => !(rd.units.all settled) }
  let d := fin.foldl (fun d rd =>
    let good := rd.units.all (· == .good)
    match rd.use with
    | .job job seg => d.jobRead e job seg good
    | .merge rsn seg => d.mergeRead e rd rsn seg good
    | .spill rsn seg => d.mergeRead e rd rsn seg good
    | .move src s => if good && d.live.contains rd.obj then d.put e s (.move rd.obj src) else d
    | .load num => d.pageRead e rd num good) d
  if fin.isEmpty then d else d.finishMoves e

/-- A unit of a media read is read at a rung; what the whole read gives goes on. -/
def Drive.readRow (d : Drive) (e : Env) (t : RdTarget) (rung : Nat) (res : ReadRes) (peers : List Nat) : Drive :=
  (d.readUnit e t.rd t.unit rung res peers).readsDone e

/-- MEDIA_READ (R281, R348): a rung 0 read. -/
def mediaReadOp (t : RdTarget) (r : ReadRes) (e : Env) (d : Drive) : Drive := d.readRow e t 0 r []

/-- READ_RETRY_RUNG (R280, R281): a re-read at a higher rung. -/
def readRetryRungOp (t : RdTarget) (rung : Nat) (r : ReadRes) (peers : List Nat) (e : Env) (d : Drive) : Drive :=
  if rung = 0 then d else d.readRow e t rung r peers

/-! ### Abandoned units (R17) -/

/-- Requests of segment `s` of record `rsn`'s drain, and its ciphertext that is not on flash, are given up. -/
def Drive.dropDrain (d : Drive) (rsn s : Nat) : Drive :=
  let mine (q : CphReq) : Bool := q.use == .drain rsn s || q.use == .merge rsn s
  let id := (d.rec? rsn).bind fun r => if 0x80000000 ≤ s then (r.spills.find? fun y => y.1 == s - 0x80000000 && !y.2.2).map (·.2.1)
    else ((r.drain.getD []).find? (·.index == s)).bind (·.id)
  let d := d.onCph fun c => { c with
    queues := c.queues.map fun q => q.filter fun r => !mine r, aside := c.aside.filter fun r => !mine r
    running := c.running.filter fun r => !mine r }
  match id with
  | some id =>
    let d := d.onMed fun m => { m with segs := m.segs.filter fun x => !(x.id == id && x.loc.isNone) }
    (d.setWaiting .host ((d.med.waiting .host).filter fun i => i.obj != .seg id)).onDrain rsn s fun x => { x with id := none }
  | none => d

/-- Failed checks of unit `u` that its request has counted already. -/
def Drive.counted (d : Drive) (mine : CphReq → Bool) (u : Nat) : Nat :=
  (((d.cph.queues.flatten ++ d.cph.running).find? mine).bind fun r =>
    r.fails.bind fun f => if f.1 = u then some f.2 else none).getD 0

/-- A unit of a record's drain or spill, in segment `s`, has failed RESEND_MAX times in a row. -/
def Drive.giveupDrain (d : Drive) (e : Env) (r : JRec) (s u : Nat) : Drive :=
  let seen := d.counted (fun q => q.use == .drain r.rsn s) u
  ((d.bump Reg.FAB_GUARD_DRAIN (d.resendMax - seen)).dropDrain r.rsn s).drainAbandon e r s u

/-- A command whose block is abandoned on its way into the journal ends with ABORTED_FAULT (R17). -/
def Drive.ingressAbandon (d : Drive) (e : Env) (rsn unit : Nat) : Drive :=
  match d.rec? rsn with
  | some r =>
    if r.st ≠ .accepted then d
    else
      let d := (d.bump Reg.FAB_GUARD_GIVEUP 1).event e 0x400 0 r.flow.toNat r.tag.toNat unit
      (d.endRec e rsn ⟨0x11, 0⟩).settleRecs
  | none => d

/-- GUARD_GIVEUP: a unit has failed one leg RESEND_MAX times in a row: the failures not counted yet count on their leg, and the
unit is abandoned (R17). `id` is a record's RSN and `unit` its payload block, or on the egress leg a read job and the response
block. -/
def guardGiveupOp (leg : Leg) (id unit : Nat) (e : Env) (d : Drive) : Drive :=
  match leg with
  | .ingress =>
    match d.rec? id with
    | some r => if r.st ≠ .accepted then d else (d.bump Reg.FAB_GUARD_INGRESS d.resendMax).ingressAbandon e id unit
    | none => d
  | .drain =>
    match d.rec? id with
    | some r =>
      let s := r.segAt unit
      let run := unit / 16
      if (r.drain.getD []).any fun x => x.index == s && x.asked && !x.done then
        d.giveupDrain e r s (unit + r.payAt / 4096 - 16 * s)
      else if r.spills.any fun y => y.1 == run && !y.2.2 then d.giveupDrain e r (0x80000000 + run) (unit % 16)
      else d
    | none => d
  | .egress =>
    match d.job? id with
    | some j => ((d.bump Reg.FAB_GUARD_EGRESS d.resendMax).readGiveup e j unit).jobEnd e j 0xF none
    | none => d

/-- DRAIN_GIVEN_UP: a unit has been abandoned on eight drain passes in a row: its segment is not written, and is marked
unreadable (R17, R284). -/
def drainGivenUpOp (rsn unit : Nat) (e : Env) (d : Drive) : Drive :=
  match d.rec? rsn with
  | some r =>
    let s := r.segAt unit
    if r.st ≠ .committed || !(r.passes.any fun p => p.1 == unit && decide (8 ≤ p.2)) ||
        ((r.drain.getD []).all fun x => !(x.index == s) || x.done) then d
    else
      let d := d.event e 0x400 3 r.flow.toNat r.tag.toNat unit
      (d.countUnreadable e 0 (bodyNs r.body) r.version s).loseSeg r s
  | none => d

/-! ### DRAM errors in the journal (R308, R321) -/

/-- Value bytes whose record is gone lie nowhere any more: reads of them end as those of an unreadable segment. -/
def Drive.dropPay (d : Drive) : Drive :=
  let id := d.med.nextSeg
  let fix (p : Piece) : Piece :=
    match p.src with
    | .pay rsn o => if d.jrn.recs.any (·.rsn == rsn) then p else ⟨p.len, .seg id o⟩
    | _ => p
  let d := d.onMed fun m => { m with nextSeg := id + 1 }
  { d with nss := d.nss.map fun (n : Ns) => { n with keys := n.keys.map fun (k : KeyRec) => { k with pieces := k.pieces.map fix } } }

/-- A lost acknowledged record (R321, R325): it is counted, and an entry it has says so; the index stands as it is. -/
def Drive.recLost (d : Drive) (e : Env) (r : JRec) : Drive :=
  let n := (d.reg Reg.JRN_RPL_LOST).toNat
  let lo := if n = 0 then r.csn else min r.csn (d.wide Reg.JRN_RPL_LOST_FIRST)
  let hi := if n = 0 then r.csn else max r.csn (d.wide Reg.JRN_RPL_LOST_LAST)
  let d := ((d.bump Reg.JRN_RPL_LOST 1).setWide Reg.JRN_RPL_LOST_FIRST lo).setWide Reg.JRN_RPL_LOST_LAST hi
  let d := ((d.errCnt pgJrn).setInt pgJrn 3).event e 0x801 1 r.csn r.csn 0
  let told (x : Entry48) : Bool := x.flow == r.flow && x.tag == r.tag
  (d.onJrn fun j => { j with
    recs := j.recs.filter fun x => !(x.rsn == r.rsn), lostAny := true
    report := modIf j.report told fun x => { x with status := 0x10, final := 0xF } }).dropPay

/-- A unit slot with an uncorrectable error (R321): a command not acknowledged yet ends; of an acknowledged one the segments that
take bytes from the unit are marked, each loss counted (R167, R284). -/
def Drive.unitUe (d : Drive) (e : Env) (slot : Nat) : Drive :=
  match d.jrn.recs.find? fun r => r.units.any (·.num == slot) with
  | none => d
  | some r =>
    match r.pending, r.st, r.units.find? (·.num == slot) with
    | true, _, some u =>
      let d := (d.bump Reg.FAB_GUARD_GIVEUP 1).event e 0x400 0 r.flow.toNat r.tag.toNat u.unit
      (d.endRec e r.rsn ⟨0x11, 0⟩).settleRecs
    | _, .committed, some u =>
      let lo := r.payAt + 4096 * u.unit
      let first := lo / 65536
      let segs := (List.range ((lo + 4095) / 65536 - first + 1)).map (first + ·)
      segs.foldl (fun d s => (d.countUnreadable e 0 (bodyNs r.body) r.version s).loseSeg r s) d
    | _, _, _ => d

/-- An area of the journal region (R308). -/
inductive JArea where
  | control
  | report (i : Nat)
  | record (pair : Nat)
  | unit (n : Nat)
  deriving DecidableEq, Repr

/-- The area of byte `a` of the journal region, by the offsets of R308; the unit slot tags belong to the control area. -/
def areaOf (a : Nat) : JArea :=
  if a < 65536 then .control
  else if a < 65536 + 48 * 131072 then .report ((a - 65536) / 48)
  else if a < 64 * 2 ^ 20 then .control
  else if a < 576 * 2 ^ 20 then .record ((a - 64 * 2 ^ 20) / 2048)
  else if a < 1088 * 2 ^ 20 then .record ((a - 576 * 2 ^ 20) / 2048)
  else .unit ((a - 1088 * 2 ^ 20) / 4096)

/-- The area as the event names it. -/
def JArea.code : JArea → Nat
  | .record _ => 1
  | .unit _ => 2
  | _ => 0

/-- An uncorrectable error that JRN or the patrol finds at byte `a` of the journal region (R321); `both` says that both copies of
a record have one. -/
def Drive.journalUe (d : Drive) (e : Env) (a : Nat) (both : Bool) : Drive :=
  let d := ((d.bumpOpen Reg.JRN_DRAM_UE 1).errCnt pgJrn).setInt pgJrn 4
  let d := d.event e 0x800 (a / 2 ^ 32) (a % 2 ^ 32) (areaOf a).code 0
  match areaOf a with
  | .control => d
  | .report i =>
    if i < d.jrn.report.length then
      ((d.onJrn fun j => { j with report := j.report.eraseIdx i }).bump Reg.JRN_RPT_DROPPED 1).setInt pgJrn 5
    else d
  | .record pair =>
    match both, d.jrn.recs.find? (·.pair == pair) with
    | true, some r =>
      if r.pending then
        let d := (d.bump Reg.FAB_GUARD_GIVEUP 1).event e 0x400 0 r.flow.toNat r.tag.toNat 0
        (d.endRec e r.rsn ⟨0x11, 0⟩).settleRecs
      else if r.st = .ended then d
      else (d.recLost e r).settleRecs
    | _, _ => d
  | .unit n => d.unitUe e n

/-- JOURNAL_DRAM_UE: an uncorrectable DRAM error in the journal region, found on an access (R321, R345); `ce` errors have been
corrected on accesses since the last one. -/
def journalDramUeOp (addr : BitVec 36) (both : Bool) (ce : Nat) (e : Env) (d : Drive) : Drive :=
  let a := addr.toNat
  if !d.isOn 10 then d
  else
    let d := d.bumpOpen Reg.DRM_CE ce
    let d := ((((d.bumpOpen Reg.DRM_UE 1).setWide Reg.DRM_UE_ADDR a).errCnt pgDrm).setInt pgDrm 0)
    if a < 2 ^ 33 then d.journalUe e a both else d

/-- DRAM_PATROL_UE: the DRAM patrol finds an uncorrectable error, after correcting and writing back `ce` others (R226). An
error in the journal region is handled as one found on an access; `shadow` is the match shadow line that the address lies in. -/
def dramPatrolUeOp (addr : BitVec 36) (both : Bool) (shadow : Option (BitVec 2 × Nat)) (ce : Nat) (e : Env) (d : Drive) :
    Drive :=
  let a := addr.toNat
  if !d.isOn 28 then d
  else
    let d := ((d.bumpOpen Reg.SCB_DRM_CE ce).bumpOpen Reg.SCB_DRM_UE 1).setWide Reg.SCB_DRM_UE_ADDR a
    let d := ((d.setInt pgScb 2).errCnt pgScb).event e 0x503 (a / 2 ^ 32) (a % 2 ^ 32) 0 0
    if a < 2 ^ 33 then d.journalUe e a both
    else match shadow with
      | some (n, i) => d.onMch fun m => { m with shadowUe := (m.shadowUe.filter (· != (n.toNat, i))) ++ [(n.toNat, i)] }
      | none => d

end Sys2Proof.Machine
end

