-- ==== Sys2Proof/Machine/Settle.lean ====
section
/-! DEFINITION. How a flow ends (R115 to R118, R140, R333): its commands are settled, its command slots released, its
subscriptions ended, and its journaled commands are entered in the replay report. -/

namespace Sys2Proof.Machine

/-- The command of a flow waits without a record: at acceptance, before its snapshot point, or for a segment. -/
def HeldCmd.ofFlow (h : HeldCmd) (f : Flow) : Bool := h.slot == f.slot && h.inc == f.inc

/-- A command with a record is settled (R118, R333). -/
def Drive.settleRec (d : Drive) (e : Env) (c : FlowCmd) (r : JRec) : Drive :=
  let d := d.onRec' r.rsn fun r => { r with settled := true }
  match r.st with
  | .accepted => if c.arrived then d.markFull r.rsn else d.endRec e r.rsn ⟨0x15, 0⟩
  | .ended => d.reportRec e r.rsn r.status r.status 0
  | _ => if r.effect && (r.op.cls != 5 || r.keyDone) then d.reportRec e r.rsn 0 0 r.version else d

/-- A read whose flow has ended ends without a response. -/
def Drive.dropJobs (d : Drive) (e : Env) (f : Flow) : Drive :=
  (d.jobs.filter fun j => j.slot == f.slot && j.inc == f.inc).foldl (fun d j => d.jobEnd e j 0x15 none) d

/-- The commands of flow `f` are settled (R118). The flow has left its slot's live states already. -/
def Drive.settleFlow (d : Drive) (e : Env) (f : Flow) : Drive :=
  let d := f.cmds.foldl (fun d c =>
    match c.rsn.bind d.rec? with
    | some r => if r.finished then d else d.settleRec e c r
    | none => d) d
  let keep (l : List HeldCmd) : List HeldCmd := l.filter fun h => !h.ofFlow f
  let d := d.onJrn fun j => { j with
    heldAccept := keep j.heldAccept, heldOrd := keep j.heldOrd
    flushes := j.flushes.filter fun x => !(x.slot == f.slot && x.inc == f.inc) }
  let d := (d.onMch fun m => { m with heldCmds := keep m.heldCmds }).onMed fun m => { m with heldLeaf := keep m.heldLeaf }
  (d.dropJobs e f).settleRecs

/-- What a flow keeps in TOMB. -/
def Flow.entomb (f : Flow) (closed : Bool) : Flow :=
  { f with st := .tomb, cmds := [], msgs := [], subs := [], notices := [], gap := [], ackDue := false, closed := closed }

/-- A flow is reset (R115, R117): for the drive's causes it says so once. -/
def Drive.resetFlow (d : Drive) (e : Env) (slot : Nat) (cause : Option Nat) : Drive :=
  match d.flow? slot with
  | none => d
  | some f =>
    if !f.live then d
    else
      let d := match cause with
        | some c => d.flowSend slot 6 0 0 0
            (beBytes 2 0x15 ++ beBytes 1 c ++ beBytes 1 0 ++ beBytes 4 f.rxNext.toNat ++ beBytes 4 f.txNext.toNat)
        | none => d
      let d := d.onFlow slot fun f => f.entomb false
      let d := ((d.settleFlow e f).bump Reg.XPT_FLOW_RESETS 1).setInt pgXpt 0
      let d := if cause = some 1 then d.errCnt pgXpt else d
      d.credits

/-- The incarnations once every slot is freed: each freed slot has its next one (R108). -/
def Xpt.freed (x : Xpt) : List (Nat × Nat) :=
  x.flows.map (fun f => (f.slot, (f.inc + 1) % 65536)) ++ x.incs.filter fun y => !(x.flows.any fun f => f.slot == y.1)

/-- Every flow ends without a RESET, as XPORT leaves ON (R140) or the grace of Fawn entry ends (R396). -/
def Drive.endFlows (d : Drive) (e : Env) : Drive :=
  let fs := d.xpt.flows.filter Flow.live
  let d := d.onXpt fun x => { x with flows := [], incs := x.freed, waiters := [], saving := none }
  fs.foldl (fun d f => d.settleFlow e f) { d with mch := { d.mch with heldOpens := [] } }

/-- XPORT comes ON: every slot is FREE with the incarnation the clock gives (R108). -/
def Drive.xportUp (d : Drive) (e : Env) : Drive :=
  d.onXpt fun x => { x with
    flows := [], incBase := e.clk.optime % 65536, incs := [], waiters := [], saving := none
    resets := [⟨0, 0⟩, ⟨0, 0⟩], probes := [⟨0, 0⟩, ⟨0, 0⟩] }

/-- Every open flow is reset with cause 0x05 (R141). -/
def Drive.killAll (d : Drive) (e : Env) : Drive :=
  (d.xpt.flows.filter Flow.live).foldl (fun d f => d.resetFlow e f.slot (some 5)) d

/-- A write of XPT_FLOW_KILL (R144). -/
def xptKillW (v : Word) (e : Env) (d : Drive) : Drive :=
  if bits v 31 24 = 0xA5 then d.resetFlow e (bits v 15 0) (some 4) else d

end Sys2Proof.Machine
end

