-- ==== Sys2Proof/Machine/Domains.lean ====
section
/-! DEFINITION. The power domains (R21 to R28, R399 to R402): what each needs, its enable and disable requests, its shutdown,
and what each block does when its domain comes ON or leaves it. The sequences that switch many domains are in
Sequencer.lean. -/

namespace Sys2Proof.Machine

/-! ### Needs (R22, R23) -/

/-- The domains that `k` needs, in the order they come ON. -/
def needsOf (k : Nat) : List Nat :=
  if k = 0 then []
  else if k = 5 ∨ k = 29 ∨ k = 10 then [0, 3]
  else if (6 ≤ k ∧ k ≤ 9) ∨ (11 ≤ k ∧ k ≤ 19) then [0, 3, 10]
  else if 20 ≤ k ∧ k ≤ 28 then [0, 3, 10, 11]
  else [0]

/-- What comes ON beside `k`: SCRUB, with what it needs, beside a MATCH domain (R216). -/
def besides (k : Nat) : List Nat := if 16 ≤ k ∧ k ≤ 19 then needsOf 28 ++ [28] else []

/-- The domains in an order in which each stands behind those it needs. -/
def pdOrder : List Nat := [0, 1, 2, 3, 4, 10, 11] ++ [5, 6, 7, 8, 9] ++ (List.range 18).map (12 + ·)

/-- The domains that need `k`. -/
def dependents (k : Nat) : List Nat := pdOrder.filter fun j => (needsOf j).contains k

/-- Domains that can go to RETAIN: the clusters and DRAM. -/
def canRetain (k : Nat) : Bool := decide (6 ≤ k) && decide (k ≤ 9) || k == 11

/-- Change the record of domain `k`. -/
def Drive.onPd (d : Drive) (k : Nat) (g : Pd → Pd) : Drive :=
  { d with pwr := { d.pwr with pds := modAt d.pwr.pds k g } }

/-- The record of domain `k`. -/
def Drive.pd (d : Drive) (k : Nat) : Pd := (d.pwr.pds[k]?).getD (Pd.at .off)

/-- The sequencer starts the clocks that `k` needs, which lock where the 100 MHz reference is valid (R28, R29). -/
def Drive.startClocks (d : Drive) (k : Nat) : Drive :=
  { d with pwr := { d.pwr with
    clks := if d.pwr.refOk then d.pwr.clks ++ (clocksOf k).filter fun c => !d.pwr.clks.contains c else d.pwr.clks } }

/-- Every clock that `k` needs runs and is locked. -/
def Drive.clocked (d : Drive) (k : Nat) : Bool := (clocksOf k).all d.pwr.clks.contains

/-- The clocks that `k` needs run, or start and lock at once (R28, R29). -/
def Drive.clockable (d : Drive) (k : Nat) : Bool := (d.startClocks k).clocked k

/-- A domain that needs the clock is ON or DRAINING, or, for the crystal and the AON PLL, AON is ON (R27). -/
def Drive.clockWanted (d : Drive) (c : ClkId) : Bool :=
  match c with
  | .crystal => d.isOn 0
  | .aon => d.isOn 0
  | _ => pdOrder.any fun j => d.isUp j && (clocksOf j).contains c

/-- A clock stops when the last domain that needs it reaches RETAIN or OFF (R28). -/
def Drive.stopClocks (d : Drive) : Drive :=
  { d with pwr := { d.pwr with clks := d.pwr.clks.filter d.clockWanted } }

/-- The domain changes its state, the clocks with it (R28; R405: PD_CHANGE). -/
def Drive.setPd (d : Drive) (k : Nat) (st : PdState) : Drive :=
  if d.pdSt k = st then d
  else ((if st = .on then d.startClocks k else d).onPd k fun x => { x with st := st }).stopClocks.setInt pgAon 1

/-- AON_PD_FORCE_OFF holds the domain (R402). -/
def Drive.forcedOff (d : Drive) (k : Nat) : Bool := d.flag Reg.AON_PD_FORCE_OFF k

/-! ### Coming ON and leaving ON -/

/-- What the block does when its domain comes ON from OFF, its registers at their reset and saved values. -/
def Drive.blockUp (d : Drive) (e : Env) (k : Nat) : Drive :=
  if k = 4 then d.tryClose
  else if k = 5 then d.ctlUp
  else if k = 12 ∨ k = 13 then d.macUp e (k - 12)
  else if k = 14 then d.xportUp e
  else if k = 15 then d.cipherUp e
  else if 16 ≤ k ∧ k ≤ 19 then d.matchUp (k - 16)
  else d

/-- A domain comes ON, from OFF or from RETAIN. -/
def Drive.pdOn (d : Drive) (e : Env) (k : Nat) : Drive :=
  let cold := d.pdSt k != .retain
  let d := (d.onPd k fun x => { x with pend := false, want := false, held := false }).setPd k .on
  let d := if cold then (d.resetDom k).blockUp e k else d
  let d := if k = 29 then d.event e 0x102 1 0 0 0 else d
  d.lateInts k

/-- What leaving ON does at once: links drop (R68), flows end (R140), the pack switch opens (R500), and the end of a debug
session is recorded (R26). -/
def Drive.leaveOn (d : Drive) (e : Env) (k : Nat) : Drive :=
  if k = 12 ∨ k = 13 then d.linkDrop (k - 12)
  else if k = 14 then d.endFlows e
  else if k = 4 then d.openSwitch e
  else if k = 29 then d.event e 0x103 1 0 0 0
  else d

/-- Power is removed, or retention begins: an OFF domain's registers and logic are lost (R21). -/
def Drive.pdDown (d : Drive) (k : Nat) (retain : Bool) : Drive :=
  let d := (d.onPd k fun x => { x with pend := false, held := false }).setPd k (if retain then .retain else .off)
  let d := if k = 11 ∧ retain then (d.poke Reg.DRM_STAT 8 8 1).bumpOpen Reg.DRM_SR_ENTRIES 1 else d
  if retain then d
  else
    let d := if k = 15 then d.cipherLost else d
    d.resetDom k

/-- What a shutdown saves (R234, R368, R400). -/
def Drive.shutdownSave (d : Drive) (e : Env) (k : Nat) : Drive :=
  if k = 15 then
    let d := d.cph.running.foldl (fun d r => (d.unrun r.id).2.cphEnds e [d.compute r]) d
    d.cipherSaved
  else if k = 5 then thStateSaveOp e d
  else d

/-! ### Requests (R399) -/

/-- The domains that go OFF at time 0 of a loss and stay so (R322, R401). -/
def lossDoms : List Nat := [12, 13, 14, 16, 17, 18, 19, 28, 29, 7, 8, 9]

/-- The sequencer may bring `k` to ON: its supplies are there, its clocks run or lock, nothing holds it in reset (R24, R28,
R29, R492), and no flush runs without it (R401). AON comes ON with a power-on reset alone, and RECORD stands with AON. -/
def Drive.mayStart' (d : Drive) (k : Nat) : Bool :=
  k != 0 && (k == 2 ||
    (((d.pwr.v12 && d.pwr.aux) || (d.jrn.flush.isSome && !lossDoms.contains k)) && !d.forcedOff k && !d.pwr.resetHold && d.clockable k))

/-- An enable request reaches domain `k`, every domain it needs having been asked before it. -/
def Drive.enable1 (d : Drive) (e : Env) (k : Nat) : Drive :=
  match d.pdSt k with
  | .on => d
  | .draining => d.onPd k fun x => { x with pend := true }
  | _ =>
    if d.mayStart' k && (needsOf k).all d.isOn then d.pdOn e k
    else if d.forcedOff k || k == 0 then d
    else d.onPd k fun x => { x with want := true }

/-- The drive enables domain `k`, and first the domains it needs (R23, R399). -/
def Drive.enable (d : Drive) (e : Env) (k : Nat) : Drive :=
  if d.forcedOff k then d else (needsOf k ++ [k] ++ besides k).foldl (fun d j => d.enable1 e j) d

/-- Enables that wait go on as far as they may. -/
def Drive.runWants (d : Drive) (e : Env) : Drive :=
  pdOrder.foldl (fun d k => if (d.pd k).want then d.enable1 e k else d) d

/-- The shutdown of an ON domain begins. -/
def Drive.beginDown (d : Drive) (e : Env) (k : Nat) (retain : Bool) : Drive :=
  let d := d.leaveOn e k
  let t : PdState := if retain then .retain else .off
  (d.onPd k fun x => { x with held := false, want := false, pend := false, target := t }).setPd k .draining

/-- A domain that needs `k` is ON or DRAINING; SCRUB is kept ON for any MATCH domain (R216). -/
def Drive.needed (d : Drive) (k : Nat) : Bool := (dependents k).any d.isUp || (k == 28 && [16, 17, 18, 19].any d.isUp)

/-- A disable request reaches domain `k` (R23, R399): DRAM goes to RETAIN where OFF would break R23. -/
def Drive.disable (d : Drive) (e : Env) (k : Nat) (retain : Bool) : Drive :=
  let retain := retain && canRetain k
  match d.pdSt k with
  | .on =>
    if !d.needed k then d.beginDown e k retain
    else if k = 11 then d.beginDown e k true
    else d.onPd k fun x => { x with held := true, target := if retain then .retain else .off }
  | .draining => d.onPd k fun x => { x with pend := false }
  | _ => d

/-- Disables that R23 held begin once it allows them. -/
def Drive.runHeldDown (d : Drive) (e : Env) : Drive :=
  pdOrder.foldr (fun k d => if (d.pd k).held && !d.needed k then d.beginDown e k ((d.pd k).target == .retain) else d) d

/-- DOMAIN_ENABLE: the drive's work asks for a domain. AON and RECORD are always ON. -/
def domainEnableOp (k : Nat) (e : Env) (d : Drive) : Drive := if 30 ≤ k then d else d.enable e k

/-- DOMAIN_DISABLE. AON and RECORD stay ON while aux is there (R24); a flush overrides every request (R401). -/
def domainDisableOp (k : Nat) (retain : Bool) (e : Env) (d : Drive) : Drive :=
  if k = 0 ∨ k = 2 ∨ 30 ≤ k ∨ d.jrn.flush.isSome then d else d.disable e k retain

/-- A shutdown ends (R399): the target state, or, with PENDING_ON, power-up as from OFF. -/
def Drive.shutdownDone (d : Drive) (e : Env) (k : Nat) : Drive :=
  if d.pdSt k ≠ .draining then d
  else
    let x := d.pd k
    let d := (d.shutdownSave e k).pdDown k (x.target == .retain && !x.pend)
    let d := if x.pend then d.enable e k else d
    (d.runHeldDown e).runWants e

/-- A write of AON_PD_FORCE_OFF with its former value (R402): newly held domains are disabled, freed ones may come ON as the
drive's work asks. -/
def pdForceOffW (was : Nat) (e : Env) (d : Drive) : Drive :=
  let now := (d.reg Reg.AON_PD_FORCE_OFF).toNat
  [7, 8, 9, 12, 13].foldl (fun d k =>
    if bitN now k && !bitN was k then (d.onPd k fun x => { x with want := false }).disable e k false
    else if bitN was k && !bitN now k then d.enable e k
    else d) d

/-! ### Power states (R394 to R396) -/

/-- NRG_STAT.PSTATE changes (R403). -/
def Drive.setPs (d : Drive) (p : PState) : Drive :=
  if d.pwr.ps = p then d
  else
    let code (x : PState) : Nat := match x with | .idle => 1 | .fawnEntry => 2 | .fawn => 2 | .waking => 3 | _ => 0
    let was := d.pwr.ps
    let d := { d with pwr := { d.pwr with ps := p } }
    if code was = code p then d else d.setInt pgNrg 7

/-- The drive leaves IDLE: the clusters and MEDIA domains are wanted again (R395). -/
def Drive.leaveIdle (d : Drive) (e : Env) : Drive :=
  if d.pwr.ps = .idle then
    ([7, 8, 9] ++ (List.range 8).map (20 + ·)).foldl (fun d k => d.enable e k) (d.setPs .active)
  else d

end Sys2Proof.Machine
end

