-- ==== Sys2Proof/Machine/Flush.lean ====
section
/-! DEFINITION. The power-loss flush and replay (R322 to R331, R526, R529): time 0, the flush band, the image a flush or a
preserved DRAM leaves, and what replay makes of it. The supplies and resets that start them are in Sequencer.lean. -/

namespace Sys2Proof.Machine

/-- Change the power record. -/
def Drive.onPwr (d : Drive) (g : Pwr → Pwr) : Drive := { d with pwr := g d.pwr }

/-- AON writes T_L (R391). -/
def Drive.markTl (d : Drive) (e : Env) : Drive :=
  d.onPwr fun p => { p with tl := e.clk.optime, growAt := e.clk.optime }

/-- AON_RST_CAUSE.UNCLEAN follows what is left to replay (R33). -/
def Drive.setUnclean (d : Drive) (b : Bool) : Drive := d.poke Reg.AON_RST_CAUSE 16 16 (b2n b)
def Drive.unclean (d : Drive) : Bool := d.flag Reg.AON_RST_CAUSE 16

/-! ### Replay (R327 to R330) -/

/-- Value bytes of a record's own payload, as its commit or later drains describe them. -/
def JRec.ownRuns (r : JRec) : List Piece :=
  match r.op with
  | .putRange => subRuns r.vmap (bodyArg0 r.body) (unitLen r.payload)
  | _ => r.vmap

/-- A KEY_LOAD is applied again, at most once (R243). -/
def Drive.replayLoad (d : Drive) (e : Env) (r : JRec) : Drive :=
  let n := klSlot r.body
  if r.csn ≤ (d.kimage n).commit then d
  else
    let key := ((Config.unwrap (klBlob r.body)).getD []).take 32
    let (now, d) := d.loadSlot n ⟨key, klOwner r.body, BitVec.ofNat 64 (beAt (klBlob r.body) 24 8), none, r.csn⟩
    (if now then d else (d.rekeyed e n).2.2).markCommit n r.csn

/-- A KEY_ERASE is applied again (R240, R243). -/
def Drive.replayErase (d : Drive) (e : Env) (r : JRec) : Drive :=
  let n := klSlot r.body
  let d := if r.csn ≤ (d.kimage n).commit then d else (d.eraseSlot e n).2.2.markCommit n r.csn
  d.revokeKeys n

/-- What the effect of a record counts where it had not taken place before: the accounting counters, the health log, and the
counters that begin and end with a namespace (R188, R189, R211, R302). -/
def Drive.countEffect (d : Drive) (r : JRec) (res0 : Nat) : Drive :=
  if r.effect then d
  else
    let d := d.countOps r.ids r.payload
    match r.op with
    | .nsCreate => if nscUpdate r.body then d else d.dropUse res0
    | .nsDelete => d.dropUse (bodyNs r.body)
    | op => if op.cls = 2 then d.onLog fun h => { h with hostBytes := h.hostBytes + r.payload } else d

/-- A committed record is applied with its recorded version (R328, step 3). -/
def Drive.applyRec (d : Drive) (e : Env) (r : JRec) : Drive :=
  let x := d.effectOn d.nss r r.commitMs none
  let d := match r.op with
    | .keyLoad => d.replayLoad e r
    | .keyErase => d.replayErase e r
    | .nsCreate => { d with nss := x.nss }
    | .nsDelete => { d with nss := x.nss }
    | _ => ({ d with nss := (commitWrite d.nss r r.commitMs (some r.version) r.ownRuns).nss }).issued (bodyNs r.body) r.version
  (d.countEffect r x.res0).onRec' r.rsn fun r => { r with effect := true, keyDone := true }

/-- Committed records above the checkpoint, in CSN order. -/
def Drive.toApply (d : Drive) : List JRec :=
  let l := d.jrn.recs.filter fun r => (r.st == .committed || r.st == .drained) && decide (d.jrn.ckpt.csn < r.csn)
  l.mergeSort fun a b => decide (a.csn ≤ b.csn)

/-- The index as its checkpoint holds it (R279): the newer one where `newer` says that a copy of it is readable. No page is in
DRAM yet; version counters stay above every version issued (R150). -/
def Drive.loadCkpt (d : Drive) (newer : Bool) : Drive :=
  let c := if newer then d.jrn.ckpt else d.jrn.ckptOld
  let d := d.onJrn fun j => { j with ckpt := c, ckptOpen := none }
  let d := d.onMed fun m => { m with idx := c.idx.map fun (p : IdxPage) => { p with here := false } }
  { d with nss := c.nss.map fun (n : Ns) => { n with version := max n.version (d.verOf n.id).last, skip := (d.verOf n.id).skip } }

/-- Every interior page is read (R279). -/
def Drive.loadInterior (d : Drive) (e : Env) : Drive :=
  (d.med.idx.filter fun p => !p.leaf && !p.here).foldl (fun d p => d.loadPage e p.num) d

/-- BYTE_MS is integrated to T_L and grows again from where R529 says. -/
def Drive.growBytes (d : Drive) : Drive :=
  { d with nss := d.nss.map fun (n : Ns) => { n.settle d.pwr.tl with byteAt := d.pwr.growAt } }

/-- Steps 1 to 3 of R328. -/
def Drive.rebuildIndex (d : Drive) (e : Env) (newer : Bool) : Drive :=
  let d := d.loadCkpt newer
  (d.toApply.foldl (fun d r => d.applyRec e r) d).growBytes.dropPay

/-- After a replay that counts a lost record, the next version of each namespace is its VER_RES, and a new reservation is
written (R150). -/
def Drive.skipVersions (d : Drive) : Drive :=
  let ids := (d.nss.map (·.id) ++ d.vers.map (·.id)).eraseDups
  { d with
    nss := d.nss.map fun (n : Ns) => { n with skip := (d.verOf n.id).res }
    vers := ids.map fun id => ⟨id, (d.verOf id).last, (d.verOf id).res + 2 ^ 24, (d.verOf id).res⟩ }

/-- Records commit one after another where their payload is complete. -/
def Drive.commitAll (d : Drive) (e : Env) (l : List JRec) : Drive :=
  l.foldl (fun d x => match d.rec? x.rsn with
    | some r => if r.st == .accepted && d.complete r then d.commitNow e r else d
    | none => d) d

/-- ACCEPTED records in ascending RSN. -/
def Jrn.byRsn (j : Jrn) : List JRec := (j.recs.filter fun r => r.st == .accepted).mergeSort fun a b => decide (a.rsn ≤ b.rsn)

/-- Complete ACCEPTED records commit in ascending RSN (R328, step 4). -/
def Drive.commitComplete (d : Drive) (e : Env) : Drive := d.commitAll e d.jrn.byRsn

/-- `r` has ORDERED and waits for `x`, an earlier command of its flow (R163). -/
def JRec.waitsFor (r x : JRec) : Bool :=
  r.ordered && x.slot == r.slot && x.inc == r.inc && seqLt x.cmdSeq r.cmdSeq &&
    (decide (4 ≤ r.op.cls) || cmdNs x.op x.body == cmdNs r.op r.body)

/-- Complete records in the order in which they are ready: as their payloads completed, one with ORDERED behind those it waits
for. `fuel` bounds them. -/
def readyOrder : Nat → List JRec → List JRec
  | 0, _ => []
  | fuel + 1, l =>
    match (l.find? fun r => !(l.any r.waitsFor)).or l.head? with
    | some r => r :: readyOrder fuel (l.filter fun x => !(x.rsn == r.rsn))
    | none => []

/-- Complete ACCEPTED records commit in the order in which they became ready (R315, R322). -/
def Drive.commitReady (d : Drive) (e : Env) : Drive :=
  let d := d.jrn.byRsn.foldl (fun d r => d.markFull r.rsn) d
  let l := (d.jrn.byRsn.filter fun r => decide (0 < r.full)).mergeSort fun a b => decide (a.full ≤ b.full)
  d.commitAll e (readyOrder l.length l)

/-- The entry replay writes for a record (R330); `had` says that one written at time 0 for an ended command stands. -/
def Drive.replayEntry (d : Drive) (e : Env) (r : JRec) (had : Bool) : Drive :=
  let put (st fin v : Nat) : Drive := d.reportPut { r.entry e st fin v with pcycle := r.pcycle }
  if r.finished then d
  else match r.st with
    | .accepted => put 0x15 0x15 0
    | .ended => if had then d else put 0x10 r.status 0
    | _ => put 0x10 0 r.version

/-- Records lost are counted and reported (R325, R341); with `more`, beside those R321 counted since the last replay. -/
def Drive.countLost (d : Drive) (e : Env) (more : Bool) (lost : Option (Nat × Nat × Nat)) (blank : Bool) : Drive :=
  let put (n lo hi : Nat) : Drive :=
    ((d.setReg Reg.JRN_RPL_LOST (word n)).setWide Reg.JRN_RPL_LOST_FIRST lo).setWide Reg.JRN_RPL_LOST_LAST hi
  if blank then
    ((put 0xFFFFFFFF (d.jrn.ckpt.csn + 1) (2 ^ 64 - 1)).setInt pgJrn 3).event e 0x801 0xFFFFFFFF (d.jrn.ckpt.csn + 1) 0xFFFFFFFF 0
  else match lost with
    | some (lo, hi, n) =>
      let d := if more then put ((d.reg Reg.JRN_RPL_LOST).toNat + n) (min lo (d.wide Reg.JRN_RPL_LOST_FIRST))
          (max hi (d.wide Reg.JRN_RPL_LOST_LAST)) else put n lo hi
      ((d.bump (errCntA pgJrn) n).setInt pgJrn 3).event e 0x801 n lo hi 0
    | none => if more then d else put 0 0 0

/-- The records that replay read are marked: their outcomes are settled, and what it commits takes effect at once. -/
def Drive.replayBegin (d : Drive) (flash : Bool) : Drive :=
  d.onJrn fun j => { j with
    recs := j.recs.map fun (r : JRec) => { r with
      settled := true, reported := true, replayed := r.st != .ended, drain := if flash then r.drain else none
      spills := r.spills.filter (·.2.2) } }

/-- What replay leaves of a record (R328, steps 4 and 5): an ACCEPTED one is discarded. -/
def JRec.replayEnd (r : JRec) : JRec :=
  match r.st with
  | .accepted => { r with
      st := .ended, status := 0x15, units := [], xlist := none, spills := [], growth := 0, rsvLeft := 0, replayed := false }
  | .ended => { r with replayed := false }
  | _ => r

/-- Discarded writes count in their namespaces (R190, R191). -/
def Drive.countDiscarded (d : Drive) : Drive :=
  (d.jrn.recs.filter fun r => r.st == .accepted && r.op.cls == 2).foldl (fun d r => d.countEnd' r.op (bodyNs r.body) 0x15 0) d

/-- Replay (R328): from the flush image, or from DRAM. The records lost and what is known of them come with the image. -/
def Drive.replay (d : Drive) (e : Env) (newer : Bool) : Drive :=
  let im := if d.jrn.fromDram then none else d.jrn.image
  let flash := im.isSome
  let d := match im with
    | some x => d.onJrn fun j => { j with recs := x.recs, report := x.report }
    | none => d
  let sealed := (im.map (·.sealed)).getD true
  let lost := (im.map (·.lost)).getD none
  let blank := (im.map (·.blank)).getD false
  let d := d.onJrn fun j => { j with exposed := none, replayAt := e.clk.optime }
  let d := ((d.setReg Reg.JRN_STAT 0x30).setReg Reg.JRN_RPL_KIND (if flash then 2 else 1)).setReg Reg.JRN_RPL_PCYCLE (word e.clk.pcycle)
  let d := if flash then (d.poke Reg.JRN_STAT 6 6 (b2n !sealed)).countLost e d.jrn.lostAny lost blank
    else d.countLost e d.jrn.lostAny none false
  let anyLost := d.jrn.lostAny || blank || lost.isSome
  let had := (d.jrn.recs.filter fun r => r.st == .ended && r.reported).map (·.rsn)
  let was := (d.jrn.recs.filter fun r => r.st == .committed || r.st == .drained).length
  let d := (d.replayBegin flash).loadCkpt newer
  let n := d.toApply.length
  let d := d.rebuildIndex e true
  let d := if anyLost then d.skipVersions else d
  let d := if flash then d else d.commitComplete e
  let gone := (d.jrn.recs.filter fun r => r.st == .accepted).length
  let d := d.jrn.recs.foldl (fun d r => d.replayEntry e r (had.contains r.rsn)) d.countDiscarded
  let committed := (d.jrn.recs.filter fun r => r.st == .committed || r.st == .drained).length
  let d := (d.setReg Reg.JRN_RPL_APPLIED (word (n + (committed - was)))).setReg Reg.JRN_RPL_DISCARDED (word gone)
  let d := d.onJrn fun j => { j with recs := j.recs.map JRec.replayEnd, lostAny := false }
  ((d.startCkpt e).loadInterior e).settleRecs

/-! ### The flush bands (R272, R331) -/

/-- The flush bands are erased. -/
def Drive.eraseFlushed (d : Drive) (e : Env) : Drive :=
  let bands := d.med.bands.filter fun b => b.st == .flush
  let d := (bands.flatMap (·.blocks)).foldl (fun d x =>
    ((d.bump (Reg.MED_ERASES (engineOf x.1)) 1).pay [20 + engineOf x.1] 9 1).erased e x.1 x.2.1 x.2.2) d
  let gone (s : Seg) : Bool := match s.loc with | some (b, _, _) => bands.any (·.id == b) | none => false
  d.onMed fun m => { m with bands := m.bands.filter fun b => b.st != .flush, segs := m.segs.filter fun s => !gone s }

/-- Live segments that lie in a flush band are moved, as ciphertext, through the GC stream (R289, R331). -/
def Drive.moveFlushed (d : Drive) : Drive :=
  (d.med.bands.filter fun b => b.st == .flush).foldl
    (fun d b => (d.liveIn b.id).foldl (fun d o => d.startRead (.move b.id .gc) o false) d) d

/-- A start without a replay loads the index (R34); a report that a flush without records held comes back with it, and what the
flush wrote is erased. -/
def Drive.loadIndex (d : Drive) (e : Env) (newer : Bool) : Drive :=
  let d := match d.jrn.image with
    | some x => d.onJrn fun j => { j with report := x.report, image := none }
    | none => d
  let d := if d.jrn.exposed.isSome then d.onJrn fun j => { j with exposed := none } else d
  (((d.eraseFlushed e).rebuildIndex e newer).startCkpt e).loadInterior e

/-- Where the flush writes next: band, bytes of data in a stripe, stripe and offset. -/
structure FlushAt where
  band : Nat
  cap : Nat
  w : Nat
  off : Nat
  deriving DecidableEq, Repr

/-- The flush takes the next of its bands: block 0 of each present die of the first group whose own is not written. DESIGN
CHOICE (assumption log). -/
def Drive.flushOpen (d : Drive) : FlushAt × Drive :=
  let g := ((List.range 32).find? fun g => !(d.med.bands.any fun b => b.st == .flush && b.group == g)).getD 31
  let bs := (d.med.present g).filterMap fun ch => (d.med.serving ch (g % 16)).map fun x => (ch, x.p, 0)
  let b : Band :=
    { id := d.med.nextBand, group := g, stream := .pages, st := .flush, blocks := bs, left := [], stripes := 0
      closedNo := 0, queued := 0, retireAfter := [], rebuilt := false }
  (⟨b.id, diePage * (bs.length - 1), 0, 0⟩,
   (d.onMed fun m => { m with bands := m.bands ++ [b], nextBand := m.nextBand + 1 }).unclean' bs)

/-- The stripe that the flush writes is programmed. -/
def Drive.flushStripe (d : Drive) (a : FlushAt) : Drive :=
  match d.med.band a.band with
  | some b => (d.countStripe b).onBand b.id fun b => { b with stripes := a.w + 1 }
  | none => d

/-- Room for `n` bytes: in the stripe, in the next one, or in the next band behind 1,024 stripes. -/
def Drive.flushRoom (d : Drive) (a : FlushAt) (n : Nat) : FlushAt × Drive :=
  if a.off + n ≤ a.cap then (a, d)
  else
    let d := d.flushStripe a
    if a.w < 1023 then ({ a with w := a.w + 1, off := 0 }, d) else d.flushOpen

/-- A page is encrypted under the store slot of engine `k` (R257, R323). -/
def Drive.storePage (d : Drive) (e : Env) (k : Nat) : Drive :=
  let id := d.cph.nextId
  let page := d.med.nextPage
  let d := (d.onCph fun c => { c with nextId := id + 1 }).onMed fun m => { m with nextPage := page + 1 }
  let q := CphReq.blank .xtsEnc (4112 + k) 4096 .auth
  let d := (d.bind e { q with id := id, iv := page, src := padTo 4096 (Config.pageBytes page) }).2
  match d.unrun id with
  | (some q, d) => d.countEnd (d.compute q)
  | (none, d) => d

/-- A page of the flush goes to the engine of the die-page it lies in. -/
def Drive.flushPage (e : Env) (x : FlushAt × Drive) : FlushAt × Drive :=
  let (a, d) := x.2.flushRoom x.1 4096
  let k := match (d.med.band a.band).bind fun b => (b.dataDies a.w)[a.off / diePage]? with
    | some y => engineOf y.1
    | none => 0
  ({ a with off := a.off + 4096 }, d.storePage e k)

/-- One segment of a record is encrypted and written to the flush band, on the record's reservation (R323). -/
def Drive.flushSeg (d : Drive) (e : Env) (a : FlushAt) (r : JRec) (ver index : Nat) (us : List GUnit) : Option Nat × FlushAt × Drive :=
  let src := segPlain us
  let id := d.cph.nextId
  let q : CphReq := { CphReq.blank .gcmEnc r.keySlot src.length (.drain r.rsn index) with
    id := id, rsv := true, src := src, aad := segAad (bodyNs r.body % 4096) r.keySlot 0 ver index us.length }
  let d := d.onCph fun c => { c with nextId := id + 1 }
  let d := (d.bind e q).2
  match d.unrun id with
  | (none, d) => (none, a, d)
  | (some q, d) =>
    let x := d.compute q
    let d := d.countEnd x
    if x.code ≠ 0 then (none, a, d)
    else
      let sid := d.med.nextSeg
      let (a, d) := d.flushRoom a (x.out.length + 92)
      let s : Seg :=
        { id := sid, ns := bodyNs r.body % 4096, slot := r.keySlot, gen := q.bound, ctr := q.ctr, ver := ver, index := index
          units := us.length, ct := x.out, tag := x.tag, mcrc := mediaCrcs x.out, loc := some (a.band, a.w, a.off) }
      (some sid, { a with off := a.off + x.out.length + 92 }, d.onMed fun m => { m with segs := m.segs ++ [s], nextSeg := sid + 1 })

/-- The units of segment `s` of a record, where every stored unit they take bytes from agrees with its CRC. -/
def Drive.flushUnitsOf (d : Drive) (r : JRec) (s : Nat) : Option (List GUnit) :=
  match (r.segRuns s).mapM (d.drainRun []) with
  | some fss => if fragsOk fss.flatten then some (assembleAll (ceilDiv (fragLen fss.flatten) 4096) fss.flatten) else none
  | none => none

/-- A PUT or CAS goes to the flush band as its final segments. -/
def Drive.flushFinal (d : Drive) (e : Env) (a : FlushAt) (r : JRec) : FlushAt × Drive :=
  let onFlash (s : Nat) : Bool := (r.drain.getD []).any fun x => x.index == s && x.done
  let todo := (List.range (ceilDiv r.payload 65536)).filter fun s => !onFlash s
  let d := d.onRec' r.rsn fun r => { r with
    drain := some ((List.range (ceilDiv r.payload 65536)).map fun s => ⟨s, [], [], true, none, true, false⟩) }
  todo.foldl (fun (x : FlushAt × Drive) s =>
    match x.2.flushUnitsOf r s with
    | none => (x.1, x.2.markSeg r s)
    | some us =>
      match x.2.flushSeg e x.1 r r.version s us with
      | (some id, a, d) => (a, d.relocate r (65536 * s) (65536 * s + 65536) id)
      | (none, a, d) => (a, d.markSeg r s)) (a, d)

/-- Any other payload goes as spill segments, run by run (R316, R323). -/
def Drive.flushSpills (d : Drive) (e : Env) (a : FlushAt) (r : JRec) : FlushAt × Drive :=
  let total := ceilDiv r.payload 4096
  let d := d.onRec' r.rsn fun r => { r with drain := none }
  let runs := (List.range (ceilDiv total 16)).filter fun s => !(r.spills.any fun x => x.1 == s && x.2.2)
  runs.foldl (fun (x : FlushAt × Drive) s =>
    let n := min 16 (total - 16 * s)
    match x.2.flushSeg e x.1 r (if r.spill then 0 else r.version) (0x80000000 + s) (r.payUnits (16 * s) n) with
    | (some id, a, d) =>
      let d := d.onRec' r.rsn fun r => { r with spills := (r.spills.filter fun y => !(y.1 == s)) ++ [(s, id, false)] }
      (a, d.spillOnFlash r s id)
    | (none, a, d) => (a, d)) (a, d)

/-- A COMMITTED record: its page, then its units, unless its slot has been erased. -/
def Drive.flushCommitted (e : Env) (x : FlushAt × Drive) (r : JRec) : FlushAt × Drive :=
  let x := Drive.flushPage e x
  let (a, d) := if !r.op.paid || r.erased || r.payload == 0 then x
    else if r.op == .putRange || r.spill then x.2.flushSpills e x.1 r else x.2.flushFinal e x.1 r
  (a, d.onRec' r.rsn fun r => { r with units := [] })

/-- A DRAINED record with its extent list, or an ACCEPTED one. -/
def Drive.flushRec (e : Env) (x : FlushAt × Drive) (r : JRec) : FlushAt × Drive :=
  let x := Drive.flushPage e x
  if r.st == .drained && r.xlist.isSome then Drive.flushPage e x else x

/-- What the flush writes up to its seal page, in the order of R323. -/
def Drive.flushWrite (d : Drive) (e : Env) : Drive :=
  let of_ (s : RecState) : List JRec := (d.jrn.recs.filter fun r => r.st == s).mergeSort fun a b => decide (a.csn ≤ b.csn)
  let x := (List.range (1 + ceilDiv (48 * d.jrn.report.length) 4096)).foldl (fun x _ => Drive.flushPage e x) d.flushOpen
  let x := (of_ .committed).foldl (Drive.flushCommitted e) x
  let x := (of_ .drained ++ of_ .accepted).foldl (Drive.flushRec e) x
  x.2.flushStripe x.1

/-! ### Time 0 (R322) -/

/-- Requests in the cipher engine are abandoned; rewrites that waited for them come into force (R239). -/
def Drive.abandonCph (d : Drive) (e : Env) : Drive :=
  let d := d.onCph fun c => { c with queues := List.replicate 32 [], aside := [], running := [], release := [] }
  let waits := d.cph.slots.flatMap fun s => s.waits.map fun _ => s.num
  waits.foldl (fun d n => rekeyInForceOp n e d) d

/-- Everything that waits outside the journal ends with its domain. -/
def Drive.abandon (d : Drive) : Drive :=
  let d := (d.onJrn fun j => { j with heldAccept := [], heldOrd := [], flushes := [], ckptOpen := none }).onMed fun m => { m with heldLeaf := [] }
  let d := d.onMch fun m => { m with heldCmds := [], heldOpens := [], heldDiag := [], saving := none }
  { d with jobs := [], xpt := { d.xpt with flows := [], incs := [], waiters := [], saving := none } }

/-- Every unfinished command with a record gets its entry for the state the record has at time 0 (R323, R333). -/
def Drive.reportAll (d : Drive) (e : Env) : Drive :=
  d.jrn.recs.foldl (fun d r =>
    match r.st with
    | .accepted => d.reportRec e r.rsn 0x15 0x15 0
    | .ended => d.reportRec e r.rsn r.status r.status 0
    | _ => d.reportRec e r.rsn 0 0 r.version) d

/-- JRN's part of time 0: complete records commit, every flow ends, and the report is made up. -/
def Drive.jrnTimeZero (d : Drive) (e : Env) : Drive :=
  let d := d.abandon.onJrn fun j => { j with recs := j.recs.map fun (r : JRec) => { r with settled := true } }
  let d := (d.abandonCph e).commitReady e
  let d := (d.effects e).reportAll e
  d.medCrash.flushWrite e

/-- The domains of R322 go OFF. -/
def Drive.lossDomains (d : Drive) (e : Env) : Drive :=
  lossDoms.foldl (fun d k =>
    if d.pdSt k = .off then d
    else
      let d := if d.isOn k && (k == 12 || k == 13 || k == 29) then d.leaveOn e k else d
      (d.onPd k fun x => { x with want := false, held := false }).pdDown k false) d

/-- Every domain but AON, RECORD and those in `keep` goes OFF at once, its work lost; DRAM keeps its contents if `sr`. -/
def Drive.allOff (d : Drive) (e : Env) (keep : List Nat) (sr : Bool) : Drive :=
  pdOrder.foldr (fun k d =>
    if k = 0 || k = 2 || keep.contains k then d
    else
      let d := if d.isOn k && (k == 12 || k == 13 || k == 29) then d.leaveOn e k else d
      let d := if d.isUp k && k == 4 then { d with pack := { d.pack with closed := false, test := .none } } else d
      let d := d.onPd k fun x => { x with want := false, held := false, pend := false }
      if d.pdSt k = .off then d else d.pdDown k (sr && k == 11)) d

/-! ### The flush image (R323 to R325) -/

/-- Records in the order the flush writes them: committed by CSN, drained, accepted. -/
def Jrn.flushOrder (j : Jrn) : List JRec :=
  let of_ (s : RecState) : List JRec := (j.recs.filter fun r => r.st == s).mergeSort fun a b => decide (a.csn ≤ b.csn)
  of_ .committed ++ of_ .drained ++ of_ .accepted

/-- What a flush leaves of a record: no unit slots. -/
def JRec.flushed (r : JRec) : JRec := { r with units := [], xlist := none }

/-- A sealed image. -/
def Drive.sealImage (d : Drive) : Drive :=
  d.onJrn fun j => { j with
    image := some ⟨j.flushOrder.map JRec.flushed, j.report, true, none, false⟩, recs := [], fromDram := false }

/-- A record of a write-through command whose pages are on flash beside the flush (R339). -/
def JRec.onPages (r : JRec) : Bool := r.wt && r.pageDone && r.commitPage && r.effectReady

/-- Pages of the control block and the report, which come first (R323). -/
def Jrn.headPages (j : Jrn) : Nat := 1 + ceilDiv (48 * j.report.length) 4096

/-- The records whose pages are among the first `n`: each has one, and a DRAINED one a second for its extent list. -/
def firstRecs : Nat → List JRec → List JRec
  | _, [] => []
  | 0, _ => []
  | n + 1, r :: rs => r :: firstRecs (if r.st == .drained && r.xlist.isSome then n - 1 else n) rs

/-- An image that reads back good for `pages` of its pages. The records behind them are lost, and with them the CSNs of an open
exposure page (R325, R341); of the report stand the entries that lie in them whole. -/
def Drive.cutImage (d : Drive) (pages : Nat) : Drive :=
  let all_ := d.jrn.flushOrder
  let first := firstRecs (pages - d.jrn.headPages) all_
  let kept := all_.filter fun r => first.any (·.rsn == r.rsn) || r.onPages
  let lost := all_.filter fun r => !(kept.any (·.rsn == r.rsn)) && (r.st == .committed || r.st == .drained) &&
    !(r.wt && !r.effect)
  let cs := (lost.map (·.csn) ++ (match d.jrn.exposed with
    | some (lo, hi) => (List.range (hi + 1 - lo)).map (lo + ·)
    | none => [])).eraseDups
  let entry (x : Entry48) : Entry48 :=
    let of_ (r : JRec) : Bool := r.flow == x.flow && r.tag == x.tag
    if lost.any of_ then { x with status := 0x10, final := 0xF }
    else if all_.any fun r => of_ r && !(kept.any (·.rsn == r.rsn)) then { x with status := 0x15, final := 0x15, version := 0 }
    else x
  let rep := (d.jrn.report.take (4096 * (pages - 1) / 48)).map entry
  let im : Image :=
    { recs := kept.map JRec.flushed, report := rep, sealed := false
      lost := match cs with | [] => none | c :: _ => some (cs.foldl min c, cs.foldl max c, cs.length), blank := pages == 0 }
  (d.onJrn fun j => { j with image := some im, recs := [], fromDram := false, flush := none }).setUnclean true

end Sys2Proof.Machine
end

