-- ==== Sys2Proof/Machine/Sequencer.lean ====
section
/-! DEFINITION. The sequences of the power sequencer: resets (R29 to R33, R492), start-up (R34 to R37), the losses of the
supplies (R322 to R326, R391, R397, R488, R526), and the moves between the power states (R394 to R398). -/

namespace Sys2Proof.Machine

/-! ### Start-up (R34) -/

/-- Loop 10 receives GO_AUTO when 12 V returns (R370). -/
def Drive.chargeOn (d : Drive) : Drive :=
  if d.isOn 5 then d.onRun 10 fun r => { r with cmd := some .goAuto } else d

/-- The 12 V half of start-up begins: HOLDUP first, then MGMT, FABRIC, DRAM, CL0 and the rest that needs no firmware. -/
def Drive.start12 (d : Drive) (e : Env) : Drive :=
  let d := if d.nrg.lossDue then
      ({ d with nrg := { d.nrg with lossDue := false } }.setInt pgNrg 5).bumpOpen Reg.AON_SUPPLY_LOSSES 1
    else d
  let d := (d.onPwr fun p => { p with v12Waits := false }).setPs .active
  ([4, 3, 10, 11, 6, 1, 5, 12, 13].foldl (fun d k => d.enable e k) d).chargeOn

/-- 12 V is good: the 12 V half waits for chain-ready, for aux, or for RESET_N to be released (R34, R492). -/
def Drive.v12Up (d : Drive) (e : Env) : Drive :=
  let d := d.onPwr fun p => { p with v12 := true }
  if !d.pwr.aux || !d.pwr.chainReady then d.onPwr fun p => { p with v12Waits := true }
  else if !d.pwr.resetPin then d.onPwr fun p => { p with resetHold := true }
  else d.start12 e

/-- V12_GOOD (R391): during a flush it is remembered (R326). -/
def v12GoodOp (e : Env) (d : Drive) : Drive :=
  match d.jrn.flush with
  | some f => d.onJrn fun j => { j with flush := some { f with returned := true } }
  | none => if d.pwr.v12 then d else d.v12Up e

/-- The drive is chain-ready, or R35 lets it go on as if it were: a 12 V half that waits begins. -/
def Drive.chainIsReady (d : Drive) (e : Env) : Drive :=
  if d.pwr.chainReady then d
  else
    let d := d.onPwr fun p => { p with chainReady := true }
    if d.pwr.v12Waits && d.pwr.aux then d.v12Up e else d

/-- CHAIN_READY_TIMEOUT (R35). -/
def chainReadyTimeoutOp (e : Env) (d : Drive) : Drive := if d.isOn 0 && !d.chn.lock then d.chainIsReady e else d

/-- After a loss, a reset or a wake each unit starts on its recorded slot, and an activation that was interrupted returns to
STAGED (R469). -/
def Upd.interrupted (u : Upd) : Upd :=
  let u := { u with carriers := u.carriers.map fun c => { c with runB := c.bootB } }
  if u.st = .activating then { u with st := .staged, out := none, linkWait := none } else u

/-- Unit `i` of a carrier does not start on its recorded slot: it runs the other one, where that holds an image (R469). -/
def Carrier.startOther (c : Carrier) (i : Nat) : Carrier :=
  let b := bitN c.bootB i
  if (if b then c.a else c.b).isSome then { c with runB := setBitsN c.runB i i (b2n !b) } else c

/-- FIRMWARE_RUNNING (R34): CL0 has loaded its images; replay or the index load follows, and the other domains come ON. `ck` says
which copies of the checkpoints read back good: bits 0 and 1 of the newer one, bits 2 and 3 of the older one (R279). The
stored match tables are loaded after a power-on reset or a 12 V loss (R218). `failed` names the units, by carrier and instance, that
did not start on their recorded slots at this power-on (R469). -/
def firmwareRunningOp (ck : BitVec 4) (failed : List (Nat × Nat)) (e : Env) (d : Drive) : Drive :=
  if !d.isOn 6 || d.pwr.fw || !d.pwr.v12 || d.jrn.flush.isSome then d
  else
    let d := d.onPwr fun p => { p with fw := true }
    let d := ([15] ++ (List.range 8).map (20 + ·)).foldl (fun (d : Drive) k => d.enable e k) d
    let d := if d.pwr.warm then d else d.loadShadows
    let u := d.upd.interrupted
    let cars := (if d.pwr.warm then [] else failed).foldl (fun cs x => modAt cs x.1 fun c => c.startOther x.2) u.carriers
    let d := { d with upd := { u with carriers := cars } }
    let newer := ck.getLsbD 0 || ck.getLsbD 1
    let d := if d.unclean then d.replay e newer else d.loadIndex e newer
    let d := [14, 16, 17, 18, 19, 28, 7, 8, 9].foldl (fun d k => d.enable e k) d
    if d.nrg.demand then d.enterWt else d

/-- READ_READY: the checkpoint after replay stands, and every interior page of the index is in DRAM (R34, R279, R328). -/
def readReadyOp (e : Env) (d : Drive) : Drive :=
  if !d.pwr.fw || d.pwr.readReady || d.jrn.flush.isSome || d.jrn.ckptOpen.isSome || d.med.idx.any (fun p => !p.leaf && !p.here) then d
  else
    let d := d.onPwr fun p => { p with readReady := true, warm := false }
    let d := d.onJrn fun j => { j with fromDram := false }
    let d := if d.flag Reg.JRN_STAT 4 then
        ((d.poke Reg.JRN_STAT 4 4 0).setReg Reg.JRN_RPL_MS (word (e.clk.optime - d.jrn.replayAt))).moveFlushed
      else d
    d.tryWriteReady e

/-- WRITE_READY (R34, R383). -/
def writeReadyOp (e : Env) (d : Drive) : Drive := d.tryWriteReady e

/-- REPLAY_DRAIN_DONE (R331): every replayed record is drained, and nothing live is left in the flush bands: a checkpoint is
written, and once it stands the bands are erased, as the credits allow. -/
def replayDrainDoneOp (e : Env) (d : Drive) : Drive :=
  if !d.pwr.readReady || !d.flag Reg.JRN_STAT 5 || d.jrn.ckptOpen.isSome then d
  else if d.jrn.recs.any (fun r => r.replayed && r.st == .committed) ||
      d.med.bands.any (fun b => b.st == .flush && !(d.liveIn b.id).isEmpty) then d
  else
    let d := d.startCkpt e
    if d.jrn.ckptOpen.isSome || !d.affords ((List.range 8).map (20 + ·)) (cost 9) then d
    else
      let d := (d.eraseFlushed e).onJrn fun j => { j with image := none }
      (((d.poke Reg.JRN_STAT 5 5 0).setUnclean false).setInt pgJrn 2).tryWriteReady e

/-! ### Losses of the supplies (R322, R391, R397, R526) -/

/-- What the flush reports (R324), from its beginning and the reserve left. -/
def Drive.flushReport (d : Drive) (e : Env) (f : Flush) : Drive :=
  let sizes := ((d.med.bands.filter fun b => b.st == .flush).flatMap fun b => d.med.segs.filter fun s =>
    match s.loc with | some (x, _, _) => x == b.id | none => false).map Seg.size
  let recs := d.jrn.flushOrder.length + (d.jrn.recs.filter fun r => r.st == .drained && r.xlist.isSome).length
  let bytes := 4096 * (1 + d.jrn.headPages + recs) + sizes.foldl (· + ·) 0
  ((d.setReg Reg.JRN_FLUSH_MS (word (e.clk.optime - f.at_))).setReg Reg.JRN_FLUSH_MJ (word (f.mj - d.reserve e))).setWide
    Reg.JRN_FLUSH_BYTES bytes

/-- A main-supply loss is declared: T_L, the event, the alarm, and the count for the next start. -/
def Drive.declareLoss (d : Drive) (e : Env) (which : Supply) : Drive :=
  let d := d.markTl e
  let d := { d with nrg := { d.nrg with lossDue := true, writeReady := false, causes := [], demand := false } }
  let d := d.onPwr fun p => { p with v12 := false, v12Waits := false, aux := p.aux && which != .aux }
  d

/-- A loss while DRAM holds nothing, in Fawn, or while no journal runs yet: everything but AON and RECORD goes OFF with no
flush. -/
def Drive.lossOff (d : Drive) (e : Env) (which : Supply) (fawn : Bool) : Drive :=
  let d := ((d.declareLoss e which).acctRestart e).allOff e [] false
  let d := if fawn then (d.setUnclean false).onJrn fun j => { j with recs := [] } else d
  (d.onPwr fun p => { p with fw := false, readReady := false, warm := false, fawnStep := 0, resetHold := false }).setPs .off

/-- A loss whose journal is to be flushed, up to the point where the flush has begun (R322): domains that the flush does not
need go OFF, and those it needs stay or come ON. -/
def Drive.lossDown (d : Drive) (e : Env) (which : Supply) (r : Nat) : Drive :=
  let d := (d.declareLoss e which).onJrn fun j => { j with flush := some ⟨e.clk.optime, false, false, r⟩ }
  let d := (d.onPwr fun p => { p with resetHold := false, fawnStep := 0 }).setPs .off
  let d := (d.lossDomains e).chargeOff
  ([3, 10, 11, 6, 15] ++ (List.range 8).map (20 + ·)).foldl (fun (d : Drive) k => d.enable e k) d

/-- Time 0 of the flush (R322, R323): the journal stands still, and firmware and index count as gone. -/
def Drive.lossFlush (d : Drive) (e : Env) (warm : Bool) : Drive :=
  let d := d.onJrn fun j => { j with flush := j.flush.map fun f => { f with begun := true } }
  let d := if warm then d.rebuildIndex e true else d
  let d := (d.jrnTimeZero e).acctRestart e
  let d := (d.setUnclean (!d.jrn.recs.isEmpty || d.jrn.image.isSome && d.unclean)).saveLog
  let d := { d with pack := { d.pack with losses := d.pack.losses + b2n d.pack.closed, test := .none } }
  d.onPwr fun p => { p with fw := false, readReady := false, warm := false }

/-- The replay from DRAM has not reached read-ready since the last reset (R526). -/
def Drive.warmOnly (d : Drive) : Bool := d.pwr.warm && !d.pwr.readReady

/-- JRN makes the time-0 steps of a flush once FABRIC and CL0 are ON (R322, R526). -/
def Drive.flushBegin (d : Drive) (e : Env) : Drive :=
  match d.jrn.flush with
  | some f => if !f.begun && d.isOn 10 && d.isOn 6 then d.lossFlush e d.warmOnly else d
  | none => d

/-- SUPPLY_LOSS. -/
def supplyLossOp (which : Supply) (e : Env) (d : Drive) : Drive :=
  if !d.pwr.v12 || d.jrn.flush.isSome then d
  else
    let r := d.reserve e
    let fawn := decide (d.pwr.ps = .fawn)
    let off := fawn || (!d.pwr.fw && !d.warmOnly)
    let d := d.event e 0x104 r (ceilDiv d.need (10 ^ 6)) d.jrn.recs.length d.jrn.unitsUsed
    if off then d.lossOff e which fawn else ((d.alarm e 1 2 r).lossDown e which r).flushBegin e

/-- The flush has ended: everything but AON and RECORD is OFF; with 12 V back, the 12 V half begins again (R326). -/
def Drive.flushOver (d : Drive) (e : Env) (back : Bool) : Drive :=
  let d := (d.onJrn fun j => { j with flush := none }).allOff e [] false
  if back then d.v12Up e else d

/-- AON and RECORD lose their supply; the crystal and the AON PLL stop with it (R24, R27). -/
def Drive.aonDown (d : Drive) (e : Env) : Drive :=
  let d := d.onPwr fun p => { p with aux := false }
  let d := (d.allOff e [] false).onRec fun r => { r with staging := none }
  let d := ((d.onPd 2 fun _ => Pd.at .off).onPd 0 fun _ => Pd.at .off).stopClocks
  { d with chn := { d.chn with active := false, lock := false } }

/-- FLUSH_SEAL (R323, R324), once the flush has begun: its seal page is encrypted and written like its other pages. -/
def flushSealOp (e : Env) (d : Drive) : Drive :=
  match d.jrn.flush with
  | none => d
  | some f => if f.begun then (((d.storePage e 0).flushReport e f).sealImage).flushOver e f.returned else d

/-- FLUSH_RESERVE_OUT (R325, R326, R526): the converter stops before the seal, and nothing is good of a flush that has not
begun; without connector aux, AON loses its supply. -/
def flushReserveOutOp (pages : Nat) (e : Env) (d : Drive) : Drive :=
  match d.jrn.flush with
  | none => d
  | some f =>
    let d := ((d.flushReport e f).cutImage (if f.begun then pages else 0)).flushOver e f.returned
    if d.pwr.aux then d else d.aonDown e

/-- SUPPLY_RETURN_DURING_FLUSH (R326). -/
def supplyReturnOp (e : Env) (d : Drive) : Drive := if d.jrn.flush.isSome then v12GoodOp e d else d

/-- AUX_LOSS: the AON supply falls (R407, R445). While the pack feeds it in a flush, AON only sees the connector's aux go. -/
def auxLossOp (e : Env) (d : Drive) : Drive :=
  if d.jrn.flush.isSome then d.onPwr fun p => { p with aux := false }
  else
    let d := if d.pwr.v12 then supplyLossOp .aux e d else d
    if d.jrn.flush.isSome then d else d.aonDown e

/-- AUX_RETURN: connector aux returns while the pack still feeds AON (R488). -/
def auxReturnOp (_ : Env) (d : Drive) : Drive := if d.isOn 0 then d.onPwr fun p => { p with aux := true } else d

/-! ### Resets (R29 to R33, R492) -/

/-- The first part of a full reset: what is recorded of it, and every domain but AON, RECORD and HOLDUP taken down, DRAM in
self-refresh keeping the journal. -/
def Drive.resetBody (d : Drive) (e : Env) (cause : Nat) (dom : Option Nat) : Drive :=
  let d := d.markTl e
  let d := d.poke Reg.AON_RST_CAUSE 3 0 cause
  let d := match dom with | some k => d.poke Reg.AON_RST_CAUSE 15 8 k | none => d
  let d := d.setUnclean (!d.jrn.recs.isEmpty || (d.jrn.image.isSome && d.unclean))
  let d := d.event e 0x100 (d.reg Reg.AON_RST_CAUSE).toNat 0 0 0
  (d.abandon.allOff e [4] true).medCrash

/-- The second part: every record of the journal is settled with its flow, and a replay from DRAM is due. -/
def Drive.resetEnd (d : Drive) : Drive :=
  let d := d.onJrn fun j => { j with
    recs := j.recs.map fun (r : JRec) => { r with settled := true }
    fromDram := j.fromDram || !j.recs.isEmpty || d.pwr.readReady }
  (d.onPwr fun p => { p with fw := false, readReady := false, warm := true, fawnStep := 0 }).setPs .active

/-- A RESET_N, a soft full reset or a controller fault: every domain but AON, RECORD and HOLDUP is reset, DRAM in
self-refresh keeping the journal (R30). -/
def Drive.fullReset (d : Drive) (e : Env) (cause : Nat) (dom : Option Nat) : Drive := (d.resetBody e cause dom).resetEnd

/-- After a reset the 12 V half begins again at once. -/
def Drive.restart (d : Drive) (e : Env) : Drive := if d.pwr.v12 && !d.pwr.resetHold then d.start12 e else d

/-- RESET_N_ASSERT: RESET_N has gone low for `ns` nanoseconds (R492). -/
def resetNAssertOp (ns : Nat) (e : Env) (d : Drive) : Drive :=
  let (k, d) := if 100 ≤ ns ∧ ns < 1000 then d.draw else (0, d)
  let hit := decide (1000 ≤ ns) || (decide (100 ≤ ns) && Config.randomNat k % 2 == 1)
  let d := if 1000 ≤ ns then d.onPwr fun p => { p with resetPin := false } else d
  if !hit || !d.pwr.v12 || !d.pwr.aux || d.jrn.flush.isSome || !d.pwr.chainReady then d
  else
    let d := d.fullReset e 1 none
    if 1000 ≤ ns then d.onPwr fun p => { p with resetHold := true } else d.restart e

/-- RESET_N_RELEASE. -/
def resetNReleaseOp (e : Env) (d : Drive) : Drive :=
  let d := d.onPwr fun p => { p with resetPin := true }
  if d.pwr.resetHold then (d.onPwr fun p => { p with resetHold := false }).restart e else d

/-- A write of AON_RST_CTL that R31 refuses. -/
def Drive.rstRefused (d : Drive) (v : Word) : Bool :=
  let k := bits v 4 0
  bits v 31 24 == 0xA5 && !bit v 16 && bit v 15 &&
    ([0, 2, 3, 4, 10, 11, 14, 15].contains k || decide (29 < k) || !d.isOn k || d.forcedOff k)

/-- A per-domain reset: recorded (R33), then through DRAINING to OFF and back to ON (R31). -/
def Drive.domainReset (d : Drive) (e : Env) (k : Nat) : Drive :=
  let d := (d.event e 0x100 (d.reg Reg.AON_RST_CAUSE).toNat 0 0 0).beginDown e k false
  ((d.shutdownSave e k).pdDown k false).enable e k

/-- A write of AON_RST_CTL (R32). -/
def rstCtlW (v : Word) (e : Env) (d : Drive) : Drive :=
  if bits v 31 24 ≠ 0xA5 || d.jrn.flush.isSome then d
  else if bit v 16 then (d.fullReset e 2 none).restart e
  else if bit v 15 && !d.rstRefused v then d.domainReset e (bits v 4 0)
  else d

/-- CONTROLLER_FAULT in domain `k`. -/
def controllerFaultOp (k : Nat) (e : Env) (d : Drive) : Drive :=
  if 30 ≤ k || !d.isUp k || !d.pwr.v12 || d.jrn.flush.isSome || d.pwr.resetHold then d
  else (d.fullReset e 3 (some k)).restart e

/-- The clock comes of the 100 MHz reference (R27). -/
def ClkId.fast (c : ClkId) : Bool := c != .crystal && c != .aon

/-- The reference is found absent or out of range (R29, R33): no fast clock keeps lock, REF_FAULT is set, the event is
written. -/
def Drive.refLost (d : Drive) (e : Env) : Drive :=
  let d := d.onPwr fun p => { p with refOk := false, clks := p.clks.filter fun c => !c.fast }
  (d.poke Reg.AON_RST_CAUSE 17 17 1).event e 0x101 0 0 0 0

/-- REF_CLOCK_FAULT (R29). Where fast clocks ran, their lock loss is a controller fault of PD00. DESIGN CHOICE: in a
power-loss flush it starts no reset, and HOLDUP stays ON through the reset (R30) though R29 keeps every domain but AON, WAKE
and RECORD out of ON (assumption log). -/
def refClockFaultOp (e : Env) (d : Drive) : Drive :=
  if !d.isOn 0 then d.onPwr fun p => { p with refOk := false }
  else
    let run := d.pwr.clks.any (·.fast) && d.pwr.v12 && d.jrn.flush.isNone
    let d := d.refLost e
    if run then (d.fullReset e 3 (some 0)).restart e else d

/-- What a wake still waits for is there: the drive is ACTIVE. -/
def Drive.finishWake (d : Drive) : Drive := if d.pwr.ps = .waking && d.isOn 14 then d.setPs .active else d

/-- The fast clocks of the domains that are up start again. -/
def Drive.restartClocks (d : Drive) : Drive := pdOrder.foldl (fun d k => if d.isUp k then d.startClocks k else d) d

/-- REF_CLOCK_VALID: the start-up, the wake or the flush that waited goes on (R29, R526). -/
def refClockValidOp (e : Env) (d : Drive) : Drive :=
  let d := (d.onPwr fun p => { p with refOk := true }).restartClocks.runWants e
  (d.flushBegin e).finishWake

/-- DOMAIN_SHUTDOWN_DONE (R399), and what waited for the domain to come back: a flush that has not begun (R526). -/
def domainShutdownDoneOp (k : Nat) (e : Env) (d : Drive) : Drive := (d.shutdownDone e k).flushBegin e

/-! ### Power states (R394 to R398) -/

/-- Domains that ACTIVE has ON beside the always-on ones. -/
def activeDomains : List Nat := [4, 3, 10, 11, 6, 5, 7, 8, 9] ++ (List.range 17).map (12 + ·)

/-- No command is unfinished on any flow (R121). -/
def Drive.quiet (d : Drive) : Bool := d.xpt.flows.all (·.cmds.isEmpty) && d.jobs.isEmpty

/-- IDLE_ENTRY: the conditions of R395. -/
def idleEntryOp (e : Env) (d : Drive) : Drive :=
  let ok := d.pwr.ps == .active && d.pwr.readReady && d.jrn.flush.isNone && d.fld Reg.NRG_PS_CTL 15 0 != 0 && d.quiet &&
    !d.drainsLeft && (List.range 32).all (fun g => d.gcLevel e g == 0) && d.med.rebuilds.isEmpty &&
    d.med.dies.all (fun x => !x.levelling) && !d.ckptDue
  if !ok then d
  else
    let d := [7, 8, 9].foldl (fun d k => d.disable e k true) (d.setPs .idle)
    ((List.range 8).map (20 + ·)).foldl (fun (d : Drive) k => d.disable e k false) d

/-- Fawn entry begins (R396, steps 1 and 2). -/
def Drive.enterFawn (d : Drive) : Drive :=
  if (d.pwr.ps == .active || d.pwr.ps == .idle) && d.pwr.readReady && d.pwr.v12 && d.jrn.flush.isNone then
    (d.onPwr fun p => { p with fawnStep := 2 }).setPs .fawnEntry
  else d

/-- Fawn entry ends at its current step; the drive returns to ACTIVE. -/
def Drive.cancelFawn (d : Drive) (e : Env) : Drive :=
  if d.pwr.ps = .fawnEntry then
    let d := (d.onPwr fun p => { p with fawnStep := 0 }).setPs .active
    activeDomains.foldl (fun d k => d.enable e k) d
  else d

/-- A write of NRG_PS_CMD. -/
def psCmdW (v : Word) (e : Env) (d : Drive) : Drive :=
  if bits v 31 24 ≠ 0xA5 then d
  else if bits v 1 0 = 1 then
    if d.upd.st = .activating && d.upd.out.isSome then { d with upd := { d.upd with fawnAsked := true } } else d.enterFawn
  else if bits v 1 0 = 2 then ({ d with upd := { d.upd with fawnAsked := false } }).cancelFawn e
  else d

/-- FAWN_IDLE_TIMEOUT. -/
def fawnIdleTimeoutOp (_ : Env) (d : Drive) : Drive :=
  if d.pwr.ps = .idle && d.fld Reg.NRG_PS_CTL 31 16 != 0 then d.enterFawn else d

/-- FAWN_GRACE_END: every flow ends under R140. -/
def fawnGraceEndOp (e : Env) (d : Drive) : Drive :=
  if d.pwr.fawnStep = 2 then (d.endFlows e).onPwr fun p => { p with fawnStep := 3 } else d

/-- Fawn entry ends: the health log is written and the domains go to their Fawn states (R22, R396). -/
def Drive.fawnDown (d : Drive) (e : Env) : Drive :=
  let d := d.saveLog
  let d := { d with nrg := { d.nrg with writeReady := false } }
  let down (k : Nat) (d : Drive) : Drive :=
    if k = 0 || k = 1 || k = 2 || d.pdSt k == .off || d.pdSt k == .retain then d
    else ((if d.isOn k then d.leaveOn e k else d).shutdownSave e k).pdDown k (k == 6 || k == 11)
  let d := (pdOrder.foldr down d).enable e 1
  (d.onPwr fun p => { p with fawnStep := 0, ps := .fawn })

/-- FAWN_REACHED: with nothing left to drain and no band half moved, a checkpoint is written, and once it stands Fawn entry ends. -/
def fawnReachedOp (e : Env) (d : Drive) : Drive :=
  if d.pwr.fawnStep ≠ 3 || d.drainsLeft || d.jrn.ckptOpen.isSome || d.med.bands.any (fun b => b.st == .moving) then d
  else
    let d := d.startCkpt e
    if d.jrn.ckptOpen.isSome then d else d.fawnDown e

/-- A wake source fires (R398): 1 network, 2 chain access, 3 I3C access, 4 timer. -/
def Drive.wake (d : Drive) (e : Env) (src : Nat) : Drive :=
  match d.pwr.ps with
  | .fawnEntry => d.cancelFawn e
  | .fawn =>
    let d := ((d.setReg Reg.AON_WAKE_STAT (word src)).bumpOpen Reg.AON_WAKES 1).setInt pgAon 0
    let d := { d.disarm.setPs .waking with upd := d.upd.interrupted }
    (activeDomains.foldl (fun d k => d.enable e k) d).finishWake
  | _ => d

/-- WAKE_TIMER_EXPIRY. -/
def wakeTimerExpiryOp (e : Env) (d : Drive) : Drive :=
  if d.pwr.ps = .fawn && d.reg Reg.AON_WAKE_TIMER != 0 then d.wake e 4 else d

/-- WAKE_PATTERN: an armed detector fires, or both do in one cycle (R90). -/
def wakePatternOp (n : Nat) (both : Bool) (e : Env) (d : Drive) : Drive :=
  if d.isOn 1 && d.flag Reg.WAKE_STAT n && (!both || d.flag Reg.WAKE_STAT (1 - n)) then (d.wakeFire n both).wake e 1 else d

/-- MGMT is wanted for a register access while 12 V is good (R25). -/
def Drive.wakeMgmt (d : Drive) (e : Env) (src : Nat) : Drive := (d.wake e src).enable e 3

/-! ### Power-on reset (R24, R30, R34, R438, R443, R493) -/

/-- What a power-on reset loses of the drive: every register, WAKE_CTL's kept value among them (R102), the flows, the reads,
the ports and what the blocks hold; the stores, the media, the key-store image and the NOR stay. -/
def Drive.powerLose (d : Drive) (clk : Clock) : Drive :=
  let depth := bits (rstVal Reg.REC_HOST_RL) 23 16
  let d :=
    { d with
      regs := [], saved := FMap.erase d.saved Reg.WAKE_CTL, snaps := [], bufs := [], edges := [], deferred := [], late := [], results := List.replicate 3 ⟨0, 0, []⟩
      i3cAddr := none, i3cIbi := true, ledTest := false, airSeen := false, lastRsp := none, jobs := []
      ports := [Port.reset, Port.reset], xpt := Xpt.reset, nss := [] }
  let d :=
    { d with
      chn := { Chn.reset with stored := d.chn.stored, epochHw := d.chn.epochHw, tickFrom := clk.optime }
      recorder := d.recorder.powerUp clk depth
      nrg := { Nrg.reset with lossDue := d.nrg.lossDue }
      ctl := { Ctl.reset with thSaved := d.ctl.thSaved }
      mch := { Mch.reset with saved := d.mch.saved } }
  { d with
    cph := { Cph.reset with image := d.cph.image, nextId := d.cph.nextId }
    jrn := { d.jrn with
      recs := [], flush := none, fromDram := false, heldAccept := [], heldOrd := [], flushes := [], ckptOpen := none
      fullNext := 1, served := List.replicate 8 0 }
    med := { d.med with hlog := d.med.hlogSaved.getD d.med.hlog, cache := [], urgent := [], pkgMax := List.replicate 32 0, wlSec := [] }
    upd := { d.upd.interrupted with fawnAsked := false } }

/-- The supplies, domains and pack right after a power-on reset. -/
def Drive.powerPins (d : Drive) (now : Nat) (lead seg : Bool) : Drive :=
  let d := d.onPwr fun p =>
    { Pwr.reset with
      v12 := p.v12, v12Waits := p.v12, refOk := p.refOk, lead := lead, seg := seg, leadPin := lead, segPin := seg
      resetPin := p.resetPin, tl := p.tl, growAt := now }
  { d with pack := { d.pack with closed := false, test := .none, test8 := true, seen := false, swap := 0, refit := false } }

/-- What a power-on reset leaves of the drive: a journal that was not flushed leaves a blank image. -/
def Drive.powerOn (d : Drive) (e : Env) (now pcycle : Nat) (lead seg : Bool) : Drive :=
  let d := if d.jrn.flush.isSome || !d.jrn.recs.isEmpty then d.cutImage 0 else d
  let uncl := d.unclean
  let d := (d.medCrash.powerLose ⟨now, now, pcycle⟩).powerPins now lead seg
  let d := ((d.resetDom 0).resetDom 2).setUnclean uncl
  let e' : Env := { e with clk := ⟨now, now, pcycle⟩ }
  let d := (d.acctRestart e').event e' 0x100 (d.reg Reg.AON_RST_CAUSE).toNat 0 0 0
  if d.pwr.refOk then d else d.refLost e'

end Sys2Proof.Machine
end

