-- ==== Sys2Proof/Machine/Chain.lean ====
section
/-! DEFINITION. The Skatik chain (R406 to R431) but for register requests that arrive: joining the ring, the Lead Doe and its
herd, enumeration, ticks, allotments, alarms and notices, and the request and transmit windows. -/

namespace Sys2Proof.Machine

/-- Change the chain interface. -/
def Drive.onChn (d : Drive) (g : Chn → Chn) : Drive := { d with chn := g d.chn }

/-- The drive stands in the ring: CHN_ACTIVE is high (R407). -/
def Drive.inRing (d : Drive) : Bool := d.isOn 0 && d.chn.active

/-- Its receiver has lock: it listens, in the ring or bypassed (R407). -/
def Drive.hears (d : Drive) : Bool := d.isOn 0 && d.chn.lock

end Sys2Proof.Machine

namespace Sys2Proof

open Sys2Proof.Machine

/-- Bytes of a frame at wire offset `o` of its body. -/
def Frame.at_ (f : Frame) (o n : Nat) : Nat := beAt f.body (o - 8) n

/-- HOPS one higher, saturating. -/
def Frame.hop (f : Frame) : Frame := { f with hops := if f.hops = 0x7FFF then f.hops else f.hops + 1 }

/-- Bytes 0 to 59 of a frame, every field big-endian (R10, R409). -/
def Frame.head (f : Frame) : List Byte :=
  [f.ty] ++ beBytes 1 (b2n f.bcast * 128 + b2n f.auth * 64 + b2n f.resp * 32 + f.rid.toNat) ++ beBytes 2 f.src.toNat ++ beBytes 2 f.dst.toNat ++
    beBytes 2 (b2n f.lap * 32768 + f.hops.toNat) ++ padTo 52 f.body

/-- The 64 bytes of a frame on the ring, with its FCRC (R10, R105, R409). -/
def Frame.bytes (f : Frame) : List Byte := f.head ++ beBytes 4 (crc32c f.head).toNat

end Sys2Proof

namespace Sys2Proof.Machine

/-! ### Forwarding and removal (R411, R412) -/

/-- An EMPTY slot. -/
def emptyFrame : Frame :=
  { ty := 0, bcast := false, auth := false, resp := false, rid := 0, src := 0, dst := 0, lap := false, hops := 0, body := zeros 52 }

/-- A frame leaves the drive on the ring with a new FCRC, ending well or in K30.7 (R411). -/
def Drive.chainOut (d : Drive) (f : Frame) (good : Bool) : Drive :=
  if d.inRing then { d with out := d.out ++ [.chain f.bytes good] } else d

/-- A frame that arrived goes on: the Lead Doe marks its lap, and empties one that has the mark. -/
def Drive.forward (d : Drive) (f : Frame) : Drive :=
  if d.chn.role = .lead then
    if f.lap then d.chainOut emptyFrame true else d.chainOut { f.hop with lap := true } true
  else d.chainOut f.hop true

/-- The frame is one of the drive's own that has come round: it names the drive's address while the drive has frames out.
(DESIGN CHOICE for a Kid, whose SRC 0xFFFF other Kids share.) -/
def Drive.ownFrame (d : Drive) (f : Frame) : Bool := f.src == d.chn.addrHalf && d.chn.onRing != 0

/-- An own frame is taken off the ring. -/
def Drive.takeOwn (d : Drive) : Drive := (d.onChn fun c => { c with onRing := c.onRing - 1 }).chainOut emptyFrame true

/-- A broadcast goes on, or is removed by its sender; a unicast frame is removed by its destination too. -/
def Drive.relay (d : Drive) (f : Frame) : Drive :=
  if !d.inRing then d
  else if d.ownFrame f then d.takeOwn
  else if !f.bcast && d.chn.addr.isSome && f.dst == d.chn.addrHalf then d.chainOut emptyFrame true
  else d.forward f

/-- The frame is for this drive: addressed, and named or broadcast, and not its own. -/
def Drive.forMe (d : Drive) (f : Frame) : Bool :=
  d.hears && d.chn.addr.isSome && !d.ownFrame f && (f.bcast || f.dst == d.chn.addrHalf)

/-- A frame of the Lead Doe's own goes into the next slot it generates. -/
def Drive.leadSend (d : Drive) (f : Frame) : Drive := (d.chainOut f true).onChn fun c => { c with onRing := c.onRing + 1 }

/-- CHN_TX_STAT.PEND of path `p` follows the queue. -/
def Drive.txPend (d : Drive) (p : Path) : Drive :=
  d.poke (pk p Reg.CHN_TX_STAT) 0 0 (b2n (d.chn.txq.any fun x => x.2 == .window p))

/-- CHN_TX_STAT.PEND of the paths that have a transmit window. -/
def Drive.txPendAll (d : Drive) : Drive := (d.txPend .chain).txPend .i3c

/-! ### Joining and leaving the ring (R407, R414) -/

/-- The role a drive falls back to. -/
def Chn.plain (c : Chn) : Role := if c.addr.isSome then .addressed else .kid

/-- CHN_ACTIVE goes high: chain-ready. -/
def Drive.goActive (d : Drive) (e : Env) : Drive :=
  if d.chn.active || !d.chn.lock || !d.flag Reg.CHN_CTL 0 then d
  else
    let d := d.onChn fun c => { c with active := true, tickFrom := if c.lastTick.isNone then e.clk.optime else c.tickFrom }
    d.chainIsReady e

/-- CHN_ACTIVE goes low: what the drive had on the ring is lost, and a Lead Doe is one no more. -/
def Drive.goInactive (d : Drive) : Drive :=
  d.onChn fun c => { c with active := false, onRing := 0, slotted := false, enumOut := false, enumAsked := false, role := c.plain, lastTick := none, gaveWay := none }

/-- CHAIN_LOCK_ACQUIRED. -/
def chainLockOp (e : Env) (d : Drive) : Drive :=
  if !d.isOn 0 then d else (d.onChn fun c => { c with lock := true }).goActive e

/-- CHAIN_LOCK_LOST. -/
def chainUnlockOp (_ : Env) (d : Drive) : Drive :=
  if !d.isOn 0 then d else (d.onChn fun c => { c with lock := false }).goInactive

/-- A write of CHN_CTL (R407). -/
def chnCtlW (e : Env) (d : Drive) : Drive :=
  if d.flag Reg.CHN_CTL 0 then d.goActive e else if d.chn.active then d.goInactive else d

/-! ### Herd identity and epoch (R416) -/

/-- EPOCH_HW of an epoch. -/
def epochHwOf (x : Nat) : Nat := x / 65536 * 65536 + 65536

/-- EPOCH_HW stays above the epoch. -/
def Drive.epochSeen (d : Drive) (x : Nat) : Drive := d.onChn fun c => if c.epochHw ≤ x then { c with epochHw := epochHwOf x } else c

/-- The herd identity a new Lead Doe takes. -/
def Drive.herdIdentity (d : Drive) (e : Env) : Long × Nat :=
  let loss := d.fld Reg.CHN_TIMERS 15 0
  let old := match d.chn.stored with
    | some (h, _, _) => (h, d.chn.epochHw)
    | none => (e.fac.serial, 0)
  match d.chn.lastTick with
  | some (h, ep, t) => if e.clk.optime ≤ t + loss then (h, ep + (e.clk.optime - t) / 100) else old
  | none => old

/-! ### Ticks (R421) -/

/-- CHN_EPOCH, CHN_LEAD_SERIAL and CHN_TICK_HOPS take a tick of the drive's herd. -/
def Drive.takeTick (d : Drive) (epoch : Nat) (lead : Nat) (hops : Nat) : Drive :=
  let d := ((d.setWide Reg.CHN_EPOCH epoch).setWide Reg.CHN_LEAD_SERIAL lead).setReg Reg.CHN_TICK_HOPS (word hops)
  (d.onChn fun c => { c with herdLost := false }).epochSeen epoch

/-- The Lead Doe sends its next TICK. -/
def Drive.tickSend (d : Drive) (e : Env) : Drive :=
  let c := d.chn
  let body := beBytes 8 e.fac.serial.toNat ++ beBytes 8 c.herd.toNat ++ beBytes 8 c.epoch ++ beBytes 4 (d.reg Reg.CHN_RING_NS).toNat
  let d := d.leadSend (c.frame 0x04 true 0xFFFF body)
  let d := d.takeTick c.epoch e.fac.serial.toNat 0
  d.onChn fun c => { c with epoch := c.epoch + 1, lastTick := some (c.herd, c.epoch, e.clk.optime), tickFrom := e.clk.optime }

/-! ### Enumeration (R417 to R420) -/

/-- The fields of an ENUM body. -/
structure Enum where
  herd : Long
  shelf : Nat
  last : Nat
  flags : Nat
  round : Nat
  drives : Nat
  kids : Nat
  deriving DecidableEq, Repr

def enumOf (f : Frame) : Enum :=
  ⟨BitVec.ofNat 64 (f.at_ 8 8), f.at_ 16 2, f.at_ 18 1, f.at_ 19 1, f.at_ 20 4, f.at_ 24 4, f.at_ 28 4⟩

def Enum.body (x : Enum) : List Byte :=
  beBytes 8 x.herd.toNat ++ beBytes 2 x.shelf ++ beBytes 1 x.last ++ beBytes 1 x.flags ++ beBytes 4 x.round ++ beBytes 4 x.drives ++
    beBytes 4 x.kids

/-- The drive takes an address, or becomes a Kid, in an enumeration (R418). -/
def Drive.takeAddr (d : Drive) (e : Env) (x : Enum) (a : Option (Nat × Nat)) : Drive :=
  let was := d.chn.addrHalf
  let new : Option (BitVec 14) := a.map fun y => BitVec.ofNat 14 (y.1 * 64 + y.2)
  let d := d.onChn fun c =>
    let c := { c with addr := new, overflow := a.isNone }
    let c := { c with role := if c.role = Role.lead then Role.lead else c.plain }
    match a with
    | some (sh, sl) =>
      let fresh := match c.stored with | some (h, _, _) => h != x.herd | none => true
      let seen := match c.lastTick with | some (h, ep, _) => if h = x.herd then ep else 0 | none => 0
      { c with
        stored := some (x.herd, sh, sl), epochHw := if fresh then epochHwOf seen else c.epochHw
        txq := c.txq.filter fun y => y.1.ty != 0x03 }
    | none => { c with txq := [] }
  let d := d.txPendAll
  if d.chn.addrHalf = was then d
  else (d.setInt pgChn 0).event e 0xB00 was.toNat d.chn.addrHalf.toNat x.round 0

/-- One drive's step of an enumeration (R417). -/
def Drive.enumStep (d : Drive) (e : Env) (x : Enum) : Enum × Drive :=
  let x := if d.chn.role != .lead && d.pwr.seg then { x with shelf := x.shelf + 1, last := 0xFF } else x
  let kid (x : Enum) : Enum × Drive :=
    let x := { x with kids := x.kids + 1, flags := x.flags ||| 2 }
    (x, d.takeAddr e x none)
  if 255 < x.shelf then kid x
  else
    let want := if x.last = 0xFF then 0 else x.last + 1
    let slot := match d.chn.stored with
      | some (h, sh, sl) => if x.flags % 2 = 0 ∧ h = x.herd ∧ sh = x.shelf ∧ want ≤ sl then sl else want
      | none => want
    if 63 < slot then kid x
    else
      let y := { x with last := slot, drives := x.drives + 1 }
      (y, d.takeAddr e y (some (x.shelf, slot)))

/-- The Lead Doe's ENUM of the present round goes out, its own step first. -/
def Drive.enumSend (d : Drive) (e : Env) : Drive :=
  let c := d.chn
  let (x, d) := d.enumStep e ⟨c.herd, 0, 0xFF, b2n c.renumber, c.round, 0, 0⟩
  d.leadSend (d.chn.frame 0x02 true 0xFFFF x.body)

/-- An enumeration is asked for: it starts at once, or with the next round where one is out or began within 100 ms. -/
def Drive.enumStart (d : Drive) (e : Env) (renumber : Bool) : Drive :=
  if d.chn.role ≠ .lead || !d.inRing then d
  else
    let soon := d.chn.enumOut || (match d.chn.enumAt with | some t => decide (e.clk.optime < t + 100) | none => false)
    if soon then d.onChn fun c => { c with enumAsked := true, renumber := if c.enumOut then c.renumber else c.renumber || renumber }
    else
      (d.onChn fun c => { c with
        round := c.round + 1, enumOut := true, enumAsked := false, renumber := renumber || (c.enumAsked && c.renumber)
        enumAt := some e.clk.optime }).enumSend e

/-- A round that was asked for meanwhile begins. -/
def Drive.enumServe (d : Drive) (e : Env) : Drive := if d.chn.enumAsked then d.enumStart e false else d

/-- ENUM_FRAME: a passing ENUM. -/
def enumFrameOp (f : Frame) (e : Env) (d : Drive) : Drive :=
  if f.ty ≠ 0x02 || !d.inRing then d
  else if d.chn.role = .lead then d.forward f
  else
    let (x, d) := (d.onChn fun c => { c with slotted := true }).enumStep e (enumOf f)
    d.forward { f with body := padTo 52 x.body }

/-- ENUM_RETURN: the ENUM is back at the Lead Doe, `ns` after it left. -/
def enumReturnOp (f : Frame) (ns : Nat) (e : Env) (d : Drive) : Drive :=
  let x := enumOf f
  if f.ty ≠ 0x02 || !d.inRing || d.chn.role ≠ .lead || !d.chn.enumOut || x.round ≠ d.chn.round then d
  else
    let d := d.takeOwn.onChn fun c => { c with enumOut := false, renumber := false }
    let d := (((d.setReg Reg.CHN_HERD_DRIVES (word (x.drives % 2 ^ 17))).setReg Reg.CHN_HERD_KIDS (word (x.kids % 2 ^ 17))).setReg
      Reg.CHN_HERD_SHELVES (word ((x.shelf + 1) % 512))).setReg Reg.CHN_RING_NS (word ns)
    let d := d.setInt pgChn 1
    let d := if bitN x.flags 1 then d.event e 0xB01 x.kids x.round 0 0 else d
    d.enumServe e

/-- ENUM_TIMEOUT: the same round goes out again. -/
def enumTimeoutOp (e : Env) (d : Drive) : Drive :=
  if d.chn.role = .lead && d.inRing && d.chn.enumOut then
    (d.onChn fun c => { c with onRing := c.onRing - 1, enumAt := some e.clk.optime }).enumSend e
  else d

/-- ENUM_REQ_FRAME. -/
def enumReqFrameOp (f : Frame) (e : Env) (d : Drive) : Drive :=
  if f.ty ≠ 0x03 || !d.inRing then d else (d.relay f).enumStart e false

/-- ENUM_REQ_TIMER: a Kid that no overflow has left asks to be addressed (R419). -/
def enumReqTimerOp (_ : Env) (d : Drive) : Drive :=
  if d.inRing && d.chn.addr.isNone && d.chn.role != .lead && !d.chn.overflow && !(d.chn.txq.any fun x => x.1.ty == 0x03) then
    d.chainSend (d.chn.frame 0x03 true 0xFFFF [])
  else d

/-- ENUM_PERIOD_EXPIRY. -/
def enumPeriodOp (e : Env) (d : Drive) : Drive := if d.fld Reg.CHN_ENUM_CTL 15 0 = 0 then d else d.enumStart e false

/-- A write of CHN_ENUM_CMD. -/
def chnEnumW (v : Word) (e : Env) (d : Drive) : Drive :=
  if bits v 31 24 = 0xA5 ∧ bit v 0 then d.enumStart e (bit v 1) else d

/-! ### The Lead Doe (R414, R415) -/

/-- The drive may claim. -/
def Drive.candidate (d : Drive) : Bool := d.pwr.lead && d.flag Reg.CHN_CTL 1

/-- The drive becomes Lead Doe. -/
def Drive.becomeLead (d : Drive) (e : Env) : Drive :=
  let (h, ep) := d.herdIdentity e
  let d := d.onChn fun c => { c with role := .lead, slotted := true, herd := h, epoch := ep, enumOut := false, enumAsked := false, onRing := 0 }
  (d.tickSend e).enumStart e false

/-- No TICK has come for TICK_LOSS_MS, nor a lower CLAIM to which the drive gave way (DESIGN CHOICE: R414 does not say when a
candidate that stopped claiming may claim again). -/
def Drive.mayClaim (d : Drive) (e : Env) : Bool :=
  let loss := d.fld Reg.CHN_TIMERS 15 0
  decide (d.chn.tickFrom + loss ≤ e.clk.optime) && d.chn.gaveWay.all fun t => decide (t + loss ≤ e.clk.optime)

/-- CLAIM_TIMER. -/
def claimTimerOp (e : Env) (d : Drive) : Drive :=
  if !d.inRing || !d.candidate || d.chn.role == .lead || !d.mayClaim e then d
  else
    let (h, ep) := d.herdIdentity e
    let d := d.onChn fun c => { c with role := .claiming, slotted := false }
    d.chainOut (d.chn.frame 0x01 true 0xFFFF (beBytes 8 e.fac.serial.toNat ++ beBytes 8 h.toNat ++ beBytes 8 ep)) true

/-- CLAIM_FRAME. -/
def claimFrameOp (f : Frame) (e : Env) (d : Drive) : Drive :=
  if f.ty ≠ 0x01 || !d.inRing then d
  else
    let s := f.at_ 8 8
    let mine := e.fac.serial.toNat
    if d.chn.role = .lead then d.tickSend e
    else if !d.candidate then d.chainOut f.hop true
    else if s = mine then if f.hops ≠ 0 ∧ d.chn.role = .claiming then d.becomeLead e else d
    else if s < mine then (d.onChn fun c => { c with role := c.plain, gaveWay := some e.clk.optime }).chainOut f.hop true
    else d

/-- TICK_TIMER. -/
def tickTimerOp (e : Env) (d : Drive) : Drive :=
  if d.chn.role = .lead && d.inRing then (d.tickSend e).enumServe e else d

/-- TICK_FRAME (R415, R421). -/
def tickFrameOp (f : Frame) (e : Env) (d : Drive) : Drive :=
  if f.ty ≠ 0x04 || !d.hears then d
  else
    let lead := f.at_ 8 8
    let herd : Long := BitVec.ofNat 64 (f.at_ 16 8)
    let epoch := f.at_ 24 8
    let mine := e.fac.serial.toNat
    if lead = mine then if d.inRing then d.takeOwn else d
    else if d.chn.role = .lead && decide (mine < lead) then (d.chainOut emptyFrame true).enumStart e false
    else
      let d := d.onChn fun c => { c with
        role := c.plain, slotted := true, enumOut := false, enumAsked := false
        lastTick := some (herd, epoch, e.clk.optime), tickFrom := e.clk.optime, gaveWay := none }
      let d := d.forward f
      match d.chn.addr, d.chn.stored with
      | some _, some (h, _, _) => if h = herd then d.takeTick epoch lead f.hops.toNat else d
      | _, _ => d

/-- TICK_LOSS (R422). -/
def tickLossOp (e : Env) (d : Drive) : Drive :=
  if d.chn.role = .lead then d
  else
    let d := d.onChn fun c => { c with slotted := false }
    if d.chn.addr.isSome && !d.chn.herdLost then
      ((d.onChn fun c => { c with herdLost := true }).setInt pgChn 2).event e 0xB02 (d.wide Reg.CHN_EPOCH) 0 0 0
    else d

/-! ### Tags (R428) -/

/-- The 50 bytes that the tag of a frame covers under an epoch. -/
def tagMsg (f : Frame) (epoch : Nat) : List Byte :=
  let flags := 128 * b2n f.bcast + 64 * b2n f.auth + 32 * b2n f.resp + f.rid.toNat
  [f.ty] ++ beBytes 1 flags ++ beBytes 2 f.src.toNat ++ beBytes 2 f.dst.toNat ++ f.body.take 36 ++ beBytes 8 epoch

/-- The tag of a frame that the drive sends, made on queue 28; none where CIPHER or slot 4,110 makes none. -/
def Drive.chainTag (d : Drive) (e : Env) (f : Frame) : Option (List Byte) × Drive :=
  d.cmacGen e 28 4110 (tagMsg f (d.wide Reg.CHN_EPOCH))

/-- Whether a tagged frame verifies, under CHN_EPOCH or that less 1; none where verification cannot run. -/
def Drive.chainVerify (d : Drive) (e : Env) (f : Frame) : Option Bool × Drive :=
  let ep := d.wide Reg.CHN_EPOCH
  let tag := slice f.body 36 16
  match d.cmacCheck e 28 4110 (tagMsg f ep) tag with
  | (some false, d) => d.cmacCheck e 28 4110 (tagMsg f (ep - 1)) tag
  | x => x

/-! ### Allotments, alarms, notices (R424 to R426) -/

/-- The last entry of an ALLOT that holds address `a`. -/
def allotEntry (f : Frame) (a : Nat) : Option Nat :=
  ((List.range (if f.auth then 6 else 8)).filterMap fun i =>
    if f.at_ (8 + 6 * i) 2 ≤ a ∧ a ≤ f.at_ (10 + 6 * i) 2 then some (f.at_ (12 + 6 * i) 2) else none).getLast?

/-- ALLOT_FRAME. The frame is for every drive, its sender included. -/
def allotFrameOp (f : Frame) (e : Env) (d : Drive) : Drive :=
  if f.ty ≠ 0x05 || !d.hears then d
  else
    let d' := d.relay f
    match d.chn.addr.bind fun a => allotEntry f a.toNat with
    | none => d'
    | some w =>
      let (ok, d') := if f.auth then d'.chainVerify e f else (none, d')
      let live := d.nrg.chainGrant
      if !d.flag Reg.CHN_CTL 2 || ok == some true || decide (w ≤ if live = 0 then d.fld Reg.NRG_ALLOT_CTL 25 16 else live) then
        d'.grant .chain w
      else d'.bumpOpen Reg.CHN_ALLOT_REFUSED 1

/-- ALARM_FRAME. -/
def alarmFrameOp (f : Frame) (e : Env) (d : Drive) : Drive :=
  if f.ty ≠ 0x06 || !d.hears then d
  else
    let me := d.forMe f
    let d := d.relay f
    if !me then d
    else
      let code := f.at_ 8 2
      let d := (d.setReg Reg.CHN_ALARM_LAST (word (code * 65536 + f.src.toNat))).setReg Reg.CHN_ALARM_LEVEL (word (f.at_ 10 1 % 4))
      let d := (d.bumpOpen Reg.CHN_ALARM_RX 1).setInt pgChn 3
      if f.at_ 10 1 = 2 then d.event e 0xB03 code f.src.toNat (f.at_ 20 4) 0 else d

/-- CHAIN_NOTICE_FRAME. -/
def chainNoticeFrameOp (f : Frame) (_ : Env) (d : Drive) : Drive :=
  if f.ty ≠ 0x07 || !d.hears then d
  else
    let me := d.forMe f
    let d := d.relay f
    if !me then d
    else
      ((d.setReg Reg.CHN_NOTICE_LAST (word (f.at_ 8 2 * 65536 + f.src.toNat))).setReg Reg.CHN_NOTICE_VAL (word (f.at_ 12 4))).setInt pgChn 4

/-- A NOTICE of the drive's own (R426). -/
def Drive.chainNotice (d : Drive) (page : Nat) (stat : Word) : Drive :=
  if d.chn.addr.isNone then d
  else
    let all_ := d.flag Reg.CHN_NOTICE_CTL 16
    d.chainSend (d.chn.frame 0x07 all_ (BitVec.ofNat 16 (d.fld Reg.CHN_NOTICE_CTL 15 0)) (beBytes 2 page ++ beBytes 2 0 ++ beBytes 4 stat.toNat))

/-! ### Slots, unknown and bad frames (R410 to R412) -/

/-- EMPTY_SLOT: `gone` frames of the drive's own have been taken off the ring elsewhere since the last one, by their
destinations or by the Lead Doe. -/
def emptySlotOp (f : Frame) (gone : Nat) (_ : Env) (d : Drive) : Drive :=
  if f.ty ≠ 0x00 || !d.inRing then d
  else
    let d := d.onChn fun c => { c with slotted := true, onRing := c.onRing - gone }
    match d.chn.txq with
    | (g, src) :: rest =>
      if 4 ≤ d.chn.onRing then d.chainOut emptyFrame true
      else
        let d := (d.onChn fun c => { c with txq := rest, onRing := c.onRing + 1 }).chainOut g true
        match src with
        | .window p => d.txPend p
        | .own => d
    | [] => d.chainOut emptyFrame true

/-- Types a drive knows (R410). -/
def frameKnown (ty : Byte) : Bool := decide (ty.toNat < 8) || decide (0x10 ≤ ty.toNat ∧ ty.toNat < 0x13)

/-- UNKNOWN_FRAME. -/
def unknownFrameOp (f : Frame) (_ : Env) (d : Drive) : Drive :=
  if frameKnown f.ty || !d.hears then d else (d.bumpOpen Reg.CHN_RX_UNKNOWN 1).forward f

/-- A frame read from its 64 bytes (R409). -/
def frameOf (bs : List Byte) : Frame :=
  let flags := beAt bs 1 1
  { ty := BitVec.ofNat 8 (beAt bs 0 1), bcast := bitN flags 7, auth := bitN flags 6, resp := bitN flags 5, rid := BitVec.ofNat 4 flags
    src := BitVec.ofNat 16 (beAt bs 2 2), dst := BitVec.ofNat 16 (beAt bs 4 2), lap := bitN (beAt bs 6 2) 15
    hops := BitVec.ofNat 15 (beAt bs 6 2), body := padTo 52 (bs.drop 8) }

/-- BAD_CHAIN_FRAME (R411): 64 bytes whose FCRC fails, or that ended in K30.7. -/
def badChainFrameOp (bs : List Byte) (endBad : Bool) (_ : Env) (d : Drive) : Drive :=
  let bad := endBad || bs.length != 64 || (crc32c (bs.take 60)).toNat != beAt bs 60 4
  if !bad || !d.hears then d
  else
    let d := (d.bumpOpen Reg.CHN_CRC_BAD 1).errCnt pgChn
    if d.chn.role = .lead then d.chainOut emptyFrame true else d.chainOut (frameOf bs).hop false

/-! ### The request window (R430) -/

/-- A write of CHN_REQ_CMD on path `p`. -/
def chnReqW (p : Path) (v : Word) (e : Env) (d : Drive) : Drive :=
  let a := pk p Reg.CHN_REQ_CMD
  let op := d.fld a 6 5
  let stat := pk p Reg.CHN_REQ_STAT
  if !bit v 8 || d.fld stat 2 0 == 1 || op == 0 || op == 3 then d
  else
    let auth := op == 2 && d.flag a 7
    let n := d.fld a 3 0
    let data := ((List.range 8).map fun i => if op = 2 ∧ i < n then beBytes 4 (d.reg (pk p (Reg.CHN_REQ_DATA i))).toNat else zeros 4).flatten
    let body := beBytes 3 (d.reg (pk p Reg.CHN_REQ_ADDR)).toNat ++ beBytes 1 n ++ data
    let rid := d.chn.nextRid
    let dst : Half := BitVec.ofNat 16 (d.fld (pk p Reg.CHN_REQ_DST) 15 0)
    let f := { d.chn.frame (if op = 1 then 0x10 else 0x11) false dst body with rid := rid, auth := auth }
    let send (f : Frame) (d : Drive) : Drive :=
      let d := (d.setReg stat 1).onChn fun c => { c with
        nextRid := rid + 1, reqs := ⟨p, rid, dst, op, n⟩ :: c.reqs.filter fun r => !(r.path == p) }
      if d.chn.addr.isSome then d.chainSend f else d
    if auth then
      match d.chainTag e f with
      | (none, d) => d.setReg stat 4
      | (some t, d) => send { f with body := f.body.take 36 ++ t } d
    else send f d

/-- REG_RSP_FRAME: the response of an outstanding request. -/
def regRspFrameOp (f : Frame) (_ : Env) (d : Drive) : Drive :=
  if f.ty ≠ 0x12 || !d.hears then d
  else
    let me := d.forMe f && !f.bcast
    let d := d.relay f
    match if me then d.chn.reqs.find? fun r => r.rid == f.rid else none with
    | none => d
    | some r =>
      let d := d.onChn fun c => { c with reqs := c.reqs.filter fun x => !(x.path == r.path) }
      let d := d.setReg (pk r.path Reg.CHN_REQ_STAT) (word (f.at_ 13 1 * 65536 + f.at_ 12 1 * 256 + 2))
      let d := if r.op = 1 ∧ f.at_ 12 1 = 0 then
          (List.range (min r.count 8)).foldl (fun (d : Drive) i => d.setReg (pk r.path (Reg.CHN_REQ_DATA i)) (word (f.at_ (16 + 4 * i) 4))) d
        else d
      d.setInt pgChn 5

/-- CHN_REQ_TIMEOUT. -/
def chnReqTimeoutOp (p : Path) (_ : Env) (d : Drive) : Drive :=
  if d.fld (pk p Reg.CHN_REQ_STAT) 2 0 = 1 then
    ((d.onChn fun c => { c with reqs := c.reqs.filter fun x => !(x.path == p) }).setReg (pk p Reg.CHN_REQ_STAT) 3).setInt pgChn 5
  else d

/-! ### The transmit window (R431) -/

/-- A write of CHN_TX_CTL on path `p`. -/
def chnTxW (p : Path) (v : Word) (e : Env) (d : Drive) : Drive :=
  let ty := bits v 23 16
  let keyed := bits v 31 24 == 0xA5
  let d := if keyed then d.poke (pk p Reg.CHN_TX_STAT) 1 1 0 else d
  if !keyed || d.chn.addr.isNone then d
  else
    let body := ((List.range 13).map fun w => beBytes 4 (d.reg (pk p (Reg.CHN_TX_BODY w))).toNat).flatten
    let send (f : Frame) (d : Drive) : Drive := (d.onChn fun c => { c with txq := c.txq ++ [(f, .window p)] }).txPend p
    if ty = 5 then
      let auth := bit v 8
      let f := { d.chn.frame 0x05 true 0xFFFF body with auth := auth }
      if !auth then send f d
      else match d.chainTag e f with
        | (none, d) => d.poke (pk p Reg.CHN_TX_STAT) 1 1 1
        | (some t, d) => send { f with body := f.body.take 36 ++ t } d
    else if ty = 6 ∧ 0x8000 ≤ beAt body 0 2 then send (d.chn.frame 0x06 true 0xFFFF body) d
    else d

end Sys2Proof.Machine
end

