-- ==== Sys2Proof/Machine/Commands.lean ====
section
/-! DEFINITION. The key-value commands between their delivery and their answer (R147 to R197): the checks of R157 step by
step, the reads, LIST, FLUSH, REPLAY_REPORT, the namespace and key commands and subscriptions. Register commands are in
Fabric.lean, delivery in Deliver.lean. -/

namespace Sys2Proof.Machine

/-! ### Steps 1 and 3 of R157 -/

/-- CFLAGS that R153 refuses. -/
def badCflags (op : Op) (c : Half) : Bool :=
  decide (8 ≤ c.toNat) || (op != .put && (c.getLsbD 1 || c.getLsbD 2)) || (c.getLsbD 1 && c.getLsbD 2)

/-- Step 1: the detail code, or 0. -/
def stepOne (f : Flow) (c : Cmd) (op : Op) : Nat :=
  if f.cmds.any (·.tag == c.tag) then 0x110
  else match op with
    | .unknown _ => 0x111
    | op => if badCflags op c.cflags then 0x112 else 0

/-- 16 GiB. -/
def maxValue : Nat := 2 ^ 34

/-- Step 3 of a keyed command (R154, R168 to R176). -/
def keyedLayout (op : Op) (pay : Nat) (b : List Byte) : Nat :=
  if b.length ≠ 32 + bodyKeyLen b ∨ b.length < 32 then 3
  else if 0xFFF < bodyNs b then 3
  else if bodyKeyLen b = 0 ∨ 1024 < bodyKeyLen b then 4
  else match op with
    | .put => if maxValue < pay then 5 else 0
    | .cas => if maxValue < pay then 5 else 0
    | .putRange => if pay = 0 then 3 else if maxValue < bodyArg0 b + pay then 5 else 0
    | _ =>
      if pay ≠ 0 then 3
      else if op = .punch ∨ op = .getRange then
        (if bodyArg1 b = 0 then 3 else if maxValue < bodyArg0 b + bodyArg1 b then 0x13 else 0)
      else 0

/-- Fields of LIST (R177). -/
def listPrefixLen (b : List Byte) : Nat := beAt b 2 2
def listStartLen (b : List Byte) : Nat := beAt b 4 2
def listLimit (b : List Byte) : Nat := beAt b 8 4
def listPrefix (b : List Byte) : List Byte := slice b 16 (listPrefixLen b)
def listStart (b : List Byte) : List Byte := slice b (16 + listPrefixLen b) (listStartLen b)

/-- The shape of a register access that BAD_ACCESS refuses (R53): address, count, and the path's limit. -/
def badShape (addr count limit : Nat) : Bool :=
  addr % 4 != 0 || count == 0 || decide (limit < count) || decide (4096 < addr % 4096 + 4 * count)

/-- Step 3 of the other commands (R177, R186, R188, R189, R193 to R196, R335). -/
def otherLayout (op : Op) (b : List Byte) : Nat :=
  let len := b.length
  match op with
  | .list =>
    if len < 16 ∨ len ≠ 16 + listPrefixLen b + listStartLen b ∨ 0xFFF < bodyNs b then 3
    else if 1024 < listPrefixLen b ∨ 1024 < listStartLen b then 4
    else if listLimit b = 0 ∨ 65536 < listLimit b then 3 else 0
  | .flush =>
    let n := beAt b 4 2
    if len < 8 ∨ 2 < beAt b 0 1 then 3
    else if beAt b 0 1 = 1 then (if n = 0 ∨ 1000 < n ∨ len ≠ 8 + 4 * n then 3 else 0)
    else if n ≠ 0 ∨ len ≠ 8 ∨ (beAt b 0 1 = 2 ∧ 0xFFF < beAt b 2 2) then 3 else 0
  | .replayReport =>
    if len ≠ 16 ∨ 2 < beAt b 0 1 ∨ (beAt b 0 1 = 1 ∧ (beAt b 2 2 = 0 ∨ 1000 < beAt b 2 2)) then 3 else 0
  | .nsCreate =>
    if len ≠ 16 ∨ (0xFFF < bodyNs b ∧ (bodyNs b ≠ 0xFFFF ∨ nscUpdate b)) ∨ nscQuota b = 0 ∨ 2 ^ 49 < nscQuota b then 3 else 0
  | .nsDelete => if len ≠ 8 ∨ 0xFFF < bodyNs b then 3 else 0
  | .nsUsage => if len ≠ 8 ∨ 0xFFF < bodyNs b then 3 else 0
  | .keyLoad => if len < 8 ∨ len ≠ 8 + beAt b 2 2 then 3 else 0
  | .mgmtRead => if len ≠ 8 then 3 else if badShape (beAt b 1 3) (beAt b 4 2) 256 then 0x105 else 0
  | .mgmtWrite =>
    if len < 8 ∨ len ≠ 8 + 4 * beAt b 4 2 then 3 else if badShape (beAt b 1 3) (beAt b 4 2) 256 then 0x105 else 0
  | _ => if len ≠ 8 then 3 else 0

/-- Step 3: the status, or 0. -/
def stepThree (op : Op) (pay : Nat) (b : List Byte) : Nat :=
  if op.keyed then keyedLayout op pay b else if pay ≠ 0 then 3 else otherLayout op b

/-! ### Step 4: the policy search (R49, R198, R199, R202, R204, R219) -/

/-- Namespace field and key prefix of the search. -/
def searchNs (op : Op) (b : List Byte) : Nat := ((cmdNs op b).getD 0) % 4096
def searchPrefix (op : Op) (b : List Byte) : List Byte :=
  if op.keyed then bodyKey b else match op with | .list => listPrefix b | _ => []

/-- The command is refused with `a`. -/
def Drive.refuse (d : Drive) (e : Env) (h : HeldCmd) (a : Ans) : Drive := d.answer e h.slot h.inc h.cmd.hdr.seq a

/-- Step 4: the decision where the command is allowed; it is answered where it is denied, and waits while a segment of its
table rebuilds. -/
def Drive.policy (d : Drive) (e : Env) (h : HeldCmd) (f : Flow) : Option Verdict × Drive :=
  if d.tableHeld (d.classTable h.op.cls) then
    (none, d.onMch fun m => { m with heldCmds := m.heldCmds ++ [h] })
  else
    let b := h.cmd.body
    let key := searchKey f.tenant.toNat (searchNs h.op b) h.cmd.arr.port.toNat h.op.cls (d.vidOf h.cmd.arr)
      (searchPrefix h.op b)
    let (v, d) := d.search h.op.cls key
    let res0 := match h.op with | .mgmtRead => 7 | .mgmtWrite => 7 | _ => 0
    if !v.allow then (none, d.refuse e h { status := 0xC, res0 := res0 })
    else if h.op.cls = 2 ∧ d.rowBad v f.tenant then
      (none, (d.countRowBad e v f.tenant (searchNs h.op b)).refuse e h { status := 0xC })
    else (some v, d)

/-! ### Ends -/

/-- A class 1 or 2 command that passed step 5 is refused: its namespace counts it (R190). -/
def Drive.refuseIn (d : Drive) (e : Env) (h : HeldCmd) (a : Ans) : Drive :=
  (d.countEnd' h.op (bodyNs h.cmd.body) a.status 0).refuse e h a

/-- A command without a record ends OK, with `bytes` counted for it (R190, R211). -/
def Drive.endOk (d : Drive) (e : Env) (h : HeldCmd) (v : Verdict) (bytes : Nat) (a : Ans) : Drive :=
  ((d.countEnd' h.op (bodyNs h.cmd.body) 0 bytes).countOps v.ids bytes).refuse e h a

/-- The namespace that a data command names is one of the flow's tenant (R151). -/
def Drive.owns (d : Drive) (f : Flow) (ns : Nat) : Bool := ((nsOf d.nss ns).map fun n => n.owner == f.tenant).getD false

/-! ### Step 11 (R157, R185, R383, R384) -/

/-- Step 11: the retry hint where the command is not admitted. -/
def Drive.stepEleven (d : Drive) (e : Env) (units : Nat) : Option Nat × Drive :=
  let under := d.nrg.writeReady && d.jrnMode != 0
  if under then (d.wtTest units, d)
  else if d.nrg.writeReady && d.admits e 1 0 then (none, d)
  else
    let (n, d) := d.deferHint e
    (some n, d)

/-- A command ends with ENERGY_DEFER (R403). -/
def Drive.defers (d : Drive) (e : Env) (h : HeldCmd) (hint : Nat) : Drive :=
  let d := (d.bumpOpen Reg.NRG_DEFERS 1).setInt pgNrg 0
  (if h.op.cls = 2 then d.countEnd' h.op (bodyNs h.cmd.body) 0xD 0 else d).refuse e h { status := 0xD, retry := hint }

/-- Step 11 and acceptance. -/
def Drive.admitOrDefer (d : Drive) (e : Env) (h : HeldCmd) (f : Flow) (v : Verdict) (growth : Nat) : Drive :=
  match d.stepEleven e (ceilDiv h.cmd.payload.toNat 4096) with
  | (some n, d) => d.defers e h n
  | (none, d) => (d.leaveIdle e).acceptOrHold e h f v growth

/-! ### Writes (R157 steps 5 to 10, R182 to R184) -/

/-- The new stored bytes of the key less those it has now (R182); its growth is this, or 0 if this is negative. -/
def Drive.growthOf (d : Drive) (op : Op) (ns pay : Nat) (b : List Byte) : Int :=
  let old := (nsOf d.nss ns).bind (·.find (bodyKey b))
  let (len, ps) := writeRuns old op pay b [⟨unitLen pay, .pay 0 0⟩]
  ((bodyKeyLen b + (len - holesIn ps len) : Nat) : Int) - ((old.map KeyRec.stored).getD 0 : Nat)

/-- Step 9: a write that does not shrink its value, and with which the quota would stand above its limit. -/
def Drive.quotaFull (d : Drive) (q : Nat) (growth : Int) : Bool :=
  decide (0 ≤ growth) &&
    decide (((nsOf d.nss q).map (·.limit)).getD 0 < quotaUse d.nss q + d.quotaGrowth q + growth.toNat)

/-- Steps 6 to 10 of a class 2 command. -/
def Drive.writeSteps (d : Drive) (e : Env) (h : HeldCmd) (v : Verdict) (growth : Int) : Judge :=
  let b := h.cmd.body
  let ns := bodyNs b
  let pay := h.cmd.payload.toNat
  let n := segCount h.op pay (bodyArg0 b) (d.jrnMode != 0 || d.spills pay)
  let slot := if h.op.paid then d.judgeSlot (d.rowSlot v ns) n else 0
  let j := judgeWrite d.nss ns h.op h.cmd.cflags pay b
  if (e.readOnly || d.med.readOnly) && h.op != .delete then ⟨8, 0⟩
  else if slot ≠ 0 then ⟨slot, 0⟩
  else if j.status ≠ 0 then j
  else if h.op.paid && d.quotaFull (rowQuotaNs v ns) growth then ⟨6, 0⟩
  else if h.op.paid && decide (d.userCap < d.userUsed + unitLen (bodyKeyLen b + pay)) then ⟨7, 0⟩
  else ⟨0, 0⟩

/-- A class 2 command from step 5 on. -/
def Drive.doWrite (d : Drive) (e : Env) (h : HeldCmd) (f : Flow) (v : Verdict) : Drive :=
  let b := h.cmd.body
  let ns := bodyNs b
  if !d.owns f ns then d.refuse e h { status := 0x14 }
  else
    let growth := if h.op.paid then d.growthOf h.op ns h.cmd.payload.toNat b else 0
    let j := d.writeSteps e h v growth
    if j.status ≠ 0 then d.refuseIn e h { status := j.status, version := j.version }
    else d.admitOrDefer e h f v growth.toNat

/-- A namespace or key command with a record, from step 5 on (R188, R189, R193, R194). -/
def Drive.doAdmin (d : Drive) (e : Env) (h : HeldCmd) (f : Flow) (v : Verdict) : Drive :=
  let j := d.reevaluate e d.nss (d.newRec e h f v 0)
  if j.status ≠ 0 then d.refuse e h { status := j.status } else d.admitOrDefer e h f v 0

/-! ### Reads (R165, R174 to R180) -/

/-- GET and GET_RANGE. -/
def Drive.doGet (d : Drive) (e : Env) (h : HeldCmd) (v : Verdict) : Drive :=
  let b := h.cmd.body
  let ns := bodyNs b
  match (nsOf d.nss ns).bind (·.find (bodyKey b)) with
  | none => d.refuseIn e h { status := 1 }
  | some k =>
    let (off, len) := if h.op = .get then (0, k.len) else (bodyArg0 b, bodyArg1 b)
    if k.len < off + len then d.refuseIn e h { status := 0x13 }
    else (d.leaveIdle e).startJob e h.slot h.inc h.cmd.hdr.seq h.op ns k off len v

/-- Every unit of the version is on flash in its final segment, and its own record is DRAINED (R176, R319). -/
def Drive.onFlashNow (d : Drive) (k : KeyRec) : Bool :=
  let fin (p : Piece) : Bool :=
    match p.src with
    | .hole => true
    | .seg id _ => match d.med.seg id with
      | some s => s.loc.isSome && decide (s.index < 2 ^ 31)
      | none => false
    | _ => false
  k.pieces.all fin && ((d.rec? k.rsn).map fun r => r.st == .drained).getD true

/-- STAT. -/
def Drive.doStat (d : Drive) (e : Env) (h : HeldCmd) (v : Verdict) : Drive :=
  let b := h.cmd.body
  match (nsOf d.nss (bodyNs b)).bind (·.find (bodyKey b)) with
  | none => d.refuseIn e h { status := 1 }
  | some k =>
    let sparse := decide (0 < holesIn k.pieces k.len)
    let extra := beBytes 8 k.opq.toNat ++ beBytes 2 k.slot ++ beBytes 2 (b2n (d.onFlashNow k) + 2 * b2n sparse) ++ zeros 4
    (d.leaveIdle e).endOk e h v 0 { status := 0, version := k.version, res0 := k.len, res1 := k.stored, extra := extra }

/-- `pre` begins `bs`. -/
def startsWith (bs pre : List Byte) : Bool := bs.take pre.length == pre

/-- A LIST entry (R179). -/
def KeyRec.listEntry (k : KeyRec) : List Byte :=
  let x := beBytes 2 k.key.length ++ zeros 6 ++ beBytes 8 k.version ++ beBytes 8 k.len ++ k.key
  padTo (8 * ceilDiv x.length 8) x

/-- LIST. -/
def Drive.doList (d : Drive) (e : Env) (h : HeldCmd) (v : Verdict) : Drive :=
  let b := h.cmd.body
  let pre := listPrefix b
  let start := listStart b
  if !start.isEmpty && !startsWith start pre then d.refuseIn e h { status := 0x13 }
  else
    let excl := beAt b 6 2 % 2 = 1
    let after (k : List Byte) : Bool := start.isEmpty || bytesLt start k || (k == start && !excl)
    let all_ := (((nsOf d.nss (bodyNs b)).map (·.keys)).getD []).filter fun k => startsWith k.key pre && after k.key
    let ks := all_.take (listLimit b)
    let bytes := (ks.map KeyRec.listEntry).flatten
    let a : Ans := { status := 0, res0 := ks.length, res1 := b2n (decide (ks.length < all_.length)) }
    let d := ((d.leaveIdle e).countEnd' .list (bodyNs b) 0 bytes.length).countOps v.ids bytes.length
    d.payloadSend e h.slot h.inc h.cmd.hdr.seq bytes a

/-- A class 1 command at its snapshot point (R165). -/
def Drive.doRead (d : Drive) (e : Env) (h : HeldCmd) (f : Flow) (v : Verdict) : Drive :=
  if !d.owns f (bodyNs h.cmd.body) then d.refuse e h { status := 0x14 }
  else match h.op with
    | .stat => d.doStat e h v
    | .list => d.doList e h v
    | _ => d.doGet e h v

/-! ### FLUSH (R186) -/

/-- A committed command's record is held, COMMITTED or DRAINED. -/
def JRec.covered (r : JRec) : Bool := (r.st == .committed && r.effect) || r.st == .drained

/-- FLUSH. -/
def Drive.doFlush (d : Drive) (e : Env) (h : HeldCmd) (f : Flow) (v : Verdict) : Drive :=
  let b := h.cmd.body
  let seq := h.cmd.hdr.seq
  let held := d.jrn.recs.filter JRec.covered
  let mine (r : JRec) : Bool := r.slot == f.slot && r.inc == f.inc
  let named := (List.range (beAt b 4 2)).map fun i => word (beAt b (8 + 4 * i) 4)
  let inNs (r : JRec) : Bool := if r.op = .nsCreate then r.res0 == beAt b 2 2 else cmdNs r.op r.body == some (beAt b 2 2)
  let (xs, miss) :=
    if beAt b 0 1 = 0 then (held.filter fun r => mine r && seqLt r.cmdSeq seq, 0)
    else if beAt b 0 1 = 1 then
      (held.filter fun r => mine r && named.contains r.cmdSeq,
       (named.filter fun s => !(held.any fun r => mine r && r.cmdSeq == s)).length)
    else (held.filter inNs, 0)
  if beAt b 0 1 = 2 && !d.owns f (beAt b 2 2) then d.refuse e h { status := 0x14 }
  else
    let wait := (xs.filter (·.st == .committed)).map (·.rsn)
    let d := d.leaveIdle e
    if wait.isEmpty then d.endOk e h v 0 { status := 0, res0 := xs.length, res1 := miss }
    else d.onJrn fun j => { j with
      flushes := j.flushes ++ [⟨h.slot, h.inc, seq, wait, xs.length, miss, v.ids⟩] }

/-- FLUSH_COMPLETE: every command a FLUSH covers is DRAINED. -/
def flushCompleteOp (slot : Nat) (seq : Word) (e : Env) (d : Drive) : Drive :=
  match d.jrn.flushes.find? fun x => x.slot == slot && x.cmdSeq == seq with
  | none => d
  | some x =>
    if d.jrn.recs.any fun r => x.rsns.contains r.rsn && r.st == .committed then d
    else
      let d := d.onJrn fun j => { j with flushes := j.flushes.filter fun y => !(y.slot == slot && y.cmdSeq == seq) }
      (d.countOps x.ids 0).answer e x.slot x.inc x.cmdSeq { status := 0, res0 := x.res0, res1 := x.res1 }

/-! ### REPLAY_REPORT (R187, R332 to R336) -/

/-- An entry on the wire. -/
def Entry48.bytes (x : Entry48) : List Byte :=
  beBytes 4 x.flow.toNat ++ beBytes 4 x.tag.toNat ++ beBytes 4 x.cmdSeq.toNat ++ beBytes 2 x.op ++ beBytes 2 x.status ++
    beBytes 2 x.final ++ beBytes 2 x.ns ++ zeros 4 ++ beBytes 8 x.version ++ beBytes 8 x.opq.toNat ++
    beBytes 4 x.pcycle ++ zeros 4

/-- REPLAY_REPORT. -/
def Drive.doReport (d : Drive) (e : Env) (h : HeldCmd) (f : Flow) (v : Verdict) : Drive :=
  let b := h.cmd.body
  let flow := word (beAt b 4 4)
  let arg := word (beAt b 8 4)
  let mine (x : Entry48) : Bool := x.flow == flow && x.tenant == f.tenant
  let from_ (x : Entry48) : Bool := mine x && decide ((x.cmdSeq - arg).toNat < 2 ^ 31)
  match beAt b 0 1 with
  | 0 =>
    match d.jrn.report.find? fun x => mine x && x.tag == arg with
    | none => d.refuse e h { status := 1 }
    | some x => (d.leaveIdle e).endOk e h v 0 { status := 0, version := x.version, res0 := 1, extra := x.bytes }
  | 1 =>
    let all_ := (d.jrn.report.filter from_).mergeSort fun x y => decide ((x.cmdSeq - arg).toNat ≤ (y.cmdSeq - arg).toNat)
    let xs := all_.take (beAt b 2 2)
    if xs.isEmpty then d.refuse e h { status := 1 }
    else
      let bytes := (xs.map Entry48.bytes).flatten
      ((d.leaveIdle e).countOps v.ids 0).payloadSend e h.slot h.inc h.cmd.hdr.seq bytes
        { status := 0, res0 := xs.length, res1 := b2n (decide (xs.length < all_.length)) }
  | _ =>
    let n := (d.jrn.report.filter from_).length
    if n = 0 then d.refuse e h { status := 1 }
    else ((d.leaveIdle e).onJrn fun j => { j with report := j.report.filter fun x => !from_ x }).endOk e h v 0 { status := 0, res0 := n }

/-! ### NS_USAGE and NOTICE_SUBSCRIBE (R190, R192, R196) -/

/-- The command-specific fields of NS_USAGE. -/
def Ns.usage (n : Ns) (u : NsUse) (e : Env) (charged : Nat) : List Byte :=
  beBytes 8 n.limit ++ beBytes 8 charged ++ beBytes 8 n.stored ++ beBytes 8 n.keys.length ++ beBytes 16 n.byteMs ++
    beBytes 8 u.readOps ++ beBytes 8 u.readBytes ++ beBytes 8 u.readRefused ++ beBytes 8 n.writeOps ++
    beBytes 8 n.writeBytes ++ beBytes 8 u.writeRefused ++ beBytes 8 (e.clk.optime % 2 ^ 48) ++ beBytes 4 e.clk.pcycle ++ zeros 4

/-- NS_USAGE. -/
def Drive.doUsage (d : Drive) (e : Env) (h : HeldCmd) (f : Flow) (v : Verdict) : Drive :=
  let id := bodyNs h.cmd.body
  if !nsVisible d.nss f.tenant id then d.refuse e h { status := 0x14 }
  else
    let d := (d.leaveIdle e).onNs id fun n => n.settle e.clk.optime
    match nsOf d.nss id with
    | none => d
    | some n => d.endOk e h v 0 { status := 0, version := n.version, extra := n.usage (d.useOf id) e (quotaUse d.nss id) }

/-- NOTICE_SUBSCRIBE: ON 1 subscribes, another value unsubscribes. -/
def Drive.doSubscribe (d : Drive) (e : Env) (h : HeldCmd) (f : Flow) (v : Verdict) : Drive :=
  let page := beAt h.cmd.body 0 2
  let on : Bool := beAt h.cmd.body 2 1 == 1
  let total : Nat := (d.xpt.flows.map fun x => x.subs.length).foldl (· + ·) 0
  if (pageInfo page).isNone then d.refuse e h { status := 0x103 }
  else if on && !f.subs.contains page && (decide (64 ≤ f.subs.length) || decide (4096 ≤ total)) then d.refuse e h { status := 0x140 }
  else
    let subs := if on then (if f.subs.contains page then f.subs else f.subs ++ [page]) else f.subs.filter (· != page)
    ((d.leaveIdle e).onFlow f.slot fun f => { f with subs := subs }).endOk e h v 0 { status := 0, res0 := subs.length }

/-! ### From step 5 on -/

/-- The command has no record, and its ORDERED makes it wait at its snapshot point (R163). -/
def Drive.mustWait (d : Drive) (h : HeldCmd) : Bool :=
  !h.op.journaled && h.cmd.cflags.getLsbD 0 && !d.orderOk h.slot h.inc h.cmd.hdr.seq h.op (cmdNs h.op h.cmd.body)

/-- A command that the policy allows, from step 5 on, with the index pages it reads in DRAM; register commands are not handled
here. -/
def Drive.withPages (d : Drive) (e : Env) (h : HeldCmd) (f : Flow) (v : Verdict) : Drive :=
  if h.op.cls = 2 then d.doWrite e h f v
  else if h.op.cls = 1 then d.doRead e h f v
  else match h.op with
    | .flush => d.doFlush e h f v
    | .replayReport => d.doReport e h f v
    | .nsUsage => d.doUsage e h f v
    | .noticeSubscribe => d.doSubscribe e h f v
    | _ => d.doAdmin e h f v

/-- A command that the policy allows, from step 5 on. A keyed command or a LIST of the tenant's own namespace waits for the leaf
pages it reads that DRAM does not hold (R279). -/
def Drive.fromFive (d : Drive) (e : Env) (h : HeldCmd) (f : Flow) (v : Verdict) : Drive :=
  let miss := if d.owns f (bodyNs h.cmd.body) then d.med.leavesMissing h.op h.cmd.body else []
  if miss.isEmpty then d.withPages e h f v
  else miss.foldl (fun d p => d.loadPage e p.num) (d.onMed fun m => { m with heldLeaf := m.heldLeaf ++ [{ h with v := some v }] })

end Sys2Proof.Machine
end

