-- ==== Sys2Proof/Machine/Flows.lean ====
section
/-! DEFINITION. Flows from OPEN to TOMB and the units of host payloads and drive responses (R108 to R132, R314): opening,
DATA with its checks, the fabric's confirmations and grants, host bitmaps, re-sending and the flow timers. -/

namespace Sys2Proof.Machine

/-! ### OPEN (R109 to R111, R113) -/

/-- Fields of an OPEN body. -/
def openNonce (b : List Byte) : Long := BitVec.ofNat 64 (beAt b 0 8)
def openIsn (b : List Byte) : Word := word (beAt b 8 4)
def openTenant (b : List Byte) : Nat := beAt b 12 2
def openMtu (b : List Byte) : Nat := beAt b 14 2
def openCmds (b : List Byte) : Nat := beAt b 16 2

/-- The OPEN_ACK of a flow, with its present LIMIT. -/
def Drive.openAck (d : Drive) (f : Flow) : Drive :=
  let body := beBytes 8 f.nonce.toNat ++ beBytes 4 f.isnDrive.toNat ++ beBytes 2 f.mtu ++ beBytes 2 f.target ++
    beBytes 2 f.rto ++ beBytes 2 f.idleS
  let bytes := dgram 2 f.id 0 f.isnHost f.limit 0 0 body
  let tag : Option Tci := f.arr.tag.map fun t => { t with pcp := BitVec.ofNat 3 f.qos }
  d.send f.arr.port.toNat (TxFrame.mk' f.qos f.arr.mac tag (.dgram f.arr.ipv6 (d.srcIp f.arr) f.arr.ip d.udpPort f.arr.udp.toNat bytes))

/-- OPEN_REFUSE. -/
def Drive.openRefuse (d : Drive) (r : Arrival) (b : List Byte) (reason : Nat) : Drive :=
  (d.bump Reg.XPT_OPEN_REFUSED 1).bareSend r 3 0 0 (slice b 0 8 ++ beBytes 1 reason ++ [1, 1, 0])

/-- The flow MTU (R122). -/
def Drive.flowMtu (d : Drive) (r : Arrival) (b : List Byte) : Nat :=
  min (openMtu b) (min 9216 (d.fld (Reg.MAC_MAX_FRAME r.port.toNat) 13 0 - 22))

/-- A slot that is FREE: the one proposed, or another. -/
def Xpt.freeSlot (x : Xpt) (slot : Nat) : Option Nat :=
  if slot < 65536 ∧ !x.flows.any (·.slot == slot) then some slot
  else (freeNums (x.flows.map (·.slot)) 65536 1).head?

/-- The flow takes its slot. -/
def Drive.openTake (d : Drive) (e : Env) (o : HeldOpen) (v : Verdict) (slot : Nat) : Drive :=
  let b := o.body
  let t := min (openCmds b) (d.fld Reg.XPT_FLOW_CTL 12 0)
  let f : Flow :=
    { slot := slot, inc := d.xpt.incOf slot, st := .open_, tenant := BitVec.ofNat 12 (openTenant b), nonce := openNonce b
      ipv6 := o.arr.ipv6, ip := o.arr.ip, udp := o.arr.udp, arr := o.arr, qos := v.qos, mtu := d.flowMtu o.arr b, target := t
      isnHost := openIsn b, isnDrive := o.isn, rto := d.fld Reg.XPT_TIMERS 31 16, idleS := d.fld Reg.XPT_FLOW_CTL 31 16
      rxNext := openIsn b, limit := openIsn b, gap := [], cmds := [], closeSeq := none, txNext := o.isn, txAcked := o.isn
      credit := o.hdr.credit.toNat, msgs := [], subs := [], notices := [], resends := 0, lastRx := e.clk.optime, ackDue := false
      closed := false }
  let d := (d.onXpt fun x => { x with flows := x.flows ++ [f] }).credits
  match d.flow? slot with
  | some f => (d.openAck f).onFlow slot fun f => { f with ackDue := false }
  | none => d

/-- The OPEN flow that an OPEN repeats (R113). -/
def Drive.opened (d : Drive) (r : Arrival) (b : List Byte) : Option Flow :=
  d.xpt.flows.find? fun f => f.st == .open_ && f.ip == r.ip && f.ipv6 == r.ipv6 && f.udp == r.udp && f.nonce == openNonce b

/-- The checks 2 to 5 of R110 of an OPEN that repeats no OPEN flow: its fields, the MTU, the policy search, held while a
segment of its table rebuilds (R219), and a free slot. -/
def Drive.openSearch (d : Drive) (e : Env) (o : HeldOpen) : Drive :=
  if 4096 ≤ openTenant o.body ∨ openCmds o.body = 0 ∨ 4096 < openCmds o.body then d.openRefuse o.arr o.body 2
  else if d.flowMtu o.arr o.body < 4352 then d.openRefuse o.arr o.body 3
  else if d.tableHeld (d.classTable 0) then d.onMch fun m => { m with heldOpens := m.heldOpens ++ [o] }
  else
    let key := searchKey (openTenant o.body) 0 o.arr.port.toNat 0 (d.vidOf o.arr) []
    let (v, d) := d.search 0 key
    if !v.allow then d.openRefuse o.arr o.body 4
    else match d.xpt.freeSlot o.slot with
      | none => (d.openRefuse o.arr o.body 5).setInt pgXpt 2
      | some slot => d.openTake e o v slot

/-- An OPEN of this transport version, as it arrives or once a segment it waited for is rebuilt: one that repeats an OPEN
flow is answered with that flow's OPEN_ACK. -/
def Drive.openIn (d : Drive) (e : Env) (o : HeldOpen) : Drive :=
  match d.opened o.arr o.body with
  | some f => d.openAck f
  | none => d.openSearch e o

/-- OPEN. -/
def flowOpenOp (o : HeldOpen) (e : Env) (d : Drive) : Drive :=
  if !d.xptTakes o.arr || o.arr.group then d
  else if o.body.length ≠ 20 then d.badDgram
  else if d.pwr.fawnStep != 0 then d
  else if o.version ≠ 1 then d.openRefuse o.arr o.body 1
  else d.openIn e o

/-! ### The ends of a flow (R114 to R117) -/

/-- CLOSE_ACK_SEND: every command has finished and every drive message is acknowledged. -/
def closeAckOp (slot : Nat) (_ : Env) (d : Drive) : Drive :=
  match d.flow? slot with
  | none => d
  | some f =>
    if d.isOn 14 && f.st == .closing && f.cmds.isEmpty && f.msgs.isEmpty then
      ((d.flowSend slot 5 0 0 0 []).onFlow slot fun f => f.entomb true).credits
    else d

/-- A RESET from the host: it ends a live flow and is never answered; cause 0x01 counts in ERR_CNT of page 0 (R117). -/
def hostResetOp (r : Arrival) (h : Hdr) (cause : Byte) (e : Env) (d : Drive) : Drive :=
  if !d.xptTakes r || r.group then d
  else match d.xpt.flows.find? fun f => f.id == h.flow && f.live with
    | none => d
    | some f =>
      if f.ip != r.ip || f.ipv6 != r.ipv6 || f.udp != r.udp then d.bump Reg.XPT_RX_SRC_MISMATCH 1
      else (if cause = 1 then d.errCnt pgXpt else d).resetFlow e f.slot none

/-- FLOW_IDLE_TIMEOUT (R116). -/
def flowIdleOp (slot : Nat) (e : Env) (d : Drive) : Drive :=
  if d.isOn 14 && d.fld Reg.XPT_FLOW_CTL 31 16 != 0 then d.resetFlow e slot (some 2) else d

/-- TOMB_EXPIRY: the slot is FREE again with its next incarnation. -/
def tombOp (slot : Nat) (_ : Env) (d : Drive) : Drive :=
  match d.flow? slot with
  | none => d
  | some f =>
    if f.live then d
    else d.onXpt fun x => { x with
      flows := x.flows.filter fun g => !(g.slot == slot)
      incs := (slot, (f.inc + 1) % 65536) :: x.incs.filter fun y => !(y.1 == slot) }

/-! ### DATA (R123, R124, R126, R129, R314) -/

/-- Change unit `i` of a command's payload, seen now for the first time or again. -/
def FlowCmd.onUnit (c : FlowCmd) (i : Nat) (g : RxUnit → RxUnit) : FlowCmd :=
  if c.units.any (·.idx == i) then { c with units := modIf c.units (·.idx == i) g }
  else { c with units := c.units ++ [g ⟨i, false, false, 0, false, 0, false⟩] }

/-- A block arrives within the grant: a good one is written into its unit slot. The answer says whether its CRC failed. -/
def Drive.takeBlock (d : Drive) (slot : Nat) (c : FlowCmd) (i att : Nat) (b : Block) : Bool × Drive :=
  let d := d.onFcmd slot c.seq fun c => { c with sinceBmap := c.sinceBmap + 1 }
  if crc32c b.bytes = b.crc then
    let d := d.bumpWide Reg.XPT_RX_BLOCKS 1
    if c.units.any fun u => u.idx == i && u.good then (false, d.bump Reg.XPT_RX_DUP 1)
    else
      let d := d.onFcmd slot c.seq fun c => c.onUnit i fun u => { u with good := true, att := max u.att att, bad := false, missing := false }
      let fill (u : USlot) : USlot := if u.unit = i then { u with data := some (b.bytes, b.crc) } else u
      (false, match c.rsn with
        | some rsn => d.onRec' rsn fun r => { r with units := r.units.map fill }
        | none => d)
  else
    let d := (d.bump Reg.XPT_RX_CRC_BAD 1).onFcmd slot c.seq fun c => c.onUnit i fun u =>
      if att < u.att || u.good then u else { u with att := att, bad := true, missing := false }
    (true, d)

/-- One block of a DATA. The answers: its CRC failed; it carried attempt 7 and failed. -/
def Drive.dataBlock (d : Drive) (slot : Nat) (seq : Word) (i att : Nat) (b : Block) : Bool × Bool × Drive :=
  let d := d.pay [12 + ((d.flow? slot).map (·.arr.port.toNat)).getD 0, 14] 3 1
  match (d.flow? slot).bind (·.cmd? seq) with
  | none => (false, false, d.bump Reg.XPT_RX_UNGRANTED 1)
  | some c =>
    if c.rsp.isSome || decide (c.grantEnd ≤ i) then (false, false, d.bump Reg.XPT_RX_UNGRANTED 1)
    else
      let (bad, d) := d.takeBlock slot c i att b
      (bad, bad && att == 7, d)

/-- A bitmap is due because enough blocks have come (R129). -/
def Drive.bmapEvery (d : Drive) (slot : Nat) (seq : Word) (bad : Bool) : Drive :=
  let every := d.fld Reg.XPT_WINDOW 7 0
  match (d.flow? slot).bind (·.cmd? seq) with
  | none => d
  | some c =>
    let full := decide (every ≤ c.sinceBmap)
    let d := if full then d.onFcmd slot seq fun c => { c with sinceBmap := c.sinceBmap - every } else d
    if full || bad then d.bitmapSend slot seq else d

/-- DATA. -/
def dataOp (r : Arrival) (h : Hdr) (index : Nat) (blocks : List Block) (att2 : Nat) (e : Env) (d : Drive) : Drive :=
  if !d.xptTakes r || r.group then d
  else if blocks.isEmpty || decide (2 < blocks.length) || blocks.any fun b => b.bytes.length != 4096 then d.badDgram
  else match d.findFlow e r h with
    | (none, d) => d
    | (some f, d) =>
      let step (acc : Bool × Bool × Drive) (x : Block × Nat) : Bool × Bool × Drive :=
        let att := if x.2 = 0 then h.attempt.toNat else att2
        let (bad, dead, d) := acc.2.2.dataBlock f.slot h.seq (index + x.2) att x.1
        (acc.1 || bad, acc.2.1 || dead, d)
      let (bad, dead, d) := blocks.zipIdx.foldl step (false, false, d)
      let d := if h.req then d.onFcmd f.slot h.seq fun c => { c with reqTo := max c.reqTo c.grantEnd, reqDue := true } else d
      if dead then d.resetFlow e f.slot (some 1) else d.bmapEvery f.slot h.seq bad

/-! ### Confirmation and grants (R16, R17, R20, R126, R313) -/

/-- FABRIC_COPY_CONFIRM: a received block's copy has passed its check after `fails` failures, or is abandoned. -/
def copyConfirmOp (slot : Nat) (seq : Word) (unit fails : Nat) (e : Env) (d : Drive) : Drive :=
  match (d.flow? slot).bind (·.cmd? seq) with
  | none => d
  | some c =>
    let most := d.fld Reg.FAB_GUARD_CTL 2 0
    if !d.isOn 10 || c.rsp.isSome || !(c.units.any fun u => u.idx == unit && u.good && !u.conf) then d
    else
      let d := d.bump Reg.FAB_GUARD_INGRESS (min fails most)
      if most ≤ fails then
        match c.rsn with
        | some rsn => d.ingressAbandon e rsn unit
        | none => d
      else
        let d := (d.onFcmd slot seq fun c => c.onUnit unit fun u => { u with conf := true }).grantMore e slot seq true
        match c.rsn with
        | some rsn => d.markFull rsn
        | none => d

/-- UNIT_SLOT_ALLOCATE: a grant that waits is raised as far as it now may. -/
def unitSlotOp (slot : Nat) (seq : Word) (e : Env) (d : Drive) : Drive :=
  if d.isOn 10 then d.grantMore e slot seq false else d

/-! ### Units of drive messages (R119, R130 to R132) -/

/-- HOST_BITMAP. -/
def hostBitmapOp (r : Arrival) (h : Hdr) (base : Nat) (b : List Byte) (e : Env) (d : Drive) : Drive :=
  let no := beAt b 0 2
  let count := beAt b 2 2
  if !d.xptTakes r || r.group then d
  else if b.length < 8 ∨ 4096 < count ∨ b.length ≠ 8 + ceilDiv count 8 then d.badDgram
  else match d.findFlow e r h with
    | (none, d) => d
    | (some f, d) =>
      match (d.flow? f.slot).bind fun f => f.msgs.find? (·.seq == h.seq) with
      | none => d
      | some m =>
        if !serialAfter no m.bmapNo then d
        else
          let us := m.units.map fun u => u.reported base count (b.drop 8)
          let d := d.onFlow f.slot fun f => { f with
            msgs := modIf f.msgs (·.seq == h.seq) fun m => { m with units := us, bmapNo := no } }
          if us.any fun u => u.nacked && u.att == 7 then d.resetFlow e f.slot (some 1)
          else (d.finishMsgs f.slot).sendWaiting f.slot

/-- RTO_EXPIRY: a drive unit is neither acknowledged nor reported NACK in its time: the header of message `seq`, or its unit
`unit`. -/
def rtoOp (slot : Nat) (seq : Word) (unit : Option Nat) (e : Env) (d : Drive) : Drive :=
  match d.flow? slot with
  | none => d
  | some f =>
    match f.msgs.find? (·.seq == seq) with
    | none => d
    | some m =>
      if !d.isOn 14 || !f.live then d
      else match unit with
        | none =>
          if seqLt m.seq f.txAcked then d
          else if 7 ≤ m.att then d.resetFlow e slot (some 1)
          else
            let m := { m with att := m.att + 1 }
            let d := d.onFlow slot fun f => { f with msgs := modIf f.msgs (·.seq == seq) fun _ => m, resends := f.resends + 1 }
            (d.bump Reg.XPT_TX_RESENT 1).sendHdr slot m
        | some i =>
          match m.units.find? fun u => u.idx == i && decide (0 < u.att) && !u.acked && !u.nacked with
          | none => d
          | some u =>
            if 7 ≤ u.att then d.resetFlow e slot (some 1)
            else if f.credit = 0 && !u.trail then d
            else
              let u := { u with att := u.att + 1 }
              let d := d.onFlow slot fun f => { f with
                msgs := modIf f.msgs (·.seq == seq) fun m => { m with units := modIf m.units (·.idx == i) fun _ => u } }
              d.emit slot seq [u] true

end Sys2Proof.Machine
end

