-- ==== Sys2Proof/Machine/Update.lean ====
section
/-! DEFINITION. Live update of the firmware carriers (R458 to R469, R479), and what the module itself does: the LED test, the
air sensors (R504, R505). -/

namespace Sys2Proof.Machine

/-- Change the update session. -/
def Drive.onUpd (d : Drive) (g : Upd → Upd) : Drive := { d with upd := g d.upd }

/-- RESULT of the last command or chunk. -/
def Drive.updResult (d : Drive) (r : Nat) : Drive := d.onUpd fun u => { u with result := r }

/-! ### Carriers and units (R458) -/

/-- A carrier's units in activation order. -/
def unitOrder (c : Nat) : List Nat :=
  if c = 0 then [3, 2, 1, 0] else if c = 1 then List.range 8 else if c = 5 then [0, 1] else [0]

/-- The domain that is cycled to move unit `i` of carrier `c`; none for a carrier updated in place. -/
def unitDom (c i : Nat) : Option Nat :=
  if c = 0 then some (6 + i) else if c = 1 then some (20 + i) else if c = 5 then some (12 + i) else none

/-- The carrier's slots. -/
def Upd.car (u : Upd) (c : Nat) : Carrier := (u.carriers[c]?).getD ⟨none, none, 0, 0⟩

/-- Change carrier `c`. -/
def Upd.onCar (u : Upd) (c : Nat) (g : Carrier → Carrier) : Upd := { u with carriers := modAt u.carriers c g }

/-- Every unit's bit. -/
def unitMask (c : Nat) : Nat := 2 ^ (unitOrder c).length - 1

/-- Its units run different slots. -/
def Upd.mixed (u : Upd) (c : Nat) : Bool := (u.car c).runB % 2 ^ 8 != 0 && (u.car c).runB % 2 ^ 8 != unitMask c

/-- Unit `i` of carrier `c` runs slot B. -/
def Upd.runsB (u : Upd) (c i : Nat) : Bool := bitN (u.car c).runB i

/-- Unit `i` of carrier `c` is out now, under an activation or a REVERT. -/
def Drive.unitOut (d : Drive) (c : Nat) : Bool := d.upd.st == .activating && d.upd.carrier == c && d.upd.out.isSome

/-! ### Images (R464, R465) -/

/-- Two images work together. -/
def ImgHdr.fits (a b : ImgHdr) : Bool := decide (b.acceptsMin ≤ a.level) && decide (a.acceptsMin ≤ b.level)

/-- The images that run now. -/
def Upd.runImages (u : Upd) : List ImgHdr :=
  (List.range 6).flatMap fun c => (unitOrder c).filterMap fun i => if u.runsB c i then (u.car c).b else (u.car c).a

/-- The header of the staged bytes. -/
def imgHdr (bs : List Byte) : ImgHdr := ⟨beAt bs 8 4, beAt bs 12 2, beAt bs 14 2⟩

/-- What VERIFY finds (R479), `signed` telling whether the signature verifies. -/
def Upd.verdict (u : Upd) (signed : Bool) : Nat :=
  let bs := u.bytes
  let len := beAt bs 16 4
  if beAt bs 0 4 ≠ 0x4957494D ∨ beAt bs 4 1 ≠ u.carrier ∨ beAt bs 5 1 ≠ 1 then 1
  else if !signed || len != bs.length || decide (len < 4096) then 4
  else if u.runImages.all (imgHdr bs).fits then 0
  else 5

/-- The slot staged holds `x`. -/
def Upd.putStaged (u : Upd) (x : Option ImgHdr) : Upd :=
  u.onCar u.carrier fun c => if u.slotB then { c with b := x } else { c with a := x }

/-! ### Staging (R466, R467) -/

/-- OP OPEN on path `p` for carrier `c`: the slot no unit runs is erased. -/
def Drive.updOpen (d : Drive) (p : Path) (c : Nat) : Drive :=
  if d.upd.st ≠ .idle then d.updResult 6
  else if d.upd.mixed c then d.updResult 10
  else
    let b := (d.upd.car c).runB % 2 == 0
    d.onUpd fun u => ({ u with
      st := .staging, owner := p, carrier := c, slotB := b, bytes := [], chunk := none, todo := [], out := none, revert := false, result := 0
      linkWait := none, lastStaged := u.lastStaged.filter fun x => !(x.1 == c)
      skipped := if c = 0 then [] else u.skipped }).putStaged none

/-- A write of CL_UPD_CHUNK.GO on path `p`. -/
def updChunkW (p : Path) (v : Word) (_ : Env) (d : Drive) : Drive :=
  let u := d.upd
  if !bit v 31 || u.st ≠ .staging || u.owner ≠ p then d
  else if u.chunk.isSome then d.updResult 6
  else
    let len := d.fld Reg.CL_UPD_CHUNK 10 0
    if len = 0 ∨ 1024 < len ∨ 33554432 < u.bytes.length + len then d.updResult 3
    else if (d.reg Reg.CL_UPD_OFFSET).toNat ≠ u.bytes.length then d.updResult 2
    else
      let bytes := ((List.range (ceilDiv len 4)).map fun k => leBytes 4 (d.reg (Reg.CL_UPD_DATA k)).toNat).flatten
      d.onUpd fun u => { u with chunk := some (bytes.take len) }

/-- UPD_CHUNK_DONE: the chunk is in the boot area, or its write failed. -/
def updChunkDoneOp (ok : Bool) (_ : Env) (d : Drive) : Drive :=
  match d.upd.chunk with
  | none => d
  | some b => d.onUpd fun u => { u with chunk := none, bytes := if ok then u.bytes ++ b else u.bytes, result := if ok then 0 else 8 }

/-- OP VERIFY. -/
def Drive.updVerify (d : Drive) : Drive :=
  if d.upd.st ≠ .staging then d else if d.upd.chunk.isSome then d.updResult 6 else d.onUpd fun u => { u with st := .verifying }

/-- UPD_VERIFY_DONE. -/
def updVerifyDoneOp (signed : Bool) (_ : Env) (d : Drive) : Drive :=
  if d.upd.st ≠ .verifying then d
  else
    let r := d.upd.verdict signed
    d.onUpd fun u =>
      let u := { u with result := r }
      if r = 0 then
        let u := u.putStaged (some (imgHdr u.bytes))
        { u with st := .staged, lastStaged := (u.carrier, u.slotB) :: u.lastStaged.filter fun x => !(x.1 == u.carrier) }
      else { u with st := .idle }

/-- OP CLOSE. -/
def Drive.updClose (d : Drive) : Drive :=
  if [UpdState.staging, .verifying, .staged].contains d.upd.st then
    d.onUpd fun u =>
      let runs := (unitOrder u.carrier).any fun i => u.runsB u.carrier i == u.slotB
      let u := { u with st := .idle, chunk := none, todo := [], result := 0 }
      if runs then u else { u.putStaged none with lastStaged := u.lastStaged.filter fun x => !(x.1 == u.carrier) }
  else d

/-! ### Activation (R458 to R463, R466 to R469) -/

/-- The loops in AUTO or RAMPING go to MANUAL at the output in force, and come back after the reload (R461). -/
def Drive.parkLoops (d : Drive) (e : Env) : Drive :=
  (List.range 12).foldl (fun (d : Drive) n =>
    if d.lmode n = .auto ∨ d.lmode n = .ramping then
      let d := d.setReg (Reg.CTL_L_MAN n) (d.reg (Reg.CTL_L_OUT n))
      (d.onRun n fun r => { r with next := none, resume := true }).setLmode n .manual
    else d) (thStateSaveOp e d)

/-- GO_AUTO to exactly the parked loops. -/
def Drive.unparkLoops (d : Drive) : Drive :=
  (List.range 12).foldl (fun (d : Drive) n =>
    if (d.lrun n).resume then d.onRun n fun r => { r with resume := false, cmd := some (r.cmd.getD .goAuto) } else d) d

/-- Unit `i` is taken out: its domain goes through DRAINING to OFF and ON, or it stays ON and holds. -/
def Drive.takeOut (d : Drive) (e : Env) (i : Nat) : Drive :=
  let c := d.upd.carrier
  let d := d.onUpd fun u => { u with out := some i, todo := u.todo.filter (· != i), linkWait := none }
  match unitDom c i with
  | some k => if d.isOn k then (d.beginDown e k false).onPd k fun x => { x with pend := true } else d.enable e k
  | none => if c = 4 then d.parkLoops e else d

/-- Unit `i` comes back: its domain, if it still drains, goes OFF and ON. -/
def Drive.bringBack (d : Drive) (e : Env) (i : Nat) : Drive :=
  let c := d.upd.carrier
  match unitDom c i with
  | some k => if d.pdSt k = .draining then domainShutdownDoneOp k e d else d.enable e k
  | none => if c = 4 then d.unparkLoops else d

/-- The slot an activation or a REVERT moves units to. -/
def Upd.goal (u : Upd) : Bool := if u.revert then !u.slotB else u.slotB

/-- The activation ends: every selected unit is moved. -/
def Drive.updDone (d : Drive) : Drive :=
  (d.onUpd fun u => { u with st := .idle, out := none, todo := [], result := 0, revert := false }).setInt pgCl 1

/-- The next unit may start: CLUSTER units with another cluster ON (R463), MAC units with the other port's link up (R462). -/
def Drive.mayTake (d : Drive) (e : Env) (i : Nat) : Bool :=
  if d.upd.carrier = 0 then (List.range 4).any fun j => j != i && d.isOn (6 + j)
  else if d.upd.carrier = 5 then
    d.linkUp (1 - i) && (i == 0 || (match d.upd.linkWait with | some t => decide (t + 100 ≤ e.clk.optime) | none => false))
  else true

/-- The link the next MAC unit waits for, followed from one look to the next. -/
def Drive.watchLink (d : Drive) (e : Env) (i : Nat) : Drive :=
  if d.upd.carrier = 5 then
    d.onUpd fun u => { u with linkWait := if d.linkUp (1 - i) then some (u.linkWait.getD e.clk.optime) else none }
  else d

/-- The activation goes on with its next unit, as soon as that may start; clusters held OFF are skipped. -/
def Drive.updNext (d : Drive) (e : Env) : Drive :=
  if d.upd.st ≠ .activating || d.upd.out.isSome || d.pwr.ps == .fawnEntry || d.pwr.ps == .fawn then d
  else
    let held (i : Nat) : Bool := d.upd.carrier == 0 && d.forcedOff (6 + i)
    let d := d.onUpd fun u => { u with
      skipped := (u.todo.filter held).map (·, u.goal) ++ u.skipped.filter fun x => !(u.carrier == 0 && u.todo.contains x.1 && held x.1)
      todo := u.todo.filter fun i => !held i }
    match d.upd.todo with
    | [] => d.updDone
    | i :: _ =>
      let d := d.watchLink e i
      if d.mayTake e i then d.takeOut e i else d

/-- OP ACTIVATE or REVERT on carrier `c` begins for the units selected that do not run the goal yet. -/
def Drive.updStart (d : Drive) (e : Env) (p : Path) (c mask : Nat) (slotB revert : Bool) : Drive :=
  let goal := if revert then !slotB else slotB
  let todo := (unitOrder c).filter fun i => (mask == 0 || bitN mask i) && d.upd.runsB c i != goal
  (d.onUpd fun u => { u with
    st := .activating, owner := p, carrier := c, slotB := slotB, revert := revert, todo := todo, out := none, linkWait := none }).updNext e

/-- A write of CL_UPD_CMD on path `p` (R466, R467). -/
def updCmdW (p : Path) (v : Word) (e : Env) (d : Drive) : Drive :=
  let op := bits v 3 0
  let c := bits v 10 8
  let mask := bits v 23 16
  let u := d.upd
  if bits v 31 24 ≠ 0xA5 || decide (5 < c) then d
  else if op = 1 then d.updOpen p c
  else if u.st ≠ .idle && u.owner ≠ p then d
  else if op = 2 then d.updVerify
  else if op = 3 then
    if u.st = .staged ∨ u.st = .failed then d.updStart e p u.carrier mask u.slotB false
    else if u.st = .idle ∧ u.mixed c then
      match u.lastStaged.find? fun x => x.1 == c with
      | some (_, b) => d.updStart e p c mask b false
      | none => d
    else d
  else if op = 4 then
    if u.st = .staged ∨ u.st = .failed ∨ u.st = .idle then
      let c := if u.st = .idle then c else u.carrier
      match u.lastStaged.find? fun x => x.1 == c with
      | some (_, b) => d.updStart e p c mask b true
      | none => d
    else d
  else if op = 5 then d.updClose
  else d

/-- The unit that is out runs `slotB` from now on, as the boot area records (R469). -/
def Upd.recordUnit (u : Upd) (c i : Nat) (slotB : Bool) : Upd :=
  u.onCar c fun x => { x with runB := setBitsN x.runB i i (b2n slotB), bootB := setBitsN x.bootB i i (b2n slotB) }

/-- UNIT_RETURN. -/
def unitReturnOp (e : Env) (d : Drive) : Drive :=
  match d.upd.out with
  | none => d
  | some i =>
    if d.upd.st ≠ .activating then d
    else
      let c := d.upd.carrier
      let d := d.bringBack e i
      if (match unitDom c i with | some k => !d.isOn k | none => false) then d
      else
        let d := (d.onUpd fun u => { (u.recordUnit c i u.goal) with out := none }).setInt pgCl 0
        if d.upd.fawnAsked then (d.onUpd fun u => { u with fawnAsked := false }).enterFawn else d.updNext e

/-- UNIT_FAULT_TIMEOUT (R468): back on the old slot, and the activation stops. -/
def unitFaultOp (e : Env) (d : Drive) : Drive :=
  match d.upd.out with
  | none => d
  | some i =>
    if d.upd.st ≠ .activating then d
    else
      let d := d.bringBack e i
      let d := d.onUpd fun u => { u with st := .failed, out := none, todo := [], result := 7, linkWait := none }
      let d := (d.setInt pgCl 2).errCnt pgCl
      if d.upd.fawnAsked then (d.onUpd fun u => { u with fawnAsked := false }).enterFawn else d

/-- MAC_LINK_WAIT_TIMEOUT (R462). -/
def macLinkWaitTimeoutOp (_ : Env) (d : Drive) : Drive :=
  match d.upd.todo with
  | i :: _ =>
    if d.upd.st = .activating ∧ d.upd.carrier = 5 ∧ d.upd.out = none ∧ !d.linkUp (1 - i) then
      d.onUpd fun u => { u with st := .staged, todo := [], result := 9, linkWait := none }
    else d
  | [] => d

/-- A released cluster that an activation skipped starts on the slot staged then (R463). -/
def Drive.updReleased (d : Drive) : Drive :=
  let due := d.upd.skipped.filter fun x => !d.forcedOff (6 + x.1)
  d.onUpd fun u => { (due.foldl (fun (u : Upd) x => u.recordUnit 0 x.1 x.2) u) with
    skipped := u.skipped.filter fun x => d.forcedOff (6 + x.1) }

/-- The drive takes no writes to CL_UPD_CHUNK, OFFSET and DATA from a path other than the session's (R467). -/
def Drive.updBars (d : Drive) (p : Path) (a : Nat) : Bool :=
  d.upd.st != .idle && d.upd.owner != p &&
    (a == Reg.CL_UPD_CHUNK || a == Reg.CL_UPD_OFFSET || decide (Reg.CL_UPD_DATA 0 ≤ a) && decide (a ≤ Reg.CL_UPD_DATA 255))

/-! ### The module (R504, R505) -/

/-- A write of AON_LED_CTL. -/
def ledCtlW (v : Word) (_ : Env) (d : Drive) : Drive := if bit v 1 then { d with ledTest := true } else d

/-- LED_TEST_END. -/
def ledTestEndOp (_ : Env) (d : Drive) : Drive := { d with ledTest := false }

/-- MODULE_TEMP_SAMPLE, with the readings in °C, two's complement. -/
def moduleTempOp (inlet outlet : Byte) (_ : Env) (d : Drive) : Drive :=
  if !d.pwr.aux || !d.isOn 0 then d
  else
    let a := Reg.AON_MOD_TEMP
    let was : Byte := BitVec.ofNat 8 (d.fld a 23 16)
    let top := if !d.airSeen || was.toInt < inlet.toInt then inlet else was
    (((({ d with airSeen := true } : Drive).poke a 7 0 inlet.toNat).poke a 15 8 outlet.toNat).poke a 23 16 top.toNat)

end Sys2Proof.Machine
end

