-- ==== Sys2Proof/Machine/Views.lean ====
section
/-! DEFINITION. What a register reads: the common header (R43, R48, R59), the page directory (R46), and the registers that
show state the drive holds elsewhere (R33, R58, R146, R222 to R225, R261 to R264, R304 to R307, R344, R373, R376, R403 to
R405, R434, R457, R477 to R479, R505, R506). Every other register reads what is stored for it. -/

namespace Sys2Proof.Machine

/-- A sum of bits: bit `i` for every `i` below `n` that satisfies `p`. -/
def bitSet (n : Nat) (p : Nat → Bool) : Nat := ((List.range n).map fun i => b2n (p i) * 2 ^ i).foldl (· + ·) 0

/-- Word 0 or 1 of a wide value. -/
def wordOf (n w : Nat) : Word := word (n / 2 ^ (32 * w))

/-! ### The common header -/

/-- The page's INT_STAT, INT_EN and ERR_CNT are reserved and read 0. -/
def noInts (p : Nat) : Bool :=
  match pageInfo p with
  | some i => i.pib != 0 || [0, 1, 5, 9, 10, 11, 12, 16].contains p
  | none => true

/-- CAP of page `p`: the owning chapter's bits, or reserved (R12, R43). -/
def capVal (p : Nat) : Word :=
  match pageInfo p with
  | none => 0
  | some i =>
    if i.block = 7 then 0x00100000
    else if i.block = 9 then 4
    else if i.block = 19 then 0x00034000
    else if 15 ≤ i.block then
      if i.pib ≠ 0 then 0 else [(15, 0x00122010), (16, 0x3F), (17, 7), (18, 0x2007), (20, 0x114)].foldl
        (fun (w : Word) (x : Nat × Word) => if x.1 = i.block then x.2 else w) 0
    else 0

/-- The carrier and unit whose image a page's block runs (R458). -/
def pageUnit (i : PageInfo) : Option (Nat × Nat) :=
  if i.block = 9 then some (0, i.inst) else if i.block = 20 then some (1, i.inst) else if i.block = 17 then some (2, 0)
  else if i.block = 18 then some (3, 0) else if i.block = 15 then some (4, 0) else if i.block = 16 then some (5, i.inst) else none

/-- VERSION.IMAGE: 0 none, 1 A, 2 B. -/
def Upd.imageOf (u : Upd) (i : PageInfo) : Nat := match pageUnit i with | some (c, k) => if u.runsB c k then 2 else 1 | none => 0

/-- Code of a domain state (R21). -/
def PdState.code : PdState → Nat
  | .off => 0
  | .retain => 1
  | .draining => 2
  | .on => 3

/-- The segment's bits of STAT (R222). -/
def Drive.segStat (d : Drive) (n : Nat) : Nat :=
  (if d.mch.rebuilding.contains n then 1 else if d.mchRun then 0 else 2) + b2n (d.mch.badShadow.any fun x => x.1 == n) * 4

/-- A header register of page `p` at offset `o`. -/
def Drive.viewHdr (d : Drive) (p o : Nat) : Word :=
  match pageInfo p with
  | none => 0
  | some i =>
    if o = 0 then word (i.block * 65536 + i.inst * 256 + i.pib)
    else if o = 4 then
      word ((if i.block = 4 then 256 + Config.versionHi 4 % 256 else Config.versionHi i.block % 65536) * 65536 + d.upd.imageOf i)
    else if o = 8 then capVal p
    else if o = 0xC then word (b2n (d.pd i.dom).pend * 1024 + (d.pdSt i.dom).code * 256 + i.dom)
    else if o = 0x14 then
      word (b2n (!noInts p && d.reg (errCntA p) != 0) * 2 ^ 31 + b2n (!noInts p && d.intPend p) * 2 ^ 30 +
        (if i.block = 19 then d.segStat i.inst else 0))
    else if noInts p && (o = 0x18 || o = 0x1C || o = 0x20) then 0
    else d.reg (p * 4096 + o)

/-! ### DIR and MGMT (R46, R58, R59) -/

def Drive.viewDir (d : Drive) (e : Env) (o : Nat) : Word :=
  if 0x108 ≤ o ∧ o < 0x118 then word (leNat (slice e.fac.part (o - 0x108) 4))
  else if o = 0x118 ∨ o = 0x11C then wordOf e.fac.serial.toNat ((o - 0x118) / 4)
  else if o = 0x120 then d.chn.addrHalf.setWidth 32
  else if 0x400 ≤ o then
    match allPages[(o - 0x400) / 8]? with
    | none => 0
    | some p =>
      match pageInfo p with
      | none => 0
      | some i =>
        if o % 8 = 0 then word (i.block * 65536 + p)
        else word (i.wpath * 2 ^ 24 + i.dom * 65536 + i.pib * 256 + i.inst)
  else d.reg o

def Drive.viewMgmt (d : Drive) (o : Nat) : Word :=
  if o = 0x10C then word (b2n d.i3cIbi * 256 + b2n d.i3cAddr.isSome * 128 + d.i3cAddr.getD 0 % 128)
  else if 0x110 ≤ o ∧ o < 0x124 then
    let j := (o - 0x110) / 4
    word (bitSet 32 fun b => (pageInfo (32 * j + b)).isSome && !noInts (32 * j + b) && d.intPend (32 * j + b))
  else d.reg (0x1000 + o)

/-! ### AON and NRG (R403, R405, R505, R506) -/

/-- The STATUS code shown (R505). -/
def Drive.ledStatus (d : Drive) (e : Env) : Nat :=
  if d.ledTest then 4
  else if !d.pwr.aux then 0
  else if d.pwr.ps = .fawn then 6
  else if !d.pwr.v12 then 1
  else if !d.pwr.readReady then 2
  else if !d.nrg.writeReady then 3
  else match d.lastRsp with
    | some t => if e.clk.optime < t + 100 then 5 else 4
    | none => 4

/-- The ATTN code shown (R505). -/
def Drive.ledAttn (d : Drive) (e : Env) : Nat :=
  let low := decide (d.spareBands e ≤ d.fld Reg.MED_SPARE_CTL 31 16)
  let loops := (List.range 16).any fun n => d.lmode n == .tripped || (d.lmode n == .manual && d.fld (Reg.CTL_L_STAT n) 7 4 != 0)
  if d.ledTest then 1
  else if d.pack.swap = 2 then 4
  else if d.flag Reg.AON_LED_CTL 0 then 3
  else if e.readOnly || d.med.readOnly || low || d.pack.fault || d.pack.worn || d.recorder.norFault || loops ||
      (d.nrg.writeReady && !d.pack.closed) then 1
  else if d.jrnMode ≠ 0 ∧ d.pack.swap = 0 then 2
  else 0

def Drive.viewAon (d : Drive) (e : Env) (o : Nat) : Word :=
  if o = 0x120 ∨ o = 0x124 then wordOf (e.clk.optime % 2 ^ 48) ((o - 0x120) / 4)
  else if o = 0x128 then word e.clk.pcycle
  else if o = 0x130 ∨ o = 0x134 then
    wordOf (((List.range 30).map fun i => (d.pdSt i).code * 4 ^ i).foldl (· + ·) 0) ((o - 0x130) / 4)
  else if o = 0x138 then word (bitSet 30 fun i => (d.pd i).pend)
  else if o = 0x14C then word (b2n d.pwr.aux * 2 + b2n d.pwr.v12)
  else if o = 0x180 then
    word (b2n d.pwr.resetPin * 1024 + b2n d.pwr.segPin * 512 + b2n d.pwr.leadPin * 256 + b2n e.fac.variantX * 4 + b2n d.pwr.seg * 2 +
      b2n d.pwr.lead)
  else if o = 0x188 then word (d.ledAttn e * 16 + d.ledStatus e)
  else d.reg (0x2000 + o)

/-- Code of a power state (NRG_STAT.PSTATE). -/
def PState.code : PState → Nat
  | .idle => 1
  | .fawnEntry => 2
  | .fawn => 2
  | .waking => 3
  | _ => 0

def Drive.viewNrg (d : Drive) (e : Env) (o : Nat) : Word :=
  if o = 0x100 then
    word (d.pwr.ps.code * 256 + d.nrg.causes.headD 0 % 8 * 8 + b2n d.nrg.demand * 4 + b2n (d.short e) * 2 + b2n d.nrg.writeReady)
  else if o = 0x104 then word (d.reserve e)
  else if o = 0x108 then word (d.reserveFull e)
  else if o = 0x10C then word (ceilDiv d.need (10 ^ 6))
  else if o = 0x120 then word (d.allotSrc * 1024 + d.allot)
  else if o = 0x124 then word d.nrg.chainGrant
  else if o = 0x128 then word d.nrg.i3cGrant
  else if o = 0x134 then word (min (d.nrg.static / 100000) 1023 * 65536 + Config.sensor (0x3000 + o) e.clk.optime % (d.allot + 11))
  else if o = 0x138 then word (toTwos 32 (d.nrg.credit.tdiv 1000))
  else if o = 0x148 then word (bitSet 16 fun n => (d.lrun n).limited)
  else d.reg (0x3000 + o)

/-! ### CHN, REC, HUP (R404, R434, R457) -/

/-- Code of a role (CHN_STAT.ROLE). -/
def Role.code : Role → Nat
  | .kid => 0
  | .addressed => 1
  | .lead => 2
  | .claiming => 3

/-- CHN_HERD_ID: the herd a Lead Doe leads, or else the stored one. -/
def Drive.herdId (d : Drive) : Nat :=
  if d.chn.role = .lead then d.chn.herd.toNat else match d.chn.stored with | some (h, _, _) => h.toNat | none => 0

def Drive.viewChn (d : Drive) (p : Path) (o : Nat) : Word :=
  if o = 0x104 then
    word (b2n d.pwr.seg * 256 + b2n d.pwr.lead * 128 + b2n d.chn.active * 64 + b2n d.chn.lock * 32 + b2n d.chn.overflow * 16 +
      b2n d.chn.herdLost * 8 + b2n d.chn.slotted * 4 + d.chn.role.code)
  else if o = 0x108 then d.chn.addrHalf.setWidth 32
  else if o = 0x110 ∨ o = 0x114 then wordOf d.herdId ((o - 0x110) / 4)
  else if 0x200 ≤ o then d.reg (pk p (0x4000 + o))
  else d.reg (0x4000 + o)

def Drive.viewRec (d : Drive) (p : Path) (o : Nat) : Word :=
  let r := d.recorder
  let a := 0x6000 + o
  if o = 0x104 then
    word (r.freezePath % 4 * 32 + b2n r.norFault * 16 + b2n r.scanDone * 8 + b2n r.clearing * 4 + b2n r.full * 2 + b2n r.frozen)
  else if o = 0x108 then word r.nor.length
  else if o = 0x10C then word r.fullDrops
  else if o = 0x110 then word (d.fld a 14 8 * 256 + r.queue.length % 128)
  else if 0x134 ≤ o ∧ o < 0x140 then if d.fld (pk p Reg.REC_RL_SEL) 15 0 = 0 then 0 else d.reg (pk p a)
  else if o = 0x184 then
    word (d.fld (pk p a) 10 8 * 256 + b2n (match r.chal with | some c => c.path == p | none => false))
  else if (0x130 ≤ o ∧ o < 0x168) ∨ (0x180 ≤ o ∧ o < 0x600) then d.reg (pk p a)
  else d.reg a

def Drive.viewHup (d : Drive) (e : Env) (o : Nat) : Word :=
  let k := d.pack
  let a := 0x7000 + o
  if o = 0x100 then
    word (k.swap % 4 * 256 + k.faultCause % 8 * 32 + b2n k.measured * 16 + b2n k.worn * 8 + b2n k.fault * 4 +
      b2n (decide (0 < d.chargePower)) * 2 + b2n k.closed)
  else if o = 0x104 then word (k.mv % 65536)
  else if o = 0x108 then if d.chargePower = 0 then 0 else word (Config.sensor a e.clk.optime % 65536)
  else if o = 0x10C then word (k.capMf % 65536)
  else if o = 0x110 then word (k.esr % 65536)
  else if o = 0x114 then word (920 * 65536 + e.fac.eta % 1024)
  else if o = 0x118 then word (Config.sensor a e.clk.optime % 256)
  else if 0x120 ≤ o ∧ o < 0x138 then word (Config.sensor a e.clk.optime % 65536)
  else if o = 0x148 ∨ o = 0x14C then wordOf k.serial ((o - 0x148) / 4)
  else if o = 0x150 ∨ o = 0x154 then wordOf (k.ms % 2 ^ 48) ((o - 0x150) / 4)
  else if o = 0x158 then word k.losses
  else d.reg a

/-! ### Clusters, journal, DRAM (R344, R345, R478, R479) -/

/-- CLn_STAT. -/
def Drive.clStat (d : Drive) (e : Env) (n : Nat) : Nat :=
  let out := d.unitOut 0 && d.upd.out == some n
  let st := if d.forcedOff (6 + n) then 3 else if out || d.pdSt (6 + n) == .draining then (if d.pdSt (6 + n) == .draining then 1 else 2) else 0
  Config.sensor (0x8100 + n * 4096) e.clk.optime % 101 * 256 + st

/-- Code of the session state. -/
def UpdState.code : UpdState → Nat
  | .idle => 0
  | .staging => 1
  | .verifying => 2
  | .staged => 3
  | .activating => 4
  | .failed => 5

/-- VERSION of a slot's image; 0 if it is empty. -/
def imgVersion (x : Option ImgHdr) : Word := match x with | some h => word h.version | none => 0

def Drive.viewCl (d : Drive) (e : Env) (n o : Nat) : Word :=
  let u := d.upd
  let a := 0x8000 + n * 4096 + o
  if o = 0x100 then word (d.clStat e n)
  else if n ≠ 0 then d.reg a
  else if o = 0x204 then
    let mask := bitSet 8 fun i => (unitOrder u.carrier).contains i && u.runsB u.carrier i == u.slotB
    word (mask * 2 ^ 24 + u.out.getD 0 % 16 * 2 ^ 20 + Path.code u.owner * 2 ^ 18 + u.result % 256 * 256 + u.st.code)
  else if o = 0x208 then word u.bytes.length
  else if o = 0x20C then word (b2n u.chunk.isSome * 2 ^ 30 + d.fld a 10 0)
  else if 0x220 ≤ o ∧ o < 0x250 then
    let c := u.car ((o - 0x220) / 8)
    imgVersion (if o % 8 = 0 then c.a else c.b)
  else if 0x260 ≤ o ∧ o < 0x278 then word ((u.car ((o - 0x260) / 4)).runB % 256)
  else d.reg a

def Drive.viewJrn (d : Drive) (p : Path) (o : Nat) : Word :=
  let j := d.jrn
  let a := 0xD000 + o
  if o = 0x108 then word j.unitsUsed
  else if o = 0x10C then word j.recs.length
  else if o = 0x110 ∨ o = 0x114 then wordOf j.rsnNext ((o - 0x110) / 4)
  else if o = 0x118 ∨ o = 0x11C then wordOf j.csnLast ((o - 0x118) / 4)
  else if o = 0x120 ∨ o = 0x124 then wordOf j.ckpt.csn ((o - 0x120) / 4)
  else if o = 0x128 ∨ o = 0x12C then wordOf ((j.undrained.map (·.payload)).foldl (· + ·) 0) ((o - 0x128) / 4)
  else if o = 0x204 then word j.report.length
  else if 0x300 ≤ o then d.reg (pk p a)
  else d.reg a

def Drive.viewDrm (d : Drive) (e : Env) (o : Nat) : Word :=
  let a := 0xE000 + o
  if o = 0x104 then word (d.fld a 8 8 * 256 + Config.sensor a e.clk.optime % 256) else d.reg a

/-! ### CTL (R373 to R376) -/

/-- A loop is out of AUTO for a cause. -/
def outOf (m : LMode) (cause : Nat) : Bool := m == .tripped || (m == .manual && cause != 0)

/-- Loops of a profile, and those of them in AUTO or RAMPING. -/
def Drive.thUsers (d : Drive) (prof : Nat) : Nat × Nat :=
  let ls := d.ctl.th.filter fun l => l.profile == prof
  ((if prof = 0 then 544 - (d.ctl.th.filter fun l => l.profile != 0).length else ls.length), (ls.filter ThLoop.live).length)

def Drive.viewCtl (d : Drive) (e : Env) (p : Path) (pg o : Nat) : Word :=
  let a := pg * 4096 + o
  if pg = 0x20 then
    if o = 0x100 then
      let act := ((List.range 12).filter fun n => d.lmode n == .auto || d.lmode n == .ramping).length + (d.ctl.th.filter ThLoop.live).length
      word (act * 65536 + Config.sensor a e.clk.optime % 101)
    else if o = 0x104 then word (bitSet 16 fun n => outOf (d.lmode n) (d.fld (Reg.CTL_L_STAT n) 7 4))
    else if o = 0x108 then word (d.ctl.th.filter fun l => outOf l.mode l.cause).length
    else d.reg a
  else if pg = 0x31 then
    let l := d.th (d.fld (pk p Reg.CTL_TH_SEL) 9 0)
    if o = 0x118 then mantBits l.man else if o = 0x11C then word l.profile else d.reg (pk p a)
  else if 0x32 ≤ pg ∧ pg < 0x36 ∧ o = 0x104 then
    let (all, act) := d.thUsers (pg - 0x32)
    word (act * 65536 + all)
  else d.reg a

/-! ### MAC and XPT (R94 to R101, R144 to R146) -/

def Drive.viewMac (d : Drive) (e : Env) (n pg o : Nat) : Word :=
  let a := (0x40 + 8 * n + pg) * 4096 + o
  let x := d.port n
  let head := x.diag.head?
  if pg = 0 then
    if o = 0x104 then word (setBitsN (d.reg a).toNat 11 11 (b2n x.saving.isSome))
    else if o = 0x108 then word (e.mac n).toNat
    else if o = 0x10C then word ((e.mac n).toNat / 2 ^ 32)
    else d.reg a
  else if pg = 1 ∧ 0x150 ≤ o ∧ o < 0x170 then word (d.fld a 27 16 * 65536 + d.ringOcc n ((o - 0x150) / 4))
  else if pg = 3 ∧ o = 0x110 then word (d.fld a 15 8 * 256 + bitSet 8 fun p => x.paused p)
  else if pg = 7 then
    if o = 0x104 then word x.diag.length
    else if o = 0x108 then match head with | some h => word (h.flags % 2 ^ 31) | none => 0
    else if o = 0x10C then match head with | some h => word (h.bytes.length * 65536 + h.len % 2 ^ 14) | none => 0
    else if 0x200 ≤ o ∧ o < 0x300 then match head with | some h => word (leNat (padTo 4 (slice h.bytes (o - 0x200) 4))) | none => 0
    else d.reg a
  else d.reg a

def Drive.viewXpt (d : Drive) (pg o : Nat) : Word :=
  let a := (0x50 + pg) * 4096 + o
  let live := d.xpt.flows.filter Flow.live
  if pg = 0 then
    if o = 0x120 then word (b2n d.xpt.saving.isSome * 2 ^ 31 + live.length)
    else if o = 0x124 then word ((live.map Flow.held).foldl (· + ·) 0)
    else if o = 0x128 then word d.xpt.sharedFree
    else d.reg a
  else d.reg a

/-! ### CPH and MCH (R222 to R224, R261 to R265) -/

def Drive.viewCph (d : Drive) (e : Env) (p : Path) (pg o : Nat) : Word :=
  let a := (0x58 + pg) * 4096 + o
  let c := d.cph
  if pg = 0 then
    if o = 0x100 then word (min c.running.length 16 * 65536 + c.release.length)
    else if o = 0x110 then e.fac.importId
    else if o = 0x114 then word (c.slots.filter fun s => decide (s.num < 4096) && s.st != .empty).length
    else d.reg a
  else if pg = 1 ∧ o < 0x180 then
    let q := (o - 0x100) / 4
    word (b2n (c.aside.any fun r => r.queue == q) * 65536 + min ((c.queues[q]?).getD []).length 65535)
  else if pg = 2 then if 0x104 ≤ o ∧ o < 0x12C then d.reg (pk p a) else d.reg a
  else if pg = 3 then
    if o = 0x144 then
      word (b2n (c.slots.any fun s => slotClass s.num == 1 && !s.waits.isEmpty) * 65536 + bitSet 16 fun i => (d.kslot (4096 + i)).st != .empty)
    else d.reg (pk p a)
  else if pg = 4 ∨ pg = 5 then d.reg (pk p a)
  else d.reg a

def Drive.viewMch (d : Drive) (p : Path) (n o : Nat) : Word :=
  let a := (0x60 + n) * 4096 + o
  if o = 0x100 then word (d.mch.step % 8 * 256 + (d.mch.temps[n]?).getD 0 % 256)
  else if o = 0x104 then word ((d.mch.seg n).filter (·.valid)).length
  else if 0x200 ≤ o ∧ o < 0x300 then d.reg (pk p a)
  else if o = 0x308 then word (b2n d.mch.saving.isSome)
  else if 0x400 ≤ o ∧ o < 0x620 then d.reg (pk p a)
  else d.reg a

/-! ### MED (R304 to R307) -/

/-- The spare's STATE and SERVES of a channel: physical die 16. -/
def Drive.spareView (d : Drive) (ch : Nat) : Nat :=
  let x := d.med.die ch 16
  match x.st with
  | .spare => 31
  | .rebuild => 256 + x.pos % 32
  | .active => 512 + x.pos % 32
  | _ => 768 + 31

def Drive.viewMed (d : Drive) (e : Env) (p : Path) (k pg o : Nat) : Word :=
  let a := (0x70 + 4 * k + pg) * 4096 + o
  if pg = 0 then
    let ch := 4 * k + o % 16 / 4
    if o = 0x100 then word (if d.medOn k then 15 else 0)
    else if 0x110 ≤ o ∧ o < 0x120 then
      word (bitSet 17 fun i => match (d.med.die ch i).st with | .active => true | .spare => true | .rebuild => true | _ => false)
    else if 0x120 ≤ o ∧ o < 0x130 then word (d.spareView ch)
    else if 0x130 ≤ o ∧ o < 0x140 then
      word (((d.med.rebuilds.filter fun r => r.ch == ch && r.spare.isSome).map fun r => r.left.length + r.free).foldl (· + ·) 0)
    else d.reg a
  else if pg = 2 then d.reg (pk p a)
  else if pg = 3 ∧ k = 0 then
    let used := d.userUsed
    let free := ((List.range 32).map fun g => (d.med.freeBands e.fac g, g))
    let least := free.foldl (fun (m : Nat × Nat) x => if x.1 < m.1 then x else m) (free.headD (0, 0))
    if o = 0x100 then
      word (b2n (e.readOnly || d.med.readOnly) * 2 ^ 31 + b2n (decide (d.spareBands e ≤ d.fld Reg.MED_SPARE_CTL 31 16)) * 2 ^ 30 +
        min d.med.rebuilds.length 32 * 256 + ((List.range 32).map (d.gcLevel e)).foldl max 0)
    else if o = 0x104 ∨ o = 0x108 then wordOf d.userCap ((o - 0x104) / 4)
    else if o = 0x10C ∨ o = 0x110 then wordOf used ((o - 0x10C) / 4)
    else if o = 0x114 ∨ o = 0x118 then wordOf (d.userCap - used) ((o - 0x114) / 4)
    else if o = 0x120 then word (d.spareBands e)
    else if o = 0x124 then word (shippedSpare e.fac.bad)
    else if o = 0x138 then word (least.2 * 256 + min least.1 255)
    else if 0x400 ≤ o then d.reg (pk p a)
    else d.reg a
  else d.reg a

/-! ### Any register -/

/-- Bits of the register's word that a read shows: those of fields that can be read (R11). -/
def readMask (s : RegSpec) (w : Nat) : Nat :=
  s.flds.foldl (fun n f => if f.acc = .wo ∨ f.acc = .cmd then n else n + (2 ^ (f.hi + 1) - 2 ^ f.lo)) 0 / 2 ^ (32 * w) % 2 ^ 32

/-- The word at management address `a` as path `p` sees it now, snapshots apart. -/
def Drive.view (d : Drive) (e : Env) (p : Path) (a : Nat) : Word :=
  let pg := a / 4096
  let o := a % 4096
  match specOf a with
  | none => 0
  | some (s, _, w) =>
    let v : Word :=
      if o < 0x100 then d.viewHdr pg o
      else if pg = 0 then d.viewDir e o
      else if pg = 1 then d.viewMgmt o
      else if pg = 2 then d.viewAon e o
      else if pg = 3 then d.viewNrg e o
      else if pg = 4 then d.viewChn p o
      else if pg = 6 then d.viewRec p o
      else if pg = 7 then d.viewHup e o
      else if 8 ≤ pg ∧ pg < 12 then d.viewCl e (pg - 8) o
      else if pg = 13 then d.viewJrn p o
      else if pg = 14 then d.viewDrm e o
      else if 0x20 ≤ pg ∧ pg < 0x40 then d.viewCtl e p pg o
      else if 0x40 ≤ pg ∧ pg < 0x50 then d.viewMac e ((pg - 0x40) / 8) (pg % 8) o
      else if 0x50 ≤ pg ∧ pg < 0x58 then d.viewXpt (pg - 0x50) o
      else if 0x58 ≤ pg ∧ pg < 0x60 then d.viewCph e p (pg - 0x58) o
      else if 0x60 ≤ pg ∧ pg < 0x64 then d.viewMch p (pg - 0x60) o
      else if 0x70 ≤ pg then d.viewMed e p ((pg - 0x70) / 4) (pg % 4) o
      else d.reg a
    v &&& word (readMask s w)

end Sys2Proof.Machine
end

