-- ==== Sys2Proof/Machine/Fabric.lean ====
section
/-! DEFINITION. The register fabric (R38 to R58, R527): what an access of a path checks and in what order, how a written
word enters a register by the access codes of R11, wide values (R45), what a read clears, and the effect that a write of
a command register has. -/

namespace Sys2Proof.Machine

/-! ### Registers kept for each path (R215, R263 to R265, R306, R375, R430, R439, R451) -/

/-- The register at address `a` has a copy for each access path. -/
def perPath (a : Nat) : Bool :=
  let p := a / 4096
  let o := a % 4096
  if 0x60 ≤ p ∧ p < 0x64 then decide (0x200 ≤ o ∧ o < 0x300) || (p == 0x60 && decide (0x400 ≤ o ∧ o < 0x620))
  else if p = 0x5A then decide (0x104 ≤ o ∧ o < 0x12C)
  else if p = 0x5B then decide (0x100 ≤ o ∧ o < 0x140)
  else if p = 0x5C ∨ p = 0x5D then decide (0x100 ≤ o)
  else if p = 0x31 then decide (0x100 ≤ o ∧ o < 0x11C)
  else if p = 13 then decide (0x300 ≤ o)
  else if p = 0x73 then decide (0x400 ≤ o)
  else if 0x70 ≤ p then p % 4 == 2 && decide (0x100 ≤ o)
  else if p = 6 then decide (0x130 ≤ o ∧ o < 0x168) || decide (0x180 ≤ o ∧ o < 0x600)
  else if p = 4 then decide (0x200 ≤ o)
  else false

/-- The store's key of the register at `a` for path `p`. -/
def regKey (p : Path) (a : Nat) : Nat := if perPath a then pk p a else a

/-! ### Fields (R11) -/

/-- A written field value is one the field takes. -/
def Fld.takes (f : Fld) (v : Nat) : Bool := f.ok.isEmpty || f.ok.any fun r => decide (r.1 ≤ v) && decide (v ≤ r.2)

/-- A register's value after one field of it is written. -/
def fldWrite (new : Nat) (cur : Nat) (f : Fld) : Nat :=
  let v := bitsN new f.hi f.lo
  match f.acc with
  | .rw => if f.takes v then setBitsN cur f.hi f.lo v else cur
  | .rwl => if f.takes v then setBitsN cur f.hi f.lo v else cur
  | .wo => setBitsN cur f.hi f.lo v
  | .w1c =>
    let c := bitsN cur f.hi f.lo
    setBitsN cur f.hi f.lo (c ^^^ (c &&& v))
  | .ro => cur
  | .rc => cur
  | .cmd => cur

/-- A register's value after a write of `new`. -/
def regWrite (cur new : Nat) (fs : List Fld) : Nat := fs.foldl (fldWrite new) cur

/-- A register's value after a read has cleared its RC fields. -/
def regClear (cur : Nat) (fs : List Fld) : Nat :=
  fs.foldl (fun n f => if f.acc = .rc then setBitsN n f.hi f.lo 0 else n) cur

/-- Software can write some field of the register. -/
def RegSpec.writable (s : RegSpec) : Bool := s.flds.any fun f => f.acc != .ro && f.acc != .rc

/-- A read clears the register. -/
def RegSpec.clears (s : RegSpec) : Bool := s.flds.any fun f => f.acc == .rc

/-- The shortest period of a plant loop, in µs (R371). -/
def minPeriod (n : Nat) : Nat := if n = 0 ∨ n = 9 ∨ n = 11 then 2 else if n = 10 then 10 else if n < 9 then 10000 else 0

/-- A write of the whole register at `a` is taken, where the rule looks at more than one field (R274, R288, R371, R376). -/
def Drive.takesWhole (d : Drive) (e : Env) (a new : Nat) : Bool :=
  let p := a / 4096
  if a = Reg.MED_USER_BANDS then d.userBandsOk e (bitsN new 17 0)
  else if a = Reg.MED_GC_CTL then
    let start := bitsN new 23 16
    let urgent := bitsN new 15 8
    decide (8 ≤ start ∧ start ≤ 64) && decide (5 ≤ urgent ∧ urgent ≤ 32) && decide (urgent < start)
  else if 0x21 ≤ p ∧ p < 0x31 ∧ a % 4096 = 0x10C then decide (minPeriod (p - 0x21) ≤ bitsN new 19 0)
  else if 0x32 ≤ p ∧ p < 0x36 ∧ a % 4096 = 0x10C then decide (1000 ≤ bitsN new 19 0 ∧ bitsN new 19 0 ≤ 1000000)
  else true

/-- The block stands in the state its RWL fields require (R54, R94, R144, R217, R362). -/
def Drive.rwlOpen (d : Drive) (p : Path) (a : Nat) : Bool :=
  let pg := a / 4096
  if 0x40 ≤ pg ∧ pg < 0x50 then !d.flag (Reg.MAC_LINK_CTL ((pg - 0x40) / 8)) 0
  else if 0x50 ≤ pg ∧ pg < 0x58 then !d.flag Reg.XPT_CTL 0
  else if pg = 0x60 then !d.mchRun
  else if 0x21 ≤ pg ∧ pg < 0x31 then d.lmode (pg - 0x21) == .manual
  else if pg = 0x31 then (d.th (d.fld (pk p Reg.CTL_TH_SEL) 9 0)).mode == .manual
  else if 0x32 ≤ pg ∧ pg < 0x36 then (d.thUsers (pg - 0x32)).2 == 0
  else true

/-- The value of the register at `a` whose RWL fields a write is compared with. -/
def Drive.rwlNow (d : Drive) (p : Path) (a : Nat) : Nat :=
  if a = Reg.CTL_TH_PROFILE then (d.th (d.fld (pk p Reg.CTL_TH_SEL) 9 0)).profile else (d.reg (regKey p a)).toNat

/-- The written word would change an RWL field outside the state it requires (R54), or asks for a reset R31 refuses. -/
def Drive.stateRefused (d : Drive) (e : Env) (p : Path) (a : Nat) (v : Word) : Bool :=
  if a = Reg.AON_RST_CTL then d.rstRefused v
  else match specOf a with
    | none => false
    | some (s, _, _) =>
      let cur := d.rwlNow p a
      !d.rwlOpen p a && d.takesWhole e a v.toNat && s.flds.any fun f =>
        let x := bitsN v.toNat f.hi f.lo
        f.acc == .rwl && f.takes x && x != bitsN cur f.hi f.lo

/-! ### A written word -/

/-- A write of `new` to the whole register at `a`, of `s.words` words. -/
def Drive.storeFull (d : Drive) (e : Env) (p : Path) (s : RegSpec) (a new : Nat) : Drive :=
  let k := regKey p a
  if !d.takesWhole e a new then d
  else if s.words = 2 then d.setWide k (regWrite (d.wide k) new s.flds)
  else d.setReg k (word (regWrite (d.reg k).toNat new s.flds))

/-- Registers whose write does not enter the store: it acts elsewhere, or the register is reserved on its page. -/
def Drive.noStore (d : Drive) (p : Path) (a : Nat) : Bool :=
  let o := a % 4096
  a == Reg.CTL_TH_MAN || a == Reg.CTL_TH_PROFILE || a == Reg.REC_RL_CFG || d.updBars p a ||
    (noInts (a / 4096) && (o == 0x18 || o == 0x1C))

/-- One word of an access that writes the words `acc` enters the store; a write of a higher word is buffered until the low
word is written, which applies the whole value (R45). -/
def Drive.storeWord (d : Drive) (e : Env) (p : Path) (acc : List (Nat × Word)) (a : Nat) (v : Word) : Drive :=
  match specOf a with
  | none => d
  | some (s, _, w) =>
    if d.noStore p a then d
    else if s.words = 1 then
      if a % 4096 = 0x18 ∨ a % 4096 = 0x1C then d.withEdge (a / 4096) fun d => d.storeFull e p s a v.toNat
      else d.storeFull e p s a v.toNat
    else if !s.writable then d
    else if w = 0 then
      let hi := match acc.lookup (a + 4) with
        | some h => h
        | none => (FMap.find d.bufs (pk p (a + 4))).getD (d.reg (regKey p (a + 4)))
      let d := { d with bufs := FMap.erase d.bufs (pk p (a + 4)) }
      d.storeFull e p s a (v.toNat + hi.toNat * 2 ^ 32)
    else if (acc.lookup (a - 4)).isSome then d
    else { d with bufs := FMap.insert d.bufs (pk p a) v }

/-! ### Command registers: what a write does beside entering the store -/

/-- AON and NRG pages. -/
def hookPower (e : Env) (p : Path) (a : Nat) (v : Word) (was d : Drive) : Drive :=
  if a = Reg.AON_RST_CTL then rstCtlW v e d
  else if a = Reg.AON_PD_FORCE_OFF then (pdForceOffW (was.reg a).toNat e d).updReleased
  else if a = Reg.AON_LED_CTL then ledCtlW v e d
  else if a = Reg.NRG_ALLOT_SET then d.grant p (bits v 9 0)
  else if a = Reg.NRG_ALLOT_CTL then if was.allot = d.allot then d else d.setInt pgNrg 3
  else if a = Reg.NRG_PS_CMD then psCmdW v e d
  else d

/-- CHN page. -/
def hookChn (e : Env) (p : Path) (a : Nat) (v : Word) (d : Drive) : Drive :=
  if a = Reg.CHN_CTL then chnCtlW e d
  else if a = Reg.CHN_ENUM_CMD then chnEnumW v e d
  else if a = Reg.CHN_REQ_CMD then chnReqW p v e d
  else if a = Reg.CHN_TX_CTL then chnTxW p v e d
  else d

/-- REC page. -/
def hookRec (e : Env) (p : Path) (a : Nat) (v : Word) (was d : Drive) : Drive :=
  if a = Reg.REC_FREEZE then recFreezeW p v e d
  else if a = Reg.REC_RL_SEL then recRlSelW p v e d
  else if a = Reg.REC_RL_CFG then recRlCfgW p v e d
  else if a = Reg.REC_HOST_RL then hostRlW (was.reg a) e d
  else if a = Reg.REC_HOST_GO then recHostGoW p v e d
  else if a = Reg.REC_CLR_CMD then recClrCmdW p v e d
  else if a = Reg.REC_RD_SEL then recRdSelW p e d
  else d

/-- HUP, CL and JRN pages. -/
def hookStore (e : Env) (p : Path) (a : Nat) (v : Word) (was d : Drive) : Drive :=
  if a = Reg.HUP_MEAS_CTL then hupMeasGoW v e d
  else if a = Reg.HUP_SWAP then hupSwapW v e d
  else if a = Reg.CL_UPD_CMD then updCmdW p v e d
  else if a = Reg.CL_UPD_CHUNK then updChunkW p v e d
  else if a = Reg.JRN_CTL then jrnCtlW (was.flag a 0) v e d
  else if a = Reg.JRN_REC_SEL then jrnRecSelW p e d
  else d

/-- CTL pages. -/
def hookCtl (e : Env) (p : Path) (a : Nat) (v : Word) (d : Drive) : Drive :=
  let pg := a / 4096
  let o := a % 4096
  if a = Reg.CTL_SAVE then ctlSaveW v e d
  else if 0x21 ≤ pg ∧ pg < 0x31 then
    if o = 0x100 then loopCmdW (pg - 0x21) v e d
    else if o = 0x120 ∧ pg ≠ 0x2B then spTargetW (pg - 0x21) e d
    else if o = 0x134 then manW (pg - 0x21) v e d
    else d
  else if a = Reg.CTL_TH_SEL then ctlThSelW p v e d
  else if a = Reg.CTL_TH_MAN then thManW p v e d
  else if a = Reg.CTL_TH_PROFILE then thProfileW p v e d
  else if a = Reg.CTL_TH_CMD then thCmdW p v e d
  else if a = Reg.CTL_TH_BULK then thBulkW v e d
  else if 0x32 ≤ pg ∧ pg < 0x36 ∧ o = 0x120 then thSpTargetW (pg - 0x32) e d
  else d

/-- MAC and XPT pages. -/
def hookNet (e : Env) (a : Nat) (v : Word) (was d : Drive) : Drive :=
  let n := (a / 4096 - 0x40) / 8
  if a = Reg.XPT_CTL then
    let d := xptCfgSaveW v e d
    if was.flag a 0 && !d.flag a 0 then d.killAll e else d
  else if a = Reg.XPT_FLOW_KILL then xptKillW v e d
  else if a = Reg.XPT_FLOW_SEL then xptFlowSelW v e d
  else if 1 < n then d
  else if a = Reg.MAC_LINK_CTL n then linkCtlW n (was.flag a 0) v e d
  else if a = Reg.MAC_IPV4_ADDR n then ipv4AddrW n e d
  else if a = Reg.MAC_ICMP_RATE n then icmpRateW n (bits (was.reg a) 15 0) e d
  else if a = Reg.MAC_DIAG_POP n then diagPopW n v e d
  else d

/-- CPH and MCH pages. -/
def hookKey (e : Env) (p : Path) (a : Nat) (v : Word) (was d : Drive) : Drive :=
  let n := a / 4096 - 0x60
  if a = Reg.CPH_SLOT_SEL then if 4119 < bits v 12 0 then d else slotSelW p v e d
  else if a = Reg.CPH_CEIL_SET then ceilSetW v e d
  else if a = Reg.CPH_DSLOT_CMD then dslotW p v e d
  else if a = Reg.CPH_MQ_GO then mqGoW p v e d
  else if a = Reg.MCH_ENG_CTL then mchSaveW v e (if was.geom = d.geom then d else geomChanged d)
  else if a = Reg.MCH_SRCH_CTL then srchCtlW p v e d
  else if a = Reg.MCH_ACCT_SEL then acctSelW p v e d
  else if a = 0x60010 + n * 0x1000 then mchCtlW n v e d
  else if a = Reg.MCH_ENT_CMD n then entCmdW n p v e d
  else d

/-- MED pages. -/
def hookMed (e : Env) (p : Path) (a : Nat) (v : Word) (d : Drive) : Drive :=
  let k := (a / 4096 - 0x70) / 4
  if a = Reg.MED_HLOG_SNAP then hlogSnapW p v e d
  else if a = Reg.MED_SPARE_CTL ∨ a = Reg.MED_USER_BANDS then d.spareCheck e
  else if a = Reg.MED_GC_CTL then d.urgentAll e
  else if a = Reg.MED_SPARE_CMD k then spareCmdW k v e d
  else if a = Reg.MED_DIE_SEL k then dieSelW k p v e d
  else d

/-- The effect of a write of `v` at `a`, from the drive before the word entered the store (`was`) and after. -/
def hook (e : Env) (p : Path) (a : Nat) (v : Word) (was d : Drive) : Drive :=
  let pg := a / 4096
  if pg = 2 ∨ pg = 3 then hookPower e p a v was d
  else if pg = 4 then hookChn e p a v d
  else if pg = 6 then hookRec e p a v was d
  else if pg < 16 then hookStore e p a v was d
  else if pg < 0x40 then hookCtl e p a v d
  else if pg < 0x58 then hookNet e a v was d
  else if pg < 0x70 then hookKey e p a v was d
  else hookMed e p a v d

/-- The IPv6 addresses whose words an access changed begin DAD (R87). -/
def Drive.ipv6Writes (d was : Drive) : Drive :=
  ([0, 1].flatMap fun n => [0, 1, 2].map fun a => (n, a)).foldl (fun (d : Drive) x =>
    if was.ipv6 x.1 x.2 = d.ipv6 x.1 x.2 then d else d.ipv6Changed x.1 x.2) d

/-- The words of a write take effect in ascending order of address. -/
def Drive.writeWords (d : Drive) (e : Env) (p : Path) (acc : List (Nat × Word)) : Drive :=
  let d' := acc.foldl (fun (x : Drive) w => hook e p w.1 w.2 x (x.storeWord e p acc w.1 w.2)) d
  if acc.any fun w => decide (0x40 ≤ w.1 / 4096 ∧ w.1 / 4096 < 0x50 ∧ w.1 / 4096 % 8 = 5) then d'.ipv6Writes d else d'

/-! ### A read word (R11, R45) -/

/-- Path `p` reads the word at `a`. -/
def Drive.readWord (d : Drive) (e : Env) (p : Path) (a : Nat) : Word × Drive :=
  match specOf a with
  | none => (0, d)
  | some (s, _, w) =>
    let v := d.view e p a
    let k := regKey p a
    if s.words = 1 then
      (v, if s.clears then d.setReg k (word (regClear (d.reg k).toNat s.flds)) else d)
    else if w = 0 then
      let d' := { d with snaps := FMap.insert d.snaps (pk p (a + 4)) (d.view e p (a + 4)) }
      (v, if s.clears then d'.setWide k (regClear (d.wide k) s.flds) else d')
    else ((FMap.find d.snaps (pk p a)).getD v, d)

/-- The words of a read, in order. -/
def Drive.readWords (d : Drive) (e : Env) (p : Path) : List Nat → List Word × Drive
  | [] => ([], d)
  | a :: as =>
    let (v, d) := d.readWord e p a
    let (vs, d) := d.readWords e p as
    (v :: vs, d)

/-! ### Checks (R48, R53, R55, R527) -/

/-- The most registers of one access on a path. -/
def pathLimit : Path → Nat
  | .chain => 8
  | .i3c => 16
  | .net => 256

/-- The shape of an access fits (R527, check 3). -/
def shapeOk (p : Path) (addr count : Nat) : Bool :=
  addr % 4 == 0 && decide (1 ≤ count) && decide (count ≤ pathLimit p) && decide (addr % 4096 + 4 * count ≤ 4096) &&
    decide (addr < 2 ^ 24)

/-- A register that can be read whenever MGMT is ON (R48). -/
def alwaysRead (a : Nat) : Bool := decide (a < 4096) || [0, 4, 8, 0xC].contains (a % 4096)

/-- The result code a read of one register gives. -/
def Drive.readCheck (d : Drive) (a : Nat) : Nat := if alwaysRead a || d.isUp (keyDom a) then 0 else 6

/-- The page of `a` takes writes on path `p` (R47). -/
def mayWrite (p : Path) (a : Nat) : Bool := match pageInfo (a / 4096) with | some i => bitN i.wpath (Path.code p) | none => false

/-- The result code a write of one register gives. -/
def Drive.writeCheck (d : Drive) (e : Env) (p : Path) (a : Nat) (v : Word) : Nat :=
  if !mayWrite p a then 4 else if !d.isOn (keyDom a) then 6 else if d.stateRefused e p a v then 2 else 0

/-- The first code that is not 0, with its index. -/
def firstBad : Nat → List Nat → Option (Nat × Nat)
  | _, [] => none
  | i, c :: cs => if c = 0 then firstBad (i + 1) cs else some (c, i)

/-- BUSY that the fabric gives on a path (R58). -/
def Drive.countBusy (d : Drive) (p : Path) : Drive := d.bump (Reg.MGMT_BUSY_CHN + 4 * Path.code p) 1

/-- Checks 1 and 2 of R527: what stops an access before its shape is looked at. -/
def Drive.gate (d : Drive) (e : Env) (p : Path) (arb : Arb) : Option AccRes × Drive :=
  if p = .chain ∧ arb.found p = .queueFull then (some ⟨1, 0, []⟩, d.bumpOpen Reg.CHN_REQ_BUSY 1)
  else if d.isOn 3 then (none, d)
  else if !d.pwr.v12 then (some ⟨6, 0, []⟩, d)
  else
    let wakes := p != .net && !d.pwr.v12Waits && !d.pwr.resetHold
    (some ⟨1, 0, []⟩, if wakes then d.wakeMgmt e (if p = .chain then 2 else 3) else d)

/-- Checks 5 to 7 of R527 and, where they pass, the access: a read of `count` registers, or a write of `data`. -/
def Drive.onFabric (d : Drive) (e : Env) (p : Path) (addr : Nat) (rd : Bool) (count : Nat) (data : List Word) (arb : Arb) : AccRes × Drive :=
  let addrs := (List.range count).map fun i => addr + 4 * i
  if (pageInfo (addr / 4096)).isNone then (⟨3, 0, []⟩, d)
  else if arb.found p ≠ .granted then (⟨1, 0, []⟩, d.countBusy p)
  else if rd then
    match firstBad 0 (addrs.map d.readCheck) with
    | some (c, i) => (⟨c, i, []⟩, d)
    | none =>
      let (vs, d) := d.readWords e p addrs
      (⟨0, 0, vs⟩, d)
  else
    let acc := addrs.zip data
    match firstBad 0 (acc.map fun w => d.writeCheck e p w.1 w.2) with
    | some (c, i) => (⟨c, i, []⟩, d)
    | none => (⟨0, 0, []⟩, d.writeWords e p acc)

/-- An access of path `p`, with the policy search of the network path apart (R527). An I3C write of one register to
NRG_ALLOT_SET is served by the AON front end while MGMT is not ON (R25). -/
def Drive.access (d : Drive) (e : Env) (p : Path) (addr : Nat) (rd : Bool) (count : Nat) (data : List Word) (arb : Arb) : AccRes × Drive :=
  match p, d.isOn 3, addr == Reg.NRG_ALLOT_SET && !rd && count == 1 with
  | .i3c, false, true => (⟨0, 0, []⟩, d.grant .i3c (bits (data.headD 0) 9 0))
  | _, _, _ =>
    match d.gate e p arb with
    | (some r, d) => (r, d)
    | (none, d) => if shapeOk p addr count then d.onFabric e p addr rd count data arb else (⟨5, 0, []⟩, d)

/-- The result of an access, kept for its path. -/
def Drive.keep (p : Path) (x : AccRes × Drive) : Drive := { x.2 with results := x.2.results.set (Path.code p) x.1 }

/-- The policy search of a network access of one register (R49), as a command of the management class on flow slot
`arb.flow`: whether it is allowed; none where no flow is there to carry it, or while a segment of its table rebuilds, when it
waits (R219). -/
def Drive.netSearch (d : Drive) (arb : Arb) : Option Bool × Drive :=
  match d.flow? arb.flow with
  | none => (none, d)
  | some f =>
    if !f.live || d.tableHeld (d.classTable 6) then (none, d)
    else
      let (v, d) := d.search 6 (searchKey f.tenant.toNat 0 f.arr.port.toNat 6 (d.vidOf f.arr) [])
      (some v.allow, d)

/-- The policy search of an access: chain and I3C accesses are not searched. -/
def Drive.searched (d : Drive) (p : Path) (arb : Arb) : Option Bool × Drive := if p = .net then d.netSearch arb else (some true, d)

/-- An access of one register over the network, with its policy search between the shape and the page (R49, R527). -/
def Drive.netAccess (d : Drive) (e : Env) (addr : Nat) (rd : Bool) (data : List Word) (arb : Arb) : Drive :=
  match d.gate e .net arb with
  | (some r, d) => Drive.keep .net (r, d)
  | (none, d) =>
    if !shapeOk .net addr 1 then Drive.keep .net (⟨5, 0, []⟩, d)
    else match d.netSearch arb with
      | (none, d) => d
      | (some false, d) => Drive.keep .net (⟨7, 0, []⟩, d)
      | (some true, d) => Drive.keep .net (d.onFabric e .net addr rd 1 data arb)

/-- An access of one register. -/
def Drive.regAccess (d : Drive) (e : Env) (p : Path) (addr : Nat) (rd : Bool) (data : List Word) (arb : Arb) : Drive :=
  if !d.isOn 0 then d
  else match p with
    | .net => d.netAccess e addr rd data arb
    | p => Drive.keep p (d.access e p addr rd 1 data arb)

/-- An access of one register that reads. -/
def regReadOp (p : Path) (addr : Nat) (arb : Arb) (e : Env) (d : Drive) : Drive := d.regAccess e p addr true [] arb

/-- An access of one register that writes. -/
def regWriteOp (p : Path) (addr : Nat) (v : Word) (arb : Arb) (e : Env) (d : Drive) : Drive := d.regAccess e p addr false [v] arb

/-! ### Delivery of page interrupts (R60, R61) -/

/-- One delivery on each route the page's CTL enables. -/
def Drive.deliver (d : Drive) (page : Nat) (stat : Word) : Drive :=
  let ctl := d.reg (page * 4096 + 0x10)
  let d := if bit ctl 31 then d.noticeSend page stat else d
  let d := if bit ctl 30 && d.i3cIbi then
      { d with out := d.out ++ [.ibi [0xA0, BitVec.ofNat 8 (page / 256), BitVec.ofNat 8 page]] }
    else d
  if bit ctl 29 then d.chainNotice page stat else d

/-- PAGE_INTERRUPT_PENDING: the oldest edge of the page is delivered, or waits for MGMT. -/
def pageIntOp (page : Nat) (_ : Env) (d : Drive) : Drive :=
  match d.edges.find? fun x => x.1 == page with
  | none => d
  | some (_, stat) =>
    let d := { d with edges := d.edges.eraseP fun x => x.1 == page }
    if d.isOn 3 then d.deliver page stat
    else if !d.intPend page || d.deferred.contains page then d
    else { d with deferred := d.deferred ++ [page] }

/-- DEFERRED_INTERRUPT_DELIVERY. -/
def deferredIntOp (page : Nat) (_ : Env) (d : Drive) : Drive :=
  if !d.isOn 3 || !d.deferred.contains page then d
  else
    let d := { d with deferred := d.deferred.filter (· != page) }
    if d.intPend page then d.deliver page (d.reg (intStatA page)) else d

/-! ### I3C (R50 to R52, R518, R528) -/

/-- The words of I3C write data, least significant byte first. -/
def i3cWords (bs : List Byte) : List Word := leWords bs

/-- I3C_PRIVATE_WRITE. -/
def i3cWriteOp (bs : List Byte) (arb : Arb) (e : Env) (d : Drive) : Drive :=
  if d.i3cAddr.isNone || !d.isOn 0 then d
  else
    let op := beAt bs 0 1
    let addr := beAt bs 1 3
    let count := beAt bs 4 1
    let fits := decide (5 ≤ bs.length) && ((op == 1 && bs.length == 5) || (op == 2 && bs.length == 5 + 4 * count))
    if fits then Drive.keep .i3c (d.access e .i3c addr (op == 1) count (i3cWords (bs.drop 5)) arb)
    else match d.gate e .i3c arb with
      | (some r, d) => Drive.keep .i3c (r, d)
      | (none, d) => Drive.keep .i3c (⟨5, 0, []⟩, d)

/-- The bytes of an access result on I3C. -/
def i3cResult (r : AccRes) : List Byte :=
  beBytes 1 r.code ++ beBytes 1 r.fail ++ (if r.code = 0 then (r.data.map fun w => leBytes 4 w.toNat).flatten else [])

/-- The drive puts `bs` on the I3C bus. -/
def Drive.i3cOut (d : Drive) (bs : List Byte) : Drive := { d with out := d.out ++ [.i3c bs] }

/-- I3C_PRIVATE_READ. A further private read, with the result already collected, returns it again (DESIGN CHOICE: R51 gives
one private read to an access and says nothing of a second). -/
def i3cReadOp (_ : Env) (d : Drive) : Drive :=
  if d.i3cAddr.isNone || !d.isOn 0 then d else d.i3cOut (i3cResult ((d.results[1]?).getD ⟨0, 0, []⟩))

/-- ENEC (`on`) and DISEC: bit 0 of the event byte is the in-band interrupts. -/
def i3cEventsOp (on : Bool) (events : Byte) (_ : Env) (d : Drive) : Drive :=
  if d.isOn 0 && events.getLsbD 0 then { d with i3cIbi := on } else d

/-- A CCC addressed to the drive that it answers with `bs`. -/
def i3cAnswerOp (bs : Env → List Byte) (e : Env) (d : Drive) : Drive := if d.i3cAddr.isSome && d.isOn 0 then d.i3cOut (bs e) else d

/-- The provisional ID: its low 12 bits are those of DIR_SERIAL. -/
def i3cPid (e : Env) : List Byte := beBytes 6 (Config.i3cPid % 2 ^ 36 * 2 ^ 12 + e.fac.serial.toNat % 2 ^ 12)

/-- GETSTATUS and GETMXDS answer two bytes whose values the spec does not state. -/
def i3cOpenOp (_ : Env) (d : Drive) : Drive :=
  if d.i3cAddr.isSome && d.isOn 0 then
    let (n, d) := d.draw
    d.i3cOut (beBytes 2 (Config.i3cReply n))
  else d

/-- ENTDAA assigns an address to a drive that has none. -/
def entdaaOp (a : BitVec 7) (_ : Env) (d : Drive) : Drive :=
  if d.isOn 0 && d.i3cAddr.isNone then { d with i3cAddr := some a.toNat } else d

/-- SETDASA at the static address 0x3A. -/
def setdasaOp (static a : BitVec 7) (_ : Env) (d : Drive) : Drive :=
  if d.isOn 0 && static == 0x3A then { d with i3cAddr := some a.toNat } else d

/-- RSTDAA. -/
def rstdaaOp (_ : Env) (d : Drive) : Drive := if d.isOn 0 then { d with i3cAddr := none } else d

/-! ### Register frames of the chain (R410, R428, R429) -/

/-- The response to a register frame. -/
def Drive.regRsp (d : Drive) (f : Frame) (r : AccRes) : Drive :=
  let body := beBytes 3 (f.at_ 8 3) ++ beBytes 1 (f.at_ 11 1) ++ beBytes 1 r.code ++ beBytes 1 r.fail ++ zeros 2 ++
    (r.data.map fun w => beBytes 4 w.toNat).flatten
  d.chainSend { d.chn.frame 0x12 false f.src (padTo 52 body) with rid := f.rid, resp := true }

/-- A register frame meant for this drive is served and answered. -/
def Drive.regFrame (d : Drive) (e : Env) (f : Frame) (rd : Bool) (arb : Arb) : Drive :=
  let n := f.at_ 11 1
  let data := (List.range (min n 8)).map fun i => word (f.at_ (12 + 4 * i) 4)
  let (r, d) := d.access e .chain (f.at_ 8 3) rd n data arb
  let d := Drive.keep .chain (r, d)
  if d.isOn 0 then d.regRsp f r else d

/-- REG_RD_FRAME: only an addressed drive answers (R419). -/
def regRdFrameOp (f : Frame) (arb : Arb) (e : Env) (d : Drive) : Drive :=
  if f.ty ≠ 0x10 || !d.hears then d
  else
    let me := d.forMe f && !f.bcast
    let d := d.relay f
    if me then d.regFrame e f true arb else d

/-- REG_WR_FRAME: a frame that fails verification, or whose verification cannot run, is discarded (R428). -/
def regWrFrameOp (f : Frame) (arb : Arb) (e : Env) (d : Drive) : Drive :=
  if f.ty ≠ 0x11 || !d.hears then d
  else
    let me := d.forMe f && !f.bcast
    let d := d.relay f
    if !me then d
    else
      let bad (why : Nat) (d : Drive) : Drive :=
        (((d.bumpOpen Reg.CHN_AUTH_BAD 1).errCnt pgChn).setInt pgChn 6).event e 0xB04 f.src.toNat why 0 0
      if !f.auth then if d.flag Reg.CHN_CTL 2 then bad 0 d else d.regFrame e f false arb
      else match d.chainVerify e f with
        | (some true, d) => d.regFrame e f false arb
        | (some false, d) => bad 0 d
        | (none, d) => bad 1 d

end Sys2Proof.Machine
end

