-- ==== Sys2Proof/Machine/Ops.lean ====
section
/-! DEFINITION. The one way a command's effect acts on the state. An effect is a function of the drive and of what it
knows beside it (`Env`); the clock, the factory data and the queue of waiting commands are out of its reach, and the
READ_ONLY latch takes up what the media store says and never falls (R299). -/

namespace Sys2Proof.Machine

/-- What a command's outcome is, in this block's own words. -/
abbrev Outcome : Type := Host.Outcome State Fault Refusal

/-- An effect on the drive. -/
abbrev Effect : Type := Env → Drive → Drive

/-- What an effect knows beside the drive. -/
def State.env (s : State) : Env := ⟨s.clk, s.fac, s.perm.readOnly⟩

/-- The drive after an effect, with the READ_ONLY latch taken up; the rest of the state stays. -/
def State.lift (s : State) (f : Effect) : State :=
  let d := f s.env s.d
  { s with perm := ⟨s.perm.readOnly || d.med.readOnly⟩, d := d }

/-- A command whose effect is `f` runs to its end. -/
def runOp (f : Effect) (s : State) : Outcome := .next (s.lift f)

end Sys2Proof.Machine
end

