-- ==== Sys2Proof/Machine/Deliver.lean ====
section
/-! DEFINITION. From a host's CMD or CLOSE to its command (R114, R119, R121, R133, R157, R163, R195, R219, R312): sequence
numbers, gaps, the order of the checks, register commands, and the commands that wait and run again. -/

namespace Sys2Proof.Machine

/-! ### Register commands (R195) -/

/-- MGMT_READ or MGMT_WRITE, allowed by the policy. -/
def Drive.doMgmt (d : Drive) (e : Env) (h : HeldCmd) (v : Verdict) : Drive :=
  let b := h.cmd.body
  let count := beAt b 4 2
  let rd := h.op == .mgmtRead
  let data := (List.range (if rd then 0 else count)).map fun i => word (beAt b (8 + 4 * i) 4)
  let (r, d) := d.access e .net (beAt b 1 3) rd count data h.arb
  let d := Drive.keep .net (r, d)
  if r.code = 0 then
    d.endOk e h v 0 { status := 0, extra := (r.data.map fun w => beBytes 4 w.toNat).flatten }
  else
    d.refuse e h { status := if r.code = 1 then 0xE else 0x100 + r.code, res0 := r.code + 256 * r.fail }

/-! ### From step 4 on -/

/-- The namespace that a read or a FLUSH by namespace names is not one of the flow's tenant: it is answered at step 5, before
its snapshot point. -/
def Drive.unowned (d : Drive) (f : Flow) (h : HeldCmd) : Bool :=
  (h.op.cls == 1 && !d.owns f (bodyNs h.cmd.body)) ||
    (h.op == .flush && beAt h.cmd.body 0 1 == 2 && !d.owns f (beAt h.cmd.body 2 2))

/-- A command that the policy allows goes on, or waits for its snapshot point (R163). -/
def Drive.afterPolicy (d : Drive) (e : Env) (h : HeldCmd) (f : Flow) (v : Verdict) : Drive :=
  if d.mustWait h && !d.unowned f h then d.onJrn fun j => { j with heldOrd := j.heldOrd ++ [{ h with v := some v }] }
  else if h.op = .mgmtRead ∨ h.op = .mgmtWrite then d.doMgmt e h v
  else d.fromFive e h f v

/-- A command from step 4 on. -/
def Drive.fromFour (d : Drive) (e : Env) (h : HeldCmd) : Drive :=
  match d.flowAt h.slot h.inc with
  | none => d
  | some f =>
    match d.policy e h f with
    | (none, d) => d
    | (some v, d) => match d.flowAt h.slot h.inc with
      | some f => d.afterPolicy e h f v
      | none => d

/-! ### Commands that wait (R163, R312) -/

/-- One pass over the commands that wait for their snapshot points. -/
def Drive.ordPass (d : Drive) (e : Env) : Drive :=
  let hs := d.jrn.heldOrd
  hs.foldl (fun (d : Drive) h =>
    match d.flowAt h.slot h.inc, h.v with
    | some f, some v => d.afterPolicy e h f v
    | _, _ => d) (d.onJrn fun j => { j with heldOrd := [] })

/-- One pass over the commands that wait for leaf pages: those that DRAM now holds all pages of go on (R279). -/
def Drive.leafPass (d : Drive) (e : Env) : Drive :=
  let hs := d.med.heldLeaf
  hs.foldl (fun (d : Drive) h =>
    match d.flowAt h.slot h.inc, h.v with
    | some f, some v => d.fromFive e h f v
    | _, _ => d) (d.onMed fun m => { m with heldLeaf := [] })

/-- Complete records that earlier commands of their flow may hold back, in the order in which they were completed: those with
ORDERED, and those without a payload (R163). A record with a payload and without ORDERED commits at its COMMIT. -/
def Jrn.heldFull (j : Jrn) : List JRec :=
  (j.recs.filter fun r => r.st == .accepted && decide (0 < r.full) && (r.ordered || r.payload == 0)).mergeSort fun a b =>
    decide (a.full ≤ b.full)

/-- How many commands wait. -/
def Drive.waits (d : Drive) : Nat := d.jrn.heldOrd.length + d.med.heldLeaf.length + d.jrn.heldFull.length

/-- Commands that wait for earlier ones, or for pages, run as far as they may: the complete records that wait to commit, then
the commands without a record. `fuel` bounds the passes. -/
def runHeld (e : Env) : Nat → Drive → Drive
  | 0, d => d
  | fuel + 1, d =>
    let d' := d.jrn.heldFull.foldl (fun (d : Drive) r => d.commit e r.rsn) d
    let d' := if d'.jrn.heldOrd.isEmpty then d' else d'.ordPass e
    let d' := if d'.med.heldLeaf.isEmpty then d' else d'.leafPass e
    if d'.waits = d.waits then d' else runHeld e fuel d'

/-- What waits for other commands runs as far as it may. -/
def Drive.settled (d : Drive) (e : Env) : Drive :=
  if d.waits = 0 then d else runHeld e (d.waits + 1) d

/-- An effect after which commands that waited may run. -/
def cmdOp (f : Effect) : Effect := fun e d => (f e d).settled e

/-- ACCEPT_HELD: a record pair is free, and the oldest command held at acceptance takes it. -/
def acceptHeldOp (e : Env) (d : Drive) : Drive :=
  match d.jrn.heldAccept with
  | [] => d
  | h :: rest =>
    if pairTotal ≤ d.jrn.recs.length || d.jrn.flush.isSome then d
    else
      let d := d.onJrn fun j => { j with heldAccept := rest }
      match d.flowAt h.slot h.inc, h.v with
      | some f, some v =>
        let growth := if h.op.paid then d.growthOf h.op (bodyNs h.cmd.body) h.cmd.payload.toNat h.cmd.body else 0
        d.accept e h f v growth.toNat
      | _, _ => d

/-- The commands, OPENs and diagnostic searches that waited for a segment run against the rebuilt table (R219). -/
def segmentRebuiltOp (n : Nat) (e : Env) (d : Drive) : Drive :=
  if !d.mch.rebuilding.contains n then d
  else
    let d := d.segRebuilt n
    let opens := d.mch.heldOpens
    let cmds := d.mch.heldCmds
    let d := d.onMch fun m => { m with heldOpens := [], heldCmds := [] }
    let d := opens.foldl (fun (d : Drive) o => d.openIn e o) d
    let d := cmds.foldl (fun (d : Drive) h => d.fromFour e h) d
    d.runHeldDiag

/-! ### Delivery (R114, R119 to R121, R157) -/

/-- The command counts for the cluster that is given it: one of those ON, by the drive's own choice. -/
def Drive.dispatched (d : Drive) : Drive :=
  match (List.range 4).filter fun n => d.isOn (6 + n) with
  | [] => d
  | ns =>
    let (k, d) := d.draw
    d.bumpOpen (Reg.CL_CMDS (ns.getD (Config.placement k % ns.length) 0)) 1

/-- Step 2: the retry hint of BUSY; the estimate of the time left is the drive's own (R185). -/
def Drive.busyHint (d : Drive) : Nat × Drive :=
  if d.pwr.fawnStep ≠ 0 then (0, d)
  else
    let (n, d) := d.draw
    (hintLimit (Config.estimateMs n), d)

/-- Steps 1 to 3, then the rest, of a command that has entered the command layer; `f` is its flow before it did. -/
def Drive.execute (d : Drive) (e : Env) (h : HeldCmd) (f : Flow) : Drive :=
  let mgmt := h.op == .mgmtRead || h.op == .mgmtWrite
  let one := stepOne f h.cmd h.op
  let three := stepThree h.op h.cmd.payload.toNat h.cmd.body
  if one ≠ 0 then d.refuse e h { status := one }
  else if !mgmt && (!d.pwr.readReady || d.pwr.fawnStep != 0) then
    let (n, d) := d.busyHint
    d.refuse e h { status := 0xE, retry := n }
  else if three ≠ 0 then d.refuse e h { status := three, res0 := if three = 0x105 then 5 else 0 }
  else d.fromFour e h

/-- A command as its flow lists it at first. -/
def listedCmd (c : Cmd) (op : Op) : FlowCmd :=
  { seq := c.hdr.seq, tag := c.tag, op := op, passed := false, ns := cmdNs op c.body, rsn := none
    blocks := ceilDiv c.payload.toNat 4096, grantEnd := 0, units := [], bmapNo := 0, sinceBmap := 0
    reqTo := 0, reqDue := c.hdr.req, rsp := none }

/-- A command in sequence, for which `no` bitmaps were sent while it was held beyond a gap. -/
def Drive.doCmd (d : Drive) (e : Env) (f : Flow) (op : Op) (c : Cmd) (arb : Arb) (no : Nat) : Drive :=
  let d := d.onFlow f.slot fun f => { f with cmds := f.cmds ++ [{ listedCmd c op with bmapNo := no }] }
  d.dispatched.execute e ⟨f.slot, f.inc, op, c, arb, none, (0, 0)⟩ f

/-- One message in sequence: a command, or the CLOSE; after the CLOSE a CMD is discarded. -/
def Drive.deliver1 (d : Drive) (e : Env) (slot : Nat) (m : GapMsg) : Drive :=
  let d := d.onFlow slot fun f => { f with rxNext := m.seq + 1, ackDue := true }
  match d.flow? slot with
  | none => d
  | some f =>
    if f.st ≠ .open_ then d
    else match m.cmd with
      | none => d.onFlow slot fun f => { f with st := .closing, closeSeq := some m.seq, subs := [], notices := [] }
      | some (op, c, arb) => d.doCmd e f op c arb m.bmapNo

/-- Messages kept beyond a gap that is filled now are delivered in sequence order; `fuel` bounds them. -/
def deliverGap (e : Env) (slot : Nat) : Nat → Drive → Drive
  | 0, d => d
  | fuel + 1, d =>
    match d.flow? slot with
    | none => d
    | some f =>
      match f.gap.find? fun x => x.seq == f.rxNext with
      | none => d
      | some m =>
        let d := d.onFlow slot fun f => { f with gap := f.gap.filter fun x => !(x.seq == m.seq) }
        deliverGap e slot fuel (d.deliver1 e slot m)

/-- A sequenced header of the host on flow `f` (R119, R121). -/
def Drive.sequenced (d : Drive) (e : Env) (f : Flow) (seq : Word) (m : Option (Op × Cmd × Arb)) : Drive :=
  if seqLt seq f.rxNext || f.gap.any fun x => x.seq == seq then (d.bump Reg.XPT_RX_DUP 1).ackSend f.slot
  else if seqLt f.limit seq then d.bump Reg.XPT_RX_OVERCREDIT 1
  else if seq ≠ f.rxNext then d.onFlow f.slot fun f => { f with gap := f.gap ++ [⟨seq, m, 0⟩] }
  else (deliverGap e f.slot f.gap.length (d.deliver1 e f.slot ⟨seq, m, 0⟩)).credits

/-- A CMD arrives: its UDP payload is at most 4,132 bytes. -/
def cmdIn (op : Op) (c : Cmd) (arb : Arb) (e : Env) (d : Drive) : Drive :=
  if !d.xptTakes c.arr || c.arr.group then d
  else if 4132 < 56 + c.body.length then d.badDgram
  else match d.findFlow e c.arr c.hdr with
    | (none, d) => d
    | (some f, d) => match d.flow? f.slot with
      | some f => d.sequenced e f c.hdr.seq (some (op, c, arb))
      | none => d

/-- The opcodes of R152. -/
def knownCodes : List Nat :=
  [1, 2, 3, 4, 5, 0x10, 0x11, 0x12, 0x13, 0x20, 0x21, 0x30, 0x31, 0x32, 0x40, 0x41, 0x50, 0x51, 0x52]

/-- UNKNOWN_OPCODE: the code is not one of R152's. -/
def unknownIn (c : Cmd) (code : Half) (e : Env) (d : Drive) : Drive :=
  if knownCodes.contains code.toNat then d else cmdIn (.unknown code) c (.alone 0) e d

/-- A CLOSE arrives; one that repeats the last CLOSE of a closed flow in TOMB is acknowledged again (R117). -/
def closeIn (r : Arrival) (h : Hdr) (e : Env) (d : Drive) : Drive :=
  if !d.xptTakes r || r.group then d
  else match d.xpt.flows.find? fun f => f.id == h.flow && f.st == .tomb && f.closed && f.closeSeq == some h.seq with
    | some f => d.flowSend f.slot 5 0 0 0 []
    | none => match d.findFlow e r h with
      | (none, d) => d
      | (some f, d) => match d.flow? f.slot with
        | some f => d.sequenced e f h.seq none
        | none => d

end Sys2Proof.Machine
end

