-- ==== Sys2Proof/Machine/Rows.lean ====
section
/-! DEFINITION. What the rows' meanings share: a row that is one register access, a row of the transport, a row of a unit
that a firmware activation may have out, and the two rows that move the clock. -/

namespace Sys2Proof.Machine

/-- A row that is a write of the register at `addr`. -/
def regRow (p : Path) (addr : Nat) (v : Word) (arb : Arb) (s : State) : Outcome := runOp (cmdOp (regWriteOp p addr v arb)) s

/-- An effect of a unit of carrier `c`, which has none while the unit is out for an activation (R459 to R461). -/
def unitRow (c : Nat) (f : Effect) : Effect := fun e d => if d.unitOut c then d else f e d

/-- A row of the transport. -/
def xptRow (f : Effect) (s : State) : Outcome := runOp (unitRow 2 (cmdOp f)) s

/-- The register of a loop command: a plant loop's own, or the threshold window's for one loop (16) or a profile's (17). -/
def loopCmdA (loop : Nat) : Nat := if loop < 16 then Reg.CTL_L_CMD loop else if loop = 16 then Reg.CTL_TH_CMD else Reg.CTL_TH_BULK

/-- DOMAIN_ENABLE: a MEDIA domain is asked for by an operation, which ends IDLE (R395, R399). -/
def domainEnableRowOp (k : Nat) (e : Env) (d : Drive) : Drive :=
  domainEnableOp k e (if 20 ≤ k ∧ k < 28 then d.leaveIdle e else d)

/-- AON writes a new OPT_HW before the counter reaches the stored one (R438). -/
def Clock.advance (c : Clock) : Clock :=
  if c.optHw ≤ c.optime + 1 then { c with optHw := (c.optime + 1) / 65536 * 65536 + 65536 } else c

/-- One millisecond of operating time. -/
def Clock.tick (c : Clock) : Clock := { c.advance with optime := c.optime + 1 }

/-- The clock after a power-on reset: the counter resumes at OPT_HW, and the power cycle counts one (R34, R438). -/
def Clock.powerUp (c : Clock) : Clock := ⟨c.optHw, c.optHw / 65536 * 65536 + 65536, c.pcycle + 1⟩

/-- The state after a power-on reset with the straps LEAD and SEG_START as they stand. -/
def State.powerOn (s : State) (lead seg : Bool) : State :=
  let c := s.clk.powerUp
  let s := s.lift fun e d => d.powerOn e c.optime c.pcycle lead seg
  { s with clk := c }

end Sys2Proof.Machine
end

