-- ==== Sys2Proof/Machine/ChnRows.lean ====
section
/-! DEFINITION. The meanings of the rows on the Skatik chain and the herd (R406 to R434). -/

namespace Sys2Proof.Machine

/-- CHAIN_LOCK_ACQUIRED (R407). -/
def execChainLockAcquired (s : State) : Outcome := runOp (chainLockOp) s

/-- CHAIN_LOCK_LOST (R407). -/
def execChainLockLost (s : State) : Outcome := runOp (chainUnlockOp) s

/-- CLAIM_TIMER (R414). -/
def execClaimTimer (s : State) : Outcome := runOp (claimTimerOp) s

/-- CLAIM_FRAME (R414). -/
def execClaimFrame (f : Frame) (s : State) : Outcome := runOp (claimFrameOp f) s

/-- ENUM_FRAME (R417). -/
def execEnumFrame (f : Frame) (s : State) : Outcome := runOp (enumFrameOp f) s

/-- ENUM_RETURN (R418). -/
def execEnumReturn (f : Frame) (ns : Nat) (s : State) : Outcome := runOp (enumReturnOp f ns) s

/-- ENUM_TIMEOUT (R418). -/
def execEnumTimeout (s : State) : Outcome := runOp (enumTimeoutOp) s

/-- ENUM_REQ_FRAME (R420). -/
def execEnumReqFrame (f : Frame) (s : State) : Outcome := runOp (enumReqFrameOp f) s

/-- ENUM_REQ_TIMER (R419). -/
def execEnumReqTimer (s : State) : Outcome := runOp (enumReqTimerOp) s

/-- ENUM_PERIOD_EXPIRY (R420). -/
def execEnumPeriodExpiry (s : State) : Outcome := runOp (enumPeriodOp) s

/-- CHN_ENUM_CMD (R420). -/
def execChnEnumCmd (p : Path) (v : Word) (a : Arb) (s : State) : Outcome := regRow p (Reg.CHN_ENUM_CMD) v a s

/-- TICK_TIMER (R421). -/
def execTickTimer (s : State) : Outcome := runOp (tickTimerOp) s

/-- TICK_FRAME (R421). -/
def execTickFrame (f : Frame) (s : State) : Outcome := runOp (tickFrameOp f) s

/-- TICK_LOSS (R422). -/
def execTickLoss (s : State) : Outcome := runOp (tickLossOp) s

/-- ALLOT_FRAME (R424). -/
def execAllotFrame (f : Frame) (s : State) : Outcome := runOp (allotFrameOp f) s

/-- ALARM_FRAME (R425). -/
def execAlarmFrame (f : Frame) (s : State) : Outcome := runOp (alarmFrameOp f) s

/-- CHAIN_NOTICE_FRAME (R426). -/
def execChainNoticeFrame (f : Frame) (s : State) : Outcome := runOp (chainNoticeFrameOp f) s

/-- REG_RD_FRAME (R427). -/
def execRegRdFrame (f : Frame) (a : Arb) (s : State) : Outcome := runOp (cmdOp (regRdFrameOp f a)) s

/-- REG_WR_FRAME (R428). -/
def execRegWrFrame (f : Frame) (a : Arb) (s : State) : Outcome := runOp (cmdOp (regWrFrameOp f a)) s

/-- REG_RSP_FRAME (R430). -/
def execRegRspFrame (f : Frame) (s : State) : Outcome := runOp (regRspFrameOp f) s

/-- EMPTY_SLOT (R412). -/
def execEmptySlot (f : SlotFrame) (s : State) : Outcome := runOp (emptySlotOp f.frame f.gone) s

/-- UNKNOWN_FRAME (R410). -/
def execUnknownFrame (f : Frame) (s : State) : Outcome := runOp (unknownFrameOp f) s

/-- CHN_REQ_GO (R430). -/
def execChnReqGo (p : Path) (v : Word) (a : Arb) (s : State) : Outcome := regRow p (Reg.CHN_REQ_CMD) v a s

/-- CHN_REQ_TIMEOUT (R430). -/
def execChnReqTimeout (p : Path) (s : State) : Outcome := runOp (chnReqTimeoutOp p) s

/-- CHN_TX_SEND (R431). -/
def execChnTxSend (p : Path) (v : Word) (a : Arb) (s : State) : Outcome := regRow p (Reg.CHN_TX_CTL) v a s

/-- BAD_CHAIN_FRAME (R411). -/
def execBadChainFrame (bytes : List Byte) (endBad : Bool) (s : State) : Outcome := runOp (badChainFrameOp bytes endBad) s

/-- CHN_CTL_ENABLE_WRITE (R407). -/
def execChnCtlEnableWrite (p : Path) (v : Word) (a : Arb) (s : State) : Outcome := regRow p (Reg.CHN_CTL) v a s

end Sys2Proof.Machine
end

