-- ==== Sys2Proof/Machine/CmdRows.lean ====
section
/-! DEFINITION. The meanings of the rows on the key-value commands (R147 to R197): a CMD of each opcode arrives. -/

namespace Sys2Proof.Machine

/-- UNKNOWN_OPCODE (R152). -/
def execUnknownOpcode (c : Cmd) (code : Half) (s : State) : Outcome := xptRow (unknownIn c code) s

/-- PUT (R168). -/
def execPut (c : Cmd) (s : State) : Outcome := xptRow (cmdIn .put c (.alone 0)) s

/-- PUT_RANGE (R170). -/
def execPutRange (c : Cmd) (s : State) : Outcome := xptRow (cmdIn .putRange c (.alone 0)) s

/-- CAS (R169). -/
def execCas (c : Cmd) (s : State) : Outcome := xptRow (cmdIn .cas c (.alone 0)) s

/-- DELETE (R172). -/
def execDelete (c : Cmd) (s : State) : Outcome := xptRow (cmdIn .delete c (.alone 0)) s

/-- PUNCH (R171). -/
def execPunch (c : Cmd) (s : State) : Outcome := xptRow (cmdIn .punch c (.alone 0)) s

/-- GET (R174). -/
def execGet (c : Cmd) (s : State) : Outcome := xptRow (cmdIn .get c (.alone 0)) s

/-- GET_RANGE (R174). -/
def execGetRange (c : Cmd) (s : State) : Outcome := xptRow (cmdIn .getRange c (.alone 0)) s

/-- STAT (R176). -/
def execStat (c : Cmd) (s : State) : Outcome := xptRow (cmdIn .stat c (.alone 0)) s

/-- LIST (R178). -/
def execList (c : Cmd) (s : State) : Outcome := xptRow (cmdIn .list c (.alone 0)) s

/-- FLUSH (R186). -/
def execFlush (c : Cmd) (s : State) : Outcome := xptRow (cmdIn .flush c (.alone 0)) s

/-- REPLAY_REPORT (R335). -/
def execReplayReport (c : Cmd) (s : State) : Outcome := xptRow (cmdIn .replayReport c (.alone 0)) s

/-- NS_CREATE (R188). -/
def execNsCreate (c : Cmd) (s : State) : Outcome := xptRow (cmdIn .nsCreate c (.alone 0)) s

/-- NS_DELETE (R189). -/
def execNsDelete (c : Cmd) (s : State) : Outcome := xptRow (cmdIn .nsDelete c (.alone 0)) s

/-- NS_USAGE (R190). -/
def execNsUsage (c : Cmd) (s : State) : Outcome := xptRow (cmdIn .nsUsage c (.alone 0)) s

/-- KEY_LOAD (R193). -/
def execKeyLoad (c : Cmd) (s : State) : Outcome := xptRow (cmdIn .keyLoad c (.alone 0)) s

/-- KEY_ERASE (R194). -/
def execKeyErase (c : Cmd) (s : State) : Outcome := xptRow (cmdIn .keyErase c (.alone 0)) s

/-- NOTICE_SUBSCRIBE (R196). -/
def execNoticeSubscribe (c : Cmd) (s : State) : Outcome := xptRow (cmdIn .noticeSubscribe c (.alone 0)) s

/-- MGMT_READ (R195). -/
def execMgmtRead (c : Cmd) (a : Arb) (s : State) : Outcome := xptRow (cmdIn .mgmtRead c a) s

/-- MGMT_WRITE (R195). -/
def execMgmtWrite (c : Cmd) (a : Arb) (s : State) : Outcome := xptRow (cmdIn .mgmtWrite c a) s

/-- FLUSH_COMPLETE (R186). -/
def execFlushComplete (slot : Nat) (seq : Word) (s : State) : Outcome := runOp (cmdOp (flushCompleteOp slot seq)) s

end Sys2Proof.Machine
end

