-- ==== Sys2Proof/Machine/CphRows.lean ====
section
/-! DEFINITION. The meanings of the rows on the cipher engine (R227 to R265). -/

namespace Sys2Proof.Machine

/-- CPH_DEQUEUE (R247). -/
def execCphDequeue (q : Nat) (s : State) : Outcome := runOp (unitRow 3 (cmdOp (cphDequeueOp q))) s

/-- CPH_COMPLETION (R248). -/
def execCphCompletion (req : Nat) (fault : CphFault) (s : State) : Outcome :=
  runOp (cmdOp (cphCompletionOp req fault.unit fault.media)) s

/-- TAG_FAILURE (R254). -/
def execTagFailure (req : Nat) (s : State) : Outcome := runOp (cmdOp (tagFailureOp req)) s

/-- SEGMENT_RELEASE (R253). -/
def execSegmentRelease (go : SegGo) (s : State) : Outcome := runOp (cmdOp (segmentReleaseOp go.job go.again)) s

/-- RELEASE_SLOT_FREE (R253). -/
def execReleaseSlotFree (job seg : Nat) (s : State) : Outcome := runOp (cmdOp (releaseSlotFreeOp job seg)) s

/-- REKEY_IN_FORCE (R239). -/
def execRekeyInForce (slot : Nat) (s : State) : Outcome := runOp (cmdOp (rekeyInForceOp slot)) s

/-- CEIL_SET (R263). -/
def execCeilSet (p : Path) (v : Word) (a : Arb) (s : State) : Outcome := regRow p (Reg.CPH_CEIL_SET) v a s

/-- DSLOT_LOAD (R264). -/
def execDslotLoad (p : Path) (v : Word) (a : Arb) (s : State) : Outcome := regRow p (Reg.CPH_DSLOT_CMD) v a s

/-- DSLOT_ERASE (R264). -/
def execDslotErase (p : Path) (v : Word) (a : Arb) (s : State) : Outcome := regRow p (Reg.CPH_DSLOT_CMD) v a s

/-- MQ_GO (R258). -/
def execMqGo (p : Path) (v : Word) (a : Arb) (s : State) : Outcome := regRow p (Reg.CPH_MQ_GO) v a s

/-- CPH_SLOT_SEL (R263). -/
def execCphSlotSel (p : Path) (v : Word) (a : Arb) (s : State) : Outcome := regRow p (Reg.CPH_SLOT_SEL) v a s

end Sys2Proof.Machine
end

