-- ==== Sys2Proof/Machine/CtlRows.lean ====
section
/-! DEFINITION. The meanings of the rows on the control engine (R346 to R376). -/

namespace Sys2Proof.Machine

/-- LOOP_TICK (R349). -/
def execLoopTick (n : BitVec 4) (x : Sample) (peops : Nat) (s : State) : Outcome :=
  runOp (unitRow 4 (loopTickOp n.toNat x peops)) s

/-- TH_LOOP_PERIOD (R348). -/
def execThLoopPeriod (t : Nat) (overrun : Bool) (s : State) : Outcome := runOp (unitRow 4 (thLoopPeriodOp t overrun)) s

/-- GO_AUTO (R359). -/
def execGoAuto (p : Path) (loop : Nat) (v : Word) (a : Arb) (s : State) : Outcome := regRow p (loopCmdA loop) v a s

/-- GO_MANUAL (R359). -/
def execGoManual (p : Path) (loop : Nat) (v : Word) (a : Arb) (s : State) : Outcome := regRow p (loopCmdA loop) v a s

/-- CLEAR_TRIP (R359). -/
def execClearTrip (p : Path) (loop : Nat) (v : Word) (a : Arb) (s : State) : Outcome := regRow p (loopCmdA loop) v a s

/-- SP_TARGET_WRITE (R358). -/
def execSpTargetWrite (p : Path) (n : BitVec 4) (v : Word) (a : Arb) (s : State) : Outcome :=
  regRow p (Reg.CTL_L_SP_TARGET n.toNat) v a s

/-- MAN_WRITE (R359). -/
def execManWrite (p : Path) (loop : Nat) (v : Word) (a : Arb) (s : State) : Outcome :=
  regRow p (if loop < 16 then Reg.CTL_L_MAN loop else Reg.CTL_TH_MAN) v a s

/-- TH_STATE_SAVE (R368). -/
def execThStateSave (s : State) : Outcome := runOp (thStateSaveOp) s

/-- CTL_SAVE (R372). -/
def execCtlSave (p : Path) (v : Word) (a : Arb) (s : State) : Outcome := regRow p (Reg.CTL_SAVE) v a s

/-- CTL_TH_SEL (R375). -/
def execCtlThSel (p : Path) (v : Word) (a : Arb) (s : State) : Outcome := regRow p (Reg.CTL_TH_SEL) v a s

/-- CTL_SAVE_DONE (R373). -/
def execCtlSaveDone (s : State) : Outcome := runOp (ctlSaveDoneOp) s

end Sys2Proof.Machine
end

