-- ==== Sys2Proof/Machine/FabricRows.lean ====
section
/-! DEFINITION. The meanings of the rows on the I3C sideband, the register fabric and the delivery of page interrupts (R11, R25, R45, R50 to R61, R386, R528). -/

namespace Sys2Proof.Machine

/-- I3C_PRIVATE_WRITE (R51). -/
def execI3cPrivateWrite (bytes : List Byte) (a : Arb) (s : State) : Outcome := runOp (cmdOp (i3cWriteOp bytes a)) s

/-- I3C_PRIVATE_READ (R51). -/
def execI3cPrivateRead (s : State) : Outcome := runOp (i3cReadOp) s

/-- ENEC (R50). -/
def execEnec (events : Byte) (s : State) : Outcome := runOp (i3cEventsOp true events) s

/-- DISEC (R50). -/
def execDisec (events : Byte) (s : State) : Outcome := runOp (i3cEventsOp false events) s

/-- GETPID (R50). -/
def execGetpid (s : State) : Outcome := runOp (i3cAnswerOp i3cPid) s

/-- GETBCR (R50). -/
def execGetbcr (s : State) : Outcome := runOp (i3cAnswerOp fun _ => [0x06]) s

/-- GETDCR (R50). -/
def execGetdcr (s : State) : Outcome := runOp (i3cAnswerOp fun _ => [0x00]) s

/-- GETSTATUS (R50). -/
def execGetstatus (s : State) : Outcome := runOp (i3cOpenOp) s

/-- GETMXDS (R50). -/
def execGetmxds (s : State) : Outcome := runOp (i3cOpenOp) s

/-- ENTDAA (R50). -/
def execEntdaa (addr : BitVec 7) (s : State) : Outcome := runOp (entdaaOp addr) s

/-- SETDASA (R50). -/
def execSetdasa (static addr : BitVec 7) (s : State) : Outcome := runOp (setdasaOp static addr) s

/-- RSTDAA (R50). -/
def execRstdaa (s : State) : Outcome := runOp (rstdaaOp) s

/-- REGISTER_WRITE (R11). -/
def execRegisterWrite (p : Path) (addr : Nat) (v : Word) (a : Arb) (s : State) : Outcome := regRow p (addr) v a s

/-- RC_REGISTER_READ (R11). -/
def execRcRegisterRead (p : Path) (addr : Nat) (a : Arb) (s : State) : Outcome := runOp (regReadOp p addr a) s

/-- WIDE_LOW_WORD_READ (R45). -/
def execWideLowWordRead (p : Path) (addr : Nat) (a : Arb) (s : State) : Outcome := runOp (regReadOp p addr a) s

/-- WIDE_LOW_WORD_WRITE (R45). -/
def execWideLowWordWrite (p : Path) (addr : Nat) (v : Word) (a : Arb) (s : State) : Outcome := regRow p (addr) v a s

/-- NRG_ALLOT_SET_WRITE (R386). -/
def execNrgAllotSetWrite (p : Path) (v : Word) (a : Arb) (s : State) : Outcome := regRow p (Reg.NRG_ALLOT_SET) v a s

/-- PAGE_INTERRUPT_PENDING (R60). -/
def execPageInterruptPending (page : Nat) (s : State) : Outcome := runOp (pageIntOp page) s

/-- DEFERRED_INTERRUPT_DELIVERY (R61). -/
def execDeferredInterruptDelivery (page : Nat) (s : State) : Outcome := runOp (deferredIntOp page) s

end Sys2Proof.Machine
end

