-- ==== Sys2Proof/Machine/JrnRows.lean ====
section
/-! DEFINITION. The meanings of the rows on the intake journal (R308 to R345). -/

namespace Sys2Proof.Machine

/-- COMMIT (R315). -/
def execCommit (rsn : Nat) (s : State) : Outcome := runOp (cmdOp (fun e d => d.commit e rsn)) s

/-- ACCEPT_HELD (R312). -/
def execAcceptHeld (s : State) : Outcome := runOp (cmdOp (acceptHeldOp)) s

/-- UNIT_SLOT_ALLOCATE (R313). -/
def execUnitSlotAllocate (slot : Nat) (seq : Word) (s : State) : Outcome := runOp (cmdOp (unitSlotOp slot seq)) s

/-- SPILL_SEGMENT (R316). -/
def execSpillSegment (rsn run : Nat) (s : State) : Outcome := runOp (cmdOp (spillSegmentOp rsn run)) s

/-- JOURNAL_DRAIN (R318). -/
def execJournalDrain (rsn : Nat) (s : State) : Outcome := runOp (cmdOp (journalDrainOp rsn)) s

/-- RECORD_DRAINED (R319). -/
def execRecordDrained (rsn : Nat) (s : State) : Outcome := runOp (cmdOp (recordDrainedOp rsn)) s

/-- CHECKPOINT (R279). -/
def execCheckpoint (s : State) : Outcome := runOp (cmdOp checkpointOp) s

/-- CKPT_NOW (R344). -/
def execCkptNow (p : Path) (v : Word) (a : Arb) (s : State) : Outcome := regRow p (Reg.JRN_CTL) v a s

/-- WT_REQ_SET (R338). -/
def execWtReqSet (p : Path) (v : Word) (a : Arb) (s : State) : Outcome := regRow p (Reg.JRN_CTL) v a s

/-- WT_REQ_CLEAR (R340). -/
def execWtReqClear (p : Path) (v : Word) (a : Arb) (s : State) : Outcome := regRow p (Reg.JRN_CTL) v a s

/-- JOURNAL_DRAM_UE (R321). -/
def execJournalDramUe (addr : BitVec 36) (err : UeErr) (s : State) : Outcome :=
  runOp (cmdOp (journalDramUeOp addr err.both err.ce)) s

/-- DRAM_PATROL_UE (R226). -/
def execDramPatrolUe (err : PatrolErr) (s : State) : Outcome :=
  runOp (cmdOp (dramPatrolUeOp err.addr err.both err.shadow err.ce)) s

/-- REPORT_ENTRY_EXPIRY (R334). -/
def execReportEntryExpiry (s : State) : Outcome := runOp (reportExpiryOp) s

/-- WT_SAFE (R338). -/
def execWtSafe (s : State) : Outcome := runOp (cmdOp wtSafeOp) s

/-- WT_COMMIT_PAGE (R339). -/
def execWtCommitPage (s : State) : Outcome := runOp (cmdOp wtCommitPageOp) s

/-- WT_COMMIT_EFFECT (R339). -/
def execWtCommitEffect (s : State) : Outcome := runOp (cmdOp (wtCommitEffectOp)) s

/-- JRN_REC_SEL (R344). -/
def execJrnRecSel (p : Path) (v : Word) (a : Arb) (s : State) : Outcome := regRow p (Reg.JRN_REC_SEL) v a s

end Sys2Proof.Machine
end

