-- ==== Sys2Proof/Machine/MacRows.lean ====
section
/-! DEFINITION. The meanings of the rows on the network ports (R62 to R102). -/

namespace Sys2Proof.Machine

/-- AUTONEG_RESOLVED (R63). -/
def execAutonegResolved (port : BitVec 1) (partner : Nat) (s : State) : Outcome :=
  runOp (autonegResolvedOp port.toNat partner) s

/-- TRAINING_ATTEMPT_FAILED (R64). -/
def execTrainingAttemptFailed (port : BitVec 1) (s : State) : Outcome := runOp (trainingFailedOp port.toNat) s

/-- PHY_FALLBACK (R64). -/
def execPhyFallback (port : BitVec 1) (s : State) : Outcome := runOp (phyFallbackOp port.toNat) s

/-- LINK_UP (R67). -/
def execLinkUp (port : BitVec 1) (us : Nat) (s : State) : Outcome := runOp (linkUpOp port.toNat us) s

/-- LINK_DOWN (R68). -/
def execLinkDown (port : BitVec 1) (s : State) : Outcome := runOp (linkDownOp port.toNat) s

/-- MAC_RETRAIN (R68). -/
def execMacRetrain (p : Path) (port : BitVec 1) (v : Word) (a : Arb) (s : State) : Outcome :=
  regRow p (Reg.MAC_LINK_CTL port.toNat) v a s

/-- MAC_PORT_ENABLE (R73). -/
def execMacPortEnable (p : Path) (port : BitVec 1) (v : Word) (a : Arb) (s : State) : Outcome :=
  regRow p (Reg.MAC_LINK_CTL port.toNat) v a s

/-- MAC_CFG_SAVE (R92). -/
def execMacCfgSave (p : Path) (port : BitVec 1) (v : Word) (a : Arb) (s : State) : Outcome :=
  regRow p (Reg.MAC_LINK_CTL port.toNat) v a s

/-- MAC_CFG_SAVE_DONE (R92). -/
def execMacCfgSaveDone (port : BitVec 1) (s : State) : Outcome := runOp (macSaveDoneOp port.toNat) s

/-- RX_FRAME (R72). -/
def execRxFrame (port : BitVec 1) (f : RxFrame) (s : State) : Outcome := runOp (rxFrameOp port.toNat f) s

/-- RX_BUFFER_RELEASE (R77). -/
def execRxBufferRelease (port : BitVec 1) (ring n : Nat) (s : State) : Outcome := runOp (rxBufferReleaseOp port.toNat ring n) s

/-- PFC_REFRESH (R77). -/
def execPfcRefresh (port : BitVec 1) (prio : Nat) (s : State) : Outcome := runOp (pfcRefreshOp port.toNat prio) s

/-- PFC_RECEIVED (R78). -/
def execPfcReceived (port : BitVec 1) (vec : Byte) (times : List Half) (s : State) : Outcome :=
  runOp (pfcReceivedOp port.toNat vec times) s

/-- PAUSE_TIMER_EXPIRY (R78). -/
def execPauseTimerExpiry (port : BitVec 1) (prio : Nat) (s : State) : Outcome := runOp (pauseExpiryOp port.toNat prio) s

/-- PREEMPT_VERIFY_DONE (R81). -/
def execPreemptVerifyDone (port : BitVec 1) (ok : Bool) (s : State) : Outcome := runOp (verifyDoneOp port.toNat ok) s

/-- TX_FRAME (R84). -/
def execTxFrame (port : BitVec 1) (cut : Option Nat) (s : State) : Outcome := runOp (txFrameOp port.toNat cut) s

/-- PREEMPT_HOLD_TIMEOUT (R83). -/
def execPreemptHoldTimeout (port : BitVec 1) (s : State) : Outcome := runOp (preemptHoldOp port.toNat) s

/-- DIAG_POP (R85). -/
def execDiagPop (p : Path) (port : BitVec 1) (v : Word) (a : Arb) (s : State) : Outcome :=
  regRow p (Reg.MAC_DIAG_POP port.toNat) v a s

/-- ARP_REQUEST (R86). -/
def execArpRequest (arr : Arrival) (senderIp targetIp : Word) (senderMac : BitVec 48) (request : Bool) (s : State) : Outcome :=
  runOp (arpRequestOp arr senderIp targetIp senderMac request) s

/-- IPV4_ADDR_WRITE (R86). -/
def execIpv4AddrWrite (p : Path) (port : BitVec 1) (v : Word) (a : Arb) (s : State) : Outcome :=
  regRow p (Reg.MAC_IPV4_ADDR port.toNat) v a s

/-- IPV6_ADDR_WRITE (R87). -/
def execIpv6AddrWrite (p : Path) (port : BitVec 1) (addr wd : Nat) (v : Word) (a : Arb) (s : State) : Outcome :=
  if addr < 3 ∧ wd < 4 then regRow p (Reg.MAC_IPV6_ADDR port.toNat (4 * addr + wd)) v a s else .next s

/-- DAD_TIMEOUT (R87). -/
def execDadTimeout (port : BitVec 1) (addr : Nat) (s : State) : Outcome := runOp (dadTimeoutOp port.toNat addr) s

/-- NEIGHBOR_SOLICITATION (R87). -/
def execNeighborSolicitation (arr : Arrival) (msg : NdMsg) (s : State) : Outcome :=
  runOp (neighborSolicitationOp arr msg.target msg.advert) s

/-- ECHO_REQUEST (R88). -/
def execEchoRequest (arr : Arrival) (msg : EchoMsg) (s : State) : Outcome :=
  runOp (echoRequestOp arr msg.ident msg.seqNo msg.payload) s

/-- WAKE_DETECTOR_ARM (R90). -/
def execWakeDetectorArm (port : BitVec 1) (s : State) : Outcome := runOp (wakeArmOp port.toNat) s

/-- WAKE_PATTERN (R90). -/
def execWakePattern (hit : WakeHit) (s : State) : Outcome := runOp (wakePatternOp hit.port.toNat hit.both) s

/-- EYE_REFRESH (R66). -/
def execEyeRefresh (port : BitVec 1) (lane : BitVec 2) (eye : Word) (s : State) : Outcome :=
  runOp (eyeRefreshOp port.toNat lane.toNat eye) s

/-- MAC_PORT_DISABLE (R68). -/
def execMacPortDisable (p : Path) (port : BitVec 1) (v : Word) (a : Arb) (s : State) : Outcome :=
  regRow p (Reg.MAC_LINK_CTL port.toNat) v a s

end Sys2Proof.Machine
end

