-- ==== Sys2Proof/Machine/MchRows.lean ====
section
/-! DEFINITION. The meanings of the rows on the policy match engine (R198 to R226). -/

namespace Sys2Proof.Machine

/-- ENT_READ (R213). -/
def execEntRead (p : Path) (seg : BitVec 2) (v : Word) (a : Arb) (s : State) : Outcome :=
  regRow p (Reg.MCH_ENT_CMD seg.toNat) v a s

/-- ENT_INVALIDATE (R213). -/
def execEntInvalidate (p : Path) (seg : BitVec 2) (v : Word) (a : Arb) (s : State) : Outcome :=
  regRow p (Reg.MCH_ENT_CMD seg.toNat) v a s

/-- ENT_WRITE (R213). -/
def execEntWrite (p : Path) (seg : BitVec 2) (v : Word) (a : Arb) (s : State) : Outcome :=
  regRow p (Reg.MCH_ENT_CMD seg.toNat) v a s

/-- ENT_VALIDATE (R213). -/
def execEntValidate (p : Path) (seg : BitVec 2) (v : Word) (a : Arb) (s : State) : Outcome :=
  regRow p (Reg.MCH_ENT_CMD seg.toNat) v a s

/-- MCH_SAVE (R218). -/
def execMchSave (p : Path) (v : Word) (a : Arb) (s : State) : Outcome := regRow p (Reg.MCH_ENG_CTL) v a s

/-- MCH_SAVE_DONE (R218). -/
def execMchSaveDone (s : State) : Outcome := runOp (mchSaveDoneOp) s

/-- MCH_GEOM_WRITE (R207). -/
def execMchGeomWrite (p : Path) (v : Word) (a : Arb) (s : State) : Outcome := regRow p (Reg.MCH_ENG_CTL) v a s

/-- SEGMENT_REBUILD (R219). -/
def execSegmentRebuild (p : Path) (seg : BitVec 2) (v : Word) (a : Arb) (s : State) : Outcome :=
  regRow p (0x60010 + seg.toNat * 0x1000) v a s

/-- SEGMENT_REBUILD_DONE (R219). -/
def execSegmentRebuildDone (seg : BitVec 2) (s : State) : Outcome := runOp (cmdOp (segmentRebuiltOp seg.toNat)) s

/-- DIAG_SEARCH_GO (R221). -/
def execDiagSearchGo (p : Path) (v : Word) (a : Arb) (s : State) : Outcome := regRow p (Reg.MCH_SRCH_CTL) v a s

/-- DIAG_SEARCH_NEXT (R221). -/
def execDiagSearchNext (p : Path) (v : Word) (a : Arb) (s : State) : Outcome := regRow p (Reg.MCH_SRCH_CTL) v a s

/-- MCH_ACCT_SEL (R224). -/
def execMchAcctSel (p : Path) (v : Word) (a : Arb) (s : State) : Outcome := regRow p (Reg.MCH_ACCT_SEL) v a s

/-- SCRUB_COMPARE (R217). -/
def execScrubCompare (seg : BitVec 2) (index : Nat) (shadowBad : Bool) (s : State) : Outcome :=
  runOp (scrubCompareOp seg.toNat index shadowBad) s

/-- MATCH_TEMP_SAMPLE (R220). -/
def execMatchTempSample (t0 t1 t2 t3 : Nat) (s : State) : Outcome := runOp (matchTempSampleOp [t0, t1, t2, t3]) s

end Sys2Proof.Machine
end

