-- ==== Sys2Proof/Machine/MedRows.lean ====
section
/-! DEFINITION. The meanings of the rows on the media store (R266 to R307). -/

namespace Sys2Proof.Machine

/-- MEDIA_READ (R281). -/
def execMediaRead (t : RdTarget) (r : ReadRes) (s : State) : Outcome := runOp (cmdOp (mediaReadOp t r)) s

/-- READ_RETRY_RUNG (R281). -/
def execReadRetryRung (t : RdTarget) (rung : Nat) (r : RungRes) (s : State) : Outcome :=
  runOp (cmdOp (readRetryRungOp t rung r.res r.peers)) s

/-- STRIPE_PROGRAM_DONE (R270). -/
def execStripeProgramDone (band : Nat) (failed : Option Nat) (s : State) : Outcome :=
  runOp (cmdOp (stripeProgramDoneOp band failed)) s

/-- ERASE_DONE (R292). -/
def execEraseDone (band ch : Nat) (ok : Bool) (s : State) : Outcome := runOp (cmdOp (eraseDoneOp band ch ok)) s

/-- GC_COPY (R289). -/
def execGcCopy (group : Nat) (s : State) : Outcome := runOp (cmdOp (gcCopyOp group)) s

/-- WEAR_LEVEL_MOVE (R291). -/
def execWearLevelMove (ch die : Nat) (s : State) : Outcome := runOp (cmdOp (wearLevelMoveOp ch die)) s

/-- DIE_OP_TIMEOUT (R293). -/
def execDieOpTimeout (ch die : Nat) (s : State) : Outcome := runOp (cmdOp (dieOpTimeoutOp ch die)) s

/-- SPARE_CMD (R304). -/
def execSpareCmd (p : Path) (k : BitVec 3) (v : Word) (a : Arb) (s : State) : Outcome :=
  regRow p (Reg.MED_SPARE_CMD k.toNat) v a s

/-- REBUILD_BAND (R295). -/
def execRebuildBand (group : Nat) (failed : Option BlkFail) (s : State) : Outcome :=
  runOp (cmdOp (rebuildBandOp group failed)) s

/-- HEALTH_LOG_SAVE (R301). -/
def execHealthLogSave (s : State) : Outcome := runOp (healthLogSaveOp) s

/-- HLOG_SNAP (R307). -/
def execHlogSnap (p : Path) (v : Word) (a : Arb) (s : State) : Outcome := regRow p (Reg.MED_HLOG_SNAP) v a s

/-- DIE_SEL (R306). -/
def execDieSel (p : Path) (k : BitVec 3) (v : Word) (a : Arb) (s : State) : Outcome := regRow p (Reg.MED_DIE_SEL k.toNat) v a s

/-- USER_BANDS_WRITE (R274). -/
def execUserBandsWrite (p : Path) (v : Word) (a : Arb) (s : State) : Outcome := regRow p (Reg.MED_USER_BANDS) v a s

end Sys2Proof.Machine
end

