-- ==== Sys2Proof/Machine/NrgRows.lean ====
section
/-! DEFINITION. The meanings of the rows on energy, the pack, power states and power domains (R21 to R23, R377 to R405, R500, R501). -/

namespace Sys2Proof.Machine

/-- RESERVE_MEASURE (R377). -/
def execReserveMeasure (mv : Nat) (s : State) : Outcome := runOp (fun e d => ledgerSp e (reserveMeasureOp mv e d)) s

/-- PACK_TEST_PERIOD (R378). -/
def execPackTestPeriod (s : State) : Outcome := runOp (packTestPeriodOp) s

/-- HUP_MEAS_GO (R378). -/
def execHupMeasGo (p : Path) (v : Word) (a : Arb) (s : State) : Outcome := regRow p (Reg.HUP_MEAS_CTL) v a s

/-- PACK_TEST_DONE (R378). -/
def execPackTestDone (capMf esr : Nat) (s : State) : Outcome := runOp (packTestDoneOp capMf esr) s

/-- PACK_FAULT (R380). -/
def execPackFault (cause : Nat) (s : State) : Outcome := runOp (packFaultOp cause) s

/-- PACK_COOLED (R380). -/
def execPackCooled (s : State) : Outcome := runOp (packCooledOp) s

/-- CHAIN_LEASE_EXPIRY (R386). -/
def execChainLeaseExpiry (s : State) : Outcome := runOp (chainLeaseExpiryOp) s

/-- STATIC_DRAW_ESTIMATE (R388). -/
def execStaticDrawEstimate (sample : Nat) (s : State) : Outcome := runOp (staticDrawEstimateOp sample) s

/-- SWAP_REQUEST (R393). -/
def execSwapRequest (p : Path) (v : Word) (a : Arb) (s : State) : Outcome := regRow p (Reg.HUP_SWAP) v a s

/-- SWAP_CANCEL (R393). -/
def execSwapCancel (p : Path) (v : Word) (a : Arb) (s : State) : Outcome := regRow p (Reg.HUP_SWAP) v a s

/-- PACK_FITTED (R500). -/
def execPackFitted (record : List Byte) (mv : Nat) (s : State) : Outcome := runOp (packFittedOp record mv) s

/-- PACK_REMOVED (R501). -/
def execPackRemoved (s : State) : Outcome := runOp (packRemovedOp) s

/-- PACK_LATCH_OPEN (R501). -/
def execPackLatchOpen (s : State) : Outcome := runOp (packLatchOpenOp) s

/-- PACK_LATCH_CLOSE (R501). -/
def execPackLatchClose (s : State) : Outcome := runOp (packLatchCloseOp) s

/-- IDLE_ENTRY (R395). -/
def execIdleEntry (s : State) : Outcome := runOp (idleEntryOp) s

/-- FAWN_ENTER_CMD (R396). -/
def execFawnEnterCmd (p : Path) (v : Word) (a : Arb) (s : State) : Outcome := regRow p (Reg.NRG_PS_CMD) v a s

/-- FAWN_CANCEL_CMD (R396). -/
def execFawnCancelCmd (p : Path) (v : Word) (a : Arb) (s : State) : Outcome := regRow p (Reg.NRG_PS_CMD) v a s

/-- FAWN_IDLE_TIMEOUT (R396). -/
def execFawnIdleTimeout (s : State) : Outcome := runOp (fawnIdleTimeoutOp) s

/-- FAWN_GRACE_END (R396). -/
def execFawnGraceEnd (s : State) : Outcome := runOp (fawnGraceEndOp) s

/-- FAWN_REACHED (R396). -/
def execFawnReached (s : State) : Outcome := runOp (fawnReachedOp) s

/-- WAKE_TIMER_EXPIRY (R398). -/
def execWakeTimerExpiry (s : State) : Outcome := runOp (wakeTimerExpiryOp) s

/-- DOMAIN_ENABLE (R399). -/
def execDomainEnable (dom : Nat) (s : State) : Outcome := runOp (domainEnableRowOp dom) s

/-- DOMAIN_DISABLE (R399). -/
def execDomainDisable (dom : Nat) (retain : Bool) (s : State) : Outcome := runOp (domainDisableOp dom retain) s

/-- DOMAIN_SHUTDOWN_DONE (R399). -/
def execDomainShutdownDone (dom : Nat) (s : State) : Outcome := runOp (domainShutdownDoneOp dom) s

/-- PD_FORCE_OFF_WRITE (R402). -/
def execPdForceOffWrite (p : Path) (v : Word) (a : Arb) (s : State) : Outcome := regRow p (Reg.AON_PD_FORCE_OFF) v a s

end Sys2Proof.Machine
end

