-- ==== Sys2Proof/Machine/PowerRows.lean ====
section
/-! DEFINITION. The meanings of the rows on clocks, resets, start-up, supplies and the power-loss flush (R17, R28 to R37, R322 to R331, R391, R438, R488, R492). -/

namespace Sys2Proof.Machine

/-- GUARD_GIVEUP (R17). -/
def execGuardGiveup (leg : Leg) (id unit : Nat) (s : State) : Outcome := runOp (cmdOp (guardGiveupOp leg id unit)) s

/-- DRAIN_GIVEN_UP (R17). -/
def execDrainGivenUp (rsn unit : Nat) (s : State) : Outcome := runOp (cmdOp (drainGivenUpOp rsn unit)) s

/-- REF_CLOCK_FAULT (R29). -/
def execRefClockFault (s : State) : Outcome := runOp (refClockFaultOp) s

/-- REF_CLOCK_VALID (R29). -/
def execRefClockValid (s : State) : Outcome := runOp (refClockValidOp) s

/-- CONTROLLER_FAULT (R30). -/
def execControllerFault (dom : Nat) (s : State) : Outcome := runOp (controllerFaultOp dom) s

/-- POWER_ON_RESET (R34). -/
def execPowerOnReset (lead seg : Bool) (s : State) : Outcome := .next (s.powerOn lead seg)

/-- RESET_N_ASSERT (R492). -/
def execResetNAssert (ns : Nat) (s : State) : Outcome := runOp (resetNAssertOp ns) s

/-- RESET_N_RELEASE (R492). -/
def execResetNRelease (s : State) : Outcome := runOp (resetNReleaseOp) s

/-- SOFT_FULL_RESET (R32). -/
def execSoftFullReset (p : Path) (v : Word) (a : Arb) (s : State) : Outcome := regRow p (Reg.AON_RST_CTL) v a s

/-- PER_DOMAIN_RESET (R31). -/
def execPerDomainReset (p : Path) (v : Word) (a : Arb) (s : State) : Outcome := regRow p (Reg.AON_RST_CTL) v a s

/-- CHAIN_READY_TIMEOUT (R35). -/
def execChainReadyTimeout (s : State) : Outcome := runOp (chainReadyTimeoutOp) s

/-- V12_GOOD (R391). -/
def execV12Good (s : State) : Outcome := runOp (v12GoodOp) s

/-- FIRMWARE_RUNNING (R34). -/
def execFirmwareRunning (s : State) (seen : StartSeen := StartSeen.good) : Outcome :=
  runOp (firmwareRunningOp seen.ck seen.failed) s

/-- READ_READY (R34). -/
def execReadReady (s : State) : Outcome := runOp (cmdOp (readReadyOp)) s

/-- WRITE_READY (R383). -/
def execWriteReady (s : State) : Outcome := runOp (writeReadyOp) s

/-- REPLAY_DRAIN_DONE (R331). -/
def execReplayDrainDone (s : State) : Outcome := runOp (cmdOp replayDrainDoneOp) s

/-- SUPPLY_LOSS (R322). -/
def execSupplyLoss (which : Supply) (s : State) : Outcome := runOp (supplyLossOp which) s

/-- FLUSH_SEAL (R324). -/
def execFlushSeal (s : State) : Outcome := runOp (flushSealOp) s

/-- FLUSH_RESERVE_OUT (R325). -/
def execFlushReserveOut (pages : Nat) (s : State) : Outcome := runOp (flushReserveOutOp pages) s

/-- SUPPLY_RETURN_DURING_FLUSH (R326). -/
def execSupplyReturnDuringFlush (s : State) : Outcome := runOp (supplyReturnOp) s

/-- AUX_LOSS (R445). -/
def execAuxLoss (s : State) : Outcome := runOp (auxLossOp) s

/-- AUX_RETURN (R488). -/
def execAuxReturn (s : State) : Outcome := runOp (auxReturnOp) s

/-- OPT_HW_ADVANCE (R438). -/
def execOptHwAdvance (s : State) : Outcome := .next { s with clk := if s.d.isOn 0 then s.clk.advance else s.clk }

end Sys2Proof.Machine
end

