-- ==== Sys2Proof/Machine/RecRows.lean ====
section
/-! DEFINITION. The meanings of the rows on the event recorder (R435 to R457). -/

namespace Sys2Proof.Machine

/-- EVENT_OFFER (R442). -/
def execEventOffer (code : Nat) (p0 p1 p2 p3 : Word) (s : State) : Outcome := runOp (fun e => evOffer e code p0 p1 p2 p3) s

/-- RECORD_PROGRAM (R445). -/
def execRecordProgram (s : State) : Outcome := runOp (recProgramOp) s

/-- RECORD_PROGRAM_DONE (R446). -/
def execRecordProgramDone (ok : Bool) (s : State) : Outcome := runOp (recProgramDoneOp ok) s

/-- SUMMARY_DUE (R444). -/
def execSummaryDue (code : Nat) (s : State) : Outcome := runOp (summaryDueOp code) s

/-- RECORDER_SCAN (R447). -/
def execRecorderScan (s : State) : Outcome := runOp (recorderScanOp) s

/-- REC_FREEZE (R450). -/
def execRecFreeze (p : Path) (v : Word) (a : Arb) (s : State) : Outcome := regRow p (Reg.REC_FREEZE) v a s

/-- REC_UNFREEZE (R450). -/
def execRecUnfreeze (p : Path) (v : Word) (a : Arb) (s : State) : Outcome := regRow p (Reg.REC_FREEZE) v a s

/-- FREEZE_TIMEOUT (R450). -/
def execFreezeTimeout (s : State) : Outcome := runOp (freezeTimeoutOp) s

/-- REC_RD_SEL (R451). -/
def execRecRdSel (p : Path) (v : Word) (a : Arb) (s : State) : Outcome := regRow p (Reg.REC_RD_SEL) v a s

/-- REC_CHALLENGE (R452). -/
def execRecChallenge (p : Path) (v : Word) (a : Arb) (s : State) : Outcome := regRow p (Reg.REC_CLR_CMD) v a s

/-- CHALLENGE_EXPIRY (R452). -/
def execChallengeExpiry (s : State) : Outcome := runOp (challengeExpiryOp) s

/-- REC_CLEAR (R453). -/
def execRecClear (p : Path) (v : Word) (a : Arb) (s : State) : Outcome := regRow p (Reg.REC_CLR_CMD) v a s

/-- REC_CLEAR_DONE (R453). -/
def execRecClearDone (s : State) : Outcome := runOp (recClearDoneOp) s

/-- REC_HOST_GO (R439). -/
def execRecHostGo (p : Path) (v : Word) (a : Arb) (s : State) : Outcome := regRow p (Reg.REC_HOST_GO) v a s

/-- REC_RL_SEL (R457). -/
def execRecRlSel (p : Path) (v : Word) (a : Arb) (s : State) : Outcome := regRow p (Reg.REC_RL_SEL) v a s

end Sys2Proof.Machine
end

