-- ==== Sys2Proof/Machine/ServiceRows.lean ====
section
/-! DEFINITION. The meanings of the rows on live update and the module (R458 to R480, R504 to R506). -/

namespace Sys2Proof.Machine

/-- UPD_OPEN (R466). -/
def execUpdOpen (p : Path) (v : Word) (a : Arb) (s : State) : Outcome := regRow p (Reg.CL_UPD_CMD) v a s

/-- UPD_CHUNK (R466). -/
def execUpdChunk (p : Path) (v : Word) (a : Arb) (s : State) : Outcome := regRow p (Reg.CL_UPD_CHUNK) v a s

/-- UPD_CHUNK_DONE (R466). -/
def execUpdChunkDone (ok : Bool) (s : State) : Outcome := runOp (updChunkDoneOp ok) s

/-- UPD_VERIFY (R466). -/
def execUpdVerify (p : Path) (v : Word) (a : Arb) (s : State) : Outcome := regRow p (Reg.CL_UPD_CMD) v a s

/-- UPD_VERIFY_DONE (R465). -/
def execUpdVerifyDone (signature : Bool) (s : State) : Outcome := runOp (updVerifyDoneOp signature) s

/-- UPD_ACTIVATE (R458). -/
def execUpdActivate (p : Path) (v : Word) (a : Arb) (s : State) : Outcome := regRow p (Reg.CL_UPD_CMD) v a s

/-- UPD_REVERT (R467). -/
def execUpdRevert (p : Path) (v : Word) (a : Arb) (s : State) : Outcome := regRow p (Reg.CL_UPD_CMD) v a s

/-- UPD_CLOSE (R467). -/
def execUpdClose (p : Path) (v : Word) (a : Arb) (s : State) : Outcome := regRow p (Reg.CL_UPD_CMD) v a s

/-- UNIT_RETURN (R469). -/
def execUnitReturn (s : State) : Outcome := runOp (unitReturnOp) s

/-- UNIT_FAULT_TIMEOUT (R468). -/
def execUnitFaultTimeout (s : State) : Outcome := runOp (unitFaultOp) s

/-- MAC_LINK_WAIT_TIMEOUT (R462). -/
def execMacLinkWaitTimeout (s : State) : Outcome := runOp (macLinkWaitTimeoutOp) s

/-- LED_TEST (R505). -/
def execLedTest (p : Path) (v : Word) (a : Arb) (s : State) : Outcome := regRow p (Reg.AON_LED_CTL) v a s

/-- LED_TEST_END (R505). -/
def execLedTestEnd (s : State) : Outcome := runOp (ledTestEndOp) s

/-- MODULE_TEMP_SAMPLE (R504). -/
def execModuleTempSample (inlet outlet : Byte) (s : State) : Outcome := runOp (moduleTempOp inlet outlet) s

end Sys2Proof.Machine
end

