-- ==== Sys2Proof/Machine/XptRows.lean ====
section
/-! DEFINITION. The meanings of the rows on the drive transport (R103 to R146): datagrams that arrive, timers of its flows, and its registers. -/

namespace Sys2Proof.Machine

/-- OPEN (R110). -/
def execFlowOpen (arr : Arrival) (hdr : Hdr) (version : Byte) (body : List Byte) (slot : Nat) (isn : Word) (s : State) : Outcome :=
  xptRow (flowOpenOp ⟨arr, hdr, version, body, slot, isn⟩) s

/-- CLOSE (R114). -/
def execFlowClose (arr : Arrival) (hdr : Hdr) (s : State) : Outcome := xptRow (closeIn arr hdr) s

/-- CLOSE_ACK_SEND (R114). -/
def execCloseAckSend (slot : Nat) (s : State) : Outcome := xptRow (closeAckOp slot) s

/-- HOST_RESET (R117). -/
def execHostReset (arr : Arrival) (msg : ResetMsg) (s : State) : Outcome := xptRow (hostResetOp arr msg.hdr msg.cause) s

/-- ACK_MESSAGE (R119). -/
def execAckMessage (arr : Arrival) (hdr : Hdr) (s : State) : Outcome := xptRow (ackMessageOp arr hdr) s

/-- PROBE (R138). -/
def execProbe (arr : Arrival) (hdr : Hdr) (body : List Byte) (s : State) : Outcome := xptRow (probeOp arr hdr body) s

/-- DATA (R124). -/
def execData (arr : Arrival) (hdr : Hdr) (index : Nat) (blocks : List Block) (attempt2 : BitVec 3) (s : State) : Outcome :=
  xptRow (dataOp arr hdr index blocks attempt2.toNat) s

/-- HOST_BITMAP (R130). -/
def execHostBitmap (arr : Arrival) (hdr : Hdr) (base : Nat) (body : List Byte) (s : State) : Outcome :=
  xptRow (hostBitmapOp arr hdr base body) s

/-- BMAP_REQ (R127). -/
def execBmapReq (arr : Arrival) (hdr : Hdr) (msg : Word) (s : State) : Outcome := xptRow (bmapReqOp arr hdr msg) s

/-- ACK_DELAY_EXPIRY (R119). -/
def execAckDelayExpiry (slot : Nat) (s : State) : Outcome := xptRow (ackDelayOp slot) s

/-- RTO_EXPIRY (R119). -/
def execRtoExpiry (slot : Nat) (seq : Word) (unit : Option Nat) (s : State) : Outcome := xptRow (rtoOp slot seq unit) s

/-- REORDER_TIMER_EXPIRY (R129). -/
def execReorderTimerExpiry (slot : Nat) (seq : Word) (missing : List Nat) (s : State) : Outcome :=
  xptRow (reorderOp slot seq missing) s

/-- FLOW_IDLE_TIMEOUT (R116). -/
def execFlowIdleTimeout (slot : Nat) (s : State) : Outcome := xptRow (flowIdleOp slot) s

/-- TOMB_EXPIRY (R117). -/
def execTombExpiry (slot : Nat) (s : State) : Outcome := xptRow (tombOp slot) s

/-- XPT_FLOW_KILL (R144). -/
def execXptFlowKill (p : Path) (v : Word) (a : Arb) (s : State) : Outcome := regRow p (Reg.XPT_FLOW_KILL) v a s

/-- XPT_ENABLE_CLEAR (R141). -/
def execXptEnableClear (p : Path) (v : Word) (a : Arb) (s : State) : Outcome := regRow p (Reg.XPT_CTL) v a s

/-- XPT_CFG_SAVE (R143). -/
def execXptCfgSave (p : Path) (v : Word) (a : Arb) (s : State) : Outcome := regRow p (Reg.XPT_CTL) v a s

/-- XPT_FLOW_SEL (R146). -/
def execXptFlowSel (p : Path) (v : Word) (a : Arb) (s : State) : Outcome := regRow p (Reg.XPT_FLOW_SEL) v a s

/-- FABRIC_COPY_CONFIRM (R126). -/
def execFabricCopyConfirm (slot : Nat) (seq : Word) (unit fails : Nat) (s : State) : Outcome :=
  runOp (cmdOp (copyConfirmOp slot seq unit fails)) s

/-- BAD_TRANSPORT_DATAGRAM (R104). -/
def execBadTransportDatagram (dgram : RawDgram) (s : State) : Outcome :=
  xptRow (badTransportDatagramOp dgram.arr dgram.bytes) s

/-- XPT_CFG_SAVE_DONE (R144). -/
def execXptCfgSaveDone (s : State) : Outcome := runOp (xptCfgSaveDoneOp) s

end Sys2Proof.Machine
end

