-- ==== Sys2Proof/Machine/Dispatch.lean ====
section
/-! DEFINITION. The commands' meanings, one arm per constructor of `Instr`: each arm is one call of the command's own
meaning. -/

namespace Sys2Proof.Machine

def exec (i : Instr) (s : State) : Host.Outcome State Fault Refusal :=
  match i with
  | .guardGiveup leg id unit => Sys2Proof.Machine.execGuardGiveup leg id unit s
  | .drainGivenUp rsn unit => Sys2Proof.Machine.execDrainGivenUp rsn unit s
  | .refClockFault => Sys2Proof.Machine.execRefClockFault s
  | .refClockValid => Sys2Proof.Machine.execRefClockValid s
  | .controllerFault dom => Sys2Proof.Machine.execControllerFault dom s
  | .powerOnReset lead seg => Sys2Proof.Machine.execPowerOnReset lead seg s
  | .resetNAssert ns => Sys2Proof.Machine.execResetNAssert ns s
  | .resetNRelease => Sys2Proof.Machine.execResetNRelease s
  | .softFullReset p v a => Sys2Proof.Machine.execSoftFullReset p v a s
  | .perDomainReset p v a => Sys2Proof.Machine.execPerDomainReset p v a s
  | .chainReadyTimeout => Sys2Proof.Machine.execChainReadyTimeout s
  | .v12Good => Sys2Proof.Machine.execV12Good s
  | .firmwareRunning seen => Sys2Proof.Machine.execFirmwareRunning s seen
  | .readReady => Sys2Proof.Machine.execReadReady s
  | .writeReady => Sys2Proof.Machine.execWriteReady s
  | .replayDrainDone => Sys2Proof.Machine.execReplayDrainDone s
  | .supplyLoss which => Sys2Proof.Machine.execSupplyLoss which s
  | .flushSeal => Sys2Proof.Machine.execFlushSeal s
  | .flushReserveOut pages => Sys2Proof.Machine.execFlushReserveOut pages s
  | .supplyReturnDuringFlush => Sys2Proof.Machine.execSupplyReturnDuringFlush s
  | .i3cPrivateWrite bytes a => Sys2Proof.Machine.execI3cPrivateWrite bytes a s
  | .i3cPrivateRead => Sys2Proof.Machine.execI3cPrivateRead s
  | .enec events => Sys2Proof.Machine.execEnec events s
  | .disec events => Sys2Proof.Machine.execDisec events s
  | .getpid => Sys2Proof.Machine.execGetpid s
  | .getbcr => Sys2Proof.Machine.execGetbcr s
  | .getdcr => Sys2Proof.Machine.execGetdcr s
  | .getstatus => Sys2Proof.Machine.execGetstatus s
  | .getmxds => Sys2Proof.Machine.execGetmxds s
  | .entdaa addr => Sys2Proof.Machine.execEntdaa addr s
  | .setdasa static addr => Sys2Proof.Machine.execSetdasa static addr s
  | .rstdaa => Sys2Proof.Machine.execRstdaa s
  | .registerWrite p addr v a => Sys2Proof.Machine.execRegisterWrite p addr v a s
  | .rcRegisterRead p addr a => Sys2Proof.Machine.execRcRegisterRead p addr a s
  | .wideLowWordRead p addr a => Sys2Proof.Machine.execWideLowWordRead p addr a s
  | .wideLowWordWrite p addr v a => Sys2Proof.Machine.execWideLowWordWrite p addr v a s
  | .nrgAllotSetWrite p v a => Sys2Proof.Machine.execNrgAllotSetWrite p v a s
  | .pageInterruptPending page => Sys2Proof.Machine.execPageInterruptPending page s
  | .deferredInterruptDelivery page => Sys2Proof.Machine.execDeferredInterruptDelivery page s
  | .autonegResolved port partner => Sys2Proof.Machine.execAutonegResolved port partner s
  | .trainingAttemptFailed port => Sys2Proof.Machine.execTrainingAttemptFailed port s
  | .phyFallback port => Sys2Proof.Machine.execPhyFallback port s
  | .linkUp port us => Sys2Proof.Machine.execLinkUp port us s
  | .linkDown port => Sys2Proof.Machine.execLinkDown port s
  | .macRetrain p port v a => Sys2Proof.Machine.execMacRetrain p port v a s
  | .macPortEnable p port v a => Sys2Proof.Machine.execMacPortEnable p port v a s
  | .macCfgSave p port v a => Sys2Proof.Machine.execMacCfgSave p port v a s
  | .macCfgSaveDone port => Sys2Proof.Machine.execMacCfgSaveDone port s
  | .rxFrame port f => Sys2Proof.Machine.execRxFrame port f s
  | .rxBufferRelease port ring n => Sys2Proof.Machine.execRxBufferRelease port ring n s
  | .pfcRefresh port prio => Sys2Proof.Machine.execPfcRefresh port prio s
  | .pfcReceived port vec times => Sys2Proof.Machine.execPfcReceived port vec times s
  | .pauseTimerExpiry port prio => Sys2Proof.Machine.execPauseTimerExpiry port prio s
  | .preemptVerifyDone port ok => Sys2Proof.Machine.execPreemptVerifyDone port ok s
  | .txFrame port cut => Sys2Proof.Machine.execTxFrame port cut s
  | .preemptHoldTimeout port => Sys2Proof.Machine.execPreemptHoldTimeout port s
  | .diagPop p port v a => Sys2Proof.Machine.execDiagPop p port v a s
  | .arpRequest arr senderIp targetIp senderMac request => Sys2Proof.Machine.execArpRequest arr senderIp targetIp senderMac request s
  | .ipv4AddrWrite p port v a => Sys2Proof.Machine.execIpv4AddrWrite p port v a s
  | .ipv6AddrWrite p port addr wd v a => Sys2Proof.Machine.execIpv6AddrWrite p port addr wd v a s
  | .dadTimeout port addr => Sys2Proof.Machine.execDadTimeout port addr s
  | .neighborSolicitation arr msg => Sys2Proof.Machine.execNeighborSolicitation arr msg s
  | .echoRequest arr msg => Sys2Proof.Machine.execEchoRequest arr msg s
  | .wakeDetectorArm port => Sys2Proof.Machine.execWakeDetectorArm port s
  | .wakePattern hit => Sys2Proof.Machine.execWakePattern hit s
  | .flowOpen arr hdr version body slot isn => Sys2Proof.Machine.execFlowOpen arr hdr version body slot isn s
  | .flowClose arr hdr => Sys2Proof.Machine.execFlowClose arr hdr s
  | .closeAckSend slot => Sys2Proof.Machine.execCloseAckSend slot s
  | .hostReset arr msg => Sys2Proof.Machine.execHostReset arr msg s
  | .ackMessage arr hdr => Sys2Proof.Machine.execAckMessage arr hdr s
  | .probe arr hdr body => Sys2Proof.Machine.execProbe arr hdr body s
  | .data arr hdr index blocks attempt2 => Sys2Proof.Machine.execData arr hdr index blocks attempt2 s
  | .hostBitmap arr hdr base body => Sys2Proof.Machine.execHostBitmap arr hdr base body s
  | .bmapReq arr hdr msg => Sys2Proof.Machine.execBmapReq arr hdr msg s
  | .ackDelayExpiry slot => Sys2Proof.Machine.execAckDelayExpiry slot s
  | .rtoExpiry slot seq unit => Sys2Proof.Machine.execRtoExpiry slot seq unit s
  | .reorderTimerExpiry slot seq missing => Sys2Proof.Machine.execReorderTimerExpiry slot seq missing s
  | .flowIdleTimeout slot => Sys2Proof.Machine.execFlowIdleTimeout slot s
  | .tombExpiry slot => Sys2Proof.Machine.execTombExpiry slot s
  | .xptFlowKill p v a => Sys2Proof.Machine.execXptFlowKill p v a s
  | .xptEnableClear p v a => Sys2Proof.Machine.execXptEnableClear p v a s
  | .xptCfgSave p v a => Sys2Proof.Machine.execXptCfgSave p v a s
  | .xptFlowSel p v a => Sys2Proof.Machine.execXptFlowSel p v a s
  | .fabricCopyConfirm slot seq unit fails => Sys2Proof.Machine.execFabricCopyConfirm slot seq unit fails s
  | .unknownOpcode c code => Sys2Proof.Machine.execUnknownOpcode c code s
  | .put c => Sys2Proof.Machine.execPut c s
  | .putRange c => Sys2Proof.Machine.execPutRange c s
  | .cas c => Sys2Proof.Machine.execCas c s
  | .delete c => Sys2Proof.Machine.execDelete c s
  | .punch c => Sys2Proof.Machine.execPunch c s
  | .get c => Sys2Proof.Machine.execGet c s
  | .getRange c => Sys2Proof.Machine.execGetRange c s
  | .stat c => Sys2Proof.Machine.execStat c s
  | .list c => Sys2Proof.Machine.execList c s
  | .flush c => Sys2Proof.Machine.execFlush c s
  | .flushComplete slot seq => Sys2Proof.Machine.execFlushComplete slot seq s
  | .replayReport c => Sys2Proof.Machine.execReplayReport c s
  | .nsCreate c => Sys2Proof.Machine.execNsCreate c s
  | .nsDelete c => Sys2Proof.Machine.execNsDelete c s
  | .nsUsage c => Sys2Proof.Machine.execNsUsage c s
  | .keyLoad c => Sys2Proof.Machine.execKeyLoad c s
  | .keyErase c => Sys2Proof.Machine.execKeyErase c s
  | .mgmtRead c a => Sys2Proof.Machine.execMgmtRead c a s
  | .mgmtWrite c a => Sys2Proof.Machine.execMgmtWrite c a s
  | .noticeSubscribe c => Sys2Proof.Machine.execNoticeSubscribe c s
  | .commit rsn => Sys2Proof.Machine.execCommit rsn s
  | .acceptHeld => Sys2Proof.Machine.execAcceptHeld s
  | .unitSlotAllocate slot seq => Sys2Proof.Machine.execUnitSlotAllocate slot seq s
  | .spillSegment rsn run => Sys2Proof.Machine.execSpillSegment rsn run s
  | .journalDrain rsn => Sys2Proof.Machine.execJournalDrain rsn s
  | .recordDrained rsn => Sys2Proof.Machine.execRecordDrained rsn s
  | .checkpoint => Sys2Proof.Machine.execCheckpoint s
  | .ckptNow p v a => Sys2Proof.Machine.execCkptNow p v a s
  | .journalDramUe addr err => Sys2Proof.Machine.execJournalDramUe addr err s
  | .dramPatrolUe err => Sys2Proof.Machine.execDramPatrolUe err s
  | .reportEntryExpiry => Sys2Proof.Machine.execReportEntryExpiry s
  | .wtReqSet p v a => Sys2Proof.Machine.execWtReqSet p v a s
  | .wtReqClear p v a => Sys2Proof.Machine.execWtReqClear p v a s
  | .wtSafe => Sys2Proof.Machine.execWtSafe s
  | .wtCommitPage => Sys2Proof.Machine.execWtCommitPage s
  | .wtCommitEffect => Sys2Proof.Machine.execWtCommitEffect s
  | .entRead p seg v a => Sys2Proof.Machine.execEntRead p seg v a s
  | .entInvalidate p seg v a => Sys2Proof.Machine.execEntInvalidate p seg v a s
  | .entWrite p seg v a => Sys2Proof.Machine.execEntWrite p seg v a s
  | .entValidate p seg v a => Sys2Proof.Machine.execEntValidate p seg v a s
  | .mchSave p v a => Sys2Proof.Machine.execMchSave p v a s
  | .mchSaveDone => Sys2Proof.Machine.execMchSaveDone s
  | .mchGeomWrite p v a => Sys2Proof.Machine.execMchGeomWrite p v a s
  | .segmentRebuild p seg v a => Sys2Proof.Machine.execSegmentRebuild p seg v a s
  | .segmentRebuildDone seg => Sys2Proof.Machine.execSegmentRebuildDone seg s
  | .diagSearchGo p v a => Sys2Proof.Machine.execDiagSearchGo p v a s
  | .diagSearchNext p v a => Sys2Proof.Machine.execDiagSearchNext p v a s
  | .mchAcctSel p v a => Sys2Proof.Machine.execMchAcctSel p v a s
  | .scrubCompare seg index shadowBad => Sys2Proof.Machine.execScrubCompare seg index shadowBad s
  | .matchTempSample t0 t1 t2 t3 => Sys2Proof.Machine.execMatchTempSample t0 t1 t2 t3 s
  | .cphDequeue q => Sys2Proof.Machine.execCphDequeue q s
  | .cphCompletion req fault => Sys2Proof.Machine.execCphCompletion req fault s
  | .tagFailure req => Sys2Proof.Machine.execTagFailure req s
  | .segmentRelease go => Sys2Proof.Machine.execSegmentRelease go s
  | .releaseSlotFree job seg => Sys2Proof.Machine.execReleaseSlotFree job seg s
  | .rekeyInForce slot => Sys2Proof.Machine.execRekeyInForce slot s
  | .ceilSet p v a => Sys2Proof.Machine.execCeilSet p v a s
  | .dslotLoad p v a => Sys2Proof.Machine.execDslotLoad p v a s
  | .dslotErase p v a => Sys2Proof.Machine.execDslotErase p v a s
  | .mqGo p v a => Sys2Proof.Machine.execMqGo p v a s
  | .cphSlotSel p v a => Sys2Proof.Machine.execCphSlotSel p v a s
  | .mediaRead t r => Sys2Proof.Machine.execMediaRead t r s
  | .readRetryRung t rung r => Sys2Proof.Machine.execReadRetryRung t rung r s
  | .stripeProgramDone band failed => Sys2Proof.Machine.execStripeProgramDone band failed s
  | .eraseDone band ch ok => Sys2Proof.Machine.execEraseDone band ch ok s
  | .gcCopy group => Sys2Proof.Machine.execGcCopy group s
  | .wearLevelMove ch die => Sys2Proof.Machine.execWearLevelMove ch die s
  | .dieOpTimeout ch die => Sys2Proof.Machine.execDieOpTimeout ch die s
  | .spareCmd p k v a => Sys2Proof.Machine.execSpareCmd p k v a s
  | .rebuildBand group failed => Sys2Proof.Machine.execRebuildBand group failed s
  | .healthLogSave => Sys2Proof.Machine.execHealthLogSave s
  | .hlogSnap p v a => Sys2Proof.Machine.execHlogSnap p v a s
  | .dieSel p k v a => Sys2Proof.Machine.execDieSel p k v a s
  | .userBandsWrite p v a => Sys2Proof.Machine.execUserBandsWrite p v a s
  | .loopTick n x peops => Sys2Proof.Machine.execLoopTick n x peops s
  | .thLoopPeriod t overrun => Sys2Proof.Machine.execThLoopPeriod t overrun s
  | .goAuto p loop v a => Sys2Proof.Machine.execGoAuto p loop v a s
  | .goManual p loop v a => Sys2Proof.Machine.execGoManual p loop v a s
  | .clearTrip p loop v a => Sys2Proof.Machine.execClearTrip p loop v a s
  | .spTargetWrite p n v a => Sys2Proof.Machine.execSpTargetWrite p n v a s
  | .manWrite p loop v a => Sys2Proof.Machine.execManWrite p loop v a s
  | .thStateSave => Sys2Proof.Machine.execThStateSave s
  | .ctlSave p v a => Sys2Proof.Machine.execCtlSave p v a s
  | .ctlThSel p v a => Sys2Proof.Machine.execCtlThSel p v a s
  | .reserveMeasure mv => Sys2Proof.Machine.execReserveMeasure mv s
  | .packTestPeriod => Sys2Proof.Machine.execPackTestPeriod s
  | .hupMeasGo p v a => Sys2Proof.Machine.execHupMeasGo p v a s
  | .packTestDone capMf esr => Sys2Proof.Machine.execPackTestDone capMf esr s
  | .packFault cause => Sys2Proof.Machine.execPackFault cause s
  | .chainLeaseExpiry => Sys2Proof.Machine.execChainLeaseExpiry s
  | .staticDrawEstimate sample => Sys2Proof.Machine.execStaticDrawEstimate sample s
  | .swapRequest p v a => Sys2Proof.Machine.execSwapRequest p v a s
  | .swapCancel p v a => Sys2Proof.Machine.execSwapCancel p v a s
  | .packFitted record mv => Sys2Proof.Machine.execPackFitted record mv s
  | .packRemoved => Sys2Proof.Machine.execPackRemoved s
  | .packLatchOpen => Sys2Proof.Machine.execPackLatchOpen s
  | .packLatchClose => Sys2Proof.Machine.execPackLatchClose s
  | .idleEntry => Sys2Proof.Machine.execIdleEntry s
  | .fawnEnterCmd p v a => Sys2Proof.Machine.execFawnEnterCmd p v a s
  | .fawnCancelCmd p v a => Sys2Proof.Machine.execFawnCancelCmd p v a s
  | .fawnIdleTimeout => Sys2Proof.Machine.execFawnIdleTimeout s
  | .fawnGraceEnd => Sys2Proof.Machine.execFawnGraceEnd s
  | .fawnReached => Sys2Proof.Machine.execFawnReached s
  | .wakeTimerExpiry => Sys2Proof.Machine.execWakeTimerExpiry s
  | .domainEnable dom => Sys2Proof.Machine.execDomainEnable dom s
  | .domainDisable dom retain => Sys2Proof.Machine.execDomainDisable dom retain s
  | .domainShutdownDone dom => Sys2Proof.Machine.execDomainShutdownDone dom s
  | .pdForceOffWrite p v a => Sys2Proof.Machine.execPdForceOffWrite p v a s
  | .chainLockAcquired => Sys2Proof.Machine.execChainLockAcquired s
  | .chainLockLost => Sys2Proof.Machine.execChainLockLost s
  | .claimTimer => Sys2Proof.Machine.execClaimTimer s
  | .claimFrame f => Sys2Proof.Machine.execClaimFrame f s
  | .enumFrame f => Sys2Proof.Machine.execEnumFrame f s
  | .enumReturn f ns => Sys2Proof.Machine.execEnumReturn f ns s
  | .enumTimeout => Sys2Proof.Machine.execEnumTimeout s
  | .enumReqFrame f => Sys2Proof.Machine.execEnumReqFrame f s
  | .enumReqTimer => Sys2Proof.Machine.execEnumReqTimer s
  | .enumPeriodExpiry => Sys2Proof.Machine.execEnumPeriodExpiry s
  | .chnEnumCmd p v a => Sys2Proof.Machine.execChnEnumCmd p v a s
  | .tickTimer => Sys2Proof.Machine.execTickTimer s
  | .tickFrame f => Sys2Proof.Machine.execTickFrame f s
  | .tickLoss => Sys2Proof.Machine.execTickLoss s
  | .allotFrame f => Sys2Proof.Machine.execAllotFrame f s
  | .alarmFrame f => Sys2Proof.Machine.execAlarmFrame f s
  | .chainNoticeFrame f => Sys2Proof.Machine.execChainNoticeFrame f s
  | .regRdFrame f a => Sys2Proof.Machine.execRegRdFrame f a s
  | .regWrFrame f a => Sys2Proof.Machine.execRegWrFrame f a s
  | .regRspFrame f => Sys2Proof.Machine.execRegRspFrame f s
  | .emptySlot f => Sys2Proof.Machine.execEmptySlot f s
  | .unknownFrame f => Sys2Proof.Machine.execUnknownFrame f s
  | .chnReqGo p v a => Sys2Proof.Machine.execChnReqGo p v a s
  | .chnReqTimeout p => Sys2Proof.Machine.execChnReqTimeout p s
  | .chnTxSend p v a => Sys2Proof.Machine.execChnTxSend p v a s
  | .eventOffer code p0 p1 p2 p3 => Sys2Proof.Machine.execEventOffer code p0 p1 p2 p3 s
  | .recordProgram => Sys2Proof.Machine.execRecordProgram s
  | .recordProgramDone ok => Sys2Proof.Machine.execRecordProgramDone ok s
  | .summaryDue code => Sys2Proof.Machine.execSummaryDue code s
  | .recorderScan => Sys2Proof.Machine.execRecorderScan s
  | .optHwAdvance => Sys2Proof.Machine.execOptHwAdvance s
  | .recFreeze p v a => Sys2Proof.Machine.execRecFreeze p v a s
  | .recUnfreeze p v a => Sys2Proof.Machine.execRecUnfreeze p v a s
  | .freezeTimeout => Sys2Proof.Machine.execFreezeTimeout s
  | .recRdSel p v a => Sys2Proof.Machine.execRecRdSel p v a s
  | .recChallenge p v a => Sys2Proof.Machine.execRecChallenge p v a s
  | .challengeExpiry => Sys2Proof.Machine.execChallengeExpiry s
  | .recClear p v a => Sys2Proof.Machine.execRecClear p v a s
  | .recClearDone => Sys2Proof.Machine.execRecClearDone s
  | .recHostGo p v a => Sys2Proof.Machine.execRecHostGo p v a s
  | .recRlSel p v a => Sys2Proof.Machine.execRecRlSel p v a s
  | .updOpen p v a => Sys2Proof.Machine.execUpdOpen p v a s
  | .updChunk p v a => Sys2Proof.Machine.execUpdChunk p v a s
  | .updChunkDone ok => Sys2Proof.Machine.execUpdChunkDone ok s
  | .updVerify p v a => Sys2Proof.Machine.execUpdVerify p v a s
  | .updVerifyDone signature => Sys2Proof.Machine.execUpdVerifyDone signature s
  | .updActivate p v a => Sys2Proof.Machine.execUpdActivate p v a s
  | .updRevert p v a => Sys2Proof.Machine.execUpdRevert p v a s
  | .updClose p v a => Sys2Proof.Machine.execUpdClose p v a s
  | .unitReturn => Sys2Proof.Machine.execUnitReturn s
  | .unitFaultTimeout => Sys2Proof.Machine.execUnitFaultTimeout s
  | .macLinkWaitTimeout => Sys2Proof.Machine.execMacLinkWaitTimeout s
  | .ledTest p v a => Sys2Proof.Machine.execLedTest p v a s
  | .ledTestEnd => Sys2Proof.Machine.execLedTestEnd s
  | .moduleTempSample inlet outlet => Sys2Proof.Machine.execModuleTempSample inlet outlet s
  | .auxLoss => Sys2Proof.Machine.execAuxLoss s
  | .auxReturn => Sys2Proof.Machine.execAuxReturn s
  | .packCooled => Sys2Proof.Machine.execPackCooled s
  | .eyeRefresh port lane eye => Sys2Proof.Machine.execEyeRefresh port lane eye s
  | .badTransportDatagram dgram => Sys2Proof.Machine.execBadTransportDatagram dgram s
  | .badChainFrame bytes endBad => Sys2Proof.Machine.execBadChainFrame bytes endBad s
  | .chnCtlEnableWrite p v a => Sys2Proof.Machine.execChnCtlEnableWrite p v a s
  | .macPortDisable p port v a => Sys2Proof.Machine.execMacPortDisable p port v a s
  | .jrnRecSel p v a => Sys2Proof.Machine.execJrnRecSel p v a s
  | .xptCfgSaveDone => Sys2Proof.Machine.execXptCfgSaveDone s
  | .ctlSaveDone => Sys2Proof.Machine.execCtlSaveDone s

end Sys2Proof.Machine
end

