-- ==== Sys2Proof/Machine/Idle.lean ====
section
/-! DEFINITION. What the block does while no command waits: one millisecond of operating time passes (R3, R388, R302, R420,
R462). -/

namespace Sys2Proof.Machine

/-- What a millisecond of operating time brings by itself: credit, the pack's hours, the time at each temperature, an
enumeration asked for within the last 100 ms, and the next unit of an activation. -/
def idleOp (e : Env) (d : Drive) : Drive :=
  let d := (if d.pwr.v12 then d.refill 1 else d).tempTime e 1
  let d := if d.pack.det then { d with pack := { d.pack with ms := d.pack.ms + 1 } } else d
  (d.enumServe e).updNext e

/-- A step with no command waiting: operating time runs while AON has power. -/
def idle (s : State) : Outcome := if s.d.isOn 0 then runOp idleOp { s with clk := s.clk.tick } else .next s

end Sys2Proof.Machine
end

