-- ==== Sys2Proof/Safety.lean ====
section
/-! DEFINITION. The words the statements are made in: a command that completes with a drive that is written out, the
conditions under which a register write takes effect (R527), commands that wait for earlier ones, and the invariants of
the block. -/

namespace Sys2Proof.Machine

/-- Command `i` completes at `s`: the drive becomes `d`; the clock, the factory data and the queue stay, and READ_ONLY
takes up what the media store says. -/
def Gives (i : Instr) (s : State) (d : Drive) : Prop :=
  exec i s = .next { s with perm := ⟨s.perm.readOnly || d.med.readOnly⟩, d := d }

/-- No command waits, neither for earlier ones of its flow (R163) nor for leaf pages (R279). -/
def calm (d : Drive) : Bool := d.waits == 0

/-- The checks of R527 before those of the register pass for an access of path `p`, in their order: AON and MGMT are ON, no
queue is full, the policy's search, which a network access has, allows, and arbitration grants the page. `t` is the state
that the search leaves. -/
def State.admitted (s : State) (p : Path) (arb : Arb) (t : State) : Prop :=
  s.d.isOn 0 = true ∧ s.d.isOn 3 = true ∧ arb.found p = .granted ∧ ∃ d, s.d.searched p arb = (some true, d) ∧ t = { s with d := d }

/-- A write of `v` to the register at `a` on path `p` passes the register's checks of R527: the shape fits, the page exists
and takes writes on the path, its domain is ON, and no RWL field would change in a state that forbids it. -/
def writes (s : State) (p : Path) (a : Nat) (v : Word) : Bool :=
  shapeOk p a 1 && (pageInfo (a / 4096)).isSome && s.d.writeCheck s.env p a v == 0

/-- A read of the register at `a` on path `p` passes the register's checks of R527. -/
def reads (s : State) (p : Path) (a : Nat) : Bool := shapeOk p a 1 && (pageInfo (a / 4096)).isSome && s.d.readCheck a == 0

/-- A write of `v` to the register at `a` on path `p` takes effect: it passes every check of R527, in the state `t` that they
leave. -/
def takes (s : State) (p : Path) (arb : Arb) (a : Nat) (v : Word) (t : State) : Prop := s.admitted p arb t ∧ writes t p a v = true

/-- A read of the register at `a` on path `p` takes effect: it passes every check of R527, in the state `t` that they leave. -/
def fetches (s : State) (p : Path) (arb : Arb) (a : Nat) (t : State) : Prop := s.admitted p arb t ∧ reads t p a = true

/-- The drive after the written word has entered the register, and before what the register commands. -/
def stored (s : State) (p : Path) (a : Nat) (v : Word) : Drive := s.d.storeWord s.env p [(a, v)] a v

/-- The access of path `p` ends DONE with the values `ws`. -/
def Drive.done (d : Drive) (p : Path) (ws : List Word) : Drive := { d with results := d.results.set (Path.code p) ⟨0, 0, ws⟩ }

/-- The access of path `p` ends DONE without data, and commands that waited go on as far as they may. -/
def Drive.accessed (d : Drive) (s : State) (p : Path) : Drive := (d.done p []).settled s.env

/-- The ranges of the fields of a register do not overlap. -/
def fieldsApart (fs : List Fld) : Prop := (∀ f ∈ fs, f.lo ≤ f.hi) ∧ fs.Pairwise fun f g => f.hi < g.lo ∨ g.hi < f.lo

/-- A write to the register at `a` is not one of an IPv6 address page. -/
def plainPage (a : Nat) : Bool := !(decide (0x40 ≤ a / 4096 ∧ a / 4096 < 0x50 ∧ a / 4096 % 8 = 5))

/-! ### Datagrams (R103, R112) -/

/-- A datagram that arrives like `r` with header `h` is taken for flow `f`: the transport is not out for an activation and
takes datagrams there, the destination is no group address, and `f` is the live flow that the header names and comes from
the flow's own host (R112). -/
def comesTo (s : State) (r : Arrival) (h : Hdr) (f : Flow) : Prop :=
  s.d.unitOut 2 = false ∧ s.d.xptTakes r = true ∧ r.group = false ∧ (s.d.xpt.flows.find? fun f => f.id == h.flow) = some f ∧
    f.live = true ∧ f.ip = r.ip ∧ f.ipv6 = r.ipv6 ∧ f.udp = r.udp

/-- The drive once such a datagram's header has been taken: where it came from, the window it carries, its ACK (R112). -/
def heard (s : State) (r : Arrival) (h : Hdr) (f : Flow) : Drive := s.d.takeHdr s.env f r h

/-! ### Commands of a host (R119 to R121, R157) -/

/-- CMD `c` arrives in sequence on flow `f`, which is `g` once the header is taken: OPEN, and the command within its credit and
not a repeated one. -/
def inSequence (s : State) (c : Cmd) (f g : Flow) : Prop :=
  comesTo s c.arr c.hdr f ∧ c.body.length ≤ 4076 ∧ (heard s c.arr c.hdr f).flow? f.slot = some g ∧ g.slot = f.slot ∧
    g.st = .open_ ∧ (g.gap.any fun x => x.seq == c.hdr.seq) = false ∧ c.hdr.seq = g.rxNext ∧ seqLt g.limit c.hdr.seq = false

/-- The drive once such a command is listed on its flow and given to a cluster. -/
def entered (s : State) (op : Op) (c : Cmd) (f : Flow) : Drive :=
  (((heard s c.arr c.hdr f).onFlow f.slot fun f => { f with rxNext := c.hdr.seq + 1, ackDue := true }).onFlow f.slot fun f =>
    { f with cmds := f.cmds ++ [listedCmd c op] }).dispatched

/-- The command as the checks of R157 carry it. -/
def asked (op : Op) (c : Cmd) (arb : Arb) (g : Flow) : HeldCmd := ⟨g.slot, g.inc, op, c, arb, none, (0, 0)⟩

/-- CMD `c` arrives in sequence and passes steps 1 to 4 of R157: the deciding row allows it with `v`, and leaves the drive `d`
with the flow as `k`. -/
def allowed (s : State) (op : Op) (c : Cmd) (arb : Arb) (f g k : Flow) (v : Verdict) (d : Drive) : Prop :=
  inSequence s c f g ∧ stepOne g c op = 0 ∧
    (op = .mgmtRead ∨ op = .mgmtWrite ∨ ((entered s op c f).pwr.readReady = true ∧ (entered s op c f).pwr.fawnStep = 0)) ∧
    stepThree op c.payload.toNat c.body = 0 ∧
    (∃ k', (entered s op c f).flowAt g.slot g.inc = some k' ∧ (entered s op c f).policy s.env (asked op c arb g) k' = (some v, d)) ∧
    d.flowAt g.slot g.inc = some k

/-- What follows a command of flow `g` that leaves the drive `d`: messages kept beyond the gap that it filled are delivered,
credit is renewed, and commands that waited go on as far as they may. -/
def Drive.afterCmd (d : Drive) (s : State) (g : Flow) : Drive := (deliverGap s.env g.slot g.gap.length d).credits.settled s.env

/-- The row of a host command of opcode `op`; a register command names the arbitration its access meets. -/
def cmdRow (arb : Arb) : Op → Cmd → Instr
  | .put => .put | .putRange => .putRange | .cas => .cas | .delete => .delete | .punch => .punch | .get => .get
  | .getRange => .getRange | .stat => .stat | .list => .list | .flush => .flush | .replayReport => .replayReport
  | .nsCreate => .nsCreate | .nsDelete => .nsDelete | .nsUsage => .nsUsage | .keyLoad => .keyLoad | .keyErase => .keyErase
  | .mgmtRead => fun c => .mgmtRead c arb | .mgmtWrite => fun c => .mgmtWrite c arb
  | .noticeSubscribe => .noticeSubscribe | .unknown code => fun c => .unknownOpcode c code

/-- The row of a command with a value or a key. -/
def writeRow : Op → Option (Cmd → Instr)
  | .put => some .put | .putRange => some .putRange | .cas => some .cas | .delete => some .delete | .punch => some .punch
  | _ => none

/-- The row of a namespace or key command. -/
def adminRow : Op → Option (Cmd → Instr)
  | .nsCreate => some .nsCreate | .nsDelete => some .nsDelete | .keyLoad => some .keyLoad | .keyErase => some .keyErase
  | _ => none

/-! ### Invariants -/

/-- The operating-time counter stays below the stored mark, which is a multiple of 65,536 (R438). -/
def Clock.ok (c : Clock) : Prop := c.optime < c.optHw ∧ c.optHw % 65536 = 0

/-- The media store's READ_ONLY is latched (R299). -/
def State.latched (s : State) : Prop := s.d.med.readOnly = true → s.perm.readOnly = true

/-- The invariant of the block. -/
def State.Inv (s : State) : Prop := s.clk.ok ∧ s.latched

/-- The order of event times: a later power cycle, or the same one at no earlier operating time (R438). -/
def Clock.before (a b : Clock) : Prop := a.pcycle < b.pcycle ∧ a.optime < b.optime ∨ a.pcycle = b.pcycle ∧ a.optime ≤ b.optime

/-- `t` is reached from `s` by steps, commands arriving at the back of the queue between them. -/
inductive Reaches : State → State → Prop where
  | refl (s : State) : Reaches s s
  | arrive (s t : State) (c : Instr) : Reaches s t → Reaches s { t with pending := t.pending ++ [c] }
  | step (s t u : State) : Reaches s t → step t = .next u → Reaches s u

end Sys2Proof.Machine
end

