-- ==== Sys2Proof/Certificates/Slice0/Obligations.lean ====
section
/-! DEFINITION. The statements. A statement about a command that is a write of a register assumes that the access passes
the checks of R527, which leave the state `t` (`takes`); it writes out the drive that results, from the drive in which the
word has entered its register (`stored`, whose effect `WordEntersRegister` and `RegisterWriteCompletes` state). -/

open Sys2Proof Sys2Proof.Machine

/-! ### The block -/

/-- A step with a command waiting runs the command at the front on the state with the rest of the queue. -/
def Obligations.StepRunsFront : Prop :=
  ∀ (s : State) (c : Instr) (rest : List Instr), s.pending = c :: rest → step s = exec c { s with pending := rest }

/-- With no command waiting the step lets one millisecond of operating time pass while AON is ON, and does nothing when it
is not (the model's choice, log entry 2). -/
def Obligations.IdleLetsTimePass : Prop :=
  (∀ s : State, s.pending = [] → s.d.isOn 0 = true →
    ∃ t, step s = .next t ∧ t.clk.optime = s.clk.optime + 1 ∧ t.clk.pcycle = s.clk.pcycle ∧ t.pending = [] ∧ t.fac = s.fac) ∧
  ∀ s : State, s.pending = [] → s.d.isOn 0 = false → step s = .next s

/-- Every command completes: no command ends a run. It leaves the queue behind it and the factory data as they are, READ_ONLY
is never withdrawn, and only POWER_ON_RESET and OPT_HW_ADVANCE move the clock. -/
def Obligations.EveryCommandCompletes : Prop :=
  ∀ (c : Instr) (s : State), ∃ t, exec c s = .next t ∧ t.pending = s.pending ∧ t.fac = s.fac ∧
    (s.perm.readOnly = true → t.perm.readOnly = true) ∧ (s.latched → t.latched) ∧
    ((∀ l g, c ≠ .powerOnReset l g) → c ≠ .optHwAdvance → t.clk = s.clk)

/-- The invariant of the block holds right after reset. -/
def Obligations.InvariantHoldsAtReset : Prop := State.reset.Inv

/-- Every step keeps the invariant: the operating-time counter stays below its stored mark, which is a multiple of 65,536, and
READ_ONLY of the media store is latched. -/
def Obligations.InvariantKept : Prop := ∀ s t : State, s.Inv → step s = .next t → t.Inv

/-- Whatever commands arrive and however long the block runs, operating time and the power-cycle count never go back, READ_ONLY
is never withdrawn, and the factory data never change. -/
def Obligations.TimeAndReadOnlyOnlyGrow : Prop :=
  ∀ s t : State, s.Inv → Reaches s t →
    s.clk.before t.clk ∧ (s.perm.readOnly = true → t.perm.readOnly = true) ∧ t.fac = s.fac

/-- OPT_HW_ADVANCE writes a new mark before the counter reaches the stored one; POWER_ON_RESET resumes the counter at the
mark, at most 65,536 ms on when the mark is the counter's own, and counts a power cycle. -/
def Obligations.OperatingTimeAcrossPower : Prop :=
  (∀ s : State, s.d.isOn 0 = true → ∃ t, exec .optHwAdvance s = .next t ∧ t.d = s.d ∧ t.clk.optime = s.clk.optime ∧ t.clk.pcycle = s.clk.pcycle ∧
    t.clk.optHw = (if s.clk.optHw ≤ s.clk.optime + 1 then (s.clk.optime + 1) / 65536 * 65536 + 65536 else s.clk.optHw)) ∧
  ∀ (s : State) (lead seg : Bool), ∃ t, exec (.powerOnReset lead seg) s = .next t ∧ t.clk.optime = s.clk.optHw ∧
    t.clk.pcycle = s.clk.pcycle + 1 ∧ t.clk.optHw = s.clk.optHw / 65536 * 65536 + 65536 ∧
    (s.clk.optHw = s.clk.optime / 65536 * 65536 + 65536 → t.clk.optime ≤ s.clk.optime + 65536)

/-! ### The register fabric -/

/-- The paths that may write each page (R47). -/
def Obligations.PagesTakeWritesByPath : Prop :=
  ∀ (p : Path) (a : Nat), (pageInfo (a / 4096)).isSome →
    (mayWrite p a = true ↔
      (a / 4096 ≠ 0 ∧ (a / 4096 = 3 ∨ a / 4096 = 4 → p ≠ .net) ∧ (a / 4096 = 16 → p = .i3c)))

/-- A write is refused with STATE_REFUSED only where an RWL field would change outside the state it requires; where every RWL
field keeps its value the write is not refused, and the RW fields of the word take their new values (R54). -/
def Obligations.StateRefusedOnlyOnChange : Prop :=
  (∀ (d : Drive) (e : Env) (p : Path) (a : Nat) (v : Word), a ≠ Reg.AON_RST_CTL →
    d.stateRefused e p a v = true → d.rwlOpen p a = false ∧
      ∃ sp i w, specOf a = some (sp, i, w) ∧ ∃ f ∈ sp.flds, f.acc = .rwl ∧ bitsN v.toNat f.hi f.lo ≠ bitsN (d.rwlNow p a) f.hi f.lo) ∧
  (∀ (d : Drive) (e : Env) (p : Path) (a : Nat) (v : Word) (sp : RegSpec) (i w : Nat), a ≠ Reg.AON_RST_CTL → specOf a = some (sp, i, w) →
    (∀ f ∈ sp.flds, f.acc = .rwl → bitsN v.toNat f.hi f.lo = bitsN (d.rwlNow p a) f.hi f.lo) →
    d.stateRefused e p a v = false ∧ (mayWrite p a = true → d.isOn (keyDom a) = true → d.writeCheck e p a v = 0)) ∧
  ∀ (fs : List Fld) (cur new : Nat) (f : Fld), fieldsApart fs → f ∈ fs → f.acc = .rw → f.takes (bitsN new f.hi f.lo) = true →
    bitsN (regWrite cur new fs) f.hi f.lo = bitsN new f.hi f.lo

/-- An access is all or nothing (R55): one that does not end DONE returns no data and changes nothing but the path's BUSY
count; a write that ends DONE has passed the checks of every register; and one with a register that fails a check ends with
the code and the index of the first such register. -/
def Obligations.AccessIsAllOrNothing : Prop :=
  ∀ (d : Drive) (e : Env) (p : Path) (addr count : Nat) (rd : Bool) (data : List Word) (arb : Arb),
    let r := d.onFabric e p addr rd count data arb
    (r.1.code ≠ 0 → r.1.data = [] ∧ (r.2 = d ∨ r.2 = d.countBusy p)) ∧
    (r.1.code = 0 → rd = false → ∀ i, i < count → ∀ v, data[i]? = some v → d.writeCheck e p (addr + 4 * i) v = 0) ∧
    (rd = false → (pageInfo (addr / 4096)).isSome → arb.found p = .granted → ∀ i, i < count → ∀ v, data[i]? = some v →
      d.writeCheck e p (addr + 4 * i) v ≠ 0 →
      (∀ j, j < i → ∀ w, data[j]? = some w → d.writeCheck e p (addr + 4 * j) w = 0) →
      r = (⟨d.writeCheck e p (addr + 4 * i) v, i, []⟩, d))

/-- The order of the checks of one access (R527): a full queue of the chain, then MGMT, then the shape, for a network access
the policy's search, then the page, then arbitration. The checks of each register come last (`AccessIsAllOrNothing`). -/
def Obligations.AccessCheckOrder : Prop :=
  ∀ (d : Drive) (e : Env) (p : Path) (addr count : Nat) (rd : Bool) (data : List Word) (arb : Arb),
    (p = .chain → arb.found p = .queueFull →
      d.access e p addr rd count data arb = (⟨1, 0, []⟩, d.bumpOpen Reg.CHN_REQ_BUSY 1)) ∧
    (arb.found p ≠ .queueFull → d.isOn 3 = false → (p = .i3c → ¬(addr = Reg.NRG_ALLOT_SET ∧ rd = false ∧ count = 1)) →
      (d.access e p addr rd count data arb).1 = if d.pwr.v12 then ⟨1, 0, []⟩ else ⟨6, 0, []⟩) ∧
    (arb.found p ≠ .queueFull → d.isOn 3 = true →
      (shapeOk p addr count = false → d.access e p addr rd count data arb = (⟨5, 0, []⟩, d)) ∧
      (shapeOk p addr count = true → (pageInfo (addr / 4096)).isNone → d.access e p addr rd count data arb = (⟨3, 0, []⟩, d)) ∧
      (shapeOk p addr count = true → (pageInfo (addr / 4096)).isSome → arb.found p = .lost →
        d.access e p addr rd count data arb = (⟨1, 0, []⟩, d.bump (Reg.MGMT_BUSY_CHN + 4 * Path.code p) 1)) ∧
      (d.isOn 0 = true →
        (shapeOk .net addr 1 = false → d.regAccess e .net addr rd data arb = Drive.keep .net (⟨5, 0, []⟩, d)) ∧
        ∀ x, shapeOk .net addr 1 = true → d.netSearch arb = (some false, x) →
          d.regAccess e .net addr rd data arb = Drive.keep .net (⟨7, 0, []⟩, x)))

/-- How a written word enters a register, field by field (R11): RO, RC and command fields ignore it, an RW, WO or open RWL
field takes it unless the register's table has the value ignored, and a 1 clears a bit of a W1C field. -/
def Obligations.WordEntersRegister : Prop :=
  ∀ (fs : List Fld) (cur new : Nat) (f : Fld), fieldsApart fs → f ∈ fs →
    bitsN (regWrite cur new fs) f.hi f.lo =
      match f.acc with
      | .ro | .rc | .cmd => bitsN cur f.hi f.lo
      | .wo => bitsN new f.hi f.lo
      | .rw | .rwl => if f.takes (bitsN new f.hi f.lo) then bitsN new f.hi f.lo else bitsN cur f.hi f.lo
      | .w1c => bitsN cur f.hi f.lo ^^^ (bitsN cur f.hi f.lo &&& bitsN new f.hi f.lo)

/-- REGISTER_WRITE completes where every check passes: the access is DONE, the word has entered the register at the address, and
the register's command is carried out; of an IPv6 address page, an address that changed begins DAD again. Entering changes
no register but the one at the address (of a wide value, the words of it) and what its store keeps. -/
def Obligations.RegisterWriteCompletes : Prop :=
  (∀ (s t : State) (p : Path) (arb : Arb) (a : Nat) (v : Word) (d : Drive), takes s p arb a v t →
    d = hook s.env p a v t.d (stored t p a v) →
    (plainPage a = true → Gives (.registerWrite p a v arb) s (d.accessed s p)) ∧
    (plainPage a = false → Gives (.registerWrite p a v arb) s ((d.ipv6Writes t.d).accessed s p))) ∧
  ∀ (s : State) (p : Path) (a k : Nat) (v : Word), k ≠ regKey p a → k ≠ regKey p a + 4 → (stored s p a v).reg k = s.d.reg k

/-- RC_REGISTER_READ completes where every check passes: the access is DONE with the register's value, an RC field of it reads 0
afterwards, and no other register changes. Of a wide value it reads the low word and keeps the higher word for the path. -/
def Obligations.RcRegisterReadCompletes : Prop :=
  ∀ (s t : State) (p : Path) (arb : Arb) (a : Nat) (sp : RegSpec) (i : Nat), fetches s p arb a t →
    (∀ w, specOf a = some (sp, i, w) → sp.words = 1 →
      ∃ u, exec (.rcRegisterRead p a arb) s = .next u ∧
        u.d = { t.d with regs := u.d.regs, saved := u.d.saved, results := t.d.results.set (Path.code p) ⟨0, 0, [t.d.view s.env p a]⟩ } ∧
        (∀ k, k ≠ regKey p a → u.d.reg k = t.d.reg k) ∧
        (sp.clears = false → u.d.reg (regKey p a) = t.d.reg (regKey p a)) ∧
        (fieldsApart sp.flds → (∀ f ∈ sp.flds, f.hi < 32) →
          ∀ f ∈ sp.flds, f.acc = .rc → u.d.fld (regKey p a) f.hi f.lo = 0)) ∧
    (specOf a = some (sp, i, 0) → sp.words = 2 →
      ∃ u, exec (.rcRegisterRead p a arb) s = .next u ∧
        u.d = { t.d with
          regs := u.d.regs, saved := u.d.saved, snaps := FMap.insert t.d.snaps (pk p (a + 4)) (t.d.view s.env p (a + 4))
          results := t.d.results.set (Path.code p) ⟨0, 0, [t.d.view s.env p a]⟩ } ∧
        (∀ k, k ≠ regKey p a → k ≠ regKey p a + 4 → u.d.reg k = t.d.reg k) ∧
        (fieldsApart sp.flds → (∀ f ∈ sp.flds, f.hi < 64) →
          ∀ f ∈ sp.flds, f.acc = .rc → bitsN (u.d.wide (regKey p a)) f.hi f.lo = 0))

/-- A wide value (R45). WIDE_LOW_WORD_READ returns the low word and keeps the higher word, as it then stands, as the path's
snapshot. WIDE_LOW_WORD_WRITE applies the low word with the higher word the path has buffered, or else with the current one,
and empties the buffer; until then a written higher word changes no register. -/
def Obligations.WideValues : Prop :=
  (∀ (s t : State) (p : Path) (arb : Arb) (a : Nat) (sp : RegSpec) (i : Nat), fetches s p arb a t → specOf a = some (sp, i, 0) →
    sp.words = 2 → sp.clears = false →
    Gives (.wideLowWordRead p a arb) s
      { t.d with
        snaps := FMap.insert t.d.snaps (pk p (a + 4)) (t.d.view s.env p (a + 4))
        results := t.d.results.set (Path.code p) ⟨0, 0, [t.d.view s.env p a]⟩ }) ∧
  (∀ (s t : State) (p : Path) (arb : Arb) (a : Nat) (v : Word) (sp : RegSpec) (i : Nat), takes s p arb a v t → plainPage a = true →
    specOf a = some (sp, i, 0) → sp.words = 2 → sp.writable = true → t.d.noStore p a = false → (∀ d n, Drive.takesWhole d s.env a n = true) →
    (∀ x, hook s.env p a v t.d x = x) → calm t.d = true →
    ∃ u, exec (.wideLowWordWrite p a v arb) s = .next u ∧ FMap.find u.d.bufs (pk p (a + 4)) = none ∧
      u.d.wide (regKey p a) = regWrite (t.d.wide (regKey p a))
        (v.toNat + ((FMap.find t.d.bufs (pk p (a + 4))).getD (t.d.reg (regKey p (a + 4)))).toNat * 2 ^ 32) sp.flds % 2 ^ 64 ∧
      u.d = { t.d with
        regs := u.d.regs, saved := u.d.saved, bufs := u.d.bufs, results := t.d.results.set (Path.code p) ⟨0, 0, []⟩ }) ∧
  ∀ (s : State) (p : Path) (a : Nat) (v : Word) (sp : RegSpec) (i : Nat), 4 ≤ a → specOf a = some (sp, i, 1) → sp.words = 2 →
    sp.writable = true → s.d.noStore p a = false →
    stored s p a v = { s.d with bufs := FMap.insert s.d.bufs (pk p a) v }

/-- NRG_ALLOT_SET_WRITE (R25, R52, R408). With MGMT ON, a write that passes every check sets the path's grant, and 0 withdraws it.
With MGMT not ON, an I3C write sets the I3C grant all the same: the access is DONE and MGMT is not asked for. -/
def Obligations.AllotmentWriteWithoutMgmt : Prop :=
  (∀ (s t : State) (p : Path) (arb : Arb) (v : Word), takes s p arb Reg.NRG_ALLOT_SET v t →
    Gives (.nrgAllotSetWrite p v arb) s (((stored t p Reg.NRG_ALLOT_SET v).grant p (bits v 9 0)).accessed s p)) ∧
  ∀ (s : State) (v : Word) (arb : Arb), s.d.isOn 0 = true → s.d.isOn 3 = false →
    Gives (.nrgAllotSetWrite .i3c v arb) s ((s.d.grant .i3c (bits v 9 0)).accessed s .i3c)

/-- PAGE_INTERRUPT_PENDING and DEFERRED_INTERRUPT_DELIVERY (R60, R61): while MGMT is ON an edge is delivered once with
INT_STAT as it stood at the edge; an edge that finds MGMT not ON is kept, if it is still pending, and delivered when MGMT is
ON again with INT_STAT as it stands then, if it is still pending; while MGMT is not ON nothing is sent. -/
def Obligations.InterruptDelivery : Prop :=
  (∀ (s : State) (page : Nat) (stat : Word), (s.d.edges.find? fun x => x.1 == page) = some (page, stat) →
    ∀ d, d = { s.d with edges := s.d.edges.eraseP fun x => x.1 == page } →
    (s.d.isOn 3 = true → Gives (.pageInterruptPending page) s (d.deliver page stat)) ∧
    (s.d.isOn 3 = false → d.intPend page = true → d.deferred.contains page = false →
      Gives (.pageInterruptPending page) s { d with deferred := d.deferred ++ [page] }) ∧
    (s.d.isOn 3 = false → d.intPend page = false ∨ d.deferred.contains page = true → Gives (.pageInterruptPending page) s d)) ∧
  (∀ (s : State) (page : Nat), s.d.isOn 3 = true → s.d.deferred.contains page = true →
    ∀ d, d = { s.d with deferred := s.d.deferred.filter (· != page) } →
    (d.intPend page = true → Gives (.deferredInterruptDelivery page) s (d.deliver page (d.reg (intStatA page)))) ∧
    (d.intPend page = false → Gives (.deferredInterruptDelivery page) s d)) ∧
  (∀ (s : State) (page : Nat), s.d.isOn 3 = false → Gives (.deferredInterruptDelivery page) s s.d) ∧
  ∀ (d : Drive) (page : Nat) (stat : Word), d.flag (page * 4096 + 0x10) 31 = false → d.flag (page * 4096 + 0x10) 29 = false →
    d.deliver page stat =
      if d.flag (page * 4096 + 0x10) 30 && d.i3cIbi then
        { d with out := d.out ++ [.ibi [0xA0, BitVec.ofNat 8 (page / 256), BitVec.ofNat 8 page]] }
      else d

/-! ### I3C (R50 to R52, R518) -/

/-- The addressing and event codes: ENTDAA assigns an address to a drive without one, and one that holds an address ignores it;
SETDASA acts at the static address 0x3A alone; RSTDAA takes the address away; ENEC and DISEC enable and disable in-band
interrupts where bit 0 of their event byte says so. Nothing else changes. -/
def Obligations.I3cAddressing : Prop :=
  ∀ s : State, s.d.isOn 0 = true →
    (∀ a : BitVec 7, (s.d.i3cAddr = none → Gives (.entdaa a) s { s.d with i3cAddr := some a.toNat }) ∧
      (s.d.i3cAddr ≠ none → Gives (.entdaa a) s s.d)) ∧
    (∀ st a : BitVec 7, (st = 0x3A → Gives (.setdasa st a) s { s.d with i3cAddr := some a.toNat }) ∧ (st ≠ 0x3A → Gives (.setdasa st a) s s.d)) ∧
    Gives .rstdaa s { s.d with i3cAddr := none } ∧
    ∀ ev : Byte,
      (ev.getLsbD 0 = true → Gives (.enec ev) s { s.d with i3cIbi := true } ∧ Gives (.disec ev) s { s.d with i3cIbi := false }) ∧
      (ev.getLsbD 0 = false → Gives (.enec ev) s s.d ∧ Gives (.disec ev) s s.d)

/-- What the drive answers on I3C once it has an address: the result of the last access, with its data least significant byte
first only where it is DONE; its 48-bit PID, whose low 12 bits are those of DIR_SERIAL; its BCR and DCR; and two bytes for
GETSTATUS and for GETMXDS, whose values the spec leaves open. A drive without an address answers nothing. -/
def Obligations.I3cAnswers : Prop :=
  (∀ (s : State) (a : Nat), s.d.isOn 0 = true → s.d.i3cAddr = some a →
    (∀ r, s.d.results[1]? = some r → Gives .i3cPrivateRead s
      { s.d with out := s.d.out ++ [.i3c (BitVec.ofNat 8 r.code :: BitVec.ofNat 8 r.fail ::
        (if r.code = 0 then (r.data.map fun w => leBytes 4 w.toNat).flatten else []))] }) ∧
    (∃ pid : Nat, pid % 4096 = s.fac.serial.toNat % 4096 ∧
      Gives .getpid s { s.d with out := s.d.out ++ [.i3c (beBytes 6 pid)] }) ∧
    Gives .getbcr s { s.d with out := s.d.out ++ [.i3c [0x06]] } ∧
    Gives .getdcr s { s.d with out := s.d.out ++ [.i3c [0x00]] } ∧
    (∃ bs : List Byte, bs.length = 2 ∧
      Gives .getstatus s { s.d with free := s.d.free + 1, out := s.d.out ++ [.i3c bs] } ∧
      Gives .getmxds s { s.d with free := s.d.free + 1, out := s.d.out ++ [.i3c bs] })) ∧
  ∀ s : State, s.d.i3cAddr = none →
    ∀ i ∈ [Instr.i3cPrivateRead, .getpid, .getbcr, .getdcr, .getstatus, .getmxds], Gives i s s.d

/-- I3C_PRIVATE_WRITE is an access of the I3C path: a write of command byte 1 reads, command byte 2 writes the words that follow,
and a write that fits neither form ends with BAD_ACCESS and touches no register; the result is kept for the next private
read (R51, R528). -/
def Obligations.I3cPrivateWrites : Prop :=
  ∀ (s : State) (arb : Arb), s.d.isOn 0 = true → s.d.i3cAddr.isSome →
    (∀ addr count : Nat, ∀ ws : List Word, addr < 2 ^ 24 → count < 256 →
      Gives (.i3cPrivateWrite (1 :: beBytes 3 addr ++ [BitVec.ofNat 8 count]) arb) s
        ((Drive.keep .i3c (s.d.access s.env .i3c addr true count [] arb)).settled s.env) ∧
      (ws.length = count → Gives (.i3cPrivateWrite (2 :: beBytes 3 addr ++ [BitVec.ofNat 8 count] ++ (ws.map fun w => leBytes 4 w.toNat).flatten) arb) s
        ((Drive.keep .i3c (s.d.access s.env .i3c addr false count ws arb)).settled s.env))) ∧
    ∀ bs : List Byte, s.d.isOn 3 = true →
      bs.length < 5 ∨ (beAt bs 0 1 ≠ 1 ∧ beAt bs 0 1 ≠ 2) ∨ (beAt bs 0 1 = 1 ∧ bs.length ≠ 5) ∨ (beAt bs 0 1 = 2 ∧ bs.length ≠ 5 + 4 * beAt bs 4 1) →
      Gives (.i3cPrivateWrite bs arb) s ((Drive.keep .i3c (⟨5, 0, []⟩, s.d)).settled s.env)


/-! ### Start-up, resets, losses of the supplies (R27 to R37, R322 to R326, R391, R492, R526) -/

/-- The steps of start-up. CHAIN_READY_TIMEOUT makes the drive chain-ready while the ring is not locked, and a 12 V half that
waits begins with it (R35). V12_GOOD begins the 12 V half, or lets it wait for chain-ready and the aux supply, or for the
release of RESET_N (R34, R492). FIRMWARE_RUNNING brings CIPHER and the media engines ON, then loads the match tables unless
the start is warm, takes each unit's recorded slot, or the other one for a unit that did not start (R469), replays or loads
the index, and then brings the other domains ON, in that order; under a demand the drive enters write-through. READ_READY
and WRITE_READY follow (R36, R37, R383). -/
def Obligations.StartUpCompletes : Prop :=
  ∀ s : State,
    (s.d.isOn 0 = true → s.d.chn.lock = false → s.d.pwr.chainReady = false →
      ∀ d, d = { s.d with pwr := { s.d.pwr with chainReady := true } } →
      (s.d.pwr.v12Waits = false ∨ s.d.pwr.aux = false → Gives .chainReadyTimeout s d) ∧
      (s.d.pwr.v12Waits = true → s.d.pwr.aux = true → s.d.pwr.resetPin = true →
        Gives .chainReadyTimeout s (({ d with pwr := { d.pwr with v12 := true } }).start12 s.env))) ∧
    (s.d.jrn.flush = none → s.d.pwr.v12 = false → ∀ d, d = { s.d with pwr := { s.d.pwr with v12 := true } } →
      (s.d.pwr.aux = true → s.d.pwr.chainReady = true → s.d.pwr.resetPin = true → Gives .v12Good s (d.start12 s.env)) ∧
      (s.d.pwr.aux = false ∨ s.d.pwr.chainReady = false → Gives .v12Good s { d with pwr := { d.pwr with v12Waits := true } }) ∧
      (s.d.pwr.aux = true → s.d.pwr.chainReady = true → s.d.pwr.resetPin = false →
        Gives .v12Good s { d with pwr := { d.pwr with resetHold := true } })) ∧
    (∀ (ck : BitVec 4) (failed : List (Nat × Nat)), s.d.isOn 6 = true → s.d.pwr.fw = false → s.d.pwr.v12 = true → s.d.jrn.flush = none →
      ∀ d1 d2 d3 d4 d5 : Drive,
        d1 = ([15, 20, 21, 22, 23, 24, 25, 26, 27].foldl (fun (d : Drive) k => d.enable s.env k)
          { s.d with pwr := { s.d.pwr with fw := true } }) →
        d2 = (if d1.pwr.warm then d1 else d1.loadShadows) →
        d3 = { d2 with upd := { d2.upd.interrupted with
          carriers := (if d2.pwr.warm then [] else failed).foldl (fun cs x => modAt cs x.1 fun c => c.startOther x.2) d2.upd.interrupted.carriers } } →
        d4 = (if d3.unclean then d3.replay s.env (ck.getLsbD 0 || ck.getLsbD 1) else d3.loadIndex s.env (ck.getLsbD 0 || ck.getLsbD 1)) →
        d5 = ([14, 16, 17, 18, 19, 28, 7, 8, 9].foldl (fun (d : Drive) k => d.enable s.env k) d4) →
        (d5.nrg.demand = false → Gives (.firmwareRunning ⟨ck, failed⟩) s d5) ∧
        (d5.nrg.demand = true → Gives (.firmwareRunning ⟨ck, failed⟩) s d5.enterWt)) ∧
    (s.d.pwr.fw = true → s.d.pwr.readReady = false → s.d.jrn.flush = none → s.d.jrn.ckptOpen = none →
      (∀ p ∈ s.d.med.idx, p.leaf = true ∨ p.here = true) →
      ∀ d, d = { s.d with pwr := { s.d.pwr with readReady := true, warm := false }, jrn := { s.d.jrn with fromDram := false } } →
      (s.d.flag Reg.JRN_STAT 4 = false → Gives .readReady s ((Drive.tryWriteReady s.env d).settled s.env)) ∧
      (s.d.flag Reg.JRN_STAT 4 = true → Gives .readReady s ((Drive.tryWriteReady s.env
        ((d.poke Reg.JRN_STAT 4 4 0).setReg Reg.JRN_RPL_MS (word (s.env.clk.optime - s.d.jrn.replayAt))).moveFlushed).settled s.env))) ∧
    (s.d.nrg.writeReady = false → s.d.pwr.v12 = true → s.d.pwr.readReady = true → s.d.flag Reg.JRN_STAT 5 = false →
      nrgLevel ≤ s.d.reserve s.env → s.d.jrn.flush = none →
      Gives .writeReady s (({ s.d with nrg := { s.d.nrg with writeReady := true } }).setInt pgNrg 1))

/-- REPLAY_DRAIN_DONE: once every replayed record is drained and nothing live is left in the flush bands, a checkpoint is
written; once it stands, and the credits allow an erase, the bands are erased, the image is dropped, REPLAY_DRAIN and UNCLEAN
clear and REPLAY_DONE is raised (R331). -/
def Obligations.ReplayDrainDoneCompletes : Prop :=
  ∀ s : State, s.d.pwr.readReady = true → s.d.flag Reg.JRN_STAT 5 = true → s.d.jrn.ckptOpen = none →
    (∀ r ∈ s.d.jrn.recs, r.replayed = true → r.st ≠ .committed) →
    (∀ b ∈ s.d.med.bands, b.st = .flush → s.d.liveIn b.id = []) →
    ∀ d, d = s.d.startCkpt s.env →
    (d.jrn.ckptOpen.isSome = true ∨ d.affords [20, 21, 22, 23, 24, 25, 26, 27] (cost 9) = false → Gives .replayDrainDone s (d.settled s.env)) ∧
    (d.jrn.ckptOpen = none → d.affords [20, 21, 22, 23, 24, 25, 26, 27] (cost 9) = true → Gives .replayDrainDone s
      ((Drive.tryWriteReady s.env
        (((((d.eraseFlushed s.env).onJrn fun j => { j with image := none }).poke Reg.JRN_STAT 5 5 0).setUnclean
          false).setInt pgJrn 2)).settled s.env))

/-- Resets and controller faults. RESET_N low for 1 µs or more, a soft full reset (AON_RST_CTL with KEY 0xA5 and FULL) and a
controller fault reset every domain but AON, RECORD and HOLDUP with causes 1, 2 and 3, and start-up follows, for RESET_N at
its release (R30, R32, R33, R492); RESET_N low for less than 100 ns does nothing, and between the two it may be taken as
either; a per-domain reset resets the domain that DOM names (R31). -/
def Obligations.ResetsComplete : Prop :=
  (∀ (s t : State) (p : Path) (arb : Arb) (v : Word) (d : Drive), takes s p arb Reg.AON_RST_CTL v t → d = stored t p Reg.AON_RST_CTL v →
    bits v 31 24 = 0xA5 → t.d.jrn.flush = none →
    (bit v 16 = true → Gives (.softFullReset p v arb) s (((d.fullReset s.env 2 none).restart s.env).accessed s p)) ∧
    (bit v 16 = false → bit v 15 = true → d.rstRefused v = false →
      Gives (.perDomainReset p v arb) s ((d.domainReset s.env (bits v 4 0)).accessed s p))) ∧
  (∀ (s : State) (ns : Nat), s.d.pwr.v12 = true → s.d.pwr.aux = true → s.d.jrn.flush = none → s.d.pwr.chainReady = true →
    (1000 ≤ ns → Gives (.resetNAssert ns) s
      ((({ s.d with pwr := { s.d.pwr with resetPin := false } }).fullReset s.env 1 none).onPwr fun p => { p with resetHold := true })) ∧
    (ns < 100 → Gives (.resetNAssert ns) s s.d) ∧
    (100 ≤ ns → ns < 1000 → Gives (.resetNAssert ns) s { s.d with free := s.d.free + 1 } ∨
      Gives (.resetNAssert ns) s ((({ s.d with free := s.d.free + 1 } : Drive).fullReset s.env 1 none).restart s.env))) ∧
  (∀ s : State,
    (s.d.pwr.resetHold = true → Gives .resetNRelease s (({ s.d with pwr := { s.d.pwr with resetPin := true, resetHold := false } }).restart s.env)) ∧
    (s.d.pwr.resetHold = false → Gives .resetNRelease s { s.d with pwr := { s.d.pwr with resetPin := true } })) ∧
  (∀ (s : State) (k : Nat), k < 30 → s.d.isUp k = true → s.d.pwr.v12 = true → s.d.jrn.flush = none → s.d.pwr.resetHold = false →
    Gives (.controllerFault k) s ((s.d.fullReset s.env 3 (some k)).restart s.env))

/-- What a full reset leaves (R30): neither firmware nor index, a replay from the DRAM journal due, the drive ACTIVE, no Fawn
entry, and every record of the journal settled with its flow. -/
def Obligations.FullResetLeaves : Prop :=
  ∀ (d : Drive) (e : Env) (cause : Nat) (dom : Option Nat),
    let d' := d.fullReset e cause dom
    d'.pwr.fw = false ∧ d'.pwr.readReady = false ∧ d'.pwr.warm = true ∧ d'.pwr.fawnStep = 0 ∧ d'.pwr.ps = .active ∧
      ∀ r ∈ d'.jrn.recs, r.settled = true

/-- The reference clock (R29, R33). Its loss is kept in AON_RST_CAUSE.REF_FAULT and written as an event, and no fast clock keeps
lock; where fast clocks ran with 12 V good and no flush running, it is a controller fault of PD00, with a full reset; with
AON OFF nothing but the clock's own state changes. That it starts no reset during a flush is the model's choice (log entry
130). Its return starts the clocks of the domains that are up, and lets what waited come ON, a flush begin and a wake end.
POWER_ON_RESET leaves AON and RECORD ON and every other domain OFF, no firmware, no flow, no index, no record in DRAM, no key in
a slot and no grant, the straps as they stand, and the stored chain settings and the NOR as they were (R24, R30, R493). -/
def Obligations.ClockAndPowerOn : Prop :=
  (∀ (s : State) (d : Drive),
    d = (({ s.d with pwr := { s.d.pwr with refOk := false, clks := s.d.pwr.clks.filter fun c => !c.fast } }).poke Reg.AON_RST_CAUSE 17 17
      1).event s.env 0x101 0 0 0 0 →
    (s.d.isOn 0 = true → (s.d.pwr.clks.any (·.fast) = false ∨ s.d.pwr.v12 = false ∨ s.d.jrn.flush.isSome = true) → Gives .refClockFault s d) ∧
    (s.d.isOn 0 = true → s.d.pwr.clks.any (·.fast) = true → s.d.pwr.v12 = true → s.d.jrn.flush = none →
      Gives .refClockFault s ((d.fullReset s.env 3 (some 0)).restart s.env)) ∧
    (s.d.isOn 0 = false → Gives .refClockFault s { s.d with pwr := { s.d.pwr with refOk := false } })) ∧
  (∀ s : State, Gives .refClockValid s
    ((((({ s.d with pwr := { s.d.pwr with refOk := true } }).restartClocks).runWants s.env).flushBegin s.env).finishWake)) ∧
  ∀ (s : State) (lead seg : Bool), ∃ t, exec (.powerOnReset lead seg) s = .next t ∧ t.d.pwr.pds = Pwr.reset.pds ∧
    t.d.pwr.lead = lead ∧ t.d.pwr.seg = seg ∧ t.d.pwr.v12 = s.d.pwr.v12 ∧ t.d.pwr.fw = false ∧ t.d.pwr.readReady = false ∧
    t.d.xpt = Xpt.reset ∧ t.d.nss = [] ∧ t.d.jrn.recs = [] ∧ t.d.cph.slots = [] ∧ t.d.chn.stored = s.d.chn.stored ∧
    t.d.recorder.nor = s.d.recorder.nor ∧ t.d.nrg.chainGrant = 0 ∧ t.d.nrg.i3cGrant = 0

/-- The losses (R322, R326, R391, R397, R526). SUPPLY_LOSS writes its event with the reserve and what the flush needs. In Fawn,
where DRAM holds nothing, and while no journal runs yet, it counts and everything but AON and RECORD goes OFF with no flush;
otherwise it raises the alarm, takes down what the flush does not need, and the flush begins once FABRIC and CL0 are ON.
FLUSH_SEAL ends a flush that has begun with its report and a sealed image, FLUSH_RESERVE_OUT any flush with the pages that
were written, and then, where connector aux is gone, AON goes down; 12 V that returns during a flush is remembered.
AUX_RETURN notes the aux supply. AUX_LOSS with 12 V absent takes AON and RECORD down, in a flush it is noted, and with 12 V
good it is a main-supply loss first. -/
def Obligations.SupplyLossesComplete : Prop :=
  ∀ s : State,
    (∀ w r d, s.d.pwr.v12 = true → s.d.jrn.flush = none → r = s.d.reserve s.env →
      d = s.d.event s.env 0x104 r (ceilDiv s.d.need (10 ^ 6)) s.d.jrn.recs.length s.d.jrn.unitsUsed →
      (s.d.pwr.ps = .fawn → Gives (.supplyLoss w) s (d.lossOff s.env w true)) ∧
      (s.d.pwr.ps ≠ .fawn → s.d.pwr.fw = false → s.d.pwr.warm = false → Gives (.supplyLoss w) s (d.lossOff s.env w false)) ∧
      (s.d.pwr.ps ≠ .fawn → s.d.pwr.fw = true ∨ s.d.pwr.warm = true ∧ s.d.pwr.readReady = false →
        Gives (.supplyLoss w) s (((d.alarm s.env 1 2 r).lossDown s.env w r).flushBegin s.env))) ∧
    (∀ d w fawn, d = s.d.lossOff s.env w fawn → d.pwr.fw = false ∧ d.pwr.readReady = false ∧ d.pwr.warm = false ∧ d.pwr.resetHold = false ∧
      d.pwr.ps = .off ∧ (fawn = true → d.jrn.recs = [])) ∧
    (∀ f, s.d.jrn.flush = some f →
      (f.begun = true → Gives .flushSeal s ((((s.d.storePage s.env 0).flushReport s.env f).sealImage).flushOver s.env f.returned)) ∧
      (∀ n d, d = ((s.d.flushReport s.env f).cutImage (if f.begun then n else 0)).flushOver s.env f.returned →
        (d.pwr.aux = true → Gives (.flushReserveOut n) s d) ∧ (d.pwr.aux = false → Gives (.flushReserveOut n) s (d.aonDown s.env))) ∧
      Gives .supplyReturnDuringFlush s { s.d with jrn := { s.d.jrn with flush := some { f with returned := true } } } ∧
      Gives .auxLoss s { s.d with pwr := { s.d.pwr with aux := false } }) ∧
    (s.d.isOn 0 = true → Gives .auxReturn s { s.d with pwr := { s.d.pwr with aux := true } }) ∧
    (s.d.jrn.flush = none →
      (s.d.pwr.v12 = false → ∃ t, exec .auxLoss s = .next t ∧ t.d = s.d.aonDown s.env ∧ t.d.chn.active = false ∧ t.d.chn.lock = false ∧
        t.d.isOn 0 = false) ∧
      (s.d.pwr.v12 = true → ∀ t, exec (.supplyLoss .aux) s = .next t →
        Gives .auxLoss s (if t.d.jrn.flush.isSome then t.d else t.d.aonDown s.env)))

/-- What a sealed flush keeps for replay (R323): every committed record in commit order, then the drained, then the accepted
ones, and the replay report; the journal itself is empty. -/
def Obligations.SealKeepsTheJournal : Prop :=
  ∀ d : Drive, d.sealImage.jrn.recs = [] ∧ d.sealImage.jrn.report = d.jrn.report ∧
    ∃ im, d.sealImage.jrn.image = some im ∧ im.sealed = true ∧ im.lost = none ∧ im.report = d.jrn.report ∧
      im.recs.length = (d.jrn.recs.filter fun r => r.st == .committed || r.st == .drained || r.st == .accepted).length ∧
      im.recs.map (·.rsn) = d.jrn.flushOrder.map (·.rsn)

/-- The guard gives a unit up (R17). The failures not counted yet count on their leg. On the ingress leg the accepted command
ends with ABORTED_FAULT. On the drain leg a command that is not acknowledged yet, such as one whose payload is being
spilled, ends with ABORTED_FAULT; the segment of an acknowledged one waits for its next pass, which counts one more, and
its spill is made again.
On the egress leg the read ends with MEDIA_UNREADABLE. DRAIN_GIVEN_UP: eight drain passes given up leave the segment
unwritten and marked, and the unit counted as unreadable with its event (R284). -/
def Obligations.GuardGivesUp : Prop :=
  ∀ (s : State) (id unit : Nat),
    (∀ r, s.d.rec? id = some r →
      (r.st = .accepted → Gives (.guardGiveup .ingress id unit) s
        (((((((s.d.bump Reg.FAB_GUARD_INGRESS (s.d.fld Reg.FAB_GUARD_CTL 2 0)).bump Reg.FAB_GUARD_GIVEUP 1).event s.env 0x400 0 r.flow.toNat
          r.tag.toNat unit).endRec s.env id ⟨0x11, 0⟩).settleRecs).settled s.env))) ∧
      (∀ seg u, (seg = r.segAt unit ∧ u = unit + r.payAt / 4096 - 16 * seg ∧
          ∃ x ∈ r.drain.getD [], x.index = seg ∧ x.asked = true ∧ x.done = false) ∨
        (seg = 0x80000000 + unit / 16 ∧ u = unit % 16 ∧ (∃ y ∈ r.spills, y.1 = unit / 16 ∧ y.2.2 = false) ∧
          ∀ x ∈ r.drain.getD [], x.index = r.segAt unit → x.asked = true → x.done = true) →
        ∀ d, d = ((((s.d.bump Reg.FAB_GUARD_DRAIN (s.d.fld Reg.FAB_GUARD_CTL 2 0 - s.d.counted (fun q => q.use == .drain r.rsn seg) u)).dropDrain
            r.rsn seg).bump Reg.FAB_GUARD_GIVEUP 1).event s.env 0x400 1 r.flow.toNat r.tag.toNat (r.unitAt seg u)) →
        (r.pending = true → Gives (.guardGiveup .drain id unit) s (((d.endRec s.env r.rsn ⟨0x11, 0⟩).settleRecs).settled s.env)) ∧
        (r.pending = false → seg < 0x80000000 → Gives (.guardGiveup .drain id unit) s
          (((d.onDrain r.rsn seg fun x => { x with asked := false, gone := true }).onRec' r.rsn fun y => { y with
            passes := (r.unitAt seg u, ((r.passes.find? (·.1 == r.unitAt seg u)).map (·.2)).getD 0 + 1) ::
              y.passes.filter fun p => !(p.1 == r.unitAt seg u) }).settled s.env)) ∧
        (r.pending = false → 0x80000000 ≤ seg → Gives (.guardGiveup .drain id unit) s
          ((d.onRec' r.rsn fun y => { y with spills := y.spills.filter fun z => !(z.1 == seg - 0x80000000) }).settled s.env)))) ∧
    (∀ j tag, s.d.job? id = some j → tag = (((s.d.flowAt j.slot j.inc).bind (·.cmd? j.cmdSeq)).map (·.tag.toNat)).getD 0 →
      Gives (.guardGiveup .egress id unit) s
        ((((((s.d.bump Reg.FAB_GUARD_EGRESS (s.d.fld Reg.FAB_GUARD_CTL 2 0)).bump Reg.FAB_GUARD_GIVEUP 1).event s.env 0x400 2
          (j.inc * 65536 + j.slot) tag unit).jobEnd s.env j 0xF none)).settled s.env)) ∧
    (∀ r, s.d.rec? id = some r → r.st = .committed → (∃ n, (unit, n) ∈ r.passes ∧ 8 ≤ n) →
      (∃ x ∈ r.drain.getD [], x.index = r.segAt unit ∧ x.done = false) →
      Gives (.drainGivenUp id unit) s
        ((((((((s.d.event s.env 0x400 3 r.flow.toNat r.tag.toNat unit).bump (Reg.MED_UNREADABLE 0) 1).errCnt (pgMed 0)).setInt (pgMed 0) 3).onLog
          fun h => { h with unreadable := h.unreadable + 1 }).event s.env 0x703 (bodyNs r.body) r.version (r.segAt unit) 0).loseSeg r
            (r.segAt unit)).settled s.env))


/-! ### Network ports (R62 to R102) -/

/-- Link bring-up (R63 to R68, R81). AUTONEG_RESOLVED starts training at the highest PHY that both ends still advertise.
TRAINING_ATTEMPT_FAILED counts the attempt. PHY_FALLBACK, after FALLBACK_TRIES attempts at a PHY other than 100GBASE-KR1,
withdraws it. LINK_UP shows speed, lanes, preemption and the bring-up time, raises LINK_UP, and announces the port's
addresses. LINK_DOWN does what R68 does, and counts in ERR_CNT. PREEMPT_VERIFY_DONE makes preemption active or failed. -/
def Obligations.LinkBringUp : Prop :=
  ∀ (s : State) (port : BitVec 1),
    let n := port.toNat
    (∀ partner i, s.d.macEnabled n = true → s.d.linkUp n = false →
      ([2, 1, 0].find? fun i => bitN (s.d.fld (Reg.MAC_LINK_CTL n) 6 4) i && !bitN (s.d.fld (Reg.MAC_LINK_STAT n) 6 4) i && bitN partner i) = some i →
      Gives (.autonegResolved port partner) s
        (s.d.onPort n fun x => { x with phy := some i, training := true, tries := if x.phy = some i then x.tries else 0 })) ∧
    ((s.d.port n).training = true → Gives (.trainingAttemptFailed port) s
      (s.d.onPort n fun x => { x with training := false, tries := x.tries + 1 })) ∧
    (∀ i, (s.d.port n).phy = some (i + 1) → s.d.macOn n = true → s.d.fld (Reg.MAC_LINK_CTL n) 10 8 ≤ (s.d.port n).tries →
      Gives (.phyFallback port) s
        (((((s.d.onPort n fun x => { x with tries := 0 }).poke (Reg.MAC_LINK_STAT n) (5 + i) (5 + i) 1).setInt (pgMac n) 2).event s.env
          0x200 n (2 ^ (i + 1)) 0 0))) ∧
    (∀ us i, s.d.macEnabled n = true → s.d.linkUp n = false → (s.d.port n).training = true → (s.d.port n).phy = some i →
      Gives (.linkUp port us) s
        ([0, 1, 2].foldl (fun d a => d.dadStart n a)
          ((((((s.d.onPort n fun x => { x with training := false, tries := 0 }).poke (Reg.MAC_LINK_STAT n) 2 0 ((i + 1) * 2 + 1)).poke
            (Reg.MAC_LINK_STAT n) 9 8 (if s.d.flag (Reg.MAC_PREEMPT_CTL n) 0 = false then 0 else if s.d.flag (Reg.MAC_PREEMPT_CTL n) 1 then 1 else 2)).poke
            (Reg.MAC_LINK_STAT n) 15 12 (if i = 2 then 15 else if i = 1 then 3 else 1)).setReg (Reg.MAC_TRAIN_TIME n) (word us)).setInt
            (pgMac n) 0 |>.garp n))) ∧
    (s.d.linkUp n = true → Gives (.linkDown port) s ((s.d.linkDrop n).errCnt (pgMac n))) ∧
    (s.d.linkUp n = true → s.d.fld (Reg.MAC_LINK_STAT n) 9 8 = 1 →
      Gives (.preemptVerifyDone port true) s (s.d.poke (Reg.MAC_LINK_STAT n) 9 8 2) ∧
      Gives (.preemptVerifyDone port false) s ((s.d.poke (Reg.MAC_LINK_STAT n) 9 8 3).setInt (pgMac n) 7))

/-- A link that goes down (R68): the frames that waited are dropped and counted, no frame stays suspended, and MACn_LINK_STAT
shows no link, no lanes and no preemption; LINK_DOWN is raised where the link was up. The rings and the captured frames
stay, and the other port with them. That the partner's running pauses end with the link is the model's choice (R68 and R78
are silent). -/
def Obligations.LinkDropLosesTheQueue : Prop :=
  ∀ (d : Drive) (n lost : Nat), n < 2 → n < d.ports.length → lost = (d.port n).txq.length + (if (d.port n).suspended.isSome then 1 else 0) →
    let d' := d.linkDrop n
    (d'.port n).txq = [] ∧ (d'.port n).suspended = none ∧ (d'.port n).pauses = [] ∧ (d'.port n).rings = (d.port n).rings ∧
      (d'.port n).diag = (d.port n).diag ∧ d'.linkUp n = false ∧ (∀ m, m ≠ n → d'.port m = d.port m) ∧
      d'.fld (Reg.MAC_LINK_STAT n) 2 0 = 0 ∧ d'.fld (Reg.MAC_LINK_STAT n) 9 8 = 0 ∧ d'.fld (Reg.MAC_LINK_STAT n) 15 12 = 0 ∧
      (lost ≠ 0 → d'.reg (Reg.MAC_TX_FLUSHED n) = (d.bumpOpen (Reg.MAC_TX_FLUSHED n) lost).reg (Reg.MAC_TX_FLUSHED n)) ∧
      (d.linkUp n = true → d'.flag (intStatA (pgMac n)) 1 = true)

/-- The registers of a port. A write of MACn_LINK_CTL: ENABLE from 0 to 1 advertises every PHY again and clears CFG_BAD where the
rings fit the pool, or else sets CFG_BAD and stays 0; ENABLE from 1 to 0 drops the link, and RETRAIN drops it and advertises
every PHY again (R64, R68, R73); CFG_SAVE keeps the port's configuration pages, as they then stand, for MAC_CFG_SAVE_DONE,
which replaces the saved ones (R92). MACn_DIAG_POP drops the oldest captured frame (R101). MACn_IPV4_ADDR announces the
address (R86). A word of an IPv6 address that changes begins DAD (R87). -/
def Obligations.PortRegisters : Prop :=
  ∀ (s : State) (p : Path) (port : BitVec 1),
    let n := port.toNat
    (∀ (t : State) (arb : Arb) (v : Word), takes s p arb (Reg.MAC_LINK_CTL n) v t → ∀ x x1 x2 x3 y : Drive, x = stored t p (Reg.MAC_LINK_CTL n) v →
      y = (x.onPort n fun y => { y with phy := none, tries := 0 }).poke (Reg.MAC_LINK_STAT n) 6 4 0 →
      x1 = (if t.d.flag (Reg.MAC_LINK_CTL n) 0 = false ∧ x.flag (Reg.MAC_LINK_CTL n) 0 = true then
          if y.poolOk n then y.poke (Reg.MAC_LINK_STAT n) 10 10 0 else (y.poke (Reg.MAC_LINK_STAT n) 10 10 1).poke (Reg.MAC_LINK_CTL n) 0 0 0
        else if t.d.flag (Reg.MAC_LINK_CTL n) 0 = true ∧ x.flag (Reg.MAC_LINK_CTL n) 0 = false then x.linkDrop n else x) →
      x2 = (if bit v 1 then ((x1.linkDrop n).onPort n fun y => { y with phy := none, tries := 0 }).poke (Reg.MAC_LINK_STAT n) 6 4 0 else x1) →
      x3 = (if bit v 13 = true ∧ (x2.port n).saving = none then
        x2.onPort n fun y => { y with saving := some (savePages x2 fun g => decide (pgMac n ≤ g) && decide (g < pgMac n + 6)) } else x2) →
      ∀ row ∈ [Instr.macPortEnable, .macPortDisable, .macRetrain, .macCfgSave], Gives (row p port v arb) s (x3.accessed s p)) ∧
    (∀ m, (s.d.port n).saving = some m → Gives (.macCfgSaveDone port) s
      { s.d.onPort n fun x => { x with saving := none } with
        saved := m.foldl (fun (f : FMap) (x : Nat × Word) => FMap.insert f x.1 x.2)
          (s.d.saved.filter fun x => !(keyDom x.1 == 12 + n)) }) ∧
    (∀ (t : State) (arb : Arb) (v : Word), takes s p arb (Reg.MAC_DIAG_POP n) v t → ∀ x, x = stored t p (Reg.MAC_DIAG_POP n) v →
      (bit v 0 = true → Gives (.diagPop p port v arb) s ((x.onPort n fun x => { x with diag := x.diag.tail }).accessed s p)) ∧
      (bit v 0 = false → Gives (.diagPop p port v arb) s (x.accessed s p))) ∧
    (∀ (t : State) (arb : Arb) (v : Word), takes s p arb (Reg.MAC_IPV4_ADDR n) v t → Gives (.ipv4AddrWrite p port v arb) s
      (((stored t p (Reg.MAC_IPV4_ADDR n) v).garp n).accessed s p)) ∧
    ∀ (t : State) (arb : Arb) (v : Word) (a w : Nat), a < 3 → w < 4 → takes s p arb (Reg.MAC_IPV6_ADDR n (4 * a + w)) v t →
      ∀ x, x = stored t p (Reg.MAC_IPV6_ADDR n (4 * a + w)) v →
      ((∀ m b, m < 2 → b < 3 → (t.d.ipv6 m b ≠ x.ipv6 m b ↔ m = n ∧ b = a)) → Gives (.ipv6AddrWrite p port a w v arb) s ((x.dadStart n a).accessed s p)) ∧
      ((∀ m b, m < 2 → b < 3 → t.d.ipv6 m b = x.ipv6 m b) → Gives (.ipv6AddrWrite p port a w v arb) s (x.accessed s p))

/-- RX_FRAME (R65, R69 to R76, R80, R85). What FEC and reassembly report counts. A frame whose destination is none of the port's
counts as filtered; a service tag, or tagging that the port does not accept, discards it; the headers decide where it goes,
and what is a control frame, a legacy pause, an IP datagram to drop or unclaimed reaches no ring. A frame for the transport
or the offloads fills the buffers of the ring of its priority: a good one counts, a bad one counts its errors and may be
captured; where the ring has too few free buffers it takes what there is, counts and writes its event. RX_BUFFER_RELEASE
returns the oldest buffers, and ends a pause once the ring is down to LOW. That a frame short of buffers counts in RX_NOBUF
alone is the model's choice. -/
def Obligations.ReceivedFrames : Prop :=
  ∀ (s : State) (port : BitVec 1) (f : RxFrame),
    let n := port.toNat
    (s.d.linkUp n = true → ∀ (d : Drive) (prio err : Nat), d = s.d.countBelow n f →
      prio = (match f.tag with | some t => t.pcp.toNat | none => d.fld (Reg.MAC_VLAN_CTL n) 18 16) → err = d.frameErr n f →
      (d.accepts s.env n f.dst = false → Gives (.rxFrame port f) s (d.bumpOpen (Reg.MAC_RX_ADDR_FILTERED n) 1)) ∧
      (d.accepts s.env n f.dst = true →
        (f.stag = true → Gives (.rxFrame port f) s ((d.bumpOpen (Reg.MAC_RX_STAG n) 1).dropFrame n f prio (2 ^ 9 ||| err))) ∧
        (f.stag = false → d.flag (Reg.MAC_VLAN_CTL n) (if f.tag.isSome then 0 else 1) = false → Gives (.rxFrame port f) s (d.dropFrame n f prio err)) ∧
        (f.stag = false → d.flag (Reg.MAC_VLAN_CTL n) (if f.tag.isSome then 0 else 1) = true →
          (d.steer n f.dst f.body = .control → Gives (.rxFrame port f) s (d.dropFrame n f prio err)) ∧
          (d.steer n f.dst f.body = .legacyPause → Gives (.rxFrame port f) s
            ((d.bumpOpen (Reg.MAC_PAUSE_LEGACY n) 1).dropFrame n f prio (2 ^ 9 ||| err))) ∧
          (d.steer n f.dst f.body = .unclaimed → Gives (.rxFrame port f) s (d.dropFrame n f prio (2 ^ 7 ||| err))) ∧
          (d.steer n f.dst f.body = .ipDrop → Gives (.rxFrame port f) s (d.dropFrame n f prio (2 ^ 8 ||| err))) ∧
          ∀ dest len k room : Nat, d.steer n f.dst f.body = .xpt ∧ dest = 0 ∨ d.steer n f.dst f.body = .offload ∧ dest = 1 →
            len = min f.len (d.fld (Reg.MAC_MAX_FRAME n) 13 0) - (if f.tag.isSome then 4 else 0) → k = max 1 (ceilDiv len (d.bufSize n)) →
            room = d.ringBufs n prio - d.ringOcc n prio →
            (k ≤ room → err = 0 → Gives (.rxFrame port f) s
              (((((d.hand n f len k prio dest 0).occRose s.env n prio).countErr n 0).bumpWide (Reg.MAC_RX_FRAMES n) 1).bumpWide
                (Reg.MAC_RX_BYTES n) f.len)) ∧
            (k ≤ room → err ≠ 0 → Gives (.rxFrame port f) s
              ((((d.hand n f len k prio dest err).occRose s.env n prio).countErr n err).capture n f prio dest err)) ∧
            (room < k → ∀ x, x = (((if room = 0 then d else (d.hand n f (room * d.bufSize n) room prio dest (2 ^ 6)).occRose s.env n prio).bumpOpen
                (Reg.MAC_RX_NOBUF n) 1).setInt (pgMac n) 3) →
              Gives (.rxFrame port f) s ((x.event s.env 0x201 n prio (x.reg (Reg.MAC_RX_NOBUF n)).toNat
                (x.fld (Reg.MAC_RXQ_OCC n prio) 27 16)).capture n f prio dest (2 ^ 6)))))) ∧
    (∀ ring k d, d = (s.d.onPort n fun x => { x with rings := modAt x.rings ring (·.drop k) }) →
      (d.txPausing n ring = false ∨ d.wmLow n ring < d.ringOcc n ring → Gives (.rxBufferRelease port ring k) s d) ∧
      (d.txPausing n ring = true → d.ringOcc n ring ≤ d.wmLow n ring → Gives (.rxBufferRelease port ring k) s
        ((d.poke (Reg.MAC_PFC_STAT n) (8 + ring) (8 + ring) 0).pfcSend s.env n ring 0)))

/-- Priority pause and transmission (R77 to R84). PFC_RECEIVED counts each priority it names, and loads or cancels the timer of an
honoured one, which PAUSE_TIMER_EXPIRY ends; PFC_REFRESH repeats a pause while the ring is above LOW. TX_FRAME sends the
first frame of the first priority, in the order of R84, that is not paused, or goes on with a suspended frame when no
express frame waits and its priority is not paused; a preemptable frame yields at a legal boundary `cut`. PREEMPT_HOLD_TIMEOUT
gives a suspended frame up. -/
def Obligations.PauseAndTransmit : Prop :=
  ∀ (s : State) (port : BitVec 1),
    let n := port.toNat
    (∀ (vec : Byte) (times : List Half), s.d.linkUp n = true → Gives (.pfcReceived port vec times) s
      (([0, 1, 2, 3, 4, 5, 6, 7].filter fun p => vec.getLsbD p).foldl (fun (d : Drive) (p : Nat) =>
        if (d.bumpOpen (Reg.MAC_PFC_RX n p) 1).flag (Reg.MAC_PFC_CTL n) (8 + p) = true then
          (d.bumpOpen (Reg.MAC_PFC_RX n p) 1).onPort n fun x => { x with
            pauses := (x.pauses.filter fun e => !(e.1 == p)) ++
              (if ((times[p]?).getD 0).toNat = 0 then [] else [(p, ((times[p]?).getD 0).toNat)]) }
        else d.bumpOpen (Reg.MAC_PFC_RX n p) 1) s.d)) ∧
    (∀ p : Nat, Gives (.pauseTimerExpiry port p) s (s.d.onPort n fun x => { x with pauses := x.pauses.filter fun e => !(e.1 == p) })) ∧
    (∀ p : Nat, p < 8 → s.d.linkUp n = true → s.d.txPausing n p = true → s.d.wmLow n p < s.d.ringOcc n p →
      Gives (.pfcRefresh port p) s
        ((s.d.bumpOpen (Reg.MAC_PFC_TX n p) 1).sent s.env n (TxFrame.mk' (s.d.express n) 0x0180C2000001#48 none
          (.pfc (2 ^ p) ((List.range 8).map fun q => if q = p then s.d.fld (Reg.MAC_PFC_QUANTA n) 15 0 else 0))))) ∧
    (∀ (f : TxFrame) (from_ : Nat) (d whole : Drive), s.d.linkUp n = true →
      (s.d.nextFrame n = some f ∧ from_ = 0 ∧ d = (s.d.onPort n fun p => p.unqueue f)) ∨
        (s.d.nextFrame n = none ∧ (s.d.port n).suspended = some (f, from_) ∧ (s.d.port n).paused f.prio = false ∧
          d = (s.d.onPort n fun p => { p with suspended := none })) →
      whole = ((if from_ = 0 then d else d.bumpOpen (Reg.MAC_FRAG_TX n) 1).sent s.env n f) →
      Gives (.txFrame port none) s whole ∧
      ∀ c, (d.preempting n = true ∧ f.prio ≠ d.express n ∧ fragLegal (d.fragMin n) f.len from_ c = true → Gives (.txFrame port (some c)) s
          ((d.bumpOpen (Reg.MAC_FRAG_TX n) 1).onPort n fun p => { p with suspended := some (f, c) })) ∧
        (¬(d.preempting n = true ∧ f.prio ≠ d.express n ∧ fragLegal (d.fragMin n) f.len from_ c = true) →
          Gives (.txFrame port (some c)) s whole)) ∧
    ∀ f c, (s.d.port n).suspended = some (f, c) → (s.d.port n).paused f.prio = true →
      Gives (.preemptHoldTimeout port) s
        (((((s.d.onPort n fun p => { p with suspended := none }).bumpOpen (Reg.MAC_PREEMPT_ABORTS n) 1).setInt (pgMac n) 8).event s.env
          0x202 n f.prio 0 0))

/-- The offloads and detectors of a port (R66, R86 to R90). ARP_REQUEST records a duplicate of the port's address, and a request
for it is answered. DAD_TIMEOUT makes a tentative address VALID and announces it. NEIGHBOR_SOLICITATION: a solicitation for a
VALID address is answered, one from the unspecified address to all nodes; a TENTATIVE address has a duplicate by an
advertisement for it or a solicitation from the unspecified address. ECHO_REQUEST takes a token, or is dropped and counted.
EYE_REFRESH stores a lane's eye. WAKE_DETECTOR_ARM arms a port's detector in Fawn, and WAKE_PATTERN of an armed one, or of
both in one cycle, is recorded, disarms them and wakes the drive. -/
def Obligations.PortOffloads : Prop :=
  ∀ (s : State) (arr : Arrival),
    let n := arr.port.toNat
    (∀ (ip tip own : Word) (mac : BitVec 48) (req : Bool) (d : Drive), s.d.linkUp n = true → own = s.d.reg (Reg.MAC_IPV4_ADDR n) → own ≠ 0 →
      d = (if ip = own ∧ mac ≠ s.env.mac n then (s.d.setInt (pgMac n) 6).event s.env 0x203 n 0 0 0 else s.d) →
      (req = true ∧ tip = own ∧ d.flag (Reg.MAC_OFF_CTL n) 0 = true → Gives (.arpRequest arr ip tip mac req) s (d.reply arr (.arpReply own mac ip))) ∧
      (¬(req = true ∧ tip = own ∧ d.flag (Reg.MAC_OFF_CTL n) 0 = true) → Gives (.arpRequest arr ip tip mac req) s d)) ∧
    (∀ a : Nat, a < 3 → s.d.macOn n = true → s.d.ipv6Tentative n a = true →
      Gives (.dadTimeout arr.port a) s
        (((s.d.poke (Reg.MAC_IPV6_STAT n) (8 + a) (8 + a) 0).poke (Reg.MAC_IPV6_STAT n) a a 1).send n
          (TxFrame.mk' 0 0x333300000001#48 none (.na allNodes (BitVec.ofNat 128 (s.d.ipv6 n a)) false)))) ∧
    (∀ (target : BitVec 128) (a : Nat), s.d.linkUp n = true → s.d.flag (Reg.MAC_OFF_CTL n) 1 = true →
      ([0, 1, 2].find? fun a => s.d.ipv6 n a == target.toNat && (s.d.ipv6Valid n a || s.d.ipv6Tentative n a)) = some a →
      (s.d.ipv6Valid n a = true →
        (arr.ip ≠ 0 → Gives (.neighborSolicitation arr ⟨target, false⟩) s (s.d.reply arr (.na arr.ip target true))) ∧
        (arr.ip = 0 → Gives (.neighborSolicitation arr ⟨target, false⟩) s
          (s.d.send n (TxFrame.mk' (s.d.prioOf n arr.tag) 0x333300000001#48 arr.tag (.na allNodes target false)))) ∧
        Gives (.neighborSolicitation arr ⟨target, true⟩) s s.d) ∧
      (s.d.ipv6Valid n a = false → ∀ d, d = ((((s.d.poke (Reg.MAC_IPV6_STAT n) (8 + a) (8 + a) 0).poke (Reg.MAC_IPV6_STAT n) (4 + a) (4 + a) 1).setInt
          (pgMac n) 6).event s.env 0x203 n (1 + a) 0 0) →
        Gives (.neighborSolicitation arr ⟨target, true⟩) s d ∧
        (arr.ip = 0 → Gives (.neighborSolicitation arr ⟨target, false⟩) s d) ∧
        (arr.ip ≠ 0 → Gives (.neighborSolicitation arr ⟨target, false⟩) s s.d))) ∧
    (∀ (ident seqNo : Half) (payload : List Byte) (rate tok : Nat), s.d.linkUp n = true →
      s.d.flag (Reg.MAC_OFF_CTL n) (if arr.ipv6 then 3 else 2) = true → rate = s.d.fld (Reg.MAC_ICMP_RATE n) 15 0 →
      tok = min 16000 ((s.d.port n).icmp.tok + rate * (s.env.clk.optime - (s.d.port n).icmp.at_)) →
      (rate ≠ 0 → 1000 ≤ tok → Gives (.echoRequest arr ⟨ident, seqNo, payload⟩) s
        ((s.d.onPort n fun x => { x with icmp := ⟨tok - 1000, s.env.clk.optime⟩ }).reply arr
          (.echoReply arr.ipv6 (s.d.srcIp arr) arr.ip ident seqNo payload))) ∧
      (rate = 0 ∨ tok < 1000 → Gives (.echoRequest arr ⟨ident, seqNo, payload⟩) s (s.d.bumpOpen (Reg.MAC_ICMP_DROP n) 1))) ∧
    (∀ (lane : BitVec 2) (eye : Word), s.d.linkUp n = true → Gives (.eyeRefresh arr.port lane eye) s
      (s.d.setReg (Reg.MAC_EYE_LANE n lane.toNat) eye)) ∧
    (s.d.isOn 1 = true → s.d.pwr.ps = .fawn → s.d.flag Reg.WAKE_CTL n = true →
      Gives (.wakeDetectorArm arr.port) s (s.d.poke Reg.WAKE_STAT n n 1)) ∧
    (∀ both : Bool, s.d.isOn 1 = true → s.d.flag Reg.WAKE_STAT n = true → (both = true → s.d.flag Reg.WAKE_STAT (1 - n) = true) →
      Gives (.wakePattern ⟨arr.port, both⟩) s
        ((((s.d.poke Reg.WAKE_STAT 5 4 (if both then 3 else n + 1)).poke Reg.WAKE_STAT 1 0 0).bumpOpen Reg.WAKE_COUNT 1).wake s.env 1))


/-! ### Flows (R103 to R146) -/

/-- FLOW_OPEN (R109 to R113). A malformed OPEN counts in XPT_RX_HDR_BAD, one during Fawn entry goes unanswered, and one of another version
is refused with reason 1. An OPEN that repeats an open flow is acknowledged again. A new one is refused with reason 2 for its
fields, 3 for its MTU, 4 where the policy denies it and 5, with an interrupt, where no slot is FREE; it is held while its
table rebuilds. One that passes takes a FREE slot: the flow is OPEN there under the slot's incarnation, with the sequence
numbers the two ends chose, no command unfinished, and a target of at most the configured number of commands, and its
OPEN_ACK goes out. -/
def Obligations.FlowsOpen : Prop :=
  (∀ (s : State) (arr : Arrival) (h : Hdr) (b : List Byte) (slot : Nat) (isn : Word),
    s.d.unitOut 2 = false → s.d.xptTakes arr = true → arr.group = false →
    (∀ version, b.length ≠ 20 → Gives (.flowOpen arr h version b slot isn) s ((s.d.bump Reg.XPT_RX_HDR_BAD 1).settled s.env)) ∧
    (∀ version, b.length = 20 → s.d.pwr.fawnStep ≠ 0 → Gives (.flowOpen arr h version b slot isn) s (s.d.settled s.env)) ∧
    (b.length = 20 → s.d.pwr.fawnStep = 0 →
      (∀ version, version ≠ 1 → Gives (.flowOpen arr h version b slot isn) s ((s.d.openRefuse arr b 1).settled s.env)) ∧
      (∀ f, (s.d.xpt.flows.find? fun f => f.st == .open_ && f.ip == arr.ip && f.ipv6 == arr.ipv6 && f.udp == arr.udp && f.nonce == openNonce b) = some f →
        Gives (.flowOpen arr h 1 b slot isn) s ((s.d.openAck f).settled s.env)) ∧
      ((s.d.xpt.flows.find? fun f => f.st == .open_ && f.ip == arr.ip && f.ipv6 == arr.ipv6 && f.udp == arr.udp && f.nonce == openNonce b) = none →
        (4096 ≤ openTenant b ∨ openCmds b = 0 ∨ 4096 < openCmds b → Gives (.flowOpen arr h 1 b slot isn) s ((s.d.openRefuse arr b 2).settled s.env)) ∧
        (openTenant b < 4096 → 0 < openCmds b → openCmds b ≤ 4096 →
          (s.d.flowMtu arr b < 4352 → Gives (.flowOpen arr h 1 b slot isn) s ((s.d.openRefuse arr b 3).settled s.env)) ∧
          (4352 ≤ s.d.flowMtu arr b →
            (s.d.tableHeld (s.d.classTable 0) = true → Gives (.flowOpen arr h 1 b slot isn) s
              ((s.d.onMch fun m => { m with heldOpens := m.heldOpens ++ [⟨arr, h, 1, b, slot, isn⟩] }).settled s.env)) ∧
            (s.d.tableHeld (s.d.classTable 0) = false → ∀ v d, s.d.search 0 (searchKey (openTenant b) 0 arr.port.toNat 0 (s.d.vidOf arr) []) = (v, d) →
              (v.allow = false → Gives (.flowOpen arr h 1 b slot isn) s ((d.openRefuse arr b 4).settled s.env)) ∧
              (v.allow = true → d.xpt.freeSlot slot = none → Gives (.flowOpen arr h 1 b slot isn) s
                (((d.openRefuse arr b 5).setInt pgXpt 2).settled s.env)) ∧
              (∀ k, v.allow = true → d.xpt.freeSlot slot = some k →
                Gives (.flowOpen arr h 1 b slot isn) s ((d.openTake s.env ⟨arr, h, 1, b, slot, isn⟩ v k).settled s.env)))))))) ∧
  ∀ (d : Drive) (e : Env) (o : HeldOpen) (v : Verdict) (slot : Nat), d.flow? slot = none →
    ∃ g f x, x = (d.onXpt fun t => { t with flows := t.flows ++ [g] }).credits ∧ x.flow? slot = some f ∧
      f = { g with limit := f.limit, ackDue := f.ackDue } ∧
      d.openTake e o v slot = (x.openAck f).onFlow slot (fun y => { y with ackDue := false }) ∧
      g.slot = slot ∧ g.st = .open_ ∧ g.inc = d.xpt.incOf slot ∧ g.cmds = [] ∧ g.msgs = [] ∧ g.subs = [] ∧
      g.tenant = BitVec.ofNat 12 (openTenant o.body) ∧ g.rxNext = openIsn o.body ∧ g.txNext = o.isn ∧ g.txAcked = o.isn ∧
      g.target = min (openCmds o.body) (d.fld Reg.XPT_FLOW_CTL 12 0) ∧ g.mtu = d.flowMtu o.arr o.body ∧ g.arr = o.arr

/-- How flows end (R114 to R118, R141, R144). FLOW_CLOSE in sequence makes the flow CLOSING and ends its subscriptions and waiting
notices, and delivers what was kept beyond a gap; one that repeats the last CLOSE of a flow in TOMB is acknowledged again.
CLOSE_ACK_SEND, once every command and message is finished, acknowledges it and leaves the flow in TOMB. HOST_RESET (counted
in ERR_CNT for cause 1), FLOW_IDLE_TIMEOUT (cause 2) and XPT_FLOW_KILL with KEY 0xA5 (cause 4) reset a flow; clearing
XPT_CTL.ENABLE resets all of them (cause 5). TOMB_EXPIRY frees the slot under its next incarnation. -/
def Obligations.FlowsEnd : Prop :=
  ∀ s : State,
    (∀ arr h f g, comesTo s arr h f → (s.d.xpt.flows.find? fun f => f.id == h.flow && f.st == .tomb && f.closed && f.closeSeq == some h.seq) = none →
      (heard s arr h f).flow? f.slot = some g → g.st = .open_ → g.slot = f.slot → h.seq = g.rxNext → (g.gap.any fun x => x.seq == h.seq) = false →
      seqLt g.limit h.seq = false →
      ∀ d, d = (((heard s arr h f).onFlow f.slot fun f => { f with rxNext := h.seq + 1, ackDue := true }).onFlow f.slot fun f =>
        { f with st := .closing, closeSeq := some h.seq, subs := [], notices := [] }) →
      Gives (.flowClose arr h) s ((deliverGap s.env f.slot g.gap.length d).credits.settled s.env)) ∧
    (∀ arr h f, s.d.unitOut 2 = false → s.d.xptTakes arr = true → arr.group = false →
      (s.d.xpt.flows.find? fun f => f.id == h.flow && f.st == .tomb && f.closed && f.closeSeq == some h.seq) = some f →
      Gives (.flowClose arr h) s ((s.d.flowSend f.slot 5 0 0 0 []).settled s.env)) ∧
    (∀ slot f, s.d.unitOut 2 = false → s.d.isOn 14 = true → s.d.flow? slot = some f → f.st = .closing → f.cmds = [] → f.msgs = [] →
      Gives (.closeAckSend slot) s ((((s.d.flowSend slot 5 0 0 0 []).onFlow slot fun f => f.entomb true).credits).settled s.env)) ∧
    (∀ arr h f cause, comesTo s arr h f → (s.d.xpt.flows.find? fun f => f.id == h.flow && f.live) = some f →
      Gives (.hostReset arr ⟨h, cause⟩) s (((if cause = 1 then s.d.errCnt pgXpt else s.d).resetFlow s.env f.slot none).settled s.env)) ∧
    (∀ slot, s.d.unitOut 2 = false → s.d.isOn 14 = true → s.d.fld Reg.XPT_FLOW_CTL 31 16 ≠ 0 →
      Gives (.flowIdleTimeout slot) s ((s.d.resetFlow s.env slot (some 2)).settled s.env)) ∧
    (∀ slot f, s.d.unitOut 2 = false → s.d.flow? slot = some f → f.st = .tomb →
      Gives (.tombExpiry slot) s ((s.d.onXpt fun x => { x with
        flows := x.flows.filter fun g => !(g.slot == slot)
        incs := (slot, (f.inc + 1) % 65536) :: x.incs.filter fun y => !(y.1 == slot) }).settled s.env)) ∧
    (∀ t p arb v, takes s p arb Reg.XPT_FLOW_KILL v t → ∀ d, d = stored t p Reg.XPT_FLOW_KILL v →
      (bits v 31 24 = 0xA5 → Gives (.xptFlowKill p v arb) s ((d.resetFlow s.env (bits v 15 0) (some 4)).accessed s p)) ∧
      (bits v 31 24 ≠ 0xA5 → Gives (.xptFlowKill p v arb) s (d.accessed s p))) ∧
    (∀ t p arb v, takes s p arb Reg.XPT_CTL v t → t.d.flag Reg.XPT_CTL 0 = true → (stored t p Reg.XPT_CTL v).flag Reg.XPT_CTL 0 = false →
      ∀ d, d = (if bit v 4 = true ∧ t.d.xpt.saving = none then
          (stored t p Reg.XPT_CTL v).onXpt fun x => { x with saving := some (savePages (stored t p Reg.XPT_CTL v) (· == 0x50)) }
        else stored t p Reg.XPT_CTL v) →
      Gives (.xptEnableClear p v arb) s ((d.killAll s.env).accessed s p))

/-- Datagrams of a flow (R119 to R131, R138). Every one brings its window and its ACK. DATA takes each of its one or two blocks: one
outside a grant is counted; a good one is written into its unit slot and counts, a repeated one counts as such; a bad one
counts and is reported, and with attempt 7 resets the flow with cause 1. HOST_BITMAP acknowledges units or has them sent
again, is ignored where it is stale, and resets the flow where a unit's attempt 7 failed. BMAP_REQ is answered with a
bitmap. PROBE is answered within its rate. What fails R104 is counted. -/
def Obligations.Datagrams : Prop :=
  ∀ (s : State) (arr : Arrival) (h : Hdr),
    (∀ f, comesTo s arr h f →
      Gives (.ackMessage arr h) s ((heard s arr h f).settled s.env) ∧
      (∀ msg, (((heard s arr h f).flow? f.slot).bind fun f => f.gap.find? (·.seq == msg)) = none →
        Gives (.bmapReq arr h msg) s (((heard s arr h f).bitmapSend f.slot msg).settled s.env)) ∧
      (∀ msg m, (((heard s arr h f).flow? f.slot).bind fun f => f.gap.find? (·.seq == msg)) = some m →
        Gives (.bmapReq arr h msg) s (((heard s arr h f).gapBitmap f.slot m).settled s.env)) ∧
      (∀ (i : Nat) (b c : Block) (a2 : BitVec 3) (bad bad' dead dead' : Bool) (d d' : Drive), b.bytes.length = 4096 → c.bytes.length = 4096 →
        (heard s arr h f).dataBlock f.slot h.seq i h.attempt.toNat b = (bad, dead, d) → d.dataBlock f.slot h.seq (i + 1) a2.toNat c = (bad', dead', d') →
        ∀ asks : Drive → Drive, asks = (fun d => if h.req then d.onFcmd f.slot h.seq fun c => { c with reqTo := max c.reqTo c.grantEnd, reqDue := true } else d) →
        Gives (.data arr h i [b] a2) s
          ((if dead then (asks d).resetFlow s.env f.slot (some 1) else (asks d).bmapEvery f.slot h.seq bad).settled s.env) ∧
        Gives (.data arr h i [b, c] a2) s
          ((if dead || dead' then (asks d').resetFlow s.env f.slot (some 1) else (asks d').bmapEvery f.slot h.seq (bad || bad')).settled s.env)) ∧
      (∀ (base : Nat) (bm : List Byte) (m : DMsg) (us : List TxUnit), 8 ≤ bm.length → beAt bm 2 2 ≤ 4096 → bm.length = 8 + ceilDiv (beAt bm 2 2) 8 →
        (((heard s arr h f).flow? f.slot).bind fun f => f.msgs.find? (·.seq == h.seq)) = some m →
        us = m.units.map (fun u => u.reported base (beAt bm 2 2) (bm.drop 8)) →
        ∀ d, d = ((heard s arr h f).onFlow f.slot fun f => { f with
          msgs := modIf f.msgs (·.seq == h.seq) fun m => { m with units := us, bmapNo := beAt bm 0 2 } }) →
        (serialAfter (beAt bm 0 2) m.bmapNo = false → Gives (.hostBitmap arr h base bm) s ((heard s arr h f).settled s.env)) ∧
        (serialAfter (beAt bm 0 2) m.bmapNo = true → (us.any fun u => u.nacked && u.att == 7) = true →
          Gives (.hostBitmap arr h base bm) s ((d.resetFlow s.env f.slot (some 1)).settled s.env)) ∧
        (serialAfter (beAt bm 0 2) m.bmapNo = true → (us.any fun u => u.nacked && u.att == 7) = false →
          Gives (.hostBitmap arr h base bm) s (((d.finishMsgs f.slot).sendWaiting f.slot).settled s.env)))) ∧
    (∀ (d x : Drive) (slot : Nat) (seq : Word) (i att : Nat) (b : Block),
      x = d.pay [12 + ((d.flow? slot).map (·.arr.port.toNat)).getD 0, 14] 3 1 →
      ((x.flow? slot).bind (·.cmd? seq) = none → d.dataBlock slot seq i att b = (false, false, x.bump Reg.XPT_RX_UNGRANTED 1)) ∧
      ∀ c, (x.flow? slot).bind (·.cmd? seq) = some c → c.seq = seq →
        (c.rsp.isSome = true ∨ c.grantEnd ≤ i → d.dataBlock slot seq i att b = (false, false, x.bump Reg.XPT_RX_UNGRANTED 1)) ∧
        (c.rsp = none → i < c.grantEnd → ∀ y, y = (x.onFcmd slot seq fun c => { c with sinceBmap := c.sinceBmap + 1 }) →
          (crc32c b.bytes = b.crc → (c.units.any fun u => u.idx == i && u.good) = true →
            d.dataBlock slot seq i att b = (false, false, (y.bumpWide Reg.XPT_RX_BLOCKS 1).bump Reg.XPT_RX_DUP 1)) ∧
          (crc32c b.bytes = b.crc → (c.units.any fun u => u.idx == i && u.good) = false →
            ∀ z, z = ((y.bumpWide Reg.XPT_RX_BLOCKS 1).onFcmd slot seq fun c => c.onUnit i fun u =>
              { u with good := true, att := max u.att att, bad := false, missing := false }) →
            (c.rsn = none → d.dataBlock slot seq i att b = (false, false, z)) ∧
            (∀ rsn, c.rsn = some rsn → d.dataBlock slot seq i att b = (false, false, z.onRec' rsn fun r =>
              { r with units := r.units.map fun u => if u.unit = i then { u with data := some (b.bytes, b.crc) } else u }))) ∧
          (crc32c b.bytes ≠ b.crc → d.dataBlock slot seq i att b = (true, att == 7, (y.bump Reg.XPT_RX_CRC_BAD 1).onFcmd slot seq fun c =>
            c.onUnit i fun u => if att < u.att || u.good then u else { u with att := att, bad := true, missing := false })))) ∧
    (∀ body : List Byte, s.d.unitOut 2 = false → s.d.xptTakes arr = true →
      (body.length ≠ 8 → Gives (.probe arr h body) s ((s.d.bump Reg.XPT_RX_HDR_BAD 1).settled s.env)) ∧
      (body.length = 8 → s.d.flag Reg.XPT_CTL 3 = false → Gives (.probe arr h body) s (s.d.settled s.env)) ∧
      (body.length = 8 → s.d.flag Reg.XPT_CTL 3 = true →
        (((s.d.xpt.probes[arr.port.toNat]?).getD ⟨0, 0⟩).take (s.env.clk.optime / 1000) 100 = none →
          Gives (.probe arr h body) s ((s.d.bump Reg.XPT_PROBE_DROP 1).settled s.env)) ∧
        ∀ x d, ((s.d.xpt.probes[arr.port.toNat]?).getD ⟨0, 0⟩).take (s.env.clk.optime / 1000) 100 = some x →
          d = ((s.d.onXpt fun t => { t with probes := t.probes.set arr.port.toNat x }).bump Reg.XPT_PROBE_ANS 1) →
          Gives (.probe arr h body) s
            ((d.bareSend arr 9 0 0
              (body ++ beBytes 8 s.fac.serial.toNat ++ beBytes 2 s.d.chn.addrHalf.toNat ++ beBytes 1 arr.port.toNat ++
                beBytes 1 (b2n s.d.pwr.readReady + 2 * b2n s.d.nrg.writeReady) ++ beBytes 4 (65536 - s.d.xpt.flows.length) ++
                s.fac.part)).settled s.env))) ∧
    (∀ bs : List Byte, s.d.unitOut 2 = false → s.d.xptTakes arr = true → arr.group = false →
      (dgramBad bs = true → Gives (.badTransportDatagram ⟨arr, bs⟩) s ((s.d.bump Reg.XPT_RX_HDR_BAD 1).settled s.env)) ∧
      (dgramBad bs = false → Gives (.badTransportDatagram ⟨arr, bs⟩) s (s.d.settled s.env)) ∧
      (bs.length < 32 ∨ beAt bs 0 2 ≠ 0x4957 ∨ beAt bs 26 2 ≠ bs.length - 32 ∨
        (beAt bs 3 1 ≠ 0x20 ∧ (crc32c (bs.take 28 ++ bs.drop 32)).toNat ≠ beAt bs 28 4) → dgramBad bs = true))

/-- The timers and registers of the transport (R119, R126, R129, R132, R143, R146). ACK_DELAY_EXPIRY sends the ACK that is due.
RTO_EXPIRY sends a header or a unit again under the next attempt, a unit where the host's window is open, and resets the
flow with cause 1 after the seventh. REORDER_TIMER_EXPIRY reports the units that it waited for and that did not come.
FABRIC_COPY_CONFIRM confirms a block's copy and raises the grant, or gives the block up. XPT_CTL.CFG_SAVE and its end store
page 0x50; XPT_FLOW_SEL latches a slot's snapshot. -/
def Obligations.FlowTimersAndRegisters : Prop :=
  ∀ s : State,
    (∀ slot f, s.d.unitOut 2 = false → s.d.flow? slot = some f → s.d.isOn 14 = true → f.live = true → f.ackDue = true →
      Gives (.ackDelayExpiry slot) s ((s.d.flowSend slot 7 0 0 0 []).settled s.env)) ∧
    (∀ slot f m, s.d.unitOut 2 = false → s.d.flow? slot = some f → f.msgs.find? (·.seq == m.seq) = some m → s.d.isOn 14 = true → f.live = true →
      (seqLt m.seq f.txAcked = false →
        (7 ≤ m.att → Gives (.rtoExpiry slot m.seq none) s ((s.d.resetFlow s.env slot (some 1)).settled s.env)) ∧
        (m.att < 7 → Gives (.rtoExpiry slot m.seq none) s
          ((((s.d.onFlow slot fun f => { f with
            msgs := modIf f.msgs (·.seq == m.seq) fun _ => { m with att := m.att + 1 }, resends := f.resends + 1 }).bump Reg.XPT_TX_RESENT 1).sendHdr
              slot { m with att := m.att + 1 }).settled s.env))) ∧
      (∀ i u, (m.units.find? fun u => u.idx == i && decide (0 < u.att) && !u.acked && !u.nacked) = some u →
        (7 ≤ u.att → Gives (.rtoExpiry slot m.seq (some i)) s ((s.d.resetFlow s.env slot (some 1)).settled s.env)) ∧
        (u.att < 7 → f.credit ≠ 0 ∨ u.trail = true →
          Gives (.rtoExpiry slot m.seq (some i)) s
            (((s.d.onFlow slot fun f => { f with msgs := modIf f.msgs (·.seq == m.seq) fun m =>
              { m with units := modIf m.units (·.idx == i) fun _ => { u with att := u.att + 1 } } }).emit slot m.seq [{ u with att := u.att + 1 }] true).settled
              s.env)))) ∧
    (∀ slot seq c missing lost, s.d.unitOut 2 = false → (s.d.flow? slot).bind (·.cmd? seq) = some c → s.d.isOn 14 = true →
      lost = (missing.filter fun i => decide (i < c.grantEnd) && (decide (i < c.reqTo) || c.units.any fun u => decide (i < u.idx) && (u.good || u.bad)) &&
        !(c.units.any fun u => u.idx == i && (u.good || u.bad))) →
      (lost ≠ [] ∨ c.reqDue = true → Gives (.reorderTimerExpiry slot seq missing) s
        (((s.d.onFcmd slot seq fun c => { c with
          units := lost.foldl (fun us i => if (us.any fun u => u.idx == i) then modIf us (fun u => u.idx == i) fun u => { u with missing := true }
            else us ++ [⟨i, false, false, 0, false, 0, true⟩]) c.units, reqDue := false }).bitmapSend slot seq).settled s.env)) ∧
      (lost = [] → c.reqDue = false → Gives (.reorderTimerExpiry slot seq missing) s (s.d.settled s.env))) ∧
    (∀ slot seq c unit fails, (s.d.flow? slot).bind (·.cmd? seq) = some c → s.d.isOn 10 = true → c.rsp = none →
      (c.units.any fun u => u.idx == unit && u.good && !u.conf) = true →
      (fails < s.d.fld Reg.FAB_GUARD_CTL 2 0 → ∀ d, d = (((s.d.bump Reg.FAB_GUARD_INGRESS fails).onFcmd slot seq fun c => c.onUnit unit fun u =>
          { u with conf := true }).grantMore s.env slot seq true) →
        (c.rsn = none → Gives (.fabricCopyConfirm slot seq unit fails) s (d.settled s.env)) ∧
        (∀ rsn, c.rsn = some rsn → Gives (.fabricCopyConfirm slot seq unit fails) s ((d.markFull rsn).settled s.env))) ∧
      (s.d.fld Reg.FAB_GUARD_CTL 2 0 ≤ fails → ∀ rsn, c.rsn = some rsn → Gives (.fabricCopyConfirm slot seq unit fails) s
        (((s.d.bump Reg.FAB_GUARD_INGRESS (s.d.fld Reg.FAB_GUARD_CTL 2 0)).ingressAbandon s.env rsn unit).settled s.env))) ∧
    (∀ t p arb v, takes s p arb Reg.XPT_CTL v t → ∀ x, x = stored t p Reg.XPT_CTL v → (t.d.flag Reg.XPT_CTL 0 = false ∨ x.flag Reg.XPT_CTL 0 = true) →
      (bit v 4 = true → t.d.xpt.saving = none →
        Gives (.xptCfgSave p v arb) s ((x.onXpt fun y => { y with saving := some (savePages x (· == 0x50)) }).accessed s p)) ∧
      (bit v 4 = false ∨ t.d.xpt.saving.isSome = true → Gives (.xptCfgSave p v arb) s (x.accessed s p) ∧ Gives (.xptEnableClear p v arb) s (x.accessed s p))) ∧
    (∀ m, s.d.xpt.saving = some m → Gives .xptCfgSaveDone s
      { s.d.onXpt fun x => { x with saving := none } with
        saved := m.foldl (fun (f : FMap) (x : Nat × Word) => FMap.insert f x.1 x.2) (s.d.saved.filter fun x => !(x.1 / 4096 == 0x50)) }) ∧
    (∀ t p arb v, takes s p arb Reg.XPT_FLOW_SEL v t → ∀ d, d = stored t p Reg.XPT_FLOW_SEL v →
      (d.flow? (d.fld Reg.XPT_FLOW_SEL 15 0) = none → Gives (.xptFlowSel p v arb) s
        ((d.setRegs Reg.XPT_FLOW_ID (word (d.xpt.incOf (d.fld Reg.XPT_FLOW_SEL 15 0) * 65536 + d.fld Reg.XPT_FLOW_SEL 15 0) ::
          List.replicate 14 0)).accessed s p)) ∧
      ∀ f, d.flow? (d.fld Reg.XPT_FLOW_SEL 15 0) = some f → Gives (.xptFlowSel p v arb) s
        ((d.setRegs Reg.XPT_FLOW_ID
          ([f.id, word (f.tenant.toNat * 65536 + f.arr.port.toNat * 16 + b2n f.ipv6 * 8 + f.st.code), word (f.target * 65536 + f.mtu)] ++
            ((List.range 4).map fun i => word (f.ip.toNat / 2 ^ (32 * (3 - i)))) ++
            [f.udp.setWidth 32, f.rxNext, f.limit, f.txNext, f.txAcked, word f.held, word f.resends,
              word (min (s.env.clk.optime - f.lastRx) 0xFFFFFFFF)])).accessed s p))

/-! ### Commands (R147 to R197) -/

/-- PUT, PUT_RANGE, CAS, DELETE and PUNCH (R157, R159). One that passes every step is accepted: its record takes the next RSN,
its payload's first grant or, without a payload, its commit follows; where no record pair is free it is held. One that the
reserve does not admit ends with ENERGY_DEFER and a retry hint; one that fails steps 6 to 10 ends with that step's status;
one on a namespace of another tenant ends with NO_NAMESPACE. One that needs leaf pages that DRAM does not hold waits for
them. -/
def Obligations.WritesAreAccepted : Prop :=
  (∀ (s : State) (op : Op) (row : Cmd → Instr) (c : Cmd) (f g k : Flow) (v : Verdict) (d : Drive) (growth : Int) (h : HeldCmd),
    writeRow op = some row → allowed s op c (.alone 0) f g k v d → h = asked op c (.alone 0) g →
    growth = (if op.paid then d.growthOf op (bodyNs c.body) c.payload.toNat c.body else 0) →
    (d.owns k (bodyNs c.body) = false → Gives (row c) s ((d.refuse s.env h { status := 0x14 }).afterCmd s g)) ∧
    (d.owns k (bodyNs c.body) = true → d.med.leavesMissing op c.body ≠ [] →
      Gives (row c) s (((d.med.leavesMissing op c.body).foldl (fun d p => d.loadPage s.env p.num)
        (d.onMed fun m => { m with heldLeaf := m.heldLeaf ++ [{ h with v := some v }] })).afterCmd s g)) ∧
    (d.owns k (bodyNs c.body) = true → d.med.leavesMissing op c.body = [] →
      (∀ j : Judge, d.writeSteps s.env h v growth = j → j.status ≠ 0 →
        Gives (row c) s ((d.refuseIn s.env h { status := j.status, version := j.version }).afterCmd s g)) ∧
      (d.writeSteps s.env h v growth = ⟨0, 0⟩ →
        (∀ n d', d.stepEleven s.env (ceilDiv c.payload.toNat 4096) = (some n, d') →
          Gives (row c) s ((d'.defers s.env h n).afterCmd s g)) ∧
        (∀ d' x, d.stepEleven s.env (ceilDiv c.payload.toNat 4096) = (none, d') → x = d'.leaveIdle s.env →
          (x.jrn.recs.length < pairTotal → x.jrn.heldAccept = [] → Gives (row c) s ((x.accept s.env h k v growth.toNat).afterCmd s g)) ∧
          (pairTotal ≤ x.jrn.recs.length ∨ x.jrn.heldAccept ≠ [] → ∀ r, r = x.newRec s.env h k v growth.toNat →
            ∀ y, y = (x.onJrn fun j => { j with heldAccept := j.heldAccept ++ [{ h with v := some v, rsv := (r.keySlot, r.rsvLeft) }] }) →
            Gives (row c) s (((if op.paid then y.nearCheck s.env r.keySlot else y).bump Reg.JRN_ACCEPT_WAITS 1).afterCmd s g)))))) ∧
  ∀ (d : Drive) (e : Env) (h : HeldCmd) (v : Verdict) (growth : Int) (b : List Byte) (ns pay slot : Nat) (j : Judge),
    b = h.cmd.body → ns = bodyNs b → pay = h.cmd.payload.toNat →
    slot = (if h.op.paid then d.judgeSlot (d.rowSlot v ns) (segCount h.op pay (bodyArg0 b) (d.jrnMode != 0 || d.spills pay)) else 0) →
    j = judgeWrite d.nss ns h.op h.cmd.cflags pay b →
    ((e.readOnly || d.med.readOnly) = true ∧ h.op ≠ .delete → d.writeSteps e h v growth = ⟨8, 0⟩) ∧
    ((e.readOnly || d.med.readOnly) = false ∨ h.op = .delete →
      (slot ≠ 0 → d.writeSteps e h v growth = ⟨slot, 0⟩) ∧
      (slot = 0 → j.status ≠ 0 → d.writeSteps e h v growth = j) ∧
      (slot = 0 → j.status = 0 → h.op.paid = true →
        (d.quotaFull (rowQuotaNs v ns) growth = true → d.writeSteps e h v growth = ⟨6, 0⟩) ∧
        (d.quotaFull (rowQuotaNs v ns) growth = false →
          (d.userCap < d.userUsed + unitLen (bodyKeyLen b + pay) → d.writeSteps e h v growth = ⟨7, 0⟩) ∧
          (d.userUsed + unitLen (bodyKeyLen b + pay) ≤ d.userCap → d.writeSteps e h v growth = ⟨0, 0⟩))) ∧
      (slot = 0 → j.status = 0 → h.op.paid = false → d.writeSteps e h v growth = ⟨0, 0⟩))

/-- NS_CREATE, NS_DELETE, KEY_LOAD and KEY_ERASE (R188, R189, R193, R194): one that the state of the drive allows and the reserve
admits is accepted with a record and, having no payload, commits; one that it does not allow ends with its status, and one
that the reserve does not admit with ENERGY_DEFER. -/
def Obligations.AdminCommandsAreAccepted : Prop :=
  ∀ (s : State) (op : Op) (row : Cmd → Instr) (c : Cmd) (f g k : Flow) (v : Verdict) (d : Drive) (h : HeldCmd),
    adminRow op = some row → allowed s op c (.alone 0) f g k v d → h = asked op c (.alone 0) g →
    (∀ j : Judge, d.reevaluate s.env d.nss (d.newRec s.env h k v 0) = j → j.status ≠ 0 →
      Gives (row c) s ((d.refuse s.env h { status := j.status }).afterCmd s g)) ∧
    ((d.reevaluate s.env d.nss (d.newRec s.env h k v 0)).status = 0 →
      (∀ n d', d.stepEleven s.env (ceilDiv c.payload.toNat 4096) = (some n, d') → Gives (row c) s ((d'.defers s.env h n).afterCmd s g)) ∧
      ∀ d' x, d.stepEleven s.env (ceilDiv c.payload.toNat 4096) = (none, d') → x = d'.leaveIdle s.env →
        x.jrn.recs.length < pairTotal → x.jrn.heldAccept = [] → Gives (row c) s ((x.accept s.env h k v 0).afterCmd s g))

/-- GET, GET_RANGE, STAT and LIST at their snapshot points (R165, R174 to R180). A GET starts the read of the key's whole value,
a GET_RANGE of the bytes named, which must lie within the value. STAT answers with the version, the length, the stored bytes,
the opaque value and the key slot. LIST answers with the entries, in key order, that have the prefix and come after the
start, as many as the limit; a start without the prefix ends with RANGE_ERROR. A key that is not there ends with NOT_FOUND,
and a namespace of another tenant with NO_NAMESPACE. One that needs leaf pages that DRAM does not hold waits for them. -/
def Obligations.ReadsAnswer : Prop :=
  ∀ (s : State) (op : Op) (c : Cmd) (f g k : Flow) (v : Verdict) (d : Drive) (h : HeldCmd),
    allowed s op c (.alone 0) f g k v d → h = asked op c (.alone 0) g → op.cls = 1 →
    (d.owns k (bodyNs c.body) = false → Gives (cmdRow (.alone 0) op c) s ((d.refuse s.env h { status := 0x14 }).afterCmd s g)) ∧
    (d.owns k (bodyNs c.body) = true → d.mustWait h = false → d.med.leavesMissing op c.body ≠ [] →
      Gives (cmdRow (.alone 0) op c) s (((d.med.leavesMissing op c.body).foldl (fun d p => d.loadPage s.env p.num)
        (d.onMed fun m => { m with heldLeaf := m.heldLeaf ++ [{ h with v := some v }] })).afterCmd s g)) ∧
    (d.owns k (bodyNs c.body) = true → d.mustWait h = false → d.med.leavesMissing op c.body = [] →
      (op ≠ .list → ((nsOf d.nss (bodyNs c.body)).bind (·.find (bodyKey c.body))) = none →
        Gives (cmdRow (.alone 0) op c) s ((d.refuseIn s.env h { status := 1 }).afterCmd s g)) ∧
      (∀ x, ((nsOf d.nss (bodyNs c.body)).bind (·.find (bodyKey c.body))) = some x →
        (op = .get → Gives (.get c) s (((d.leaveIdle s.env).startJob s.env g.slot g.inc c.hdr.seq .get (bodyNs c.body) x 0 x.len v).afterCmd s g)) ∧
        (op = .getRange →
          (x.len < bodyArg0 c.body + bodyArg1 c.body → Gives (.getRange c) s ((d.refuseIn s.env h { status := 0x13 }).afterCmd s g)) ∧
          (bodyArg0 c.body + bodyArg1 c.body ≤ x.len →
            Gives (.getRange c) s (((d.leaveIdle s.env).startJob s.env g.slot g.inc c.hdr.seq .getRange (bodyNs c.body) x (bodyArg0 c.body)
              (bodyArg1 c.body) v).afterCmd s g))) ∧
        (op = .stat → Gives (.stat c) s (((d.leaveIdle s.env).endOk s.env h v 0
          { status := 0, version := x.version, res0 := x.len, res1 := x.stored
            extra := beBytes 8 x.opq.toNat ++ beBytes 2 x.slot ++
              beBytes 2 (b2n (d.onFlashNow x) + 2 * b2n (decide (0 < holesIn x.pieces x.len))) ++ zeros 4 }).afterCmd s g))) ∧
      (op = .list →
        (listStart c.body ≠ [] → startsWith (listStart c.body) (listPrefix c.body) = false →
          Gives (.list c) s ((d.refuseIn s.env h { status := 0x13 }).afterCmd s g)) ∧
        (listStart c.body = [] ∨ startsWith (listStart c.body) (listPrefix c.body) = true → ∀ xs ks : List KeyRec,
          xs = (((nsOf d.nss (bodyNs c.body)).map (·.keys)).getD []).filter (fun x => startsWith x.key (listPrefix c.body) &&
            ((listStart c.body).isEmpty || bytesLt (listStart c.body) x.key ||
              (x.key == listStart c.body && !decide (beAt c.body 6 2 % 2 = 1)))) →
          ks = xs.take (listLimit c.body) →
          Gives (.list c) s
            (((((d.leaveIdle s.env).countEnd' .list (bodyNs c.body) 0 ((ks.map KeyRec.listEntry).flatten).length).countOps v.ids
              ((ks.map KeyRec.listEntry).flatten).length).payloadSend s.env g.slot g.inc c.hdr.seq ((ks.map KeyRec.listEntry).flatten)
                { status := 0, res0 := ks.length, res1 := b2n (decide (ks.length < xs.length)) }).afterCmd s g))))

/-- FLUSH, REPLAY_REPORT, NS_USAGE, NOTICE_SUBSCRIBE, the register commands and an unknown opcode (R152, R186, R187, R190, R195, R196).
A FLUSH whose commands are all drained ends at once, and otherwise waits; FLUSH_COMPLETE ends it when they are.
REPLAY_REPORT answers with a tag's entry, with a flow's entries from a sequence number on, or drops them. NS_USAGE answers
with the counters of a namespace that the tenant sees. NOTICE_SUBSCRIBE subscribes the flow to a page, or unsubscribes it.
MGMT_READ and MGMT_WRITE are accesses of the network path and answer with its result. An opcode that is none of R152's is
refused with 0x111. Every command is refused at the first of the steps 1 to 4 that it fails (R157), and one without a
record waits for its snapshot point where ORDERED asks for that (R163). A repeated header counts and is acknowledged, one
beyond the credit counts, and one beyond a gap is kept (R119, R121). -/
def Obligations.ServiceCommandsAnswer : Prop :=
  ∀ (s : State) (op : Op) (c : Cmd) (arb : Arb) (f g k : Flow) (v : Verdict) (d : Drive) (h : HeldCmd), h = asked op c arb g →
    (op = .mgmtRead ∨ op = .mgmtWrite ∨ arb = .alone 0) →
    (allowed s op c arb f g k v d → d.mustWait h = true → d.unowned k h = false →
      Gives (cmdRow arb op c) s ((d.onJrn fun j => { j with heldOrd := j.heldOrd ++ [{ h with v := some v }] }).afterCmd s g)) ∧
    (allowed s op c arb f g k v d → d.mustWait h = false ∨ d.unowned k h = true →
      (op = .flush → ∀ (xs : List JRec) (miss : Nat),
        (beAt c.body 0 1 = 0 ∧ miss = 0 ∧
          xs = (d.jrn.recs.filter JRec.covered).filter (fun r => r.slot == k.slot && r.inc == k.inc && seqLt r.cmdSeq c.hdr.seq)) ∨
        (beAt c.body 0 1 = 1 ∧ ∀ named, named = ((List.range (beAt c.body 4 2)).map fun i => word (beAt c.body (8 + 4 * i) 4)) →
          xs = (d.jrn.recs.filter JRec.covered).filter (fun r => r.slot == k.slot && r.inc == k.inc && named.contains r.cmdSeq) ∧
          miss = (named.filter fun q => !((d.jrn.recs.filter JRec.covered).any fun r => r.slot == k.slot && r.inc == k.inc && r.cmdSeq == q)).length) ∨
        (beAt c.body 0 1 = 2 ∧ d.owns k (beAt c.body 2 2) = true ∧ miss = 0 ∧
          xs = (d.jrn.recs.filter JRec.covered).filter (fun r =>
            if r.op = .nsCreate then r.res0 == beAt c.body 2 2 else cmdNs r.op r.body == some (beAt c.body 2 2))) →
        ((∀ r ∈ xs, r.st ≠ .committed) →
          Gives (.flush c) s (((d.leaveIdle s.env).endOk s.env h v 0 { status := 0, res0 := xs.length, res1 := miss }).afterCmd s g)) ∧
        ((∃ r ∈ xs, r.st = .committed) →
          Gives (.flush c) s (((d.leaveIdle s.env).onJrn fun j => { j with flushes := j.flushes ++
            [⟨g.slot, g.inc, c.hdr.seq, (xs.filter (·.st == .committed)).map (·.rsn), xs.length, miss, v.ids⟩] }).afterCmd s g))) ∧
      (op = .flush → beAt c.body 0 1 = 2 → d.owns k (beAt c.body 2 2) = false →
        Gives (.flush c) s ((d.refuse s.env h { status := 0x14 }).afterCmd s g)) ∧
      (op = .replayReport → ∀ mine : Entry48 → Bool, mine = (fun x => x.flow == word (beAt c.body 4 4) && x.tenant == k.tenant) →
        ∀ gone : Entry48 → Bool, gone = (fun x => mine x && decide ((x.cmdSeq - word (beAt c.body 8 4)).toNat < 2 ^ 31)) →
        (beAt c.body 0 1 = 0 →
          (∀ x, (d.jrn.report.find? fun x => mine x && x.tag == word (beAt c.body 8 4)) = some x →
            Gives (.replayReport c) s
              (((d.leaveIdle s.env).endOk s.env h v 0 { status := 0, version := x.version, res0 := 1, extra := x.bytes }).afterCmd s g)) ∧
          ((d.jrn.report.find? fun x => mine x && x.tag == word (beAt c.body 8 4)) = none →
            Gives (.replayReport c) s ((d.refuse s.env h { status := 1 }).afterCmd s g))) ∧
        (beAt c.body 0 1 = 1 → ∀ all_ xs, all_ = ((d.jrn.report.filter gone).mergeSort fun x y =>
            decide ((x.cmdSeq - word (beAt c.body 8 4)).toNat ≤ (y.cmdSeq - word (beAt c.body 8 4)).toNat)) → xs = all_.take (beAt c.body 2 2) →
          (xs = [] → Gives (.replayReport c) s ((d.refuse s.env h { status := 1 }).afterCmd s g)) ∧
          (xs ≠ [] → Gives (.replayReport c) s
            ((((d.leaveIdle s.env).countOps v.ids 0).payloadSend s.env g.slot g.inc c.hdr.seq (xs.map Entry48.bytes).flatten
              { status := 0, res0 := xs.length, res1 := b2n (decide (xs.length < all_.length)) }).afterCmd s g))) ∧
        (beAt c.body 0 1 = 2 →
          (d.jrn.report.filter gone = [] → Gives (.replayReport c) s ((d.refuse s.env h { status := 1 }).afterCmd s g)) ∧
          (d.jrn.report.filter gone ≠ [] → Gives (.replayReport c) s
            ((((d.leaveIdle s.env).onJrn fun j => { j with report := j.report.filter fun x => !gone x }).endOk s.env h v 0
              { status := 0, res0 := (d.jrn.report.filter gone).length }).afterCmd s g)))) ∧
      (op = .nsUsage → (nsVisible d.nss k.tenant (bodyNs c.body) = false → Gives (.nsUsage c) s ((d.refuse s.env h { status := 0x14 }).afterCmd s g)) ∧
        (nsVisible d.nss k.tenant (bodyNs c.body) = true → ∀ x n, x = ((d.leaveIdle s.env).onNs (bodyNs c.body) fun n => n.settle s.env.clk.optime) →
          nsOf x.nss (bodyNs c.body) = some n →
          Gives (.nsUsage c) s ((x.endOk s.env h v 0
            { status := 0, version := n.version
              extra := n.usage (x.useOf (bodyNs c.body)) s.env (quotaUse x.nss (bodyNs c.body)) }).afterCmd s g))) ∧
      (op = .noticeSubscribe →
        ((pageInfo (beAt c.body 0 2)).isSome = false → Gives (.noticeSubscribe c) s ((d.refuse s.env h { status := 0x103 }).afterCmd s g)) ∧
        ((pageInfo (beAt c.body 0 2)).isSome = true →
          (beAt c.body 2 1 = 1 → k.subs.contains (beAt c.body 0 2) = false →
            64 ≤ k.subs.length ∨ 4096 ≤ (d.xpt.flows.map fun x => x.subs.length).foldl (· + ·) 0 →
            Gives (.noticeSubscribe c) s ((d.refuse s.env h { status := 0x140 }).afterCmd s g)) ∧
          (∀ subs : List Nat,
            (beAt c.body 2 1 = 1 ∧ k.subs.contains (beAt c.body 0 2) = true ∧ subs = k.subs) ∨
              (beAt c.body 2 1 = 1 ∧ k.subs.contains (beAt c.body 0 2) = false ∧ k.subs.length < 64 ∧
                (d.xpt.flows.map fun x => x.subs.length).foldl (· + ·) 0 < 4096 ∧ subs = k.subs ++ [beAt c.body 0 2]) ∨
              (beAt c.body 2 1 ≠ 1 ∧ subs = k.subs.filter (· != beAt c.body 0 2)) →
            Gives (.noticeSubscribe c) s
              ((((d.leaveIdle s.env).onFlow k.slot fun f => { f with subs := subs }).endOk s.env h v 0 { status := 0, res0 := subs.length }).afterCmd
                s g)))) ∧
      (op = .mgmtRead ∨ op = .mgmtWrite → ∀ rd : Bool, rd = (op == .mgmtRead) → ∀ r x,
        d.access s.env .net (beAt c.body 1 3) rd (beAt c.body 4 2)
          (if rd then [] else (List.range (beAt c.body 4 2)).map fun i => word (beAt c.body (8 + 4 * i) 4)) arb = (r, x) →
        (r.code = 0 → Gives (cmdRow arb op c) s
          (((Drive.keep .net (r, x)).endOk s.env h v 0 { status := 0, extra := (r.data.map fun w => beBytes 4 w.toNat).flatten }).afterCmd s g)) ∧
        (r.code ≠ 0 → Gives (cmdRow arb op c) s
          (((Drive.keep .net (r, x)).refuse s.env h
            { status := if r.code = 1 then 0xE else 0x100 + r.code, res0 := r.code + 256 * r.fail }).afterCmd s g)))) ∧
    (inSequence s c f g → (∀ code, op = .unknown code → knownCodes.contains code.toNat = false) → ∀ x, x = entered s op c f →
      ((∀ code, op = .unknown code → (g.cmds.any fun x => x.tag == c.tag) = false → stepOne g c op = 0x111) ∧
      (stepOne g c op ≠ 0 → Gives (cmdRow arb op c) s ((x.refuse s.env h { status := stepOne g c op }).afterCmd s g)) ∧
      (stepOne g c op = 0 → op ≠ .mgmtRead → op ≠ .mgmtWrite → x.pwr.readReady = false ∨ x.pwr.fawnStep ≠ 0 → ∀ n y, x.busyHint = (n, y) →
        Gives (cmdRow arb op c) s ((y.refuse s.env h { status := 0xE, retry := n }).afterCmd s g)) ∧
      (stepOne g c op = 0 → op = .mgmtRead ∨ op = .mgmtWrite ∨ (x.pwr.readReady = true ∧ x.pwr.fawnStep = 0) →
        (∀ q, q = stepThree op c.payload.toNat c.body → q ≠ 0 →
          Gives (cmdRow arb op c) s ((x.refuse s.env h { status := q, res0 := if q = 0x105 then 5 else 0 }).afterCmd s g)) ∧
        (stepThree op c.payload.toNat c.body = 0 → ∀ k', x.flowAt g.slot g.inc = some k' →
          (x.tableHeld (x.classTable op.cls) = true →
            Gives (cmdRow arb op c) s ((x.onMch fun m => { m with heldCmds := m.heldCmds ++ [h] }).afterCmd s g)) ∧
          (x.tableHeld (x.classTable op.cls) = false → ∀ w y, x.search op.cls (searchKey k'.tenant.toNat (searchNs op c.body) c.arr.port.toNat op.cls
              (x.vidOf c.arr) (searchPrefix op c.body)) = (w, y) →
            (w.allow = false → Gives (cmdRow arb op c) s
              ((y.refuse s.env h { status := 0xC, res0 := if op = .mgmtRead ∨ op = .mgmtWrite then 7 else 0 }).afterCmd s g)) ∧
            (w.allow = true → op.cls = 2 → y.rowBad w k'.tenant = true → Gives (cmdRow arb op c) s
              (((y.countRowBad s.env w k'.tenant (searchNs op c.body)).refuse s.env h { status := 0xC }).afterCmd s g))))))) ∧
    (comesTo s c.arr c.hdr f → c.body.length ≤ 4076 → (heard s c.arr c.hdr f).flow? f.slot = some g → g.slot = f.slot →
      (∀ code, op = .unknown code → knownCodes.contains code.toNat = false) →
      (seqLt c.hdr.seq g.rxNext = true ∨ (g.gap.any fun x => x.seq == c.hdr.seq) = true →
        Gives (cmdRow arb op c) s ((((heard s c.arr c.hdr f).bump Reg.XPT_RX_DUP 1).flowSend g.slot 7 0 0 0 []).settled s.env)) ∧
      (seqLt c.hdr.seq g.rxNext = false → (g.gap.any fun x => x.seq == c.hdr.seq) = false →
        (seqLt g.limit c.hdr.seq = true → Gives (cmdRow arb op c) s (((heard s c.arr c.hdr f).bump Reg.XPT_RX_OVERCREDIT 1).settled s.env)) ∧
        (seqLt g.limit c.hdr.seq = false → c.hdr.seq ≠ g.rxNext → Gives (cmdRow arb op c) s
          (((heard s c.arr c.hdr f).onFlow g.slot fun x => { x with gap := x.gap ++ [⟨c.hdr.seq, some (op, c, arb), 0⟩] }).settled s.env)))) ∧
    ∀ slot seq x, (s.d.jrn.flushes.find? fun x => x.slot == slot && x.cmdSeq == seq) = some x →
      (∀ r ∈ s.d.jrn.recs, x.rsns.contains r.rsn = true → r.st ≠ .committed) →
      Gives (.flushComplete slot seq) s
        (((((s.d.onJrn fun j => { j with flushes := j.flushes.filter fun y => !(y.slot == slot && y.cmdSeq == seq) }).countOps x.ids 0).answer s.env x.slot
          x.inc x.cmdSeq { status := 0, res0 := x.res0, res1 := x.res1 })).settled s.env)

/-! ### The intake journal (R308 to R345) -/

/-- A record from acceptance to release. COMMIT: an accepted record whose whole payload is in the journal, and before which none
was ready, takes the next CSN and the effects of commits take place, or it ends where R162 fails; one that is not ready waits
(R161 to R163, R315). ACCEPT_HELD accepts the oldest held command once a record pair is free (R312). UNIT_SLOT_ALLOCATE grants
as many blocks as the window, the free slots and the ledger allow (R313). SPILL_SEGMENT asks for the encryption of a run of a
spilling write (R316). JOURNAL_DRAIN begins a drain in its class's turn and within its credit, reading first what its
segments need (R318), or asks again for the segments of an abandoned unit (R17), and RECORD_DRAINED ends one whose segments
are all on flash, or a key command's whose effect the image holds (R319). -/
def Obligations.RecordsCommitAndDrain : Prop :=
  ∀ s : State,
    (∀ rsn r, s.d.rec? rsn = some r →
      (r.st = .accepted → s.d.complete r = true → s.d.jrn.flush = none → s.d.pwr.readReady = true → s.d.earlierFull r = false →
        (r.ordered = true → s.d.orderOk r.slot r.inc r.cmdSeq r.op (cmdNs r.op r.body) = true) →
        (∀ j, s.d.reevaluate s.env (s.d.projected s.env.clk.optime) r = j → j.status ≠ 0 →
          Gives (.commit rsn) s ((((s.d.bump Reg.JRN_ENDED 1).endRec s.env r.rsn j).settleRecs).settled s.env)) ∧
        ((s.d.reevaluate s.env (s.d.projected s.env.clk.optime) r).status = 0 →
          ∀ x, s.d.effectOn (s.d.projected s.env.clk.optime) r s.env.clk.optime none = x →
          Gives (.commit rsn) s
            ((((((s.d.onJrn fun j => { j with csnLast := j.csnLast + 1 }).bumpWide Reg.JRN_COMMITS 1).onRec' r.rsn fun r => { r with
              st := .committed, csn := s.d.jrn.csnLast + 1, version := x.version, commitMs := s.env.clk.optime, vmap := x.vmap })).effects
                s.env).settled s.env))) ∧
      (r.st ≠ .accepted ∨ s.d.complete r = false ∨ s.d.earlierFull r = true ∨
          (r.ordered = true ∧ s.d.orderOk r.slot r.inc r.cmdSeq r.op (cmdNs r.op r.body) = false) →
        Gives (.commit rsn) s (s.d.settled s.env)) ∧
      (∀ run, r.spill = true → 16 * run < ceilDiv r.payload 4096 → (r.spills.any fun x => x.1 == run) = false → r.erased = false →
        r.drain = none → (r.st = .accepted ∨ r.st = .committed) → s.d.isOn 10 = true →
        (∀ i, i < min 16 (ceilDiv r.payload 4096 - 16 * run) → ∃ u ∈ r.units, u.unit = 16 * run + i ∧ u.data.isSome) →
        Gives (.spillSegment rsn run) s
          ((((s.d.takeXlist r).onRec' rsn fun r => { r with spills := r.spills ++ [(run, 0, false)] }).askEnc r r.qos 0 (0x80000000 + run)
            (.drain rsn (0x80000000 + run)) (r.payUnits (16 * run) (min 16 (ceilDiv r.payload 4096 - 16 * run)))).settled s.env)) ∧
      (r.st = .committed → s.d.isOn 10 = true → s.d.affords [15] s.d.drainCost = true →
        (s.d.mayDrain r = true → (s.d.drainRound = true ∨ s.d.drainsOf r.qos < r.qos + 1) →
          Gives (.journalDrain rsn) s
            ((((r.drainSegs.map r.drainSeg).foldl (Drive.fetchOld rsn)
              (((s.d.serveDrain r.qos).takeXlist r).onRec' rsn fun x => { x with drain := some (r.drainSegs.map r.drainSeg) })).drainGo s.env
                rsn).settled s.env)) ∧
        (∀ ds xs, r.drain = some ds → xs = ((ds.filter fun x => x.gone && !r.givenUp x.index).map fun x => { x with gone := false }) →
          Gives (.journalDrain rsn) s
            (((xs.foldl (Drive.fetchOld r.rsn) (xs.foldl (fun d x => d.onDrain r.rsn x.index fun _ => x) s.d)).drainGo s.env r.rsn).settled
              s.env))) ∧
      (r.st = .committed → r.effect = true →
        (∀ ds, r.op.cls ≠ 5 → r.drain = some ds → (∀ x ∈ ds, x.done = true) →
          Gives (.recordDrained rsn) s (((s.d.markDrained rsn).settleRecs.ckptGo s.env).settled s.env)) ∧
        (r.op.cls = 5 → r.drain = none → r.keyDone = true →
          Gives (.recordDrained rsn) s ((((s.d.eraseImage s.env).markDrained rsn).settleRecs.ckptGo s.env).settled s.env)))) ∧
    (∀ h rest f v, s.d.jrn.heldAccept = h :: rest → s.d.jrn.recs.length < pairTotal → s.d.jrn.flush = none →
      s.d.flowAt h.slot h.inc = some f → h.v = some v →
      Gives .acceptHeld s
        (((s.d.onJrn fun j => { j with heldAccept := rest }).accept s.env h f v
          (if h.op.paid then s.d.growthOf h.op (bodyNs h.cmd.body) h.cmd.payload.toNat h.cmd.body else 0).toNat).settled s.env)) ∧
    ∀ slot seq f c rsn r n want, s.d.isOn 10 = true → s.d.flow? slot = some f → f.cmd? seq = some c → c.rsn = some rsn → c.rsp = none →
      s.d.rec? rsn = some r → r.st = .accepted → s.d.grantsWait f.arr.port.toNat = false →
      want = min c.blocks ((c.units.filter (·.conf)).length + s.d.fld Reg.XPT_WINDOW 31 16) - c.grantEnd →
      0 < n → n ≤ min want (slotTotal - s.d.jrn.unitsUsed) → (r.wt || s.d.admits s.env 0 n) = true →
      (∀ m, n < m → m ≤ min want (slotTotal - s.d.jrn.unitsUsed) → (r.wt || s.d.admits s.env 0 m) = false) →
      ∀ d : Drive, d = (s.d.onRec' r.rsn fun r => { r with
        units := r.units ++ (freeNums s.d.jrn.slotNums slotTotal n).zipIdx.map fun x => (⟨x.1, c.grantEnd + x.2, none⟩ : USlot) }) →
      Gives (.unitSlotAllocate slot seq) s
        (((if d.jrn.unitsUsed = slotTotal then d.setInt pgJrn 6 else d).grantTo slot seq (c.grantEnd + n)).settled s.env)

/-- Checkpoints, write-through and errors. CHECKPOINT and CKPT_NOW begin a checkpoint (R279, R344): it stands at once where its
trees have no new page, and otherwise when the last of both copies of every new page is on flash. WT_REQ_SET leaves
PROTECTED for entering write-through, WT_SAFE completes the entry once no earlier record is held, and WT_REQ_CLEAR returns to
PROTECTED at NRG_LEVEL with no demand (R338, R340). WT_COMMIT_PAGE sends the waiting commits out on a page, and
WT_COMMIT_EFFECT lets the effects whose pages are on flash take place in CSN order (R339). REPORT_ENTRY_EXPIRY drops the
oldest entry of the report (R334). JRN_REC_SEL latches a record entry, 0 for a FREE pair (R344). -/
def Obligations.CheckpointsAndWriteThrough : Prop :=
  (∀ s : State,
    (s.d.isOn 10 = true → s.d.pwr.readReady = true → Gives .checkpoint s ((s.d.startCkpt s.env).settled s.env)) ∧
    (s.d.jrnMode = 1 → (∀ r ∈ s.d.jrn.recs, r.wt = true) →
      Gives .wtSafe s (((((s.d.setMode 2).poke Reg.JRN_STAT 3 3 1).setInt pgJrn 1).swapIsolate).settled s.env)) ∧
    (∀ xs top, xs = s.d.jrn.recs.filter (fun r => r.wt && r.st == .committed && !r.effect && !r.commitPage) → xs ≠ [] →
      top = (xs.map (·.csn)).foldl max 0 → (∀ p ∈ s.d.med.pages, p.kind ≠ .commit top) →
      Gives .wtCommitPage s ((s.d.writePage (.commit top) 0).2.settled s.env)) ∧
    Gives .wtCommitEffect s ((s.d.effects s.env).settled s.env) ∧
    Gives .reportEntryExpiry s { s.d with jrn := { s.d.jrn with report := s.d.jrn.report.drop 1 } }) ∧
  (∀ (d : Drive) (e : Env) (nss : List Ns) (idx : List IdxPage) (next : Nat) (c : Ckpt), d.jrn.ckptOpen = none →
    nss = d.nss.map (fun n => n.settle e.clk.optime) → d.med.trees nss = (idx, next) → c = ⟨d.ckptTop, e.clk.optime, nss, idx⟩ →
    ((∀ p ∈ idx, p.num < d.med.nextIdx) →
      d.startCkpt e = ({ d with nss := nss }.onMed fun m => { m with idx := idx, nextIdx := next }).closeCkpt c) ∧
    ((∃ p ∈ idx, d.med.nextIdx ≤ p.num) → ∃ ids x, d.startCkpt e = (x : Drive).onJrn (fun j => { j with ckptOpen := some ⟨c, ids⟩ }) ∧
      ids.length = 2 * (idx.filter fun p => decide (d.med.nextIdx ≤ p.num)).length ∧ x.nss = nss ∧ x.jrn = d.jrn)) ∧
  (∀ (d : Drive) (e : Env) (c : CkptOpen) (id n : Nat) (p : Page), d.jrn.ckptOpen = some c → d.med.page id = some p → p.kind = .index n →
    (c.wait = [id] → d.pageOnFlash e id = (d.closeCkpt c.ckpt).ckptGo e) ∧
    ((∃ k ∈ c.wait, k ≠ id) → d.pageOnFlash e id = d.onJrn fun j => { j with ckptOpen := some { c with wait := c.wait.filter (· != id) } })) ∧
  (∀ (s t : State) (p : Path) (arb : Arb) (v : Word) (d x y : Drive), takes s p arb Reg.JRN_CTL v t → d = stored t p Reg.JRN_CTL v →
    x = (if bit v 1 = true ∧ d.isOn 10 = true ∧ d.pwr.readReady = true then d.startCkpt s.env else d) →
    y = (if t.d.flag Reg.JRN_CTL 0 = false ∧ x.flag Reg.JRN_CTL 0 = true ∧ x.jrnMode = 0 then (x.poke Reg.JRN_STAT 1 0 1).setInt pgJrn 0
      else if t.d.flag Reg.JRN_CTL 0 = true ∧ x.flag Reg.JRN_CTL 0 = false ∧ x.jrnMode ≠ 0 ∧ x.nrg.demand = false ∧ nrgLevel ≤ x.reserve s.env then
        ((x.poke Reg.JRN_STAT 3 3 0).poke Reg.JRN_STAT 1 0 0).setInt pgJrn 0
      else x) →
    ∀ row ∈ [Instr.ckptNow, .wtReqSet, .wtReqClear], Gives (row p v arb) s (y.accessed s p)) ∧
  ∀ (s t : State) (p : Path) (arb : Arb) (v : Word) (d : Drive), takes s p arb Reg.JRN_REC_SEL v t → d = stored t p Reg.JRN_REC_SEL v →
    Gives (.jrnRecSel p v arb) s
      ((d.setRegs (pk p (Reg.JRN_REC 0)) (leWords (match d.jrn.recs.find? fun r => r.pair == d.fld (pk p Reg.JRN_REC_SEL) 17 0 with
        | some r => r.bytes
        | none => zeros 128))).accessed s p)

/-- Uncorrectable DRAM errors (R226, R308, R321). One that an access finds is counted and latched with its address; one that the
patrol of the policy DRAM finds is too, and written as an event, and it makes the shadow line bad that it lies in. One in the
journal region counts there and is written as an event with its area, which the offsets of R308 give: one in both copies of
a record ends the command of a record not acknowledged yet with GUARD_GIVEUP's status and loses an acknowledged record; one
in a unit slot ends the command or marks the segments of the value that take bytes from the unit; one in the report drops
the entry. The unit slot tags count to the control area (the model's reading, log entry 133). -/
def Obligations.DramErrors : Prop :=
  (∀ (s : State) (a : BitVec 36) (both : Bool) (ce : Nat) (x : Drive), s.d.isOn 10 = true →
    x = (((((s.d.bumpOpen Reg.DRM_CE ce).bumpOpen Reg.DRM_UE 1).setWide Reg.DRM_UE_ADDR a.toNat).errCnt pgDrm).setInt pgDrm 0) →
    (a.toNat < 2 ^ 33 → Gives (.journalDramUe a ⟨both, ce⟩) s ((x.journalUe s.env a.toNat both).settled s.env)) ∧
    (2 ^ 33 ≤ a.toNat → Gives (.journalDramUe a ⟨both, ce⟩) s (x.settled s.env))) ∧
  (∀ (s : State) (a : BitVec 36) (both : Bool) (ce : Nat) (x : Drive), s.d.isOn 28 = true →
    x = ((((((s.d.bumpOpen Reg.SCB_DRM_CE ce).bumpOpen Reg.SCB_DRM_UE 1).setWide Reg.SCB_DRM_UE_ADDR a.toNat).setInt pgScb 2).errCnt pgScb).event
      s.env 0x503 (a.toNat / 2 ^ 32) (a.toNat % 2 ^ 32) 0 0) →
    (a.toNat < 2 ^ 33 → ∀ sh, Gives (.dramPatrolUe ⟨a, both, sh, ce⟩) s ((x.journalUe s.env a.toNat both).settled s.env)) ∧
    (2 ^ 33 ≤ a.toNat → Gives (.dramPatrolUe ⟨a, both, none, ce⟩) s (x.settled s.env) ∧
      ∀ n i, Gives (.dramPatrolUe ⟨a, both, (some (n, i)), ce⟩) s
        ((x.onMch fun m => { m with shadowUe := (m.shadowUe.filter (· != (n.toNat, i))) ++ [(n.toNat, i)] }).settled s.env))) ∧
  (∀ (d : Drive) (e : Env) (a : Nat) (both : Bool) (x : Drive),
    x = ((((d.bumpOpen Reg.JRN_DRAM_UE 1).errCnt pgJrn).setInt pgJrn 4).event e 0x800 (a / 2 ^ 32) (a % 2 ^ 32) (areaOf a).code 0) →
    (areaOf a = .control → d.journalUe e a both = x) ∧
    (∀ i, areaOf a = .report i → i < x.jrn.report.length →
      d.journalUe e a both = ((x.onJrn fun j => { j with report := j.report.eraseIdx i }).bump Reg.JRN_RPT_DROPPED 1).setInt pgJrn 5) ∧
    (∀ n, areaOf a = .unit n → d.journalUe e a both = x.unitUe e n) ∧
    (∀ n r, areaOf a = .record n → (x.jrn.recs.find? fun r => r.pair == n) = some r →
      (both = false → d.journalUe e a both = x) ∧
      (both = true → r.pending = true → d.journalUe e a both =
        (((x.bump Reg.FAB_GUARD_GIVEUP 1).event e 0x400 0 r.flow.toNat r.tag.toNat 0).endRec e r.rsn ⟨0x11, 0⟩).settleRecs) ∧
      (both = true → r.pending = false → r.st = .committed ∨ r.st = .drained → d.journalUe e a both = (x.recLost e r).settleRecs))) ∧
  (∀ (d : Drive) (e : Env) (n : Nat) (r : JRec) (u : USlot), (d.jrn.recs.find? fun r => r.units.any fun u => u.num == n) = some r →
    (r.units.find? fun u => u.num == n) = some u →
    (r.pending = true → d.unitUe e n =
      (((d.bump Reg.FAB_GUARD_GIVEUP 1).event e 0x400 0 r.flow.toNat r.tag.toNat u.unit).endRec e r.rsn ⟨0x11, 0⟩).settleRecs) ∧
    (r.pending = false → r.st = .committed → d.unitUe e n =
      ((List.range ((r.payAt + 4096 * u.unit + 4095) / 65536 - (r.payAt + 4096 * u.unit) / 65536 + 1)).map
        fun i => (r.payAt + 4096 * u.unit) / 65536 + i).foldl (fun d k => (d.countUnreadable e 0 (bodyNs r.body) r.version k).loseSeg r k) d)) ∧
  ∀ a : Nat, areaOf a =
    if a < 65536 then .control
    else if a < 6356992 then .report ((a - 65536) / 48)
    else if a < 67108864 then .control
    else if a < 603979776 then .record ((a - 67108864) / 2048)
    else if a < 1140850688 then .record ((a - 603979776) / 2048)
    else .unit ((a - 1140850688) / 4096)

/-! ### Policy match (R198 to R226) -/

/-- Searches and entry steps. The matches of a key stand in R208's order. A write of MCHn_ENT_CMD names its step in OP: 0 returns
an entry to the path's staging registers; 1, 2 and 3 invalidate it, write the staged entry and validate it, in the segment and
in its shadow, and change no other entry; a valid entry is not written, and during a save the three steps change nothing
(R213). A write of MCH_SRCH_CTL with GO or NEXT makes a diagnostic search, held while a segment of its table rebuilds: GO
reports the winner, counts a multiple match and a tie, and NEXT reports the next match after one that was reported, or that
none remains (R221). MCH_ACCT_SEL latches an ID's counters (R224). -/
def Obligations.SearchesAndEntrySteps : Prop :=
  (∀ (m : Mch) (wide : Bool) (segs : List Nat) (key : SKey), (m.matches wide segs key).Pairwise fun a b => b.before a = false) ∧
  (∀ (m : Mch) (n i j : Nat) (f : Entry → Entry), n < m.segs.length → n < m.shadows.length → (∀ x, (f x).idx = x.idx) →
    entryOf ((m.entStep n i f).seg n) j = (if j = i then f (entryOf (m.seg n) i) else entryOf (m.seg n) j) ∧
    entryOf (((m.entStep n i f).shadows[n]?).getD []) j =
      (if j = i then f (entryOf ((m.shadows[n]?).getD []) i) else entryOf ((m.shadows[n]?).getD []) j)) ∧
  (∀ (s t : State) (p : Path) (arb : Arb) (g : BitVec 2) (v : Word) (n i : Nat) (x : Entry) (d : Drive), n = g.toNat →
    takes s p arb (Reg.MCH_ENT_CMD n) v t → d = stored t p (Reg.MCH_ENT_CMD n) v → i = d.fld (pk p (Reg.MCH_ENT_IDX n)) 13 0 →
    x = entryOf (d.mch.seg n) i → ∀ row ∈ [Instr.entRead, .entInvalidate, .entWrite, .entValidate],
    (bits v 1 0 = 0 → Gives (row p g v arb) s
      ((((((d.setReg (pk p (Reg.MCH_ENT_PRIO n)) (word x.prio.toNat)).setWide (pk p (Reg.MCH_ENT_RES n)) x.row.toNat).setRegs
        (pk p (Reg.MCH_ENT_VAL n 0)) (leWords (leBytes 40 x.value.toNat))).setRegs (pk p (Reg.MCH_ENT_MASK n 0))
          (leWords (leBytes 40 x.mask.toNat))).entStat p n i 0).accessed s p)) ∧
    (d.mch.saving = none →
      (bits v 1 0 = 1 → Gives (row p g v arb) s
        (((d.onMch fun m => m.entStep n i fun x => { x with valid := false }).entStat p n i 0).accessed s p)) ∧
      (bits v 1 0 = 2 → (x.valid = true → Gives (row p g v arb) s ((d.entStat p n i 1).accessed s p)) ∧
        (x.valid = false → Gives (row p g v arb) s
          (((d.onMch fun m => { m.entStep n i fun _ => d.stagedEntry p n i with
            badShadow := m.badShadow.filter (· != (n, i)), shadowUe := m.shadowUe.filter (· != (n, i)) }).entStat p n i 0).accessed s p))) ∧
      (bits v 1 0 = 3 → Gives (row p g v arb) s
        (((d.onMch fun m => m.entStep n i fun x => { x with valid := true }).entStat p n i 0).accessed s p))) ∧
    (d.mch.saving.isSome → bits v 1 0 ≠ 0 → Gives (row p g v arb) s ((d.entStat p n i 2).accessed s p))) ∧
  (∀ (s t : State) (p : Path) (arb : Arb) (v : Word) (d : Drive), takes s p arb Reg.MCH_SRCH_CTL v t →
    d = stored t p Reg.MCH_SRCH_CTL v → ∀ row ∈ [Instr.diagSearchGo, .diagSearchNext],
    (bit v 8 = false → bit v 9 = false → Gives (row p v arb) s (d.accessed s p)) ∧
    (bit v 8 = true ∨ bit v 9 = true →
      (d.tableHeld (bits v 1 0) = true → Gives (row p v arb) s
        ((d.onMch fun m => { m with heldDiag := m.heldDiag ++ [(p, !bit v 8)] }).accessed s p)) ∧
      (d.tableHeld (bits v 1 0) = false → Gives (row p v arb) s ((d.diagSearch p (!bit v 8)).accessed s p)))) ∧
  (∀ (d x : Drive) (p : Path) (all : List Hit), x = d.bumpWide Reg.MCH_SEARCHES 1 → all = d.diagMatches p →
    (all.length < 2 → d.diagSearch p false = x.report p all all.head?) ∧
    (∀ a b l, all = a :: b :: l → a.prio ≠ b.prio → d.diagSearch p false = (x.bumpOpen Reg.MCH_MULTI 1).report p all (some a)) ∧
    (∀ a b l, all = a :: b :: l → a.prio = b.prio → d.diagSearch p false =
      (((x.bumpOpen Reg.MCH_MULTI 1).bumpOpen Reg.MCH_TIES 1).setInt
        (pgMch (match tableSegs x.geom (d.fld (pk p Reg.MCH_SRCH_CTL) 1 0) with | some (_, n :: _) => n | _ => 0)) 2).report p all (some a)) ∧
    (x.flag (pk p Reg.MCH_SRCH_RES) 31 = true → d.diagSearch p true =
      x.report p all (all.find? fun h => Hit.before ⟨x.fld (pk p Reg.MCH_SRCH_RES) 11 0, x.fld (pk p Reg.MCH_SRCH_IDX) 15 0, 0⟩ h)) ∧
    (x.flag (pk p Reg.MCH_SRCH_RES) 31 = false → d.diagSearch p true = x.report p all none)) ∧
  ∀ (s t : State) (p : Path) (arb : Arb) (v : Word) (d : Drive) (a : Acct), takes s p arb Reg.MCH_ACCT_SEL v t →
    d = stored t p Reg.MCH_ACCT_SEL v → a = d.mch.account (bits v 11 0) →
    Gives (.mchAcctSel p v arb) s
      ((((d.setWide (pk p Reg.MCH_ACCT_HITS) a.hits).setWide (pk p Reg.MCH_ACCT_OPS) a.ops).setWide
        (pk p Reg.MCH_ACCT_BYTES) a.bytes).accessed s p)

/-- Tables, shadows and sensors. A write of MCH_ENG_CTL that changes GEOM clears every VALID bit of the segments and the shadows
(R207), and one with SAVE takes what stands then, unless a save runs; MCH_SAVE_DONE makes it the saved tables (R218).
SEGMENT_REBUILD begins a rebuild of a segment that is not in one; SEGMENT_REBUILD_DONE copies the shadow into the segment, and
the OPENs, commands and diagnostic searches that waited run in their order (R219). SCRUB_COMPARE repairs an entry that differs
from its shadow and invalidates one whose shadow line is bad, found so by it or by the patrol (R216, R217, R226); the last
entry of the last segment ends a pass. MATCH_TEMP_SAMPLE keeps the junction temperatures of the domains that are up and the
throttle step that the hottest calls for (R220). -/
def Obligations.MatchTablesAndSensors : Prop :=
  (∀ (s t : State) (p : Path) (arb : Arb) (v : Word) (d x : Drive), takes s p arb Reg.MCH_ENG_CTL v t → d = stored t p Reg.MCH_ENG_CTL v →
    x = (if t.d.geom = d.geom then d else geomChanged d) → ∀ row ∈ [Instr.mchSave, .mchGeomWrite],
    (bit v 1 = true → x.mch.saving = none → Gives (row p v arb) s
      ((x.onMch fun m => { m with saving := some (m.shadows, x.reg Reg.MCH_ENG_CTL, x.reg Reg.MCH_CLASS_MAP) }).accessed s p)) ∧
    (bit v 1 = false ∨ x.mch.saving.isSome → Gives (row p v arb) s (x.accessed s p))) ∧
  (∀ d : Drive, ∀ l ∈ (geomChanged d).mch.segs ++ (geomChanged d).mch.shadows, ∀ x ∈ l, x.valid = false) ∧
  (∀ s : State, (s.d.mch.saving = none → Gives .mchSaveDone s s.d) ∧
    ∀ t c m, s.d.mch.saving = some (t, c, m) → Gives .mchSaveDone s
      { s.d with
        mch := { s.d.mch with saved := some (t, c, m), saving := none }
        saved := FMap.set rstVal (FMap.set rstVal s.d.saved Reg.MCH_ENG_CTL c) Reg.MCH_CLASS_MAP m }) ∧
  (∀ (s t : State) (p : Path) (arb : Arb) (g : BitVec 2) (v : Word) (a : Nat) (d : Drive), a = 0x60010 + g.toNat * 0x1000 →
    takes s p arb a v t → d = stored t p a v →
    (bit v 0 = true → d.mch.rebuilding.contains g.toNat = false →
      Gives (.segmentRebuild p g v arb) s ((d.onMch fun m => { m with rebuilding := m.rebuilding ++ [g.toNat] }).accessed s p)) ∧
    (bit v 0 = false ∨ d.mch.rebuilding.contains g.toNat = true → Gives (.segmentRebuild p g v arb) s (d.accessed s p))) ∧
  (∀ (s : State) (g : BitVec 2),
    (s.d.mch.rebuilding.contains g.toNat = false → Gives (.segmentRebuildDone g) s (s.d.settled s.env)) ∧
    (s.d.mch.rebuilding.contains g.toNat = true →
      ∀ x y z : Drive, x = (s.d.onMch fun m => { m with
        rebuilding := m.rebuilding.filter (· != g.toNat), segs := m.segs.set g.toNat ((m.shadows[g.toNat]?).getD []) }).setInt
          (pgMch g.toNat) 4 →
      y = s.d.mch.heldOpens.foldl (fun d o => d.openIn s.env o) (x.onMch fun m => { m with heldOpens := [], heldCmds := [] }) →
      z = s.d.mch.heldCmds.foldl (fun d h => d.fromFour s.env h) y →
      Gives (.segmentRebuildDone g) s
        ((z.mch.heldDiag.foldl (fun d h =>
          if d.tableHeld (d.fld (pk h.1 Reg.MCH_SRCH_CTL) 1 0) then d.onMch fun m => { m with heldDiag := m.heldDiag ++ [h] }
          else d.diagSearch h.1 h.2) (z.onMch fun m => { m with heldDiag := [] })).settled s.env))) ∧
  (∀ (s : State) (g : BitVec 2) (i : Nat) (bad ue : Bool) (x y : Entry) (pass : Drive → Drive), s.d.isOn 28 = true →
    s.d.isOn (16 + g.toNat) = true → i < 16384 → x = entryOf (s.d.mch.seg g.toNat) i → y = entryOf ((s.d.mch.shadows[g.toNat]?).getD []) i →
    ue = s.d.mch.shadowUe.contains (g.toNat, i) →
    pass = (fun d => if g = 3 ∧ i = 16383 then d.bumpOpen Reg.SCB_MCH_PASSES 1 else d) →
    (s.d.mch.badShadow.contains (g.toNat, i) = true → Gives (.scrubCompare g i bad) s (pass s.d)) ∧
    (s.d.mch.badShadow.contains (g.toNat, i) = false →
      (bad = false → ue = false → x = y → Gives (.scrubCompare g i bad) s (pass s.d)) ∧
      (bad = false → ue = false → x ≠ y → Gives (.scrubCompare g i bad) s
        (pass ((s.d.onMch fun m => { m with segs := modAt m.segs g.toNat fun l => putEntry l y }).scrubNote s.env g.toNat i 0 0
          Reg.SCB_MCH_FIXED 0x501))) ∧
      (bad = true ∨ ue = true → Gives (.scrubCompare g i bad) s
        (pass ((s.d.onMch fun m => { m.entStep g.toNat i fun x => { x with valid := false } with
          badShadow := m.badShadow ++ [(g.toNat, i)], shadowUe := m.shadowUe.filter (· != (g.toNat, i)) }).scrubNote s.env g.toNat i 1 1
            Reg.SCB_MCH_LOST 0x502))))) ∧
  ∀ (s : State) (t0 t1 t2 t3 k : Nat) (cool : Option Nat) (live temps : List Nat) (hot : Nat),
    live = (List.range 4).filter (fun n => s.d.isUp (16 + n)) →
    temps = (List.range 4).map (fun n => if live.contains n then ([t0, t1, t2, t3][n]?).getD 0 else (s.d.mch.temps[n]?).getD 0) →
    hot = (live.map fun n => ([t0, t1, t2, t3][n]?).getD 0).foldl max 0 →
    throttle s.d.mch.step s.d.mch.coolSince hot s.env.clk.optime = (k, cool) →
    (live = [] → Gives (.matchTempSample t0 t1 t2 t3) s s.d) ∧
    (live ≠ [] → ∀ d, d = (s.d.onMch fun m => { m with temps := temps, step := k, coolSince := cool }) →
      Gives (.matchTempSample t0 t1 t2 t3) s (if k = s.d.mch.step then d else d.setInt (pgMch 0) 3))

/-! ### Cipher (R227 to R265) -/

/-- The engine. CPH_DEQUEUE takes the head of a queue that may start (R245), once the ledger covers a request of the drive's own:
it is checked in R247's order and ends with the code of the check it fails; a read waits for a release slot; an encryption of
a slot that waits for a rewrite is set aside; any other request binds: an encryption takes the slot's generation and its CTR,
which then counts one more, so that no value is taken twice in a generation, and at the ceiling it ends with SLOT_EXHAUSTED; a
decryption runs under the generation it names (R231, R239, R247, R253). CPH_COMPLETION and TAG_FAILURE end a running request
with what it computes, with the fault of the engine's check, or with the failure of the tag (R248, R254, R256); a unit that
fails on the leg to or from the media engine is counted there, and abandoned at RESEND_MAX (R16, R17). SEGMENT_RELEASE sends a
segment of a read out whose units agree with their CRCs, and abandons a unit that fails RESEND_MAX times; RELEASE_SLOT_FREE
frees its slot (R253). REKEY_IN_FORCE brings the next generation into force (R239). -/
def Obligations.CipherRequests : Prop :=
  (∀ (s : State) (q c : Nat) (xs : List CphEnd) (x y : Drive),
    (s.d.unitOut 3 = true → Gives (.cphDequeue q) s s.d) ∧
    (s.d.unitOut 3 = false → c = (if 16 ≤ q ∧ q < 24 then cost 6 else cost 5) →
      ((q < 8 ∨ s.d.pwr.readReady = true ∧ 16 ≤ q ∧ q < 27) → s.d.affords [15] c = false → Gives (.cphDequeue q) s (s.d.settled s.env)) ∧
      ((q < 8 ∨ s.d.pwr.readReady = true ∧ 16 ≤ q ∧ q < 27 → s.d.affords [15] c = true) → s.d.dequeue s.env q = (xs, x) →
        y = (if x.cph.running.length ≤ s.d.cph.running.length then x
          else if q < 16 ∨ q = 24 ∨ q = 25 then x.pay [15] 5 1 else if q < 28 then x.pay [15] 6 1 else x) →
        Gives (.cphDequeue q) s ((y.cphEnds s.env xs).settled s.env)))) ∧
  (∀ (d x : Drive) (e : Env) (q : Nat) (r : CphReq) (rest : List CphReq), d.isOn 15 = true → d.mayStart q = true →
    d.cph.queue q = r :: rest → x = (d.serve q).onCph (fun c => { c with queues := c.queues.set q rest }) →
    (∀ code, d.dequeueCheck q r = some code → d.dequeue e q = ([r.ends code], x.useRsv r)) ∧
    (d.dequeueCheck q r = none →
      (r.release = true → d.cph.relFree = 0 → d.cph.relHeld r = false →
        d.dequeue e q = ([], if r.waited then d
          else (d.bump Reg.CPH_RELBUF_WAITS 1).onCph fun c => { c with queues := c.queues.set q ({ r with waited := true } :: rest) })) ∧
      (r.release = false ∨ d.cph.relFree ≠ 0 ∨ d.cph.relHeld r = true →
        (r.op.encrypts = true → (d.kslot r.slot).st = .rekeyWait →
          d.dequeue e q = ([], x.onCph fun c => { c with aside := c.aside ++ [r] })) ∧
        (r.op.encrypts = false ∨ (d.kslot r.slot).st ≠ .rekeyWait →
          d.dequeue e q = (if r.release then x.takeRel r else x).bind e r)))) ∧
  (∀ (d : Drive) (e : Env) (r : CphReq) (k : KeySlot), k = d.kslot r.slot →
    (r.op.encrypts = true → slotClass r.slot ≠ 2 → k.ceil + (if r.rsv then 2 ^ 20 else 0) ≤ k.ctr →
      d.bind e r = ([r.ends 0x0B], d.useRsv r)) ∧
    (r.op.encrypts = true → slotClass r.slot = 2 ∨ k.ctr < k.ceil + (if r.rsv then 2 ^ 20 else 0) →
      ∃ x, d.bind e r = ([], x) ∧ x.cph.running = d.cph.running ++ [{ r with bound := k.gen, ctr := k.ctr }] ∧
        (x.kslot r.slot).gen = k.gen ∧ (x.kslot r.slot).ctr = k.ctr + 1) ∧
    (r.op.encrypts = false → d.bind e r = ([], d.onCph fun c => { c with
      running := c.running ++ [{ r with bound := if r.op = .cmacVerify then k.gen else r.gen }] }))) ∧
  (∀ (s : State) (id : Nat) (fault : Option Nat) (media : Option (Nat × Nat)) (r : CphReq) (dead : Bool) (d : Drive), s.d.isOn 15 = true →
    (s.d.cph.running.find? fun r => r.id == id) = some r →
    (dead, d) = (match if r.op.encrypts && fault.isSome then none else media with
      | some (u, n) => s.d.mediaLeg s.env r u n | none => (false, s.d)) →
    (dead = true → Gives (.cphCompletion id ⟨fault, media⟩) s (d.settled s.env)) ∧
    (dead = false → ∀ y : Drive, y = d.onCph (fun c => { c with running := c.running.filter fun x => !(x.id == id) }) →
      (∀ u, fault = some u → Gives (.cphCompletion id ⟨fault, media⟩) s ((y.cphEnds s.env [(r.failed u).ends 0x41]).settled s.env)) ∧
      (fault = none → Gives (.cphCompletion id ⟨fault, media⟩) s
        ((y.cphEnds s.env [if (y.compute r).code = 0x41 then (r.failed (badUnit (plainUnits r.src))).ends 0x41 else y.compute r]).settled
          s.env)))) ∧
  (∀ (d : Drive) (e : Env) (r : CphReq) (u n k : Nat) (dead : Bool), k = min n d.resendMax → dead = decide (d.resendMax ≤ n) →
    (∀ rsn g x y, r.use = .drain rsn g → d.rec? rsn = some x → y = d.bump Reg.FAB_GUARD_DRAIN k →
      d.mediaLeg e r u n = (dead, if dead then (y.unrun r.id).2.drainAbandon e x g u else y)) ∧
    (∀ rsn g x y, r.use = .merge rsn g → d.rec? rsn = some x → y = d.bump Reg.FAB_GUARD_EGRESS k →
      d.mediaLeg e r u n = (dead, if dead then (y.unrun r.id).2.drainAbandon e x g u else y)) ∧
    (∀ job g y, r.use = .read job g → y = d.bump Reg.FAB_GUARD_EGRESS k →
      d.mediaLeg e r u n = (dead, if dead then (y.unrun r.id).2.readAbandon e job g u else y))) ∧
  (∀ (s : State) (id : Nat) (r : CphReq), s.d.isOn 15 = true → (s.d.cph.running.find? fun r => r.id == id) = some r →
    (r.op = .gcmDec → Gives (.tagFailure id) s
      (((s.d.onCph fun c => { c with running := c.running.filter fun x => !(x.id == id) }).cphEnds s.env [r.ends 9]).settled s.env)) ∧
    (r.op ≠ .gcmDec → Gives (.tagFailure id) s (s.d.settled s.env))) ∧
  (∀ (s : State) (job seg : Nat), Gives (.releaseSlotFree job seg) s
    ((s.d.onCph fun c => { c with release := c.release.filter fun x => !(x.job == job && x.seg == seg && x.released) }).settled s.env)) ∧
  (∀ (s : State) (job fails : Nat) (again : Option (Nat × Nat)) (j : Job) (x : JobSeg) (rest : List JobSeg) (fs : List Frag) (d : Drive),
    s.d.job? job = some j → j.segs = x :: rest → fs = j.tail ++ (x.pieces.flatMap fun p => p.frags x.have_) →
    fails = (if fragsOk fs then (again.map (·.2)).getD 0 else s.d.resendMax) → d = s.d.bump Reg.FAB_GUARD_EGRESS (min fails s.d.resendMax) →
    (x.need ≠ [] ∨ x.fault ≠ 0 → Gives (.segmentRelease ⟨job, again⟩) s (s.d.settled s.env)) ∧
    (x.need = [] → x.fault = 0 →
      (fails < s.d.resendMax → Gives (.segmentRelease ⟨job, again⟩) s ((d.sendSeg s.env j x rest fs).settled s.env)) ∧
      (s.d.resendMax ≤ fails → Gives (.segmentRelease ⟨job, again⟩) s
        (((d.readGiveup s.env j ((again.map (·.1)).getD j.done)).jobEnd s.env j 0xF none).settled s.env)))) ∧
  (∀ (d x y : Drive) (e : Env) (j j' : Job) (g : JobSeg) (rest : List JobSeg) (fs : List Frag) (n : Nat) (seq : Word),
    (seq, x) = (if j.rspSent then (j.seq, d) else d.rspSend e j.slot j.inc j.cmdSeq j.blocks j.len { j.ans 0 0 with res1 := 0 }) →
    n = (if rest = [] then ceilDiv (fragLen fs) 4096 else fragLen fs / 4096) →
    j' = { j with segs := rest, tail := (cutFrags (4096 * n) fs).2, done := j.done + n, rspSent := true, seq := seq } →
    y = (((x.addUnits j.slot seq ((assembleAll n fs).zipIdx.map fun u => txBlock (j.done + u.2) u.1) false).onCph fun c => { c with
      release := modIf c.release (fun y => y.job == j.id && (g.have_.map (·.1)).contains y.seg &&
        !(rest.flatMap fun z => z.need ++ z.have_.map (·.1)).contains y.seg) fun y => { y with released := true } }).onJob j.id fun _ => j') →
    d.sendSeg e j g rest fs = if rest = [] then y.jobEnd e j' 0 none else y.jobHead e j.id) ∧
  (∀ (s : State) (n : Nat) (ends : List CphEnd) (d : Drive),
    (∀ x, s.d.rekeyed s.env n = (some x, ends, d) → Gives (.rekeyInForce n) s (((d.loadsDone s.env [x]).cphEnds s.env ends).settled s.env)) ∧
    (s.d.rekeyed s.env n = (none, ends, d) → Gives (.rekeyInForce n) s ((d.cphEnds s.env ends).settled s.env))) ∧
  ∀ (d : Drive) (e : Env) (n : Nat) (k : KeySlot), d.kslot n = k →
    (k.st ≠ .rekeyWait ∨ k.waits = [] ∨ d.boundTo n ≠ 0 → d.rekeyed e n = (none, [], d)) ∧
    ∀ w, k.st = .rekeyWait → k.waits = [w] → d.boundTo n = 0 → (∀ r ∈ d.cph.aside, r.slot ≠ n) →
      ∃ d', d.rekeyed e n = (some (w.rsn, k.gen + 1), [], d') ∧ (d'.kslot n).st = .loaded ∧ (d'.kslot n).gen = k.gen + 1 ∧
        (d'.kslot n).ctr = 0 ∧ (d'.kslot n).owner = w.owner ∧ (d'.kslot n).gens = (k.gen + 1, w.key) :: k.gens

/-- Key slots. CEIL_SET gives the selected tenant or direct slot that holds a key a ceiling, not below what is used and
reserved, and changes nothing otherwise (R263). A write of CPH_DSLOT_CMD with 0xA5 and OP 1 loads the direct slot with the
path's staged key, which is zeroed: at once into an EMPTY slot, otherwise as a rewrite, and not at all while the slot holds
65,536 generations; OP 2 erases a slot that holds a key; any other word commands nothing (R241, R264). An erased slot holds no
key, and no request of it runs or is set aside. MQ_GO puts the staged request of the path on queue 31 unless one is busy
(R258). CPH_SLOT_SEL latches the record of a slot that exists for the path (R263). -/
def Obligations.KeySlots : Prop :=
  (∀ (s t : State) (p : Path) (arb : Arb) (v : Word) (d : Drive) (n new : Nat) (k : KeySlot), takes s p arb Reg.CPH_CEIL_SET v t →
    d = stored t p Reg.CPH_CEIL_SET v → n = d.fld Reg.CPH_SLOT_SEL 12 0 → new = d.wide Reg.CPH_CEIL_NEW → k = d.kslot n →
    (bits v 31 24 = 0xA5 → bit v 0 = true → k.st ≠ .empty → slotClass n ≠ 2 → 0 < new → new ≤ 2 ^ 64 - 2 ^ 21 →
      Gives (.ceilSet p v arb) s
        ((((d.setSlot { k with
          ceil := max new (k.ctr + d.rsvOf n)
          st := if k.st = .exhausted ∧ k.ctr < max new (k.ctr + d.rsvOf n) then .loaded else k.st }).nearCheck s.env n).exhaustCheck s.env
            n).accessed s p)) ∧
    (bits v 31 24 ≠ 0xA5 ∨ bit v 0 = false ∨ k.st = .empty ∨ slotClass n = 2 ∨ new = 0 ∨ 2 ^ 64 - 2 ^ 21 < new →
      Gives (.ceilSet p v arb) s (d.accessed s p))) ∧
  (∀ (s t : State) (p : Path) (arb : Arb) (v : Word) (d x : Drive) (n : Nat) (key : List Byte), takes s p arb Reg.CPH_DSLOT_CMD v t →
    d = stored t p Reg.CPH_DSLOT_CMD v → n = 4096 + bits v 3 0 → key = d.regBytes (pk p (Reg.CPH_DKEY 0)) 16 →
    x = d.setRegs (pk p (Reg.CPH_DKEY 0)) (List.replicate 16 0) → ∀ row ∈ [Instr.dslotLoad, .dslotErase],
    (bits v 31 24 ≠ 0xA5 ∨ bits v 9 8 = 0 ∨ bits v 9 8 = 3 → Gives (row p v arb) s (d.accessed s p)) ∧
    (bits v 31 24 = 0xA5 → bits v 9 8 = 1 →
      (65536 ≤ (x.kslot n).held → Gives (row p v arb) s (x.accessed s p)) ∧
      ((x.kslot n).held < 65536 →
        ((x.kslot n).st = .empty → Gives (row p v arb) s ((x.install n ⟨key, 0, 0, none, 0⟩).accessed s p)) ∧
        ((x.kslot n).st ≠ .empty → Gives (row p v arb) s
          ((x.setSlot { x.kslot n with st := .rekeyWait, waits := (x.kslot n).waits ++ [⟨key, 0, 0, none, 0⟩] }).accessed s p)))) ∧
    (bits v 31 24 = 0xA5 → bits v 9 8 = 2 →
      ((x.kslot n).st = .empty → Gives (row p v arb) s (x.accessed s p)) ∧
      ((x.kslot n).st ≠ .empty → ∀ loads ends y, x.eraseSlot s.env n = (loads, ends, y) →
        Gives (row p v arb) s ((y.cphEnds s.env ends).accessed s p)))) ∧
  (∀ (d : Drive) (e : Env) (n : Nat), ((d.eraseSlot e n).2.2.kslot n).st = .empty ∧ ((d.eraseSlot e n).2.2.kslot n).gens = [] ∧
    ((d.eraseSlot e n).2.2.kslot n).waits = [] ∧ ∀ r ∈ (d.eraseSlot e n).2.2.cph.running ++ (d.eraseSlot e n).2.2.cph.aside, r.slot ≠ n) ∧
  (∀ (s t : State) (p : Path) (arb : Arb) (v c : Word) (d : Drive) (slot : Nat), takes s p arb Reg.CPH_MQ_GO v t →
    d = stored t p Reg.CPH_MQ_GO v → c = d.reg (pk p Reg.CPH_MQ_CMD) → slot = 4096 + bits c 16 13 →
    (bit v 0 = true → d.flag (pk p Reg.CPH_MQ_STAT) 31 = false → Gives (.mqGo p v arb) s
      ((((d.setRegs (pk p (Reg.CPH_MQ_OUT 0)) (List.replicate 256 0)).poke (pk p Reg.CPH_MQ_STAT) 31 31 1).enqueue 31
        { CphReq.blank (cphOpOf (bits c 31 24)) slot (bits c 10 0) (.window p) with
          src := (d.regBytes (pk p (Reg.CPH_MQ_IN 0)) 256).take (bits c 10 0), tag := d.regBytes (pk p (Reg.CPH_MQ_TAG 0)) 4
          iv := leNat (d.regBytes (pk p (Reg.CPH_MQ_TWEAK 0)) 4), gen := (d.kslot slot).gen }).accessed s p)) ∧
    (bit v 0 = false ∨ d.flag (pk p Reg.CPH_MQ_STAT) 31 = true → Gives (.mqGo p v arb) s (d.accessed s p))) ∧
  ∀ (s t : State) (p : Path) (arb : Arb) (v : Word) (d : Drive) (n : Nat) (k : KeySlot), takes s p arb Reg.CPH_SLOT_SEL v t →
    d = stored t p Reg.CPH_SLOT_SEL v → n = d.fld Reg.CPH_SLOT_SEL 12 0 → k = d.kslot n →
    (4119 < bits v 12 0 → Gives (.cphSlotSel p v arb) s (d.accessed s p)) ∧
    (bits v 12 0 ≤ 4119 → Gives (.cphSlotSel p v arb) s
      ((((((((d.setReg (pk p Reg.CPH_SLOT_STATE)
        (word ((if slotClass n = 0 ∧ k.st ≠ .empty then k.owner.toNat else 0) * 2 ^ 16 + slotClass n * 16 + k.st.code))).setReg
          (pk p Reg.CPH_SLOT_GEN) (word k.gen)).setWide (pk p Reg.CPH_SLOT_CTR) k.ctr).setWide (pk p Reg.CPH_SLOT_RSV) (d.rsvOf n)).setWide
            (pk p Reg.CPH_SLOT_CEIL) k.ceil).setReg (pk p Reg.CPH_SLOT_BOUND)
              (word (min (d.cph.aside.filter fun r => r.slot == n).length 65535 * 65536 + d.boundTo n))).setReg (pk p Reg.CPH_SLOT_HELD)
                (word k.gens.length)).accessed s p))

/-! ### Media (R266 to R307) -/

/-- Reading and programming. MEDIA_READ is a unit's rung 0 read and READ_RETRY_RUNG one at a higher rung, where the unit is at
that rung and the ledger covers what a drain or a move reads: a converged read counts its corrected bits and makes the unit
good; a failed one takes the unit to the next enabled rung, and after the last marks it unreadable (R281, R284, R286). An index
page that is needed is read from a copy; with no copy left a leaf page is lost with the keys it holds, under one version of
its namespace, and an interior page is rebuilt (R280). STRIPE_PROGRAM_DONE programs the next stripe of the band whose turn it
is in its stream, or, on a failed channel, retires the block and closes the band (R270, R275, R292). The items of a stripe
keep their order and do not overlap; a new page goes to a die-page of the engine that writes it (R257, R269). -/
def Obligations.MediaReadsAndPrograms : Prop :=
  (∀ (s : State) (id j r ch p b k : Nat) (rd : Rd) (peers q : List Nat) (row : ReadRes → Instr),
    row = (fun x => if r = 0 then Instr.mediaRead ⟨id, j⟩ x else Instr.readRetryRung ⟨id, j⟩ r ⟨x, peers⟩) → q = (if r = 0 then [] else peers) →
    k = engineOf ch → (s.d.med.reads.find? fun y => y.id == id) = some rd → rd.units[j]? = some (.rung r) →
    s.d.med.unitDie rd.loc j = some (ch, p, b) → s.d.medOn k = true →
    (rd.credited = true → s.d.affords [20 + k] (if r = s.d.parityRung k then cost 10 else cost 8) = true) →
    (∀ n d, d = (s.d.readCounted rd r (ch, p, b) (.good n) q).resolved ch p r n.natAbs → Gives (row (.good n)) s
      ((((if d.fld (Reg.MED_RECLAIM k) 11 8 ≤ r then d.reclaim rd.loc.1 k 1 none else d).onRd rd.id fun y => { y with
        units := y.units.set j .good }).readsDone s.env).settled s.env)) ∧
    (∀ d next, d = s.d.readCounted rd r (ch, p, b) .decodeFail q → next = (if rd.second then UnitRd.bad else d.nextRung k r) →
      ∀ x : Drive, x = d.onRd rd.id (fun y => { y with units := y.units.set j next }) →
      (next ≠ .bad → Gives (row .decodeFail) s ((x.readsDone s.env).settled s.env)) ∧
      (next = .bad → Gives (row .decodeFail) s (((x.unreadable s.env rd.obj ch).readsDone s.env).settled s.env))) ∧
    (∀ n d next, d = s.d.readCounted rd r (ch, p, b) (.crcFail n) q → next = (if rd.second then UnitRd.bad else d.nextRung k r) →
      (next ≠ .bad → Gives (row (.crcFail n)) s
        ((((((d.bump (Reg.MED_REREAD_CRC k) 1).onLog fun h => { h with rereadCrc := h.rereadCrc + 1 }).onRd rd.id fun y => { y with
          units := y.units.set j next }).readsDone s.env)).settled s.env)) ∧
      (next = .bad → Gives (row (.crcFail n)) s
        ((((d.onRd rd.id fun y => { y with units := y.units.set j .bad }).unreadable s.env rd.obj ch).readsDone s.env).settled s.env)))) ∧
  (∀ (s : State) (t : RdTarget) (x : ReadRes) (peers : List Nat), Gives (.readRetryRung t 0 ⟨x, peers⟩) s (s.d.settled s.env) ∧
    ∀ r, s.d.med.reads.any (fun y => y.id == t.rd) = false → Gives (.mediaRead t x) s ((s.d.readsDone s.env).settled s.env) ∧
      (r ≠ 0 → Gives (.readRetryRung t r ⟨x, peers⟩) s ((s.d.readsDone s.env).settled s.env))) ∧
  (∀ (d : Drive) (e : Env) (num : Nat) (x : IdxPage), (d.med.idx.find? fun y => y.num == num) = some x → x.here = false →
    (d.med.reads.any fun r => r.use == .load num) = false →
    ((d.cph.queues.flatten ++ d.cph.running).any fun r => match r.use with | .load n _ => n == num | _ => false) = false →
    (∀ p, (d.med.pages.find? fun p => p.kind == .index num && p.loc.isSome) = some p →
      d.loadPage e num = d.startRead (.load num) (.page p.id) false) ∧
    ((∀ p ∈ d.med.pages, p.kind = .index num → p.loc = none) →
      (x.leaf = true → d.loadPage e num = d.leafLost e x) ∧ (x.leaf = false → d.loadPage e num = d.pageHere num))) ∧
  (∀ (d : Drive) (e : Env) (p : IdxPage) (n m : Ns) (gone : List KeyRec) (next : Nat) (vs : List Nat) (x : Drive), d.med.heldLeaf = [] → nsOf d.nss p.ns = some n →
    nsOf (d.projected e.clk.optime) p.ns = some m → next = m.nextVersion →
    gone = (n.keys.filter fun k => p.keys.any fun x => x.key == k.key && x.version == k.version) → gone ≠ [] →
    vs = gone.map KeyRec.version → x = { d with
      nss := onNsOf d.nss p.ns fun _ => { n.settle e.clk.optime with
        keys := n.keys.filter (fun k => !(p.keys.any fun x => x.key == k.key && x.version == k.version)), version := next }
      med := { d.med with idx := d.med.idx.filter fun q => !(q.num == p.num) } } →
    d.leafLost e p = (((x.issued p.ns next).event e 0x705 p.ns gone.length (vs.foldl min (vs.headD 0)) (vs.foldl max 0)).onLog fun h =>
      { h with lostKeys := h.lostKeys + gone.length })) ∧
  (∀ (s : State) (band : Nat) (b : Band), s.d.med.band band = some b →
    (s.d.halfOn b.group = true → s.d.mayProgram s.env b.stream = true → s.d.turn s.env b.stream = some band →
      (b.stream = .wl → s.d.wlAllowed s.env b.group = true) → s.d.stripeAfforded b = true →
      (∀ is d, s.d.stripeDone s.env b = (is, d) → Gives (.stripeProgramDone band none) s ((d.onFlash s.env is).settled s.env)) ∧
      (∀ ch, (b.blocks.any fun x => x.1 == ch) = true →
        Gives (.stripeProgramDone band (some ch)) s ((s.d.stripeFailed s.env b ch).settled s.env)) ∧
      ∀ ch, (b.blocks.any fun x => x.1 == ch) = false → Gives (.stripeProgramDone band (some ch)) s (s.d.settled s.env)) ∧
    (s.d.halfOn b.group = false ∨ s.d.mayProgram s.env b.stream = false ∨ s.d.turn s.env b.stream ≠ some band ∨
        b.stream = .wl ∧ s.d.wlAllowed s.env b.group = false ∨ s.d.stripeAfforded b = false →
      ∀ failed, Gives (.stripeProgramDone band failed) s (s.d.settled s.env))) ∧
  (∀ (d : Drive) (e : Env) (b : Band) (put : List (Item × Nat)) (rest : List Item), d.med.nextStripe b = (put, rest) →
    (put = [] → d.stripeDone e b = ([], d)) ∧ (put ≠ [] → (d.stripeDone e b).1 = put.map (·.1))) ∧
  (∀ (m : Med) (g cap off : Nat) (l : List Item), ((m.fill g cap off l).1.map (·.1) ++ (m.fill g cap off l).2).Perm l ∧
    ((m.fill g cap off l).1.map (·.1)).Sublist l ∧ (m.fill g cap off l).2.Sublist l ∧
    (∀ x ∈ (m.fill g cap off l).1, m.itemIn x.1 g = true ∧ off ≤ x.2 ∧ x.2 + m.objSize x.1.obj ≤ cap) ∧
    (m.fill g cap off l).1.Pairwise fun x y => x.2 + m.objSize x.1.obj ≤ y.2) ∧
  ∀ (m : Med) (dies : List (Nat × Nat × Nat)) (g : Nat) (used : List Nat) (l : List Item), used.length = dies.length →
    ((m.fillPages dies g used l).1.map (·.1) ++ (m.fillPages dies g used l).2).Perm l ∧
    (∀ x ∈ (m.fillPages dies g used l).1, m.itemIn x.1 g = true ∧ ∃ j u y, dies[j]? = some y ∧ x.2 = diePage * j + u ∧
      u + m.objSize x.1.obj ≤ diePage ∧ engineOf y.1 = m.itemEngine x.1) ∧
    (m.fillPages dies g used l).1.Pairwise fun x y => x.2 + m.objSize x.1.obj ≤ y.2 ∨ y.2 + m.objSize y.1.obj ≤ x.2

/-- Keeping the flash. ERASE_DONE counts the erase, where the ledger covers it: a block that passes is clean with one P/E cycle
more, one that fails is retired, and a band being opened takes another block (R290 to R292). GC_COPY reads the victim's valid
data for the GC stream, WEAR_LEVEL_MOVE the band of a die's least worn block for the WL stream (R288, R289, R291). DIE_OP_TIMEOUT
and SPARE_CMD make a die FAILING; a spare die that fails is FAILED; the channel's spare takes the position over, or the
position is retired (R293, R294, R304). REBUILD_BAND deals with the next band of a rebuild, on another block where the spare's
fails, and ends it after the last (R294, R295). HEALTH_LOG_SAVE keeps the log, HLOG_SNAP latches its 512 bytes, DIE_SEL latches
a die's record (R301, R306). USER_BANDS_WRITE checks the spare (R273, R274). -/
def Obligations.FlashUpkeep : Prop :=
  (∀ (s : State) (band ch p b k : Nat) (x : Band), s.d.med.band band = some x → (x.blocks.find? fun y => y.1 == ch) = some (ch, p, b) →
    k = engineOf ch → x.left.contains ch = true →
    (s.d.medOn k = true → s.d.mayProgram s.env x.stream = true → s.d.affords [20 + k] (cost 9) = true →
      ∀ d y z, d = (s.d.bump (Reg.MED_ERASES k) 1).pay [20 + k] 9 1 → y = d.eraseFails s.env ch p b →
        z = (if x.stream = .gc then y.event s.env 0x704 x.group p b 0 else y) →
        Gives (.eraseDone band ch true) s (((d.erased s.env ch p b).eraseLeft s.env band ch).settled s.env) ∧
        (x.st ≠ .opening → Gives (.eraseDone band ch false) s ((y.eraseLeft s.env band ch).settled s.env)) ∧
        (x.st = .opening →
          (∀ nb w, (z.med.band band).isSome = true → z.med.pickBlock s.env.fac x.stream (z.med.die ch p) = some nb →
            w = z.onBand band (fun b => { b with blocks := b.blocks.map fun x => if x.1 = ch then (ch, p, nb) else x }) →
            Gives (.eraseDone band ch false) s ((if w.med.isClean (ch, p, nb) then w.eraseLeft s.env band ch else w).settled s.env)) ∧
          (z.med.pickBlock s.env.fac x.stream (z.med.die ch p) = none → Gives (.eraseDone band ch false) s
            ((z.onMed fun m => { m with bands := m.bands.filter fun x => !(x.id == band) }).settled s.env)))) ∧
    (s.d.medOn k = false ∨ s.d.mayProgram s.env x.stream = false ∨ s.d.affords [20 + k] (cost 9) = false →
      ∀ ok, Gives (.eraseDone band ch ok) s (s.d.settled s.env))) ∧
  (∀ (d : Drive) (e : Env) (ch p b : Nat), ((d.erased e ch p b).med.die ch p).peOf b = (d.med.die ch p).peOf b + 1 ∧
    b ∈ ((d.erased e ch p b).med.die ch p).clean) ∧
  (∀ (s : State) (g level : Nat) (x : Drive), level = s.d.gcLevel s.env g → x = s.d.finishMoves s.env →
    (∀ id b, g < 32 → x.halfOn g = true → x.pwr.fawnStep ≠ 3 →
      x.affords (halfDoms g) (cost 8 + if level < 2 ∧ s.d.drainDue = true then cost 5 else 0) = true → x.sealedOff s.env = false →
      x.victim g = some id → x.med.band id = some b →
      (level ≠ 0 ∨ b.queued ≠ 0 → Gives (.gcCopy g) s ((x.moveBand s.env id .gc).settled s.env)) ∧
      (level = 0 → b.queued = 0 → Gives (.gcCopy g) s (x.settled s.env))) ∧
    (32 ≤ g ∨ x.halfOn g = false ∨ x.sealedOff s.env = true ∨ x.victim g = none → Gives (.gcCopy g) s (x.settled s.env))) ∧
  (∀ (s : State) (ch p g : Nat) (x : Die), x = s.d.med.die ch p → g = groupOf ch x.pos →
    (∀ b, ch < 32 → p < 17 → x.levelling = true → s.d.pwr.fawnStep ≠ 3 → s.d.med.rebuilding g = false →
      s.d.affords (halfDoms g) (cost 8) = true → s.d.sealedOff s.env = false →
      (s.d.med.bands.find? fun b => b.st == .closed && b.blocks.any fun y => y.1 == ch && y.2.1 == p &&
        x.peOf y.2.2 == (x.peStats s.env.fac).2.1) = some b →
      Gives (.wearLevelMove ch p) s ((s.d.moveBand s.env b.id .wl).settled s.env)) ∧
    (32 ≤ ch ∨ 17 ≤ p ∨ x.levelling = false ∨ s.d.med.rebuilding g = true ∨ s.d.sealedOff s.env = true →
      Gives (.wearLevelMove ch p) s (s.d.settled s.env))) ∧
  (∀ (s : State) (ch p : Nat),
    (ch < 32 → p < 17 → s.d.medOn (engineOf ch) = true → Gives (.dieOpTimeout ch p) s ((s.d.dieFailing s.env ch p 1).settled s.env)) ∧
    (32 ≤ ch ∨ 17 ≤ p ∨ s.d.medOn (engineOf ch) = false → Gives (.dieOpTimeout ch p) s (s.d.settled s.env))) ∧
  (∀ (s t : State) (q : Path) (arb : Arb) (k : BitVec 3) (v : Word) (d : Drive), takes s q arb (Reg.MED_SPARE_CMD k.toNat) v t →
    d = stored t q (Reg.MED_SPARE_CMD k.toNat) v →
    (∀ x, bits v 31 24 = 0xA5 → bits v 4 0 ≤ 15 → d.med.serving (4 * k.toNat + bits v 9 8) (bits v 4 0) = some x →
      Gives (.spareCmd q k v arb) s ((d.dieFailing s.env (4 * k.toNat + bits v 9 8) x.p 2).accessed s q)) ∧
    (bits v 31 24 ≠ 0xA5 ∨ 15 < bits v 4 0 ∨ d.med.serving (4 * k.toNat + bits v 9 8) (bits v 4 0) = none →
      Gives (.spareCmd q k v arb) s (d.accessed s q))) ∧
  (∀ (d : Drive) (e : Env) (ch p c : Nat) (x : Die), x = d.med.die ch p →
    (x.st = .failing ∨ x.st = .failed → d.dieFailing e ch p c = d) ∧
    (x.st = .spare → d.dieFailing e ch p c = (((((d.setInt (pgMed (engineOf ch)) 1).event e 0x701 ch p x.pos c).alarm e 5 1
      (ch * 32 + p)).onMed fun m => m.setDie { x with st := .failed, pos := 31 }).saveLog)) ∧
    (x.st = .active ∨ x.st = .rebuild →
      ((d.dieFailing e ch p c).med.die ch p).st = .failing ∧ ((d.dieFailing e ch p c).med.die ch p).pos = 31 ∧
      (∀ y, x.st = .active → (((List.range 17).map (d.med.die ch)).find? fun y => y.st == .spare) = some y →
        (d.dieFailing e ch p c).med.die ch y.p = { y with st := .rebuild, pos := x.pos }) ∧
      ((∀ q, q < 17 → (d.med.die ch q).st ≠ .spare) ∨ x.st = .rebuild → (groupOf ch x.pos, ch) ∈ (d.dieFailing e ch p c).med.gone))) ∧
  (∀ (s : State) (g : Nat) (r : Rebuild), (s.d.med.rebuilds.find? fun x => x.group == g) = some r →
    (s.d.halfOn g = true → s.d.pwr.fawnStep ≠ 3 → s.d.affords (halfDoms g) (if r.spare.isSome then cost 7 else cost 8) = true →
      (∀ failed, r.left = [] → Gives (.rebuildBand g failed) s
        ((if 0 < r.free then s.d.rebuildNext s.env r fun x => { x with free := x.free - 1 } else s.d.rebuildNext s.env r id).settled s.env)) ∧
      ∀ n rest, r.left = n :: rest →
        (∀ failed, s.d.med.band n = none →
          Gives (.rebuildBand g failed) s ((s.d.rebuildNext s.env r fun x => { x with left := rest }).settled s.env)) ∧
        ∀ b, s.d.med.band n = some b →
          (∀ p, r.spare = some p →
            (∀ failed, s.d.med.pickBlock s.env.fac .host (s.d.med.die r.ch p) = none → Gives (.rebuildBand g failed) s (s.d.settled s.env)) ∧
            ∀ nb, s.d.med.pickBlock s.env.fac .host (s.d.med.die r.ch p) = some nb →
              Gives (.rebuildBand g (some .erase)) s (((s.d.issueErase r.ch).eraseFails s.env r.ch p nb).settled s.env) ∧
              Gives (.rebuildBand g (some .program)) s
                ((((((s.d.issueErase r.ch).erased s.env r.ch p nb).bumpWide (Reg.MED_PROGS (engineOf r.ch)) 1).pay [20 + engineOf r.ch] 7
                  1).programFails s.env r.ch p nb).settled s.env) ∧
              Gives (.rebuildBand g none) s
                (((s.d.rebuildOnto s.env r b p nb).rebuildNext s.env r fun x => { x with left := rest }).settled s.env)) ∧
          (∀ failed, r.spare = none → Gives (.rebuildBand g failed) s
            (((if b.st = .closed then s.d.moveBand s.env n .gc else s.d).rebuildNext s.env r fun x => { x with
              left := rest, moved := x.moved ++ [n] }).settled s.env))) ∧
    (s.d.halfOn g = false ∨ s.d.pwr.fawnStep = 3 ∨ s.d.affords (halfDoms g) (if r.spare.isSome then cost 7 else cost 8) = false →
      ∀ failed, Gives (.rebuildBand g failed) s (s.d.settled s.env))) ∧
  (∀ (d x : Drive) (e : Env) (r y : Rebuild) (f : Rebuild → Rebuild),
    x = d.onMed (fun m => { m with rebuilds := modIf m.rebuilds (fun y => y.group == r.group && y.ch == r.ch) f }) →
    (x.med.rebuilds.find? fun y => y.group == r.group && y.ch == r.ch) = some y →
    (y.spare.isSome = true → y.left = [] → y.free = 0 → d.rebuildNext e r f = x.rebuildDone e y) ∧
    (y.spare = none ∨ y.left ≠ [] ∨ y.free ≠ 0 → d.rebuildNext e r f = x.movesDone e)) ∧
  (∀ s : State, Gives .healthLogSave s (s.d.onMed fun m => { m with hlogSaved := some m.hlog })) ∧
  (∀ (s t : State) (q : Path) (arb : Arb) (v : Word) (d : Drive), takes s q arb Reg.MED_HLOG_SNAP v t → d = stored t q Reg.MED_HLOG_SNAP v →
    Gives (.hlogSnap q v arb) s
      ((if bit v 0 then d.setRegs (pk q (Reg.MED_HLOG 0)) (leWords (d.hlogBytes s.env)) else d).accessed s q)) ∧
  (∀ (s t : State) (q : Path) (arb : Arb) (g : BitVec 3) (v : Word) (d : Drive) (k ch die now top : Nat) (x : Die), k = g.toNat →
    takes s q arb (Reg.MED_DIE_SEL k) v t → d = stored t q (Reg.MED_DIE_SEL k) v → ch = 4 * k + d.fld (pk q (Reg.MED_DIE_SEL k)) 9 8 →
    die = d.fld (pk q (Reg.MED_DIE_SEL k)) 4 0 → x = d.med.die ch die → now = Config.packageTemp d.free % 256 →
    top = max ((d.med.pkgMax[ch]?).getD 0) (max now (Config.packageTemp (d.free + 1) % 256)) →
    ∀ y : Nat → Nat → Drive → Drive, y = (fun a n d => d.setReg (pk q a) (word n)) →
    Gives (.dieSel q g v arb) s
      ((y (Reg.MED_DIE_LOOP k) (17 * ch + die) (y (Reg.MED_DIE_RECON k) x.recon ((y (Reg.MED_DIE_TEMP k) (top * 256 + now)
        (y (Reg.MED_DIE_FACT_BAD k) ((s.env.fac.bad[17 * ch + die]?).getD 0)
          (y (Reg.MED_DIE_BLOCKS k) (x.retired.length * 65536 + x.good s.env.fac) (y (Reg.MED_DIE_PE_AVG k) (min (x.peStats s.env.fac).2.2 65535)
            (y (Reg.MED_DIE_PE k) (min (x.peStats s.env.fac).1 65535 * 65536 + min (x.peStats s.env.fac).2.1 65535)
              (y (Reg.MED_DIE_STATE k) (x.pos * 65536 + x.st.code)
                { d with free := d.free + 2, med := { d.med with pkgMax := d.med.pkgMax.set ch top } })))))).setWide
                  (pk q (Reg.MED_DIE_CORR k)) x.corr))).accessed s q)) ∧
  ∀ (s t : State) (q : Path) (arb : Arb) (v : Word), takes s q arb Reg.MED_USER_BANDS v t →
    Gives (.userBandsWrite q v arb) s (((stored t q Reg.MED_USER_BANDS v).spareCheck s.env).accessed s q)

/-! ### Control (R346 to R376) -/

/-- Plant loops. LOOP_TICK applies the loop's output, which is MAN in MANUAL, SAFE when TRIPPED and the last computed one
otherwise, and then takes the sample, counts the overrun, or notes the invalid conversion; a third overrun in a row forces
the loop out (R349, R350, R364, R365). A computed output lies between UMIN and UMAX (R350, R353). GO_AUTO, GO_MANUAL and
CLEAR_TRIP, each a write of a command register with 0xA5, wait for the loop's next tick (R361), where they take it to RAMPING,
to MANUAL at the output in force and to MANUAL at SAFE (R359); GO_AUTO is refused where the configuration is not valid (R354),
and a FAILING or FAILED die takes no command (R367). SP_TARGET makes a running loop ramp again, but loop 10's, which the
ledger sets (R358, R389); MAN acts in MANUAL, and otherwise waits. -/
def Obligations.PlantLoops : Prop :=
  (∀ (s : State) (g : BitVec 4) (n peops k : Nat) (d : Drive) (u : Int), n = g.toNat →
    (∀ x, s.d.unitOut 4 = true ∨ s.d.isOn 5 = false ∨ 12 ≤ n → Gives (.loopTick g x peops) s s.d) ∧
    (n < 12 → s.d.unitOut 4 = false → s.d.isOn 5 = true →
      k = min peops 544 → d = ((s.d.setReg Reg.CTL_PEOPS (word k)).peak Reg.CTL_PEOPS_PEAK 9 0 k).applyOut n →
      u = mant (d.reg (Reg.CTL_L_OUT n)) → ∀ put : Drive → Drive, put = (fun d => { d with ctl := { d.ctl with prevU := d.ctl.prevU.set n u } }) →
      (∀ fb, Gives (.loopTick g ⟨some fb, false⟩ peops) s (put (d.loopSample s.env n (sat24 fb).1 k))) ∧
      Gives (.loopTick g ⟨none, false⟩ peops) s (put (d.loopInvalid s.env n k)) ∧
      ∀ fb x, x = (d.overrun n).onRun n (fun r => { r with next := none }) →
        ((d.lmode n = .auto ∨ d.lmode n = .ramping) ∧ 3 ≤ (x.lrun n).ovr → Gives (.loopTick g ⟨fb, true⟩ peops) s (put (x.forcedExit s.env n 1))) ∧
        (¬((d.lmode n = .auto ∨ d.lmode n = .ramping) ∧ 3 ≤ (x.lrun n).ovr) → Gives (.loopTick g ⟨fb, true⟩ peops) s (put x)))) ∧
  (∀ (d : Drive) (n : Nat), n < 12 →
    (d.lmode n = .manual → (d.lrun n).manNext = none → (d.applyOut n).reg (Reg.CTL_L_OUT n) = d.reg (Reg.CTL_L_MAN n)) ∧
    (d.lmode n = .tripped → (d.applyOut n).reg (Reg.CTL_L_OUT n) = d.reg (Reg.CTL_L_SAFE n)) ∧
    (d.lmode n = .auto ∨ d.lmode n = .ramping →
      (∀ u, (d.lrun n).next = some u → (d.applyOut n).reg (Reg.CTL_L_OUT n) = mantBits u) ∧
      ((d.lrun n).next = none → d.applyOut n = d))) ∧
  (∀ (d : Drive) (n peops : Nat) (fb : Int), n < d.ctl.runs.length → (d.loopCfg n).umin ≤ (d.loopCfg n).umax →
    ∃ u, ((d.loopLaw n fb peops).lrun n).next = some u ∧ (d.loopCfg n).umin ≤ u ∧ u ≤ (d.loopCfg n).umax) ∧
  (∀ (d : Drive) (n peops : Nat) (fb : Option Int), n < 12 →
    (d.lmode n = .manual → (d.loopCfg n).valid = false → ∀ x, fb = some x →
      d.loopCmd n .goAuto fb peops = (d.poke (Reg.CTL_L_STAT n) 3 3 1).setInt pgCtl 5) ∧
    (d.lmode n = .manual → (d.loopCfg n).valid = true → ∀ x, fb = some x → (d.loopCmd n .goAuto fb peops).lmode n = .ramping ∧
      (d.loopCmd n .goAuto fb peops).reg (Reg.CTL_L_SP_NOW n) = mantBits x) ∧
    (d.lmode n = .auto ∨ d.lmode n = .ramping → (d.loopCmd n .goManual fb peops).lmode n = .manual ∧
      (d.loopCmd n .goManual fb peops).reg (Reg.CTL_L_MAN n) = d.reg (Reg.CTL_L_OUT n)) ∧
    (d.lmode n = .tripped → (d.loopCmd n .clearTrip fb peops).lmode n = .manual ∧
      (d.loopCmd n .clearTrip fb peops).reg (Reg.CTL_L_MAN n) = d.reg (Reg.CTL_L_SAFE n))) ∧
  (∀ (s t : State) (p : Path) (arb : Arb) (loop : Nat) (v : Word) (d : Drive), takes s p arb (loopCmdA loop) v t →
    d = stored t p (loopCmdA loop) v → ∀ row ∈ [Instr.goAuto, .goManual, .clearTrip],
    (bits v 31 24 ≠ 0xA5 ∨ bits v 1 0 = 0 ∨ 12 ≤ loop ∧ loop < 16 → Gives (row p loop v arb) s (d.accessed s p)) ∧
    ∀ c, bits v 31 24 = 0xA5 → lcmdOf (bits v 1 0) = some c →
      (loop < 12 → Gives (row p loop v arb) s ((d.onRun loop fun r => { r with cmd := some c }).accessed s p)) ∧
      (loop = 16 → Gives (row p loop v arb) s ((d.thGive (d.fld (pk p Reg.CTL_TH_SEL) 9 0) c).accessed s p)) ∧
      (loop = 17 → Gives (row p loop v arb) s
        (((allTh.filter fun t => (d.th t).profile == bits v 5 4 && !d.thHeld t).foldl (fun d t => d.thGive t c) d).accessed s p))) ∧
  (∀ (d : Drive) (t : Nat) (c : LCmd),
    ((d.thDie t).st = .failing ∨ (d.thDie t).st = .failed → d.thGive t c = d) ∧
    (¬((d.thDie t).st = .failing ∨ (d.thDie t).st = .failed) →
      d.thGive t c = d.setTh { d.th t with run := { (d.th t).run with cmd := some c } })) ∧
  (∀ (s t : State) (p : Path) (arb : Arb) (g : BitVec 4) (v : Word) (n : Nat) (d : Drive), n = g.toNat →
    takes s p arb (Reg.CTL_L_SP_TARGET n) v t → d = stored t p (Reg.CTL_L_SP_TARGET n) v →
    (n ≠ 10 → d.lmode n = .auto ∨ d.lmode n = .ramping → Gives (.spTargetWrite p g v arb) s
      ((d.onRun n fun r => { r with spWritten := true }).accessed s p)) ∧
    (n = 10 ∨ ¬(d.lmode n = .auto ∨ d.lmode n = .ramping) → Gives (.spTargetWrite p g v arb) s (d.accessed s p))) ∧
  (∀ (s t : State) (p : Path) (arb : Arb) (n : Nat) (v : Word) (d : Drive), n < 16 → takes s p arb (Reg.CTL_L_MAN n) v t →
    d = stored t p (Reg.CTL_L_MAN n) v →
    (d.lmode n = .manual → Gives (.manWrite p n v arb) s (d.accessed s p)) ∧
    (d.lmode n ≠ .manual → Gives (.manWrite p n v arb) s ((d.onRun n fun r => { r with manNext := some (mant v) }).accessed s p))) ∧
  ∀ (s t : State) (p : Path) (arb : Arb) (loop : Nat) (v : Word) (d : Drive) (l : ThLoop), 16 ≤ loop → takes s p arb Reg.CTL_TH_MAN v t →
    d = stored t p Reg.CTL_TH_MAN v → l = d.th (d.fld (pk p Reg.CTL_TH_SEL) 9 0) →
    (l.mode = .manual → Gives (.manWrite p loop v arb) s ((d.setTh { l with man := mant v }).accessed s p)) ∧
    (l.mode ≠ .manual → Gives (.manWrite p loop v arb) s
      ((d.setTh { l with run := { l.run with manNext := some (mant v) } }).accessed s p))

/-- Threshold loops and stores. TH_LOOP_PERIOD applies the output, then takes the mean of the period's samples, or the waiting
command where there is none, or counts the overrun, the third of which forces the loop out; a loop that is held does nothing (R348,
R365, R367). TH_STATE_SAVE keeps each loop's mode, profile and integrator (R368). CTL_SAVE takes the settings that stand now, CTL_SAVE_DONE makes them
the stored ones (R372, R373). CTL_TH_SEL latches a loop that exists
(R375). -/
def Obligations.ThresholdLoops : Prop :=
  (∀ (s : State) (t : Nat) (ov : Bool), s.d.unitOut 4 = true ∨ s.d.isOn 5 = false ∨ 544 ≤ t ∨ s.d.thHeld t = true →
    Gives (.thLoopPeriod t ov) s s.d) ∧
  (∀ (s : State) (t : Nat) (l : ThLoop), s.d.unitOut 4 = false → s.d.isOn 5 = true → t < 544 → s.d.thHeld t = false →
    l = (s.d.th t).apply (s.d.loopCfg (profPage (s.d.th t).profile)) →
    (0 < l.n → Gives (.thLoopPeriod t false) s (s.d.thSamples s.env { l with run := { l.run with cmd := none } } l.run.cmd)) ∧
    (l.n = 0 → (l.run.cmd = none → Gives (.thLoopPeriod t false) s (s.d.setTh { l with run := { l.run with cmd := none } })) ∧
      ∀ k, l.run.cmd = some k → Gives (.thLoopPeriod t false) s (s.d.thCmd { l with run := { l.run with cmd := none } } k)) ∧
    ∀ m d, m = ({ l with sum := 0, n := 0, run := { l.run with ovr := l.run.ovr + 1 } } : ThLoop) →
      d = ((s.d.setTh m).bumpOpen Reg.CTL_OVERRUNS 1).setInt pgCtl 2 →
      (m.live = true ∧ 3 ≤ m.run.ovr → Gives (.thLoopPeriod t true) s (d.thForced s.env m 1)) ∧
      (¬(m.live = true ∧ 3 ≤ m.run.ovr) → Gives (.thLoopPeriod t true) s d)) ∧
  (∀ (l : ThLoop) (c : LoopCfg), l.run.manNext = none →
    (l.mode = .manual → (l.apply c).v = l.man) ∧ (l.mode = .tripped → (l.apply c).v = c.safe) ∧
    (l.live = true → (l.apply c).v = l.run.next.getD l.v)) ∧
  (∀ s : State, (s.d.isUp 5 = false → Gives .thStateSave s s.d) ∧ (s.d.isUp 5 = true → Gives .thStateSave s
    { s.d with ctl := { s.d.ctl with thSaved := s.d.ctl.th.map fun l =>
      ⟨l.t, l.mode, l.profile, ((l.s[(s.d.loopCfg (profPage l.profile)).sections - 1]?).getD (0, 0)).1⟩ } })) ∧
  (∀ (s t : State) (p : Path) (arb : Arb) (v : Word) (d : Drive), takes s p arb Reg.CTL_SAVE v t → d = stored t p Reg.CTL_SAVE v →
    (bit v 0 = true → d.ctl.saving = none → Gives (.ctlSave p v arb) s
      ((({ d with ctl := { d.ctl with
        saving := some (savePages d fun p => decide (0x21 ≤ p) && decide (p < 0x36) && p != 0x31) } }).poke Reg.CTL_SAVE 31 31 1).accessed s p)) ∧
    (bit v 0 = false ∨ d.ctl.saving.isSome → Gives (.ctlSave p v arb) s (d.accessed s p))) ∧
  (∀ s : State, (s.d.ctl.saving = none → Gives .ctlSaveDone s s.d) ∧ ∀ m, s.d.ctl.saving = some m → Gives .ctlSaveDone s
    ({ s.d with
      saved := m.foldl (fun (s : FMap) (e : Nat × Word) => FMap.insert s e.1 e.2) (s.d.saved.filter fun e => !(keyDom e.1 == 5))
      ctl := { s.d.ctl with saving := none } }.poke Reg.CTL_SAVE 31 31 0)) ∧
  ∀ (s t : State) (p : Path) (arb : Arb) (v : Word) (d : Drive) (l : ThLoop), takes s p arb Reg.CTL_TH_SEL v t →
    d = stored t p Reg.CTL_TH_SEL v → l = d.th (bits v 9 0) →
    (544 ≤ bits v 9 0 → Gives (.ctlThSel p v arb) s (d.accessed s p)) ∧
    (bits v 9 0 < 544 → Gives (.ctlThSel p v arb) s
      ((((((d.setReg (pk p Reg.CTL_TH_STATE) (word (min 3 l.run.ovr * 2 ^ 16 + b2n (d.thHeld (bits v 9 0)) * 2 ^ 12 + b2n l.frozen * 2 ^ 11 +
        b2n l.feOut * 2 ^ 10 + l.profile * 2 ^ 8 + l.cause * 16 + l.mode.code))).setReg (pk p Reg.CTL_TH_V) (mantBits l.v)).setReg
          (pk p Reg.CTL_TH_INTEG) (mantBits ((l.s[(d.loopCfg (profPage l.profile)).sections - 1]?).getD (0, 0)).1)).setReg
            (pk p Reg.CTL_TH_FB) (mantBits l.fb)).setReg (pk p Reg.CTL_TH_NSAMP) (word l.nsamp)).accessed s p))

/-! ### Energy, the pack, power states and domains (R21 to R28, R216, R377 to R405, R500, R501) -/

/-- The hold-up pack. RESERVE_MEASURE takes the pack's voltage while HOLDUP is ON and the pack present: the test at 8.0 V, the
demand for write-through, write-ready and loop 10's set-point follow (R377, R378, R383, R389, R392). PACK_TEST_PERIOD and HUP_MEAS_GO
start the test, or let it wait while write-through is demanded; PACK_TEST_DONE ends it with C and ESR, an ESR above 600 mΩ being
a fault (R378, R379). PACK_FAULT latches a cause, with its event and, where no cause stood before, the alarm and the demand;
PACK_COOLED clears cause 4 (R380). SWAP_REQUEST and SWAP_CANCEL, and the latch, run the swap, whose isolation comes once
WT_SAFE is 1 (R393, R501); PACK_FITTED and PACK_REMOVED are the bay's. The switch closes only with a good pack, and PRESENT falls
when it opens (R500, R501). -/
def Obligations.HoldUpPack : Prop :=
  (∀ (s : State) (mv : Nat),
    (s.d.isOn 4 = false ∨ s.d.pack.closed = false → Gives (.reserveMeasure mv) s (ledgerSp s.env s.d)) ∧
    ∀ d1 d2 d3 : Drive, s.d.isOn 4 = true → s.d.pack.closed = true →
      d1 = { s.d with pack := { s.d.pack with mv := mv % 65536, seen := true } } →
      d2 = (if d1.pack.test8 = true ∧ 8000 ≤ mv then ({ d1 with pack := { d1.pack with test8 := false } }).startTest s.env else d1) →
      d3 = (if d2.nrg.causes.contains 4 = false ∧ d2.reserve s.env * 10 ^ 6 < d2.need then d2.wtCause s.env 4 else d2) →
      Gives (.reserveMeasure mv) s (ledgerSp s.env (((d3.wtEnd s.env).tryWriteReady s.env).runDueTest s.env))) ∧
  (∀ (d : Drive) (e : Env),
    (d.isOn 4 = false ∨ d.pack.closed = false → d.dueTest e = d) ∧
    (d.isOn 4 = true → d.pack.closed = true →
      (d.nrg.demand = true → (d.pack.test = .none → d.dueTest e = { d with pack := { d.pack with test := .due } }) ∧
        (d.pack.test ≠ .none → d.dueTest e = d)) ∧
      (d.nrg.demand = false → (d.jrn.flush = none → (∀ r, d.pack.test ≠ .running r) →
        d.dueTest e = { d with pack := { d.pack with test := .running (d.reserve e) } }) ∧
        (d.jrn.flush.isSome ∨ (∃ r, d.pack.test = .running r) → d.dueTest e = d)))) ∧
  (∀ s : State, Gives .packTestPeriod s (s.d.dueTest s.env)) ∧
  (∀ (s t : State) (p : Path) (arb : Arb) (v : Word) (d : Drive), takes s p arb Reg.HUP_MEAS_CTL v t → d = stored t p Reg.HUP_MEAS_CTL v →
    Gives (.hupMeasGo p v arb) s ((if bit v 31 then d.dueTest s.env else d).accessed s p)) ∧
  (∀ (s : State) (c r : Nat), ((∀ k, s.d.pack.test ≠ .running k) → Gives (.packTestDone c r) s s.d) ∧
    ∀ (k : Nat) (d : Drive), s.d.pack.test = .running k →
      d = (({ s.d with pack := { s.d.pack with test := .none, capMf := c % 65536, esr := r % 65536, measured := true } }).setInt pgHup 3).judgeWorn
        s.env →
      Gives (.packTestDone c r) s (((if 600 < r % 65536 then packFaultOp 3 s.env d else d).wtEnd s.env).tryWriteReady s.env)) ∧
  (∀ (s : State) (c : Nat), (c = 0 ∨ 6 < c ∨ s.d.isOn 4 = false → Gives (.packFault c) s s.d) ∧
    ∀ d x : Drive, 1 ≤ c → c ≤ 6 → s.d.isOn 4 = true →
      d = ({ s.d with pack := { s.d.pack with
        faults := (if s.d.pack.faults.contains c then s.d.pack.faults else s.d.pack.faults ++ [c]), hot := s.d.pack.hot || c == 4 } }).setInt
          pgHup 1 →
      x = (d.errCnt pgHup).event s.env 0xA00 d.pack.faultCause d.pack.mv 0 0 →
      (s.d.pack.faults ≠ [] → Gives (.packFault c) s x) ∧
      (s.d.pack.faults = [] → Gives (.packFault c) s ((x.alarm s.env 3 1 x.pack.faultCause).wtCause s.env 2))) ∧
  (∀ s : State, Gives .packCooled s
    ((({ s.d with pack := { s.d.pack with hot := false, faults := s.d.pack.faults.filter (· != 4) } }).tryClose).wtEnd s.env)) ∧
  (∀ (s t : State) (p : Path) (arb : Arb) (v : Word) (d : Drive), takes s p arb Reg.HUP_SWAP v t → d = stored t p Reg.HUP_SWAP v →
    ∀ row ∈ [Instr.swapRequest, .swapCancel],
      (bits v 31 24 ≠ 0xA5 ∨ bits v 1 0 = 0 ∨ bits v 1 0 = 3 → Gives (row p v arb) s (d.accessed s p)) ∧
      (bits v 31 24 = 0xA5 → bits v 1 0 = 1 →
        (d.pwr.v12 = true → d.isOn 4 = true → d.pack.swap ≠ 1 → d.pack.swap ≠ 2 → Gives (row p v arb) s
          (((({ d with pack := { d.pack with swap := 1 } }).wtCause s.env 3).swapIsolate).accessed s p)) ∧
        (d.pwr.v12 = false ∨ d.isOn 4 = false ∨ d.pack.swap = 1 ∨ d.pack.swap = 2 → Gives (row p v arb) s (d.accessed s p))) ∧
      (bits v 31 24 = 0xA5 → bits v 1 0 = 2 →
        (d.pack.swap = 1 ∨ d.pack.swap = 2 → Gives (row p v arb) s
          (((({ d with pack := { d.pack with swap := 0 } }).tryClose).wtEnd s.env).accessed s p)) ∧
        (d.pack.swap ≠ 1 → d.pack.swap ≠ 2 → Gives (row p v arb) s (d.accessed s p)))) ∧
  (∀ d : Drive, (d.pack.swap = 1 ∧ d.flag Reg.JRN_STAT 3 = true →
      (d.swapIsolate).pack = { d.pack with closed := false, swap := 2, test := .none }) ∧
    (¬(d.pack.swap = 1 ∧ d.flag Reg.JRN_STAT 3 = true) → d.swapIsolate = d)) ∧
  (∀ (s : State) (rec : List Byte) (mv : Nat), (s.d.pack.det = true → Gives (.packFitted rec mv) s s.d) ∧
    (s.d.pack.det = false → Gives (.packFitted rec mv) s
      ((({ s.d with pack := { s.d.pack with
        det := true, recOk := packRecordOk rec, baySerial := beAt rec 8 8, faults := [], hot := false, worn := false, mv := mv % 65536
        test8 := true, refit := s.d.pack.swap == 2 } }).tryClose).wtEnd s.env))) ∧
  (∀ s : State,
    (s.d.pack.det = false → Gives .packRemoved s s.d) ∧
    (s.d.pack.det = true →
      Gives .packRemoved s (({ s.d with pack := { s.d.pack with det := false, recOk := false, refit := false } }).openSwitch s.env)) ∧
    (s.d.pack.latched = false → Gives .packLatchOpen s s.d) ∧
    (∀ d, d = { s.d with pack := { s.d.pack with latched := false } } → s.d.pack.latched = true →
      Gives .packLatchOpen s (if s.d.pack.det then d.swapRequest s.env else d)) ∧
    (s.d.pack.latched = true → Gives .packLatchClose s s.d) ∧
    ∀ d, d = { s.d with pack := { s.d.pack with latched := true } } → s.d.pack.latched = false →
      (s.d.pack.det = false → Gives .packLatchClose s d) ∧
      (s.d.pack.det = true → s.d.pack.refit = true → Gives .packLatchClose s ((d.tryClose).wtEnd s.env)) ∧
      (s.d.pack.det = true → s.d.pack.refit = false → Gives .packLatchClose s ((d.swapCancel s.env).tryClose))) ∧
  ∀ (d : Drive) (e : Env), (d.pack.closed = false → ((d.tryClose).pack.closed = true ↔
    d.isOn 4 = true ∧ d.pack.det = true ∧ d.pack.recOk = true ∧ d.pack.latched = true ∧
      (d.pack.fault = false ∨ d.pack.faultCause = 4) ∧ (d.pack.swap ≠ 2 ∨ d.pack.refit = true))) ∧
    (d.openSwitch e).pack.closed = false

/-- Grants and power states. The credit never falls below −CAP by a debit nor rises above CAP by time (R388). CHAIN_LEASE_EXPIRY
withdraws the chain grant where there is one and a lease runs (R386), STATIC_DRAW_ESTIMATE takes a new estimate from a measured
draw (R388). IDLE_ENTRY, where R395's conditions hold, puts the clusters to RETAIN and the media domains OFF. FAWN_ENTER_CMD and
FAWN_IDLE_TIMEOUT begin Fawn entry, which an activation's unit that is out delays (R469), FAWN_CANCEL_CMD and every wake source end it; FAWN_GRACE_END
ends the flows; FAWN_REACHED, with nothing left to drain, writes a checkpoint and, once that stands, the health log, and takes
every domain but AON, WAKE and RECORD down (R396). WAKE_TIMER_EXPIRY wakes the drive from Fawn and is kept as the source (R398). -/
def Obligations.PowerStates : Prop :=
  (∀ (d : Drive) (c ms : Nat), -(d.creditCap : Int) ≤ (d.debit c).nrg.credit ∧ (d.refill ms).nrg.credit ≤ (d.creditCap : Int)) ∧
  (∀ s : State, (s.d.nrg.chainGrant = 0 ∨ s.d.fld Reg.NRG_ALLOT_CTL 7 0 = 0 → Gives .chainLeaseExpiry s s.d) ∧
    (s.d.nrg.chainGrant ≠ 0 → s.d.fld Reg.NRG_ALLOT_CTL 7 0 ≠ 0 → Gives .chainLeaseExpiry s
      ((s.d.setGrants fun n => { n with chainGrant := 0 }).setInt pgNrg 4))) ∧
  (∀ (s : State) (w : Nat), Gives (.staticDrawEstimate w) s
    { s.d with nrg := { s.d.nrg with static := Config.staticFilter s.d.nrg.static (w - s.d.nrg.window / 100 - s.d.chargePower), window := 0 } }) ∧
  (∀ (s : State) (ok : Prop), ok = (s.d.pwr.ps = .active ∧ s.d.pwr.readReady = true ∧ s.d.jrn.flush = none ∧ s.d.fld Reg.NRG_PS_CTL 15 0 ≠ 0 ∧
      s.d.quiet = true ∧ s.d.drainsLeft = false ∧ (∀ g, g < 32 → s.d.gcLevel s.env g = 0) ∧ s.d.med.rebuilds = [] ∧
      (∀ x ∈ s.d.med.dies, x.levelling = false) ∧ s.d.ckptDue = false) →
    (¬ok → Gives .idleEntry s s.d) ∧
    (ok → Gives .idleEntry s (((List.range 8).map (20 + ·)).foldl (fun (d : Drive) k => d.disable s.env k false)
      ([7, 8, 9].foldl (fun d k => d.disable s.env k true) (s.d.setPs .idle))))) ∧
  (∀ d : Drive, ∀ ok : Prop, ok = ((d.pwr.ps = .active ∨ d.pwr.ps = .idle) ∧ d.pwr.readReady = true ∧ d.pwr.v12 = true ∧ d.jrn.flush = none) →
    (ok → d.enterFawn = ({ d with pwr := { d.pwr with fawnStep := 2 } }).setPs .fawnEntry) ∧ (¬ok → d.enterFawn = d)) ∧
  (∀ (d : Drive) (e : Env) (src : Nat), (d.pwr.ps ≠ .fawnEntry → d.cancelFawn e = d) ∧
    (d.pwr.ps = .fawnEntry → d.wake e src = d.cancelFawn e ∧ d.cancelFawn e =
      activeDomains.foldl (fun (d : Drive) k => d.enable e k) (({ d with pwr := { d.pwr with fawnStep := 0 } }).setPs .active))) ∧
  (∀ (s t : State) (p : Path) (arb : Arb) (v : Word) (d : Drive), takes s p arb Reg.NRG_PS_CMD v t → d = stored t p Reg.NRG_PS_CMD v →
    ∀ row ∈ [Instr.fawnEnterCmd, .fawnCancelCmd],
      (bits v 31 24 ≠ 0xA5 ∨ bits v 1 0 = 0 ∨ bits v 1 0 = 3 → Gives (row p v arb) s (d.accessed s p)) ∧
      (bits v 31 24 = 0xA5 → bits v 1 0 = 1 → d.upd.st = .activating ∧ d.upd.out.isSome → Gives (row p v arb) s
        ({ d with upd := { d.upd with fawnAsked := true } }.accessed s p)) ∧
      (bits v 31 24 = 0xA5 → bits v 1 0 = 1 → ¬(d.upd.st = .activating ∧ d.upd.out.isSome) → Gives (row p v arb) s
        ((d.enterFawn).accessed s p)) ∧
      (bits v 31 24 = 0xA5 → bits v 1 0 = 2 → Gives (row p v arb) s
        ((({ d with upd := { d.upd with fawnAsked := false } }).cancelFawn s.env).accessed s p))) ∧
  ∀ s : State,
    (s.d.pwr.ps = .idle → s.d.fld Reg.NRG_PS_CTL 31 16 ≠ 0 → Gives .fawnIdleTimeout s (s.d.enterFawn)) ∧
    (s.d.pwr.ps ≠ .idle ∨ s.d.fld Reg.NRG_PS_CTL 31 16 = 0 → Gives .fawnIdleTimeout s s.d) ∧
    (s.d.pwr.fawnStep = 2 → Gives .fawnGraceEnd s ((s.d.endFlows s.env).onPwr fun p => { p with fawnStep := 3 })) ∧
    (s.d.pwr.fawnStep ≠ 2 → Gives .fawnGraceEnd s s.d) ∧
    (∀ (wait : Prop) (d : Drive), wait = (s.d.pwr.fawnStep ≠ 3 ∨ s.d.drainsLeft = true ∨ s.d.jrn.ckptOpen.isSome ∨
        ∃ b ∈ s.d.med.bands, b.st = .moving) → d = s.d.startCkpt s.env →
      (wait → Gives .fawnReached s s.d) ∧
      (¬wait → d.jrn.ckptOpen.isSome → Gives .fawnReached s d) ∧
      (¬wait → d.jrn.ckptOpen = none → Gives .fawnReached s
        (((pdOrder.foldr (fun k (d : Drive) =>
            if k = 0 ∨ k = 1 ∨ k = 2 ∨ d.pdSt k = .off ∨ d.pdSt k = .retain then d
            else ((if d.isOn k then d.leaveOn s.env k else d).shutdownSave s.env k).pdDown k (k == 6 || k == 11))
          { d.saveLog with nrg := { d.saveLog.nrg with writeReady := false } }).enable s.env 1).onPwr
            fun p => { p with fawnStep := 0, ps := .fawn }))) ∧
    (s.d.pwr.ps ≠ .fawn ∨ s.d.reg Reg.AON_WAKE_TIMER = 0 → Gives .wakeTimerExpiry s s.d) ∧
    (∀ d, s.d.pwr.ps = .fawn → s.d.reg Reg.AON_WAKE_TIMER ≠ 0 →
      d = ((((s.d.setReg Reg.AON_WAKE_STAT (word 4)).bumpOpen Reg.AON_WAKES 1).setInt pgAon 0).disarm).setPs .waking →
      Gives .wakeTimerExpiry s
        ((activeDomains.foldl (fun (d : Drive) k => d.enable s.env k) { d with upd := s.d.upd.interrupted }).finishWake))

/-- Power domains (R21 to R24, R28, R216, R399 to R402). A domain comes ON when its supplies are there, its clocks can run, nothing
holds it and every domain it needs is ON; else its enable waits, and one that drains is marked to come back. A disable that
would break a need waits, and DRAM goes to RETAIN instead; SCRUB stays ON beside a MATCH domain. DOMAIN_ENABLE enables first
what the domain needs, and SCRUB beside a MATCH domain, and ends IDLE where it names a media domain; DOMAIN_DISABLE begins its shutdown, but AON and
RECORD stay and a flush overrides it; DOMAIN_SHUTDOWN_DONE takes it to its target, or back ON, and a flush that waited for it
begins. PD_FORCE_OFF_WRITE disables the domains it newly holds and frees the others. -/
def Obligations.PowerDomains : Prop :=
  (∀ (d : Drive) (e : Env) (k : Nat),
    (d.pdSt k = .on → d.enable1 e k = d) ∧
    (d.pdSt k = .draining → d.enable1 e k = d.onPd k fun x => { x with pend := true }) ∧
    (d.pdSt k = .off ∨ d.pdSt k = .retain →
      (d.mayStart' k = true ∧ (∀ j ∈ needsOf k, d.isOn j = true) → d.enable1 e k = d.pdOn e k) ∧
      (¬(d.mayStart' k = true ∧ ∀ j ∈ needsOf k, d.isOn j = true) →
        d.enable1 e k = if d.forcedOff k ∨ k = 0 then d else d.onPd k fun x => { x with want := true }))) ∧
  (∀ (d : Drive) (k : Nat), k ≠ 2 → (d.mayStart' k = true ↔ k ≠ 0 ∧ (d.pwr.v12 = true ∧ d.pwr.aux = true ∨ d.jrn.flush.isSome ∧ k ∉ lossDoms) ∧
    d.forcedOff k = false ∧ d.pwr.resetHold = false ∧ ∀ c ∈ clocksOf k, c ∈ (d.startClocks k).pwr.clks)) ∧
  (∀ (s : State) (k : Nat), 30 ≤ k → Gives (.domainEnable k) s s.d ∧ ∀ r, Gives (.domainDisable k r) s s.d) ∧
  (∀ (s : State) (k : Nat) (d : Drive), k < 30 → d = (if 20 ≤ k ∧ k < 28 ∧ s.d.pwr.ps = .idle then s.d.leaveIdle s.env else s.d) →
    (d.forcedOff k = true → Gives (.domainEnable k) s d) ∧
    (d.forcedOff k = false → ¬(16 ≤ k ∧ k ≤ 19) → Gives (.domainEnable k) s ((needsOf k ++ [k]).foldl (fun d j => d.enable1 s.env j) d)) ∧
    (d.forcedOff k = false → 16 ≤ k ∧ k ≤ 19 → Gives (.domainEnable k) s
      ((needsOf k ++ [k] ++ needsOf 28 ++ [28]).foldl (fun d j => d.enable1 s.env j) d))) ∧
  (∀ (s : State) (k : Nat) (r : Bool), k = 0 ∨ k = 2 ∨ s.d.jrn.flush.isSome → Gives (.domainDisable k r) s s.d) ∧
  (∀ (s : State) (k : Nat) (r : Bool), k ≠ 0 → k ≠ 2 → k < 30 → s.d.jrn.flush = none →
    (s.d.isOn k = true →
      (s.d.needed k = false → Gives (.domainDisable k r) s (s.d.beginDown s.env k (r && canRetain k))) ∧
      (s.d.needed k = true → k = 11 → Gives (.domainDisable k r) s (s.d.beginDown s.env 11 true)) ∧
      (s.d.needed k = true → k ≠ 11 → Gives (.domainDisable k r) s
        (s.d.onPd k fun x => { x with held := true, target := if r && canRetain k then .retain else .off }))) ∧
    (s.d.pdSt k = .draining → Gives (.domainDisable k r) s (s.d.onPd k fun x => { x with pend := false })) ∧
    (s.d.isUp k = false → Gives (.domainDisable k r) s s.d)) ∧
  (∀ (d : Drive) (k : Nat), d.needed k = true ↔
    (∃ j ∈ pdOrder, k ∈ needsOf j ∧ d.isUp j = true) ∨ k = 28 ∧ ∃ j, 16 ≤ j ∧ j ≤ 19 ∧ d.isUp j = true) ∧
  (∀ (s : State) (k : Nat),
    (s.d.pdSt k ≠ .draining → Gives (.domainShutdownDone k) s (s.d.flushBegin s.env)) ∧
    (s.d.pdSt k = .draining → (s.d.pd k).pend = false → Gives (.domainShutdownDone k) s
      ((((((s.d.shutdownSave s.env k).pdDown k ((s.d.pd k).target == .retain)).runHeldDown s.env).runWants s.env)).flushBegin s.env)) ∧
    (s.d.pdSt k = .draining → (s.d.pd k).pend = true → Gives (.domainShutdownDone k) s
      (((((((s.d.shutdownSave s.env k).pdDown k false).enable s.env k).runHeldDown s.env).runWants s.env)).flushBegin s.env))) ∧
  ∀ (s t : State) (p : Path) (arb : Arb) (v : Word) (d : Drive), takes s p arb Reg.AON_PD_FORCE_OFF v t → d = stored t p Reg.AON_PD_FORCE_OFF v →
    Gives (.pdForceOffWrite p v arb) s
      ((([7, 8, 9, 12, 13].foldl (fun (x : Drive) k =>
        if bit (d.reg Reg.AON_PD_FORCE_OFF) k && !bit (t.d.reg Reg.AON_PD_FORCE_OFF) k then
          (x.onPd k fun y => { y with want := false }).disable s.env k false
        else if bit (t.d.reg Reg.AON_PD_FORCE_OFF) k && !bit (d.reg Reg.AON_PD_FORCE_OFF) k then x.enable s.env k
        else x) d).updReleased).accessed s p)

/-! ### The chain (R406 to R434) -/

/-- The ring and the herd. A drive in the ring empties the slot of a frame of its own, and of one for it alone, and forwards every
other, one hop on; the Lead Doe marks a frame's lap and empties one that has the mark (R411, R412). CHAIN_LOCK_ACQUIRED and CHN_CTL.ENABLE put the drive into the
ring, CHAIN_LOCK_LOST and a cleared ENABLE take it out (R407). CLAIM_TIMER claims, once no TICK and no lower CLAIM has come for
TICK_LOSS_MS; the CLAIM of a lower serial ends the drive's claim, its own makes it Lead Doe (R414; when a candidate that gave way may
claim again is the model's choice). An enumeration step gives the drive the next slot, or its remembered one,
below shelf 256 and slot 64, or leaves it a Kid (R417); the ENUM's return sets the herd's counts (R418). The timers and
requests start one, at most one in any 100 ms (R418 to R420). A tick is taken, its loss is noted (R415, R421, R422). EMPTY_SLOT takes the
oldest frame that waits, up to four being out (R412); a bad or an unknown frame is counted and goes on (R410, R411). -/
def Obligations.RingAndHerd : Prop :=
  (∀ (d : Drive) (f : Frame) (put : Frame → Drive → Drive), put = (fun g x => { x with out := x.out ++ [.chain g.bytes true] }) →
    (d.inRing = false → d.relay f = d) ∧
    (d.inRing = true → f.src = d.chn.addrHalf → d.chn.onRing ≠ 0 →
      d.relay f = put emptyFrame { d with chn := { d.chn with onRing := d.chn.onRing - 1 } }) ∧
    (d.inRing = true → ¬(f.src = d.chn.addrHalf ∧ d.chn.onRing ≠ 0) →
      (f.bcast = false → d.chn.addr.isSome → f.dst = d.chn.addrHalf → d.relay f = put emptyFrame d) ∧
      (¬(f.bcast = false ∧ d.chn.addr.isSome ∧ f.dst = d.chn.addrHalf) →
        d.relay f = put (if d.chn.role = .lead then (if f.lap then emptyFrame else { f.hop with lap := true }) else f.hop) d))) ∧
  (∀ (d : Drive) (e : Env) (x : Enum) (sh last want slot : Nat) (r : Enum × Drive), r = d.enumStep e x →
    sh = (if d.chn.role ≠ .lead ∧ d.pwr.seg = true then x.shelf + 1 else x.shelf) →
    last = (if d.chn.role ≠ .lead ∧ d.pwr.seg = true then 0xFF else x.last) → want = (if last = 0xFF then 0 else last + 1) →
    ((∃ sl, x.flags % 2 = 0 ∧ d.chn.stored = some (x.herd, sh, sl) ∧ want ≤ sl ∧ slot = sl) ∨
      slot = want ∧ ∀ sl, x.flags % 2 = 0 → d.chn.stored = some (x.herd, sh, sl) → sl < want) →
    (255 < sh ∨ 63 < slot →
      r.1 = { x with shelf := sh, last := last, kids := x.kids + 1, flags := x.flags ||| 2 } ∧ r.2.chn.addr = none ∧ r.2.chn.overflow = true) ∧
    (sh ≤ 255 → slot ≤ 63 →
      r.1 = { x with shelf := sh, last := slot, drives := x.drives + 1 } ∧ r.2.chn.addr = some (BitVec.ofNat 14 (sh * 64 + slot)) ∧
        r.2.chn.stored = some (x.herd, sh, slot) ∧ r.2.chn.overflow = false)) ∧
  (∀ s : State,
    (s.d.isOn 0 = false → Gives .chainLockAcquired s s.d ∧ Gives .chainLockLost s s.d) ∧
    (s.d.isOn 0 = true → Gives .chainLockAcquired s ((s.d.onChn fun c => { c with lock := true }).goActive s.env) ∧
      Gives .chainLockLost s (({ s.d with chn := { s.d.chn with lock := false } }).goInactive))) ∧
  (∀ (d : Drive) (e : Env),
    d.goInactive = { d with chn := { d.chn with
      active := false, onRing := 0, slotted := false, enumOut := false, enumAsked := false
      role := if d.chn.addr.isSome then .addressed else .kid, lastTick := none, gaveWay := none } } ∧
    (d.chn.active = true ∨ d.chn.lock = false ∨ d.flag Reg.CHN_CTL 0 = false → d.goActive e = d) ∧
    (d.chn.active = false → d.chn.lock = true → d.flag Reg.CHN_CTL 0 = true → d.goActive e =
      (d.onChn fun c => { c with active := true, tickFrom := if c.lastTick.isNone then e.clk.optime else c.tickFrom }).chainIsReady e)) ∧
  (∀ (s t : State) (p : Path) (arb : Arb) (v : Word) (d : Drive), takes s p arb Reg.CHN_CTL v t → d = stored t p Reg.CHN_CTL v →
    Gives (.chnCtlEnableWrite p v arb) s
      ((if d.flag Reg.CHN_CTL 0 then d.goActive s.env else if d.chn.active then d.goInactive else d).accessed s p)) ∧
  (∀ (s : State) (may : Prop), may = (s.d.inRing = true ∧ s.d.pwr.lead = true ∧ s.d.flag Reg.CHN_CTL 1 = true ∧ s.d.chn.role ≠ .lead ∧
      s.d.chn.tickFrom + s.d.fld Reg.CHN_TIMERS 15 0 ≤ s.clk.optime ∧
      ∀ g, s.d.chn.gaveWay = some g → g + s.d.fld Reg.CHN_TIMERS 15 0 ≤ s.clk.optime) →
    (¬may → Gives .claimTimer s s.d) ∧
    ∀ (h : Long) (ep : Nat) (d : Drive), may → s.d.herdIdentity s.env = (h, ep) →
      d = { s.d with chn := { s.d.chn with role := .claiming, slotted := false } } →
      Gives .claimTimer s { d with out := d.out ++ [.chain (d.chn.frame 0x01 true 0xFFFF
        (beBytes 8 s.env.fac.serial.toNat ++ beBytes 8 h.toNat ++ beBytes 8 ep)).bytes true] }) ∧
  (∀ (s : State) (f : Frame), (f.ty ≠ 0x01 ∨ s.d.inRing = false → Gives (.claimFrame f) s s.d) ∧
    (f.ty = 0x01 → s.d.inRing = true →
      (s.d.chn.role = .lead → Gives (.claimFrame f) s (s.d.tickSend s.env)) ∧
      (s.d.chn.role ≠ .lead → s.d.candidate = false → Gives (.claimFrame f) s { s.d with out := s.d.out ++ [.chain f.hop.bytes true] }) ∧
      (s.d.chn.role ≠ .lead → s.d.candidate = true → f.at_ 8 8 < s.env.fac.serial.toNat → Gives (.claimFrame f) s
        { s.d with
          chn := { s.d.chn with role := s.d.chn.plain, gaveWay := some s.clk.optime }, out := s.d.out ++ [.chain f.hop.bytes true] }) ∧
      (s.d.chn.role = .claiming → s.d.candidate = true → f.at_ 8 8 = s.env.fac.serial.toNat → f.hops ≠ 0 →
        Gives (.claimFrame f) s (s.d.becomeLead s.env)) ∧
      (s.d.chn.role ≠ .lead → s.d.candidate = true → f.at_ 8 8 = s.env.fac.serial.toNat → f.hops = 0 ∨ s.d.chn.role ≠ .claiming →
        Gives (.claimFrame f) s s.d) ∧
      (s.d.chn.role ≠ .lead → s.d.candidate = true → s.env.fac.serial.toNat < f.at_ 8 8 → Gives (.claimFrame f) s s.d))) ∧
  (∀ (s : State) (f : Frame), (f.ty ≠ 0x02 ∨ s.d.inRing = false → Gives (.enumFrame f) s s.d ∧ ∀ ns, Gives (.enumReturn f ns) s s.d) ∧
    (f.ty = 0x02 → s.d.inRing = true →
      (s.d.chn.role = .lead → Gives (.enumFrame f) s (s.d.forward f)) ∧
      (s.d.chn.role ≠ .lead → (∀ ns, Gives (.enumReturn f ns) s s.d) ∧
        ∀ x d, (s.d.onChn fun c => { c with slotted := true }).enumStep s.env (enumOf f) = (x, d) →
        Gives (.enumFrame f) s (d.forward { f with body := padTo 52 x.body })) ∧
      (s.d.chn.enumOut = false ∨ (enumOf f).round ≠ s.d.chn.round → ∀ ns, Gives (.enumReturn f ns) s s.d) ∧
      ∀ ns d, s.d.chn.role = .lead → s.d.chn.enumOut = true → (enumOf f).round = s.d.chn.round →
        d = ((((((s.d.takeOwn.onChn fun c => { c with enumOut := false, renumber := false }).setReg Reg.CHN_HERD_DRIVES
          (word ((enumOf f).drives % 2 ^ 17))).setReg Reg.CHN_HERD_KIDS (word ((enumOf f).kids % 2 ^ 17))).setReg Reg.CHN_HERD_SHELVES
            (word (((enumOf f).shelf + 1) % 512))).setReg Reg.CHN_RING_NS (word ns)).setInt pgChn 1) →
        Gives (.enumReturn f ns) s
          ((if bitN (enumOf f).flags 1 then d.event s.env 0xB01 (enumOf f).kids (enumOf f).round 0 0 else d).enumServe s.env))) ∧
  (∀ s : State,
    (s.d.chn.role ≠ .lead ∨ s.d.inRing = false → Gives .enumTimeout s s.d ∧ Gives .tickTimer s s.d) ∧
    (s.d.chn.enumOut = false → Gives .enumTimeout s s.d) ∧
    (s.d.chn.role = .lead → s.d.inRing = true →
      (s.d.chn.enumOut = true → Gives .enumTimeout s
        ((s.d.onChn fun c => { c with onRing := c.onRing - 1, enumAt := some s.clk.optime }).enumSend s.env)) ∧
      Gives .tickTimer s ((s.d.tickSend s.env).enumServe s.env))) ∧
  (∀ (d : Drive) (e : Env) (rn : Bool) (soon : Prop), soon = (d.chn.enumOut = true ∨ ∃ t, d.chn.enumAt = some t ∧ e.clk.optime < t + 100) →
    (d.chn.role ≠ .lead ∨ d.inRing = false → d.enumStart e rn = d) ∧
    (d.chn.role = .lead → d.inRing = true → soon → d.enumStart e rn =
      d.onChn fun c => { c with enumAsked := true, renumber := if c.enumOut then c.renumber else c.renumber || rn }) ∧
    (d.chn.role = .lead → d.inRing = true → ¬soon → d.enumStart e rn =
      (d.onChn fun c => { c with
        round := c.round + 1, enumOut := true, enumAsked := false, renumber := rn || (c.enumAsked && c.renumber)
        enumAt := some e.clk.optime }).enumSend e)) ∧
  (∀ s : State,
    (∀ f : Frame, (f.ty ≠ 0x03 ∨ s.d.inRing = false → Gives (.enumReqFrame f) s s.d) ∧
      (f.ty = 0x03 → s.d.inRing = true → Gives (.enumReqFrame f) s ((s.d.relay f).enumStart s.env false))) ∧
    (∀ asks : Prop, asks = (s.d.inRing = true ∧ s.d.chn.addr = none ∧ s.d.chn.role ≠ .lead ∧ s.d.chn.overflow = false ∧
        ∀ x ∈ s.d.chn.txq, x.1.ty ≠ 0x03) →
      (asks → Gives .enumReqTimer s (s.d.chainSend (s.d.chn.frame 0x03 true 0xFFFF []))) ∧ (¬asks → Gives .enumReqTimer s s.d)) ∧
    (s.d.fld Reg.CHN_ENUM_CTL 15 0 ≠ 0 → Gives .enumPeriodExpiry s (s.d.enumStart s.env false)) ∧
    (s.d.fld Reg.CHN_ENUM_CTL 15 0 = 0 → Gives .enumPeriodExpiry s s.d) ∧
    (∀ (f : Frame) (n : Nat), f.ty ≠ 0x00 ∨ s.d.inRing = false → Gives (.emptySlot ⟨f, n⟩) s s.d) ∧
    ∀ (f : Frame) (n out : Nat), f.ty = 0x00 → s.d.inRing = true → out = s.d.chn.onRing - n →
      (s.d.chn.txq = [] ∨ 4 ≤ out → Gives (.emptySlot ⟨f, n⟩) s
        { s.d with chn := { s.d.chn with slotted := true, onRing := out }, out := s.d.out ++ [.chain emptyFrame.bytes true] }) ∧
      ∀ (g : Frame) (src : TxSrc) rest d, s.d.chn.txq = (g, src) :: rest → out < 4 →
        d = { s.d with chn := { s.d.chn with slotted := true, txq := rest, onRing := out + 1 }, out := s.d.out ++ [.chain g.bytes true] } →
        (src = .own → Gives (.emptySlot ⟨f, n⟩) s d) ∧ ∀ p, src = .window p → Gives (.emptySlot ⟨f, n⟩) s (d.txPend p)) ∧
  (∀ (s t : State) (p : Path) (arb : Arb) (v : Word) (d : Drive), takes s p arb Reg.CHN_ENUM_CMD v t → d = stored t p Reg.CHN_ENUM_CMD v →
    (bits v 31 24 = 0xA5 ∧ bit v 0 = true → Gives (.chnEnumCmd p v arb) s ((d.enumStart s.env (bit v 1)).accessed s p)) ∧
    (¬(bits v 31 24 = 0xA5 ∧ bit v 0 = true) → Gives (.chnEnumCmd p v arb) s (d.accessed s p))) ∧
  (∀ (s : State) (f : Frame), (f.ty ≠ 0x04 ∨ s.d.hears = false → Gives (.tickFrame f) s s.d) ∧
    (f.ty = 0x04 → s.d.hears = true →
      (f.at_ 8 8 = s.env.fac.serial.toNat → Gives (.tickFrame f) s (if s.d.inRing then s.d.takeOwn else s.d)) ∧
      (s.d.chn.role = .lead → s.env.fac.serial.toNat < f.at_ 8 8 → Gives (.tickFrame f) s
        ((s.d.chainOut emptyFrame true).enumStart s.env false)) ∧
      ∀ d, f.at_ 8 8 ≠ s.env.fac.serial.toNat → ¬(s.d.chn.role = .lead ∧ s.env.fac.serial.toNat < f.at_ 8 8) →
        d = (s.d.onChn fun c => { c with
          role := c.plain, slotted := true, enumOut := false, enumAsked := false
          lastTick := some (BitVec.ofNat 64 (f.at_ 16 8), f.at_ 24 8, s.clk.optime), tickFrom := s.clk.optime, gaveWay := none }).forward f →
        (s.d.chn.addr.isSome → (∃ sh sl, s.d.chn.stored = some (BitVec.ofNat 64 (f.at_ 16 8), sh, sl)) →
          Gives (.tickFrame f) s (d.takeTick (f.at_ 24 8) (f.at_ 8 8) f.hops.toNat)) ∧
        (s.d.chn.addr = none ∨ (∀ sh sl, s.d.chn.stored ≠ some (BitVec.ofNat 64 (f.at_ 16 8), sh, sl)) → Gives (.tickFrame f) s d))) ∧
  ∀ s : State,
    (s.d.chn.role = .lead → Gives .tickLoss s s.d) ∧
    (s.d.chn.role ≠ .lead → s.d.chn.addr.isSome → s.d.chn.herdLost = false → Gives .tickLoss s
      (((s.d.onChn fun c => { c with slotted := false, herdLost := true }).setInt pgChn 2).event s.env 0xB02 (s.d.wide Reg.CHN_EPOCH) 0 0 0)) ∧
    (s.d.chn.role ≠ .lead → s.d.chn.addr = none ∨ s.d.chn.herdLost = true → Gives .tickLoss s
      (s.d.onChn fun c => { c with slotted := false })) ∧
    (∀ f : Frame, (s.d.hears = true → frameKnown f.ty = false →
        Gives (.unknownFrame f) s ((s.d.bumpOpen Reg.CHN_RX_UNKNOWN 1).forward f)) ∧
      (s.d.hears = false ∨ frameKnown f.ty = true → Gives (.unknownFrame f) s s.d)) ∧
    ∀ bs endBad d, d = (s.d.bumpOpen Reg.CHN_CRC_BAD 1).errCnt pgChn →
      ∀ bad : Prop, bad = (endBad = true ∨ bs.length ≠ 64 ∨ (crc32c (bs.take 60)).toNat ≠ beAt bs 60 4) →
      (¬(bad ∧ s.d.hears = true) → Gives (.badChainFrame bs endBad) s s.d) ∧
      (bad → s.d.hears = true → s.d.chn.role ≠ .lead → Gives (.badChainFrame bs endBad) s (d.chainOut (frameOf bs).hop false)) ∧
      (bad → s.d.hears = true → s.d.chn.role = .lead → Gives (.badChainFrame bs endBad) s (d.chainOut emptyFrame true))

/-- What travels on the chain. ALLOT grants the last entry that holds the drive's address, where authentication is not required, it
verifies, or it raises no limit, and is counted where it is not applied (R424). ALARM and NOTICE set their registers (R425, R426). REG_RD and REG_WR for the
drive are accesses of the chain path and are answered (R427); REG_WR is discarded where it does not verify, or carries no
tag though one is required (R428). CHN_REQ_GO sends a request of the path, a read or a write, tagged where asked, REG_RSP ends it with
the answer, CHN_REQ_TIMEOUT without one (R430). CHN_TX_SEND queues the path's staged frame, an allotment or an alarm of the window's
codes (R431). -/
def Obligations.ChainTraffic : Prop :=
  (∀ (s : State) (f : Frame), (f.ty ≠ 0x05 ∨ s.d.hears = false → Gives (.allotFrame f) s s.d) ∧
    (f.ty = 0x05 → s.d.hears = true →
      (s.d.chn.addr.bind (fun a => allotEntry f a.toNat) = none → Gives (.allotFrame f) s (s.d.relay f)) ∧
      ∀ (a : BitVec 14) (w : Nat), s.d.chn.addr = some a → allotEntry f a.toNat = some w →
        ∀ ok d, (if f.auth then (s.d.relay f).chainVerify s.env f else (none, s.d.relay f)) = (ok, d) →
        ∀ cap, cap = (if s.d.nrg.chainGrant = 0 then s.d.fld Reg.NRG_ALLOT_CTL 25 16 else s.d.nrg.chainGrant) →
        (s.d.flag Reg.CHN_CTL 2 = false ∨ ok = some true ∨ w ≤ cap → Gives (.allotFrame f) s (d.grant .chain w)) ∧
        (s.d.flag Reg.CHN_CTL 2 = true → ok ≠ some true → cap < w → Gives (.allotFrame f) s (d.bumpOpen Reg.CHN_ALLOT_REFUSED 1)))) ∧
  (∀ (s : State) (f : Frame),
    (f.ty ≠ 0x06 ∨ s.d.hears = false → Gives (.alarmFrame f) s s.d) ∧
    (f.ty ≠ 0x07 ∨ s.d.hears = false → Gives (.chainNoticeFrame f) s s.d) ∧
    (s.d.hears = true → s.d.forMe f = false →
      (f.ty = 0x06 → Gives (.alarmFrame f) s (s.d.relay f)) ∧ (f.ty = 0x07 → Gives (.chainNoticeFrame f) s (s.d.relay f))) ∧
    (s.d.forMe f = true →
      (∀ d, f.ty = 0x06 → d = ((((s.d.relay f).setReg Reg.CHN_ALARM_LAST (word (f.at_ 8 2 * 65536 + f.src.toNat))).setReg Reg.CHN_ALARM_LEVEL
          (word (f.at_ 10 1 % 4))).bumpOpen Reg.CHN_ALARM_RX 1).setInt pgChn 3 →
        Gives (.alarmFrame f) s (if f.at_ 10 1 = 2 then d.event s.env 0xB03 (f.at_ 8 2) f.src.toNat (f.at_ 20 4) 0 else d)) ∧
      (f.ty = 0x07 → Gives (.chainNoticeFrame f) s
        ((((s.d.relay f).setReg Reg.CHN_NOTICE_LAST (word (f.at_ 8 2 * 65536 + f.src.toNat))).setReg Reg.CHN_NOTICE_VAL
          (word (f.at_ 12 4))).setInt pgChn 4)))) ∧
  (∀ (s : State) (f : Frame) (arb : Arb) (bad : Nat → Drive → Drive),
    bad = (fun why d => (((d.bumpOpen Reg.CHN_AUTH_BAD 1).errCnt pgChn).setInt pgChn 6).event s.env 0xB04 f.src.toNat why 0 0) →
    (f.ty ≠ 0x10 ∨ s.d.hears = false → Gives (.regRdFrame f arb) s (s.d.settled s.env)) ∧
    (f.ty ≠ 0x11 ∨ s.d.hears = false → Gives (.regWrFrame f arb) s (s.d.settled s.env)) ∧
    (s.d.hears = true → s.d.forMe f = false ∨ f.bcast = true →
      (f.ty = 0x10 → Gives (.regRdFrame f arb) s ((s.d.relay f).settled s.env)) ∧
      (f.ty = 0x11 → Gives (.regWrFrame f arb) s ((s.d.relay f).settled s.env))) ∧
    (s.d.forMe f = true → f.bcast = false →
      (f.ty = 0x10 → Gives (.regRdFrame f arb) s (((s.d.relay f).regFrame s.env f true arb).settled s.env)) ∧
      (f.ty = 0x11 → f.auth = false →
        (s.d.flag Reg.CHN_CTL 2 = false → Gives (.regWrFrame f arb) s (((s.d.relay f).regFrame s.env f false arb).settled s.env)) ∧
        (s.d.flag Reg.CHN_CTL 2 = true → Gives (.regWrFrame f arb) s ((bad 0 (s.d.relay f)).settled s.env))) ∧
      ∀ ok d, f.ty = 0x11 → f.auth = true → (s.d.relay f).chainVerify s.env f = (ok, d) →
        (ok = some true → Gives (.regWrFrame f arb) s ((d.regFrame s.env f false arb).settled s.env)) ∧
        (ok ≠ some true → Gives (.regWrFrame f arb) s ((bad (b2n ok.isNone) d).settled s.env)))) ∧
  (∀ (d : Drive) (e : Env) (f : Frame) (rd : Bool) (arb : Arb) (r : AccRes) (x : Drive),
    d.access e .chain (f.at_ 8 3) rd (f.at_ 11 1) ((List.range (min (f.at_ 11 1) 8)).map fun i => word (f.at_ (12 + 4 * i) 4)) arb = (r, x) →
    (Drive.keep .chain (r, x)).isOn 0 = true → d.regFrame e f rd arb = (Drive.keep .chain (r, x)).regRsp f r) ∧
  (∀ (s : State) (f : Frame), (f.ty ≠ 0x12 ∨ s.d.hears = false → Gives (.regRspFrame f) s s.d) ∧
    (f.ty = 0x12 → s.d.hears = true →
      (s.d.forMe f = false ∨ f.bcast = true ∨ ((s.d.relay f).chn.reqs.find? fun r => r.rid == f.rid) = none →
        Gives (.regRspFrame f) s (s.d.relay f)) ∧
      ∀ r d, s.d.forMe f = true → f.bcast = false → ((s.d.relay f).chn.reqs.find? fun r => r.rid == f.rid) = some r →
        d = ((s.d.relay f).onChn fun c => { c with reqs := c.reqs.filter fun x => !(x.path == r.path) }).setReg (pk r.path Reg.CHN_REQ_STAT)
          (word (f.at_ 13 1 * 65536 + f.at_ 12 1 * 256 + 2)) →
        Gives (.regRspFrame f) s
          ((if r.op = 1 ∧ f.at_ 12 1 = 0 then
              (List.range (min r.count 8)).foldl (fun (d : Drive) i =>
                d.setReg (pk r.path (Reg.CHN_REQ_DATA i)) (word (f.at_ (16 + 4 * i) 4))) d
            else d).setInt pgChn 5))) ∧
  (∀ (s t : State) (p : Path) (arb : Arb) (v : Word) (d : Drive) (op n : Nat) (f : Frame) (send : Frame → Drive → Drive),
    takes s p arb Reg.CHN_REQ_CMD v t → d = stored t p Reg.CHN_REQ_CMD v → op = d.fld (pk p Reg.CHN_REQ_CMD) 6 5 →
    n = d.fld (pk p Reg.CHN_REQ_CMD) 3 0 →
    f = { d.chn.frame (if op = 1 then 0x10 else 0x11) false (BitVec.ofNat 16 (d.fld (pk p Reg.CHN_REQ_DST) 15 0))
      (beBytes 3 (d.reg (pk p Reg.CHN_REQ_ADDR)).toNat ++ beBytes 1 n ++ ((List.range 8).map fun i =>
        if op = 2 ∧ i < n then beBytes 4 (d.reg (pk p (Reg.CHN_REQ_DATA i))).toNat else zeros 4).flatten) with
      rid := d.chn.nextRid, auth := op == 2 && d.flag (pk p Reg.CHN_REQ_CMD) 7 } →
    (∀ g (x : Drive), send g x =
      let y := (x.setReg (pk p Reg.CHN_REQ_STAT) 1).onChn fun c => { c with
        nextRid := d.chn.nextRid + 1
        reqs := ⟨p, d.chn.nextRid, BitVec.ofNat 16 (d.fld (pk p Reg.CHN_REQ_DST) 15 0), op, n⟩ :: c.reqs.filter fun r => !(r.path == p) }
      if x.chn.addr.isSome then y.chainSend g else y) →
    (bit v 8 = false ∨ d.fld (pk p Reg.CHN_REQ_STAT) 2 0 = 1 ∨ op = 0 ∨ op = 3 → Gives (.chnReqGo p v arb) s (d.accessed s p)) ∧
    (bit v 8 = true → d.fld (pk p Reg.CHN_REQ_STAT) 2 0 ≠ 1 → op = 1 ∨ op = 2 →
      (f.auth = false → Gives (.chnReqGo p v arb) s ((send f d).accessed s p)) ∧
      ∀ g x, f.auth = true → d.chainTag s.env f = (g, x) →
        (g = none → Gives (.chnReqGo p v arb) s ((x.setReg (pk p Reg.CHN_REQ_STAT) 4).accessed s p)) ∧
        ∀ tag, g = some tag → Gives (.chnReqGo p v arb) s ((send { f with body := f.body.take 36 ++ tag } x).accessed s p))) ∧
  (∀ (s : State) (p : Path),
    (s.d.fld (pk p Reg.CHN_REQ_STAT) 2 0 = 1 → Gives (.chnReqTimeout p) s
      (((s.d.onChn fun c => { c with reqs := c.reqs.filter fun x => !(x.path == p) }).setReg (pk p Reg.CHN_REQ_STAT) 3).setInt pgChn 5)) ∧
    (s.d.fld (pk p Reg.CHN_REQ_STAT) 2 0 ≠ 1 → Gives (.chnReqTimeout p) s s.d)) ∧
  ∀ (s t : State) (p : Path) (arb : Arb) (v : Word) (d x : Drive) (body : List Byte) (send : Frame → Drive → Drive),
    takes s p arb Reg.CHN_TX_CTL v t → d = stored t p Reg.CHN_TX_CTL v → x = d.poke (pk p Reg.CHN_TX_STAT) 1 1 0 →
    body = ((List.range 13).map fun w => beBytes 4 (x.reg (pk p (Reg.CHN_TX_BODY w))).toNat).flatten →
    send = (fun g y => (y.onChn fun c => { c with txq := c.txq ++ [(g, .window p)] }).txPend p) →
    (bits v 31 24 ≠ 0xA5 → Gives (.chnTxSend p v arb) s (d.accessed s p)) ∧
    (bits v 31 24 = 0xA5 →
      (d.chn.addr = none ∨ (bits v 23 16 ≠ 5 ∧ ¬(bits v 23 16 = 6 ∧ 0x8000 ≤ beAt body 0 2)) → Gives (.chnTxSend p v arb) s (x.accessed s p)) ∧
      (d.chn.addr.isSome →
        (bits v 23 16 = 5 → bit v 8 = false → Gives (.chnTxSend p v arb) s ((send (x.chn.frame 0x05 true 0xFFFF body) x).accessed s p)) ∧
        (∀ f g y, bits v 23 16 = 5 → bit v 8 = true → f = { x.chn.frame 0x05 true 0xFFFF body with auth := true } →
          x.chainTag s.env f = (g, y) →
          (g = none → Gives (.chnTxSend p v arb) s ((y.poke (pk p Reg.CHN_TX_STAT) 1 1 1).accessed s p)) ∧
          ∀ tag, g = some tag → Gives (.chnTxSend p v arb) s ((send { f with body := f.body.take 36 ++ tag } y).accessed s p)) ∧
        (bits v 23 16 = 6 → 0x8000 ≤ beAt body 0 2 → Gives (.chnTxSend p v arb) s
          ((send (x.chn.frame 0x06 true 0xFFFF body) x).accessed s p))))

/-! ### The event recorder (R435 to R457) -/

/-- The event recorder. An event never takes the queue past 64 and never touches the NOR (R442, R445): it enters where a token and an
entry are free, and is dropped and counted where not, or where the recorder is frozen, clearing, full or at fault (R443, R444, R448). RECORD_PROGRAM stages the
head of the queue, and the last slot is FULL's (R445, R448); its completion writes one slot, good or bad, and the third bad one in
a row is a fault (R446).
SUMMARY_DUE, RECORDER_SCAN, the freeze and its end, the window of 16 slots, the challenge, the clear and the host record and
rate windows follow (R439, R444, R447, R450 to R454, R457). That a host bucket, too, is full at a power-up is the model's
reading (log entry 30). -/
def Obligations.EventRecorder : Prop :=
  (∀ (d : Drive) (k : Clock) (h : Option Path) (c a b x y : Nat), d.recorder.queue.length ≤ 64 →
    (d.offer k h c a b x y).recorder.queue.length ≤ 64 ∧ (d.offer k h c a b x y).recorder.nor = d.recorder.nor ∧
      (d.recorder.frozen = true → (d.offer k h c a b x y).recorder.queue = d.recorder.queue)) ∧
  (∀ (d : Drive) (k : Clock) (h : Option Path) (c a b x y : Nat),
    (d.recorder.clearing = true → d.offer k h c a b x y = d.recDrop c 2 k.optime) ∧
    (d.recorder.clearing = false →
      (d.recorder.full = true → d.offer k h c a b x y = d.onRec fun r => { r with fullDrops := r.fullDrops + 1 }) ∧
      (d.recorder.full = false →
        (d.recorder.frozen = true → d.offer k h c a b x y = d.recDrop c 2 k.optime) ∧
        (d.recorder.frozen = false →
          (d.recorder.norFault = true → d.offer k h c a b x y = d.recDrop c 1 k.optime) ∧
          (d.recorder.norFault = false →
            (h = none → recExempt c = true →
              (d.recorder.queue.length < 64 → d.offer k h c a b x y = d.recEnter k c a b x y) ∧
              (64 ≤ d.recorder.queue.length → d.offer k h c a b x y = d.recDrop c 1 k.optime)) ∧
            (h = none → recExempt c = false → ∀ t, t = d.recorder.bucket c k.optime →
              (t.tok < 60000 → d.offer k h c a b x y = d.recDrop c 0 k.optime) ∧
              (60000 ≤ t.tok → 64 ≤ d.recorder.queue.length → d.offer k h c a b x y = d.recDrop c 1 k.optime) ∧
              (60000 ≤ t.tok → d.recorder.queue.length < 64 → d.offer k h c a b x y =
                (d.onRec fun r => r.setBucket c ⟨t.tok - 60000, k.optime⟩).recEnter k c a b x y)) ∧
            ∀ p, h = some p → ∀ t, t = ((d.recorder.hostBuckets[Path.code p]?).getD ⟨0, k.optime⟩).settle (d.fld Reg.REC_HOST_RL 23 16)
                (d.fld Reg.REC_HOST_RL 15 0) k.optime →
              (t.tok < 60000 → d.offer k h c a b x y = d.recDrop c 0 k.optime) ∧
              (60000 ≤ t.tok → 64 ≤ d.recorder.queue.length → d.offer k h c a b x y = d.recDrop c 1 k.optime) ∧
              (60000 ≤ t.tok → d.recorder.queue.length < 64 → d.offer k h c a b x y =
                (d.onRec fun r => { r with hostBuckets := r.hostBuckets.set (Path.code p) ⟨t.tok - 60000, k.optime⟩ }).recEnter k c a b x
                  y)))))) ∧
  (∀ (s : State) (c : Nat) (a b x y : Word),
    (1 ≤ c ∧ c < 0xC00 → Gives (.eventOffer c a b x y) s (s.d.offer s.clk none c a.toNat b.toNat x.toNat y.toNat)) ∧
    (c = 0 ∨ 0xC00 ≤ c → Gives (.eventOffer c a b x y) s s.d)) ∧
  (∀ (s : State) (may : Prop), may = (s.d.pwr.aux = true ∧ s.d.recorder.scanDone = true ∧ s.d.recorder.frozen = false ∧
      s.d.recorder.freezing = false ∧ s.d.recorder.clearing = false ∧ s.d.recorder.norFault = false ∧ s.d.recorder.full = false ∧
      s.d.recorder.staging = none) →
    (¬may ∨ s.d.recorder.queue = [] → Gives .recordProgram s s.d) ∧
    ∀ (ev : RecEvent) (q : List RecEvent), may → s.d.recorder.queue = ev :: q →
      (s.d.recorder.nor.length ≠ 1048575 → Gives .recordProgram s (s.d.onRec fun r => { r with staging := some (ev, 0), queue := q })) ∧
      (s.d.recorder.nor.length = 1048575 → Gives .recordProgram s (s.d.recFull ev))) ∧
  (∀ (d : Drive) (ev : RecEvent), d.recFull ev = (d.onRec fun r => { r with
    staging := some (⟨0x3, ev.sub, ev.pcycle, ev.optime, ev.code, 0, 0, 0⟩, 0), queue := [], full := true }).setInt pgRec 1) ∧
  (∀ s : State, (s.d.recorder.staging = none → ∀ ok, Gives (.recordProgramDone ok) s s.d) ∧
    ∀ (ev : RecEvent) (n : Nat), s.d.recorder.staging = some (ev, n) →
      Gives (.recordProgramDone true) s
        ((s.d.onRec fun r => { r with nor := r.nor ++ [NorSlot.good ev], staging := none }.settleFreeze s.clk.optime).recNearFull s.env) ∧
      ∀ k x d, s.d.draw = (k, x) →
        d = (((x.bumpOpen Reg.REC_PROG_FAIL 1).errCnt pgRec).onRec fun r => { r with
          nor := r.nor ++ [NorSlot.bad (padTo 32 (Config.randomBytes k))] }).recNearFull s.env →
        (n = 2 → Gives (.recordProgramDone false) s
          ((d.onRec fun r => { r with staging := none, norFault := true }.settleFreeze s.clk.optime).setInt pgRec 6)) ∧
        (n ≠ 2 → d.recorder.nor.length = 1048575 ∧ ev.code ≠ 0x3 → Gives (.recordProgramDone false) s (d.recFull ev)) ∧
        (n ≠ 2 → 1048576 ≤ d.recorder.nor.length → Gives (.recordProgramDone false) s
          (d.onRec fun r => { r with staging := none }.settleFreeze s.clk.optime)) ∧
        (n ≠ 2 → d.recorder.nor.length < 1048575 ∨ (d.recorder.nor.length = 1048575 ∧ ev.code = 0x3) → Gives (.recordProgramDone false) s
          (d.onRec fun r => { r with staging := some (ev, n + 1) }))) ∧
  (∀ (s : State) (c : Nat), ((s.d.recorder.drops.find? (·.code == c)) = none → Gives (.summaryDue c) s s.d) ∧
    ∀ (x : Drop) (may : Prop), (s.d.recorder.drops.find? (·.code == c)) = some x →
      may = (s.d.recorder.queue.length < 32 ∧ s.d.recorder.frozen = false ∧ s.d.recorder.clearing = false ∧ s.d.recorder.full = false ∧
        s.d.recorder.norFault = false ∧ s.d.summaryDue s.env x = true ∧
        ∀ y ∈ s.d.recorder.drops, y.code < c → s.d.summaryDue s.env y = false) →
      (may → Gives (.summaryDue c) s ((s.d.onRec fun r => { r with drops := r.drops.filter fun y => !(y.code == c) }).recEnter s.clk 0x1
        (x.reasons * 65536 + c) x.count x.first x.last)) ∧
      (¬may → Gives (.summaryDue c) s s.d)) ∧
  (∀ (d : Drive) (e : Env) (x : Drop), d.summaryDue e x = true ↔ x.last + d.fld Reg.REC_SUM_CTL 15 0 ≤ e.clk.optime ∨
    x.first + d.fld Reg.REC_SUM_CTL 31 16 * 1000 ≤ e.clk.optime ∨ d.jrn.flush.isSome) ∧
  (∀ s : State,
    (s.d.recorder.scanDone = true → Gives .recorderScan s s.d) ∧
    (s.d.recorder.scanDone = false →
      (s.d.recorder.cleared = none → s.d.recorder.nor.length < 1048576 → Gives .recorderScan s
        (s.d.onRec fun r => { r with scanDone := true })) ∧
      (s.d.recorder.cleared = none → 1048576 ≤ s.d.recorder.nor.length → Gives .recorderScan s
        (s.d.onRec fun r => { r with full := true, fullDrops := r.fullDrops + r.queue.length, queue := [], scanDone := true })) ∧
      ∀ c, s.d.recorder.cleared = some c → Gives .recorderScan s (s.d.onRec fun r => { r with
        nor := [NorSlot.good c], fullDrops := 0, full := false, norFault := false, mark := none, cleared := none, clearing := false
        frozen := false, freezing := false, nearDone := false, scanDone := true })) ∧
    (∀ due : Prop, due = (s.d.recorder.frozen = true ∧ s.d.recorder.clearing = false ∧
        s.d.recorder.frozenAt + s.d.fld Reg.REC_FREEZE_CTL 9 0 * 1000 ≤ s.clk.optime) →
      (due → Gives .freezeTimeout s
        (((s.d.onRec fun r => { r with frozen := false, freezing := false }).setInt pgRec 3).event s.env 0x5 s.d.recorder.freezePath 0 0 0)) ∧
      (¬due → Gives .freezeTimeout s s.d)) ∧
    (Gives .challengeExpiry s (s.d.onRec fun r => { r with
      chal := r.chal.filter fun c => decide (s.clk.optime < c.born + 60000) })) ∧
    (s.d.recorder.clearing = false ∨ s.d.recorder.mark = none → Gives .recClearDone s s.d) ∧
    (∀ m, s.d.recorder.clearing = true → s.d.recorder.mark = some m → Gives .recClearDone s
      ((s.d.onRec fun r => (r.stampCleared s.clk m).writeCleared).setInt pgRec 4))) ∧
  (∀ (r : Recorder) (k : Clock) (depth : Nat), (r.powerUp k depth).nor = r.nor ∧ (r.powerUp k depth).queue = [] ∧
    (r.powerUp k depth).mark = r.mark ∧ (r.powerUp k depth).limits = r.limits ∧
    (r.powerUp k depth).hostBuckets = List.replicate 3 ⟨depth * 60000, k.optime⟩ ∧
    (r.mark = none → (r.powerUp k depth).cleared = none) ∧
    ∀ m, r.mark = some m → (r.powerUp k depth).cleared =
      some ⟨0x2, 0, k.pcycle, k.optime, m.1 % 2 ^ 32, m.2.1 % 2 ^ 32, m.2.2.1 % 2 ^ 32, m.2.2.2 % 2 ^ 32⟩) ∧
  (∀ (s t : State) (p : Path) (arb : Arb) (v : Word) (d : Drive), takes s p arb Reg.REC_FREEZE v t → d = stored t p Reg.REC_FREEZE v →
    ∀ row ∈ [Instr.recFreeze, .recUnfreeze],
      (bits v 31 24 ≠ 0xA5 ∨ d.recorder.clearing = true ∨ bits v 1 0 = 0 ∨ bits v 1 0 = 3 → Gives (row p v arb) s (d.accessed s p)) ∧
      (bits v 31 24 = 0xA5 → d.recorder.clearing = false →
        (bits v 1 0 = 1 → Gives (row p v arb) s ((d.onRec fun r => { r with
          freezePath := Path.code p, frozenAt := s.clk.optime, frozen := r.frozen || r.staging.isNone
          freezing := r.freezing || (!r.frozen && r.staging.isSome) }).accessed s p)) ∧
        (bits v 1 0 = 2 → Gives (row p v arb) s ((d.onRec fun r => { r with frozen := false, freezing := false }).accessed s p)))) ∧
  (∀ (s t : State) (p : Path) (arb : Arb) (v : Word) (d : Drive), takes s p arb Reg.REC_RD_SEL v t → d = stored t p Reg.REC_RD_SEL v →
    ∀ i ss bad, i = d.fld (pk p Reg.REC_RD_SEL) 19 0 → ss = ((List.range 16).map fun r => d.recorder.slot (i + r)) →
    bad = (ss.filter fun x => x.2.2).length → Gives (.recRdSel p v arb) s
      (((((d.setRegs (pk p (Reg.REC_RD 0)) (leWords (ss.map (·.1)).flatten)).setReg (pk p Reg.REC_RD_STAT)
        (word (2 ^ 31 + ((List.range 16).zip ss).foldl (fun n x => n + (if x.2.2.1 then 2 ^ x.1 else 0)) 0))).bumpOpen Reg.REC_CHK_BAD bad).bump
          (errCntA pgRec) bad).accessed s p)) ∧
  (∀ (d : Drive) (e : Env) (p : Path),
    (d.recorder.chal = none → d.recClearCheck e p = (1, d)) ∧
    ∀ c, d.recorder.chal = some c →
      (c.path ≠ p → d.recClearCheck e p = (1, d)) ∧
      (c.path = p → d.recorder.frozen = false → d.recClearCheck e p = (2, d)) ∧
      (c.path = p → d.recorder.frozen = true → d.recorder.nor.length ≠ c.count → d.recClearCheck e p = (5, d)) ∧
      ∀ ok x, c.path = p → d.recorder.frozen = true → d.recorder.nor.length = c.count →
        d.cmacCheck e 29 4111 (recClearMsg e c) (d.regBytes (pk p (Reg.REC_CLR_TAG 0)) 4) = (ok, x) →
        d.recClearCheck e p = (if ok = some true then 0 else if ok = some false then 4 else 3, x)) ∧
  (∀ (s t : State) (p : Path) (arb : Arb) (v : Word) (d : Drive), takes s p arb Reg.REC_CLR_CMD v t → d = stored t p Reg.REC_CLR_CMD v →
    ∀ row ∈ [Instr.recChallenge, .recClear],
      (bits v 31 24 ≠ 0xA5 ∨ bits v 1 0 = 0 ∨ bits v 1 0 = 3 → Gives (row p v arb) s (d.accessed s p)) ∧
      (∀ n x, bits v 31 24 = 0xA5 → bits v 1 0 = 1 → d.draw = (n, x) → Gives (row p v arb) s
        (((x.onRec fun r => { r with
          chal := some ⟨p, padTo 16 (Config.randomBytes n), r.nor.length, s.clk.pcycle, s.clk.optime⟩ }).setRegs
            (pk p (Reg.REC_CHAL 0)) (leWords (padTo 16 (Config.randomBytes n)))).accessed s p)) ∧
      (bits v 31 24 = 0xA5 → bits v 1 0 = 2 → d.recorder.clearing = true → Gives (row p v arb) s (d.accessed s p)) ∧
      ∀ res x, bits v 31 24 = 0xA5 → bits v 1 0 = 2 → d.recorder.clearing = false → d.recClearCheck s.env p = (res, x) →
        (∀ c y, res = 0 → x.recorder.chal = some c → y = x.poke (pk p Reg.REC_CLR_STAT) 10 8 0 → Gives (row p v arb) s
          (((y.recorder.queue.foldl (fun d ev => d.recDrop ev.code 2 s.clk.optime) y).onRec fun r => { r with
            queue := [], clearing := true, chal := none, mark := some (r.nor.length, r.fullDrops, c.pcycle, Path.code p) }).accessed s p)) ∧
        (res ≠ 0 → Gives (row p v arb) s
          (((((x.poke (pk p Reg.REC_CLR_STAT) 10 8 res).onRec fun r => { r with chal := if res = 1 then r.chal else none }).setInt pgRec 5).event s.env
            0x6 res (Path.code p) 0 0).accessed s p))) ∧
  (∀ (s t : State) (p : Path) (arb : Arb) (v : Word) (d : Drive), takes s p arb Reg.REC_HOST_GO v t → d = stored t p Reg.REC_HOST_GO v →
    (bits v 0 0 = 0 → Gives (.recHostGo p v arb) s (d.accessed s p)) ∧
    (bits v 0 0 = 1 → Gives (.recHostGo p v arb) s
      ((d.offer s.clk (some p) (d.fld (pk p Reg.REC_HOST_CODE) 15 0) (d.reg (pk p (Reg.REC_HOST_PARAM 0))).toNat
        (d.reg (pk p (Reg.REC_HOST_PARAM 1))).toNat (d.reg (pk p (Reg.REC_HOST_PARAM 2))).toNat
        (d.reg (pk p (Reg.REC_HOST_PARAM 3))).toNat).accessed s p))) ∧
  ∀ (s t : State) (p : Path) (arb : Arb) (v : Word) (d : Drive), takes s p arb Reg.REC_RL_SEL v t → d = stored t p Reg.REC_RL_SEL v →
    (bits v 15 0 < 4 ∨ 0x7FFF < bits v 15 0 → Gives (.recRlSel p v arb) s (d.accessed s p)) ∧
    ∀ depth rate, 4 ≤ bits v 15 0 → bits v 15 0 ≤ 0x7FFF → d.recorder.limit (bits v 15 0) = (depth, rate) →
      Gives (.recRlSel p v arb) s
        ((((d.setReg (pk p Reg.REC_RL_CFG) (word (if recExempt (bits v 15 0) then 2 ^ 31 else depth * 65536 + rate))).setReg
          (pk p Reg.REC_RL_DROPS) (word (((d.recorder.drops.find? (·.code == bits v 15 0)).map (·.count)).getD 0))).setReg
            (pk p Reg.REC_RL_TOKENS)
            (word (if recExempt (bits v 15 0) then 0 else (d.recorder.bucket (bits v 15 0) s.clk.optime).tok / 60000))).accessed s p)

/-! ### Live update and the module (R458 to R480, R504, R505) -/

/-- Live update. OPEN erases the slot no unit runs, a chunk is taken in order and joins the image when it is written, VERIFY's end
stages the image or returns to IDLE (R464 to R466, R479); commands of another path are ignored (R467). ACTIVATE and REVERT start moving units, one at a time, and CLOSE empties the staged slot
that no unit runs (R458, R467). UNIT_RETURN moves a unit to the new slot, UNIT_FAULT_TIMEOUT and MAC_LINK_WAIT_TIMEOUT stop
the activation, and Fawn that was asked for meanwhile begins (R462, R468, R469). The LED test and the air sensors do what R504 and R505 say.
A carrier's first state after a link wait that ran out, STAGED, is the model's choice (log entry 84). -/
def Obligations.LiveUpdate : Prop :=
  (∀ (s t : State) (p : Path) (arb : Arb) (v : Word) (d : Drive), takes s p arb Reg.CL_UPD_CMD v t → d = stored t p Reg.CL_UPD_CMD v →
    ∀ row ∈ [Instr.updOpen, .updVerify, .updActivate, .updRevert, .updClose], ∀ op c mask, op = bits v 3 0 → c = bits v 10 8 → mask = bits v 23 16 →
    (bits v 31 24 ≠ 0xA5 ∨ 5 < c ∨ op = 0 ∨ 5 < op → Gives (row p v arb) s (d.accessed s p)) ∧
    (op ≠ 1 → d.upd.st ≠ .idle → d.upd.owner ≠ p → Gives (row p v arb) s (d.accessed s p)) ∧
    (bits v 31 24 = 0xA5 → c ≤ 5 →
      (op = 1 →
        (d.upd.st ≠ .idle → Gives (row p v arb) s ((d.updResult 6).accessed s p)) ∧
        (d.upd.st = .idle → d.upd.mixed c = true → Gives (row p v arb) s ((d.updResult 10).accessed s p)) ∧
        (d.upd.st = .idle → d.upd.mixed c = false → Gives (row p v arb) s
          ((d.onUpd fun u => ({ u with
            st := .staging, owner := p, carrier := c, slotB := (d.upd.car c).runB % 2 == 0, bytes := [], chunk := none, todo := [], out := none
            revert := false, result := 0, linkWait := none, lastStaged := u.lastStaged.filter fun x => !(x.1 == c)
            skipped := if c = 0 then [] else u.skipped }).putStaged none).accessed s p))) ∧
      (d.upd.st = .idle ∨ d.upd.owner = p →
        (op = 2 →
          (d.upd.st ≠ .staging → Gives (row p v arb) s (d.accessed s p)) ∧
          (d.upd.st = .staging → d.upd.chunk.isSome → Gives (row p v arb) s ((d.updResult 6).accessed s p)) ∧
          (d.upd.st = .staging → d.upd.chunk = none → Gives (row p v arb) s ((d.onUpd fun u => { u with st := .verifying }).accessed s p))) ∧
        (op = 3 →
          (d.upd.st = .staged ∨ d.upd.st = .failed → Gives (row p v arb) s
            ((d.updStart s.env p d.upd.carrier mask d.upd.slotB false).accessed s p)) ∧
          (∀ k b, d.upd.st = .idle → d.upd.mixed c = true → (d.upd.lastStaged.find? fun x => x.1 == c) = some (k, b) → Gives (row p v arb) s
            ((d.updStart s.env p c mask b false).accessed s p)) ∧
          (d.upd.st = .staging ∨ d.upd.st = .verifying ∨ d.upd.st = .activating ∨ d.upd.st = .idle ∧ d.upd.mixed c = false →
            Gives (row p v arb) s (d.accessed s p))) ∧
        (op = 4 → ∀ k, k = (if d.upd.st = .idle then c else d.upd.carrier) →
          (∀ x b, d.upd.st = .staged ∨ d.upd.st = .failed ∨ d.upd.st = .idle → (d.upd.lastStaged.find? fun x => x.1 == k) = some (x, b) →
            Gives (row p v arb) s ((d.updStart s.env p k mask b true).accessed s p)) ∧
          (d.upd.st = .staging ∨ d.upd.st = .verifying ∨ d.upd.st = .activating ∨ (d.upd.lastStaged.find? fun x => x.1 == k) = none →
            Gives (row p v arb) s (d.accessed s p))) ∧
        (op = 5 → ∀ runs : Prop, runs = (∃ i ∈ unitOrder d.upd.carrier, d.upd.runsB d.upd.carrier i = d.upd.slotB) →
          (d.upd.st = .idle ∨ d.upd.st = .activating ∨ d.upd.st = .failed → Gives (row p v arb) s (d.accessed s p)) ∧
          (d.upd.st = .staging ∨ d.upd.st = .verifying ∨ d.upd.st = .staged →
            (runs → Gives (row p v arb) s ((d.onUpd fun u => { u with st := .idle, chunk := none, todo := [], result := 0 }).accessed s p)) ∧
            (¬runs → Gives (row p v arb) s
              ((d.onUpd fun u => { ({ u with st := .idle, chunk := none, todo := [], result := 0 } : Upd).putStaged none with
                lastStaged := u.lastStaged.filter fun x => !(x.1 == u.carrier) }).accessed s p))))))) ∧
  (∀ (s t : State) (p : Path) (arb : Arb) (v : Word) (d : Drive) (len : Nat), takes s p arb Reg.CL_UPD_CHUNK v t →
    d = stored t p Reg.CL_UPD_CHUNK v → len = d.fld Reg.CL_UPD_CHUNK 10 0 →
    (bit v 31 = false ∨ d.upd.st ≠ .staging ∨ d.upd.owner ≠ p → Gives (.updChunk p v arb) s (d.accessed s p)) ∧
    (bit v 31 = true → d.upd.st = .staging → d.upd.owner = p →
      (d.upd.chunk.isSome → Gives (.updChunk p v arb) s ((d.updResult 6).accessed s p)) ∧
      (d.upd.chunk = none →
        (len = 0 ∨ 1024 < len ∨ 33554432 < d.upd.bytes.length + len → Gives (.updChunk p v arb) s ((d.updResult 3).accessed s p)) ∧
        (1 ≤ len → len ≤ 1024 → d.upd.bytes.length + len ≤ 33554432 →
          ((d.reg Reg.CL_UPD_OFFSET).toNat = d.upd.bytes.length → Gives (.updChunk p v arb) s
            ((d.onUpd fun u => { u with
              chunk := some (((List.range (ceilDiv len 4)).map fun k => leBytes 4 (d.reg (Reg.CL_UPD_DATA k)).toNat).flatten.take len) }).accessed
                s p)) ∧
          ((d.reg Reg.CL_UPD_OFFSET).toNat ≠ d.upd.bytes.length → Gives (.updChunk p v arb) s ((d.updResult 2).accessed s p)))))) ∧
  (∀ s : State, (s.d.upd.chunk = none → ∀ ok, Gives (.updChunkDone ok) s s.d) ∧
    ∀ b : List Byte, s.d.upd.chunk = some b →
      Gives (.updChunkDone true) s (s.d.onUpd fun u => { u with chunk := none, bytes := u.bytes ++ b, result := 0 }) ∧
      Gives (.updChunkDone false) s (s.d.onUpd fun u => { u with chunk := none, bytes := u.bytes, result := 8 })) ∧
  (∀ (s : State) (signed : Bool), (s.d.upd.st ≠ .verifying → Gives (.updVerifyDone signed) s s.d) ∧
    (s.d.upd.st = .verifying →
      (s.d.upd.verdict signed = 0 → Gives (.updVerifyDone signed) s (s.d.onUpd fun u =>
        { ({ u with result := 0 } : Upd).putStaged (some (imgHdr u.bytes)) with
          st := .staged, lastStaged := (u.carrier, u.slotB) :: u.lastStaged.filter fun x => !(x.1 == u.carrier) })) ∧
      (s.d.upd.verdict signed ≠ 0 → Gives (.updVerifyDone signed) s
        (s.d.onUpd fun u => { u with result := s.d.upd.verdict signed, st := .idle })))) ∧
  (∀ (u : Upd) (signed : Bool), u.verdict signed = 0 ↔ beAt u.bytes 0 4 = 0x4957494D ∧ beAt u.bytes 4 1 = u.carrier ∧ beAt u.bytes 5 1 = 1 ∧
    signed = true ∧ beAt u.bytes 16 4 = u.bytes.length ∧ 4096 ≤ beAt u.bytes 16 4 ∧
    ∀ x ∈ u.runImages, x.acceptsMin ≤ (imgHdr u.bytes).level ∧ (imgHdr u.bytes).acceptsMin ≤ x.level) ∧
  (∀ s : State, (s.d.upd.out = none ∨ s.d.upd.st ≠ .activating → Gives .unitReturn s s.d ∧ Gives .unitFaultTimeout s s.d) ∧
    ∀ (i : Nat) (d : Drive) (fawn : Drive → Drive), s.d.upd.out = some i → s.d.upd.st = .activating → d = s.d.bringBack s.env i →
      fawn = (fun x => (x.onUpd fun u => { u with fawnAsked := false }).enterFawn) →
      ((∀ k, unitDom s.d.upd.carrier i = some k → d.isOn k = true) → ∀ x,
        x = (d.onUpd fun u => { (u.recordUnit s.d.upd.carrier i u.goal) with out := none }).setInt pgCl 0 →
        Gives .unitReturn s (if x.upd.fawnAsked then fawn x else x.updNext s.env)) ∧
      (∀ k, unitDom s.d.upd.carrier i = some k → d.isOn k = false → Gives .unitReturn s d) ∧
      (∀ x, x = (((d.onUpd fun u => { u with st := .failed, out := none, todo := [], result := 7, linkWait := none }).setInt pgCl 2).errCnt pgCl) →
        Gives .unitFaultTimeout s (if x.upd.fawnAsked then fawn x else x))) ∧
  (∀ (s : State) (stop : Prop), stop = (∃ i rest, s.d.upd.todo = i :: rest ∧ s.d.upd.st = .activating ∧ s.d.upd.carrier = 5 ∧
      s.d.upd.out = none ∧ s.d.linkUp (1 - i) = false) →
    (stop → Gives .macLinkWaitTimeout s (s.d.onUpd fun u => { u with st := .staged, todo := [], result := 9, linkWait := none })) ∧
    (¬stop → Gives .macLinkWaitTimeout s s.d)) ∧
  (∀ (d : Drive) (e : Env) (i : Nat),
    (d.upd.carrier = 0 → (d.mayTake e i = true ↔ ∃ j, j < 4 ∧ j ≠ i ∧ d.isOn (6 + j) = true)) ∧
    (d.upd.carrier = 5 → (d.mayTake e i = true ↔ d.linkUp (1 - i) = true ∧ (i = 0 ∨ ∃ t, d.upd.linkWait = some t ∧ t + 100 ≤ e.clk.optime))) ∧
    (d.upd.carrier ≠ 0 → d.upd.carrier ≠ 5 → d.mayTake e i = true)) ∧
  (∀ (d : Drive) (e : Env) (rest : List Nat) (w : Drive), d.upd.st = .activating → d.upd.out = none → d.pwr.ps ≠ .fawnEntry → d.pwr.ps ≠ .fawn →
    (∀ i ∈ d.upd.todo, d.upd.carrier = 0 → d.forcedOff (6 + i) = false) →
    (d.upd.todo = [] → (d.updNext e).upd.st = .idle ∧ (d.updNext e).upd.result = 0) ∧
    ∀ i, d.upd.todo = i :: rest → w = d.watchLink e i → d.updNext e = (if w.mayTake e i then w.takeOut e i else w)) ∧
  (∀ (s t : State) (p : Path) (arb : Arb) (v : Word) (d : Drive), takes s p arb Reg.AON_LED_CTL v t → d = stored t p Reg.AON_LED_CTL v →
    Gives (.ledTest p v arb) s ((if bit v 1 then { d with ledTest := true } else d).accessed s p)) ∧
  ∀ s : State, Gives .ledTestEnd s { s.d with ledTest := false } ∧
    ∀ inlet outlet : Byte, (s.d.pwr.aux = false ∨ s.d.isOn 0 = false → Gives (.moduleTempSample inlet outlet) s s.d) ∧
      ∀ was top : Byte, was = BitVec.ofNat 8 (s.d.fld Reg.AON_MOD_TEMP 23 16) →
        top = (if s.d.airSeen = false ∨ was.toInt < inlet.toInt then inlet else was) → s.d.pwr.aux = true → s.d.isOn 0 = true →
        Gives (.moduleTempSample inlet outlet) s
          ((((({ s.d with airSeen := true } : Drive).poke Reg.AON_MOD_TEMP 7 0 inlet.toNat).poke Reg.AON_MOD_TEMP 15 8 outlet.toNat).poke
            Reg.AON_MOD_TEMP 23 16 top.toNat))
end

