-- ==== Sys2Proof/Laws/Bits.lean ====
section
/-! SUPPORT. The arithmetic of bit fields: a field that is written reads back, and fields beside it stay. -/

namespace Sys2Proof.Machine

/-- A number is its bits above a field, the field, and its bits below. -/
theorem bitsN_split (n hi lo : Nat) (h : lo ≤ hi) :
    n = n / 2 ^ (hi + 1) * 2 ^ (hi + 1) + bitsN n hi lo * 2 ^ lo + n % 2 ^ lo := by
  have e : 2 ^ (hi + 1) = 2 ^ lo * 2 ^ (hi + 1 - lo) := by rw [← pow_add]; congr 1; omega
  unfold bitsN
  rw [e, ← Nat.div_div_eq_div_mul]
  have h1 := Nat.div_add_mod n (2 ^ lo)
  have h2 := Nat.div_add_mod (n / 2 ^ lo) (2 ^ (hi + 1 - lo))
  generalize n / 2 ^ lo / 2 ^ (hi + 1 - lo) = a at *
  generalize n / 2 ^ lo % 2 ^ (hi + 1 - lo) = b at *
  rw [← h2] at h1
  linarith

theorem bitsN_lt (n hi lo : Nat) : bitsN n hi lo < 2 ^ (hi + 1 - lo) := Nat.mod_lt _ (by positivity)

/-- A written number is the old one with the field replaced. -/
theorem setBitsN_eq (n hi lo v : Nat) (h : lo ≤ hi) :
    setBitsN n hi lo v = n / 2 ^ (hi + 1) * 2 ^ (hi + 1) + v % 2 ^ (hi + 1 - lo) * 2 ^ lo + n % 2 ^ lo := by
  have s := bitsN_split n hi lo h
  unfold setBitsN
  omega

/-- A written field reads back. -/
theorem bitsN_setBitsN (n hi lo v : Nat) (h : lo ≤ hi) : bitsN (setBitsN n hi lo v) hi lo = v % 2 ^ (hi + 1 - lo) := by
  have e : 2 ^ (hi + 1) = 2 ^ lo * 2 ^ (hi + 1 - lo) := by rw [← pow_add]; congr 1; omega
  rw [setBitsN_eq n hi lo v h]
  unfold bitsN
  rw [show n / 2 ^ (hi + 1) * 2 ^ (hi + 1) + v % 2 ^ (hi + 1 - lo) * 2 ^ lo + n % 2 ^ lo =
    2 ^ lo * (n / 2 ^ (hi + 1) * 2 ^ (hi + 1 - lo) + v % 2 ^ (hi + 1 - lo)) + n % 2 ^ lo by rw [e]; ring]
  rw [Nat.mul_add_div (by positivity), Nat.div_eq_of_lt (Nat.mod_lt _ (by positivity)), Nat.add_zero, Nat.add_comm,
    Nat.add_mul_mod_self_right, Nat.mod_mod]

/-- A field above or below a written one stays. -/
theorem bitsN_setBitsN_ne (n hi lo v hi' lo' : Nat) (h : lo ≤ hi) (h' : lo' ≤ hi') (ne : hi < lo' ∨ hi' < lo) :
    bitsN (setBitsN n hi lo v) hi' lo' = bitsN n hi' lo' := by
  rw [setBitsN_eq n hi lo v h]
  have split := bitsN_split n hi lo h
  have lt := bitsN_lt n hi lo
  have vlt : v % 2 ^ (hi + 1 - lo) < 2 ^ (hi + 1 - lo) := Nat.mod_lt _ (by positivity)
  have rlt : n % 2 ^ lo < 2 ^ lo := Nat.mod_lt _ (by positivity)
  have e : 2 ^ (hi + 1) = 2 ^ (hi + 1 - lo) * 2 ^ lo := by rw [← pow_add]; congr 1; omega
  have key (x : Nat) (hx : x < 2 ^ (hi + 1 - lo)) : x * 2 ^ lo + n % 2 ^ lo < 2 ^ (hi + 1) := by
    have := Nat.mul_le_mul_right (2 ^ lo) (show x + 1 ≤ _ from hx)
    rw [Nat.add_mul] at this
    omega
  rcases ne with ne | ne
  · have up (x : Nat) (hx : x < 2 ^ (hi + 1 - lo)) :
        (n / 2 ^ (hi + 1) * 2 ^ (hi + 1) + x * 2 ^ lo + n % 2 ^ lo) / 2 ^ lo' = n / 2 ^ (hi + 1) / 2 ^ (lo' - (hi + 1)) := by
      rw [show 2 ^ lo' = 2 ^ (hi + 1) * 2 ^ (lo' - (hi + 1)) by rw [← pow_add]; congr 1; omega, ← Nat.div_div_eq_div_mul]
      congr 1
      rw [Nat.add_assoc, Nat.mul_comm, Nat.mul_add_div (by positivity), Nat.div_eq_of_lt (key x hx), Nat.add_zero]
    unfold bitsN
    rw [up _ vlt]
    conv_rhs => rw [split, up _ lt]
  · have down (x : Nat) : (n / 2 ^ (hi + 1) * 2 ^ (hi + 1) + x * 2 ^ lo + n % 2 ^ lo) / 2 ^ lo' % 2 ^ (hi' + 1 - lo') =
        n % 2 ^ lo / 2 ^ lo' % 2 ^ (hi' + 1 - lo') := by
      have e2 : 2 ^ lo = 2 ^ lo' * 2 ^ (hi' + 1 - lo') * 2 ^ (lo - (hi' + 1)) := by
        rw [← pow_add, ← pow_add]; congr 1; omega
      rw [show n / 2 ^ (hi + 1) * 2 ^ (hi + 1) + x * 2 ^ lo + n % 2 ^ lo = 2 ^ lo' * ((n / 2 ^ (hi + 1) * 2 ^ (hi + 1 - lo) + x) *
        2 ^ (lo - (hi' + 1)) * 2 ^ (hi' + 1 - lo')) + n % 2 ^ lo by rw [e]; generalize n % 2 ^ lo = r; rw [e2]; ring]
      rw [Nat.mul_add_div (by positivity), Nat.add_comm, Nat.add_mul_mod_self_right]
    unfold bitsN
    rw [down]
    conv_rhs => rw [split, down]

end Sys2Proof.Machine
end

