-- ==== Sys2Proof/Laws/State.lean ====
section
/-! SUPPORT. The small lemmas of State and of its updates: what lifting an effect leaves, and, field by field, what a
register write, a counter, an interrupt bit and an event leave unchanged; all true by unfolding, so that no later proof
unfolds a record update. -/

namespace Sys2Proof.Machine

variable (s : State) (d : Drive) (f : Effect) (e : Env) (a k v hi lo p b n code p0 p1 p2 p3 : Nat) (w : Word) (clk : Clock) (h : Option Path)

/-! ### Lifting -/

@[simp] theorem State.lift_clk : (s.lift f).clk = s.clk := rfl
@[simp] theorem State.lift_fac : (s.lift f).fac = s.fac := rfl
@[simp] theorem State.lift_pending : (s.lift f).pending = s.pending := rfl
@[simp] theorem State.lift_d : (s.lift f).d = f s.env s.d := rfl
@[simp] theorem State.lift_perm : (s.lift f).perm = ⟨s.perm.readOnly || (f s.env s.d).med.readOnly⟩ := rfl
@[simp] theorem State.env_clk : s.env.clk = s.clk := rfl
@[simp] theorem State.env_fac : s.env.fac = s.fac := rfl
@[simp] theorem State.env_readOnly : s.env.readOnly = s.perm.readOnly := rfl

/-- A command that runs an effect completes with that effect's drive. -/
theorem runOp_next : runOp f s = .next { s with perm := ⟨s.perm.readOnly || (f s.env s.d).med.readOnly⟩, d := f s.env s.d } := rfl

/-! ### A register write -/

@[simp] theorem Drive.setReg_pwr : (d.setReg a w).pwr = d.pwr := rfl
@[simp] theorem Drive.setReg_nrg : (d.setReg a w).nrg = d.nrg := rfl
@[simp] theorem Drive.setReg_pack : (d.setReg a w).pack = d.pack := rfl
@[simp] theorem Drive.setReg_recorder : (d.setReg a w).recorder = d.recorder := rfl
@[simp] theorem Drive.setReg_chn : (d.setReg a w).chn = d.chn := rfl
@[simp] theorem Drive.setReg_ports : (d.setReg a w).ports = d.ports := rfl
@[simp] theorem Drive.setReg_xpt : (d.setReg a w).xpt = d.xpt := rfl
@[simp] theorem Drive.setReg_mch : (d.setReg a w).mch = d.mch := rfl
@[simp] theorem Drive.setReg_cph : (d.setReg a w).cph = d.cph := rfl
@[simp] theorem Drive.setReg_nss : (d.setReg a w).nss = d.nss := rfl
@[simp] theorem Drive.setReg_vers : (d.setReg a w).vers = d.vers := rfl
@[simp] theorem Drive.setReg_uses : (d.setReg a w).uses = d.uses := rfl
@[simp] theorem Drive.setReg_jobs : (d.setReg a w).jobs = d.jobs := rfl
@[simp] theorem Drive.setReg_nextJob : (d.setReg a w).nextJob = d.nextJob := rfl
@[simp] theorem Drive.setReg_jrn : (d.setReg a w).jrn = d.jrn := rfl
@[simp] theorem Drive.setReg_med : (d.setReg a w).med = d.med := rfl
@[simp] theorem Drive.setReg_ctl : (d.setReg a w).ctl = d.ctl := rfl
@[simp] theorem Drive.setReg_upd : (d.setReg a w).upd = d.upd := rfl
@[simp] theorem Drive.setReg_snaps : (d.setReg a w).snaps = d.snaps := rfl
@[simp] theorem Drive.setReg_bufs : (d.setReg a w).bufs = d.bufs := rfl
@[simp] theorem Drive.setReg_results : (d.setReg a w).results = d.results := rfl
@[simp] theorem Drive.setReg_i3cAddr : (d.setReg a w).i3cAddr = d.i3cAddr := rfl
@[simp] theorem Drive.setReg_i3cIbi : (d.setReg a w).i3cIbi = d.i3cIbi := rfl
@[simp] theorem Drive.setReg_edges : (d.setReg a w).edges = d.edges := rfl
@[simp] theorem Drive.setReg_deferred : (d.setReg a w).deferred = d.deferred := rfl
@[simp] theorem Drive.setReg_late : (d.setReg a w).late = d.late := rfl
@[simp] theorem Drive.setReg_ledTest : (d.setReg a w).ledTest = d.ledTest := rfl
@[simp] theorem Drive.setReg_airSeen : (d.setReg a w).airSeen = d.airSeen := rfl
@[simp] theorem Drive.setReg_lastRsp : (d.setReg a w).lastRsp = d.lastRsp := rfl
@[simp] theorem Drive.setReg_free : (d.setReg a w).free = d.free := rfl
@[simp] theorem Drive.setReg_out : (d.setReg a w).out = d.out := rfl

/-! ### A field write -/

@[simp] theorem Drive.poke_pwr : (d.poke a hi lo v).pwr = d.pwr := rfl
@[simp] theorem Drive.poke_nrg : (d.poke a hi lo v).nrg = d.nrg := rfl
@[simp] theorem Drive.poke_pack : (d.poke a hi lo v).pack = d.pack := rfl
@[simp] theorem Drive.poke_recorder : (d.poke a hi lo v).recorder = d.recorder := rfl
@[simp] theorem Drive.poke_chn : (d.poke a hi lo v).chn = d.chn := rfl
@[simp] theorem Drive.poke_ports : (d.poke a hi lo v).ports = d.ports := rfl
@[simp] theorem Drive.poke_xpt : (d.poke a hi lo v).xpt = d.xpt := rfl
@[simp] theorem Drive.poke_mch : (d.poke a hi lo v).mch = d.mch := rfl
@[simp] theorem Drive.poke_cph : (d.poke a hi lo v).cph = d.cph := rfl
@[simp] theorem Drive.poke_nss : (d.poke a hi lo v).nss = d.nss := rfl
@[simp] theorem Drive.poke_vers : (d.poke a hi lo v).vers = d.vers := rfl
@[simp] theorem Drive.poke_uses : (d.poke a hi lo v).uses = d.uses := rfl
@[simp] theorem Drive.poke_jobs : (d.poke a hi lo v).jobs = d.jobs := rfl
@[simp] theorem Drive.poke_nextJob : (d.poke a hi lo v).nextJob = d.nextJob := rfl
@[simp] theorem Drive.poke_jrn : (d.poke a hi lo v).jrn = d.jrn := rfl
@[simp] theorem Drive.poke_med : (d.poke a hi lo v).med = d.med := rfl
@[simp] theorem Drive.poke_ctl : (d.poke a hi lo v).ctl = d.ctl := rfl
@[simp] theorem Drive.poke_upd : (d.poke a hi lo v).upd = d.upd := rfl
@[simp] theorem Drive.poke_snaps : (d.poke a hi lo v).snaps = d.snaps := rfl
@[simp] theorem Drive.poke_bufs : (d.poke a hi lo v).bufs = d.bufs := rfl
@[simp] theorem Drive.poke_results : (d.poke a hi lo v).results = d.results := rfl
@[simp] theorem Drive.poke_i3cAddr : (d.poke a hi lo v).i3cAddr = d.i3cAddr := rfl
@[simp] theorem Drive.poke_i3cIbi : (d.poke a hi lo v).i3cIbi = d.i3cIbi := rfl
@[simp] theorem Drive.poke_edges : (d.poke a hi lo v).edges = d.edges := rfl
@[simp] theorem Drive.poke_deferred : (d.poke a hi lo v).deferred = d.deferred := rfl
@[simp] theorem Drive.poke_late : (d.poke a hi lo v).late = d.late := rfl
@[simp] theorem Drive.poke_ledTest : (d.poke a hi lo v).ledTest = d.ledTest := rfl
@[simp] theorem Drive.poke_airSeen : (d.poke a hi lo v).airSeen = d.airSeen := rfl
@[simp] theorem Drive.poke_lastRsp : (d.poke a hi lo v).lastRsp = d.lastRsp := rfl
@[simp] theorem Drive.poke_free : (d.poke a hi lo v).free = d.free := rfl
@[simp] theorem Drive.poke_out : (d.poke a hi lo v).out = d.out := rfl

/-! ### A wide write -/

@[simp] theorem Drive.setWide_pwr : (d.setWide a n).pwr = d.pwr := rfl
@[simp] theorem Drive.setWide_nrg : (d.setWide a n).nrg = d.nrg := rfl
@[simp] theorem Drive.setWide_pack : (d.setWide a n).pack = d.pack := rfl
@[simp] theorem Drive.setWide_recorder : (d.setWide a n).recorder = d.recorder := rfl
@[simp] theorem Drive.setWide_chn : (d.setWide a n).chn = d.chn := rfl
@[simp] theorem Drive.setWide_ports : (d.setWide a n).ports = d.ports := rfl
@[simp] theorem Drive.setWide_xpt : (d.setWide a n).xpt = d.xpt := rfl
@[simp] theorem Drive.setWide_mch : (d.setWide a n).mch = d.mch := rfl
@[simp] theorem Drive.setWide_cph : (d.setWide a n).cph = d.cph := rfl
@[simp] theorem Drive.setWide_nss : (d.setWide a n).nss = d.nss := rfl
@[simp] theorem Drive.setWide_vers : (d.setWide a n).vers = d.vers := rfl
@[simp] theorem Drive.setWide_uses : (d.setWide a n).uses = d.uses := rfl
@[simp] theorem Drive.setWide_jobs : (d.setWide a n).jobs = d.jobs := rfl
@[simp] theorem Drive.setWide_nextJob : (d.setWide a n).nextJob = d.nextJob := rfl
@[simp] theorem Drive.setWide_jrn : (d.setWide a n).jrn = d.jrn := rfl
@[simp] theorem Drive.setWide_med : (d.setWide a n).med = d.med := rfl
@[simp] theorem Drive.setWide_ctl : (d.setWide a n).ctl = d.ctl := rfl
@[simp] theorem Drive.setWide_upd : (d.setWide a n).upd = d.upd := rfl
@[simp] theorem Drive.setWide_snaps : (d.setWide a n).snaps = d.snaps := rfl
@[simp] theorem Drive.setWide_bufs : (d.setWide a n).bufs = d.bufs := rfl
@[simp] theorem Drive.setWide_results : (d.setWide a n).results = d.results := rfl
@[simp] theorem Drive.setWide_i3cAddr : (d.setWide a n).i3cAddr = d.i3cAddr := rfl
@[simp] theorem Drive.setWide_i3cIbi : (d.setWide a n).i3cIbi = d.i3cIbi := rfl
@[simp] theorem Drive.setWide_edges : (d.setWide a n).edges = d.edges := rfl
@[simp] theorem Drive.setWide_deferred : (d.setWide a n).deferred = d.deferred := rfl
@[simp] theorem Drive.setWide_late : (d.setWide a n).late = d.late := rfl
@[simp] theorem Drive.setWide_ledTest : (d.setWide a n).ledTest = d.ledTest := rfl
@[simp] theorem Drive.setWide_airSeen : (d.setWide a n).airSeen = d.airSeen := rfl
@[simp] theorem Drive.setWide_lastRsp : (d.setWide a n).lastRsp = d.lastRsp := rfl
@[simp] theorem Drive.setWide_free : (d.setWide a n).free = d.free := rfl
@[simp] theorem Drive.setWide_out : (d.setWide a n).out = d.out := rfl

/-! ### A saturating counter -/

@[simp] theorem Drive.bump_pwr : (d.bump a k).pwr = d.pwr := rfl
@[simp] theorem Drive.bump_nrg : (d.bump a k).nrg = d.nrg := rfl
@[simp] theorem Drive.bump_pack : (d.bump a k).pack = d.pack := rfl
@[simp] theorem Drive.bump_recorder : (d.bump a k).recorder = d.recorder := rfl
@[simp] theorem Drive.bump_chn : (d.bump a k).chn = d.chn := rfl
@[simp] theorem Drive.bump_ports : (d.bump a k).ports = d.ports := rfl
@[simp] theorem Drive.bump_xpt : (d.bump a k).xpt = d.xpt := rfl
@[simp] theorem Drive.bump_mch : (d.bump a k).mch = d.mch := rfl
@[simp] theorem Drive.bump_cph : (d.bump a k).cph = d.cph := rfl
@[simp] theorem Drive.bump_nss : (d.bump a k).nss = d.nss := rfl
@[simp] theorem Drive.bump_vers : (d.bump a k).vers = d.vers := rfl
@[simp] theorem Drive.bump_uses : (d.bump a k).uses = d.uses := rfl
@[simp] theorem Drive.bump_jobs : (d.bump a k).jobs = d.jobs := rfl
@[simp] theorem Drive.bump_nextJob : (d.bump a k).nextJob = d.nextJob := rfl
@[simp] theorem Drive.bump_jrn : (d.bump a k).jrn = d.jrn := rfl
@[simp] theorem Drive.bump_med : (d.bump a k).med = d.med := rfl
@[simp] theorem Drive.bump_ctl : (d.bump a k).ctl = d.ctl := rfl
@[simp] theorem Drive.bump_upd : (d.bump a k).upd = d.upd := rfl
@[simp] theorem Drive.bump_snaps : (d.bump a k).snaps = d.snaps := rfl
@[simp] theorem Drive.bump_bufs : (d.bump a k).bufs = d.bufs := rfl
@[simp] theorem Drive.bump_results : (d.bump a k).results = d.results := rfl
@[simp] theorem Drive.bump_i3cAddr : (d.bump a k).i3cAddr = d.i3cAddr := rfl
@[simp] theorem Drive.bump_i3cIbi : (d.bump a k).i3cIbi = d.i3cIbi := rfl
@[simp] theorem Drive.bump_edges : (d.bump a k).edges = d.edges := rfl
@[simp] theorem Drive.bump_deferred : (d.bump a k).deferred = d.deferred := rfl
@[simp] theorem Drive.bump_late : (d.bump a k).late = d.late := rfl
@[simp] theorem Drive.bump_ledTest : (d.bump a k).ledTest = d.ledTest := rfl
@[simp] theorem Drive.bump_airSeen : (d.bump a k).airSeen = d.airSeen := rfl
@[simp] theorem Drive.bump_lastRsp : (d.bump a k).lastRsp = d.lastRsp := rfl
@[simp] theorem Drive.bump_free : (d.bump a k).free = d.free := rfl
@[simp] theorem Drive.bump_out : (d.bump a k).out = d.out := rfl

/-! ### A counter -/

@[simp] theorem Drive.bumpOpen_pwr : (d.bumpOpen a k).pwr = d.pwr := by unfold Drive.bumpOpen; exact Drive.setReg_pwr ..
@[simp] theorem Drive.bumpOpen_nrg : (d.bumpOpen a k).nrg = d.nrg := by unfold Drive.bumpOpen; exact Drive.setReg_nrg ..
@[simp] theorem Drive.bumpOpen_pack : (d.bumpOpen a k).pack = d.pack := by unfold Drive.bumpOpen; exact Drive.setReg_pack ..
@[simp] theorem Drive.bumpOpen_recorder : (d.bumpOpen a k).recorder = d.recorder := by unfold Drive.bumpOpen; exact Drive.setReg_recorder ..
@[simp] theorem Drive.bumpOpen_chn : (d.bumpOpen a k).chn = d.chn := by unfold Drive.bumpOpen; exact Drive.setReg_chn ..
@[simp] theorem Drive.bumpOpen_ports : (d.bumpOpen a k).ports = d.ports := by unfold Drive.bumpOpen; exact Drive.setReg_ports ..
@[simp] theorem Drive.bumpOpen_xpt : (d.bumpOpen a k).xpt = d.xpt := by unfold Drive.bumpOpen; exact Drive.setReg_xpt ..
@[simp] theorem Drive.bumpOpen_mch : (d.bumpOpen a k).mch = d.mch := by unfold Drive.bumpOpen; exact Drive.setReg_mch ..
@[simp] theorem Drive.bumpOpen_cph : (d.bumpOpen a k).cph = d.cph := by unfold Drive.bumpOpen; exact Drive.setReg_cph ..
@[simp] theorem Drive.bumpOpen_nss : (d.bumpOpen a k).nss = d.nss := by unfold Drive.bumpOpen; exact Drive.setReg_nss ..
@[simp] theorem Drive.bumpOpen_vers : (d.bumpOpen a k).vers = d.vers := by unfold Drive.bumpOpen; exact Drive.setReg_vers ..
@[simp] theorem Drive.bumpOpen_uses : (d.bumpOpen a k).uses = d.uses := by unfold Drive.bumpOpen; exact Drive.setReg_uses ..
@[simp] theorem Drive.bumpOpen_jobs : (d.bumpOpen a k).jobs = d.jobs := by unfold Drive.bumpOpen; exact Drive.setReg_jobs ..
@[simp] theorem Drive.bumpOpen_nextJob : (d.bumpOpen a k).nextJob = d.nextJob := by unfold Drive.bumpOpen; exact Drive.setReg_nextJob ..
@[simp] theorem Drive.bumpOpen_jrn : (d.bumpOpen a k).jrn = d.jrn := by unfold Drive.bumpOpen; exact Drive.setReg_jrn ..
@[simp] theorem Drive.bumpOpen_med : (d.bumpOpen a k).med = d.med := by unfold Drive.bumpOpen; exact Drive.setReg_med ..
@[simp] theorem Drive.bumpOpen_ctl : (d.bumpOpen a k).ctl = d.ctl := by unfold Drive.bumpOpen; exact Drive.setReg_ctl ..
@[simp] theorem Drive.bumpOpen_upd : (d.bumpOpen a k).upd = d.upd := by unfold Drive.bumpOpen; exact Drive.setReg_upd ..
@[simp] theorem Drive.bumpOpen_snaps : (d.bumpOpen a k).snaps = d.snaps := by unfold Drive.bumpOpen; exact Drive.setReg_snaps ..
@[simp] theorem Drive.bumpOpen_bufs : (d.bumpOpen a k).bufs = d.bufs := by unfold Drive.bumpOpen; exact Drive.setReg_bufs ..
@[simp] theorem Drive.bumpOpen_results : (d.bumpOpen a k).results = d.results := by unfold Drive.bumpOpen; exact Drive.setReg_results ..
@[simp] theorem Drive.bumpOpen_i3cAddr : (d.bumpOpen a k).i3cAddr = d.i3cAddr := by unfold Drive.bumpOpen; exact Drive.setReg_i3cAddr ..
@[simp] theorem Drive.bumpOpen_i3cIbi : (d.bumpOpen a k).i3cIbi = d.i3cIbi := by unfold Drive.bumpOpen; exact Drive.setReg_i3cIbi ..
@[simp] theorem Drive.bumpOpen_edges : (d.bumpOpen a k).edges = d.edges := by unfold Drive.bumpOpen; exact Drive.setReg_edges ..
@[simp] theorem Drive.bumpOpen_deferred : (d.bumpOpen a k).deferred = d.deferred := by unfold Drive.bumpOpen; exact Drive.setReg_deferred ..
@[simp] theorem Drive.bumpOpen_late : (d.bumpOpen a k).late = d.late := by unfold Drive.bumpOpen; exact Drive.setReg_late ..
@[simp] theorem Drive.bumpOpen_ledTest : (d.bumpOpen a k).ledTest = d.ledTest := by unfold Drive.bumpOpen; exact Drive.setReg_ledTest ..
@[simp] theorem Drive.bumpOpen_airSeen : (d.bumpOpen a k).airSeen = d.airSeen := by unfold Drive.bumpOpen; exact Drive.setReg_airSeen ..
@[simp] theorem Drive.bumpOpen_lastRsp : (d.bumpOpen a k).lastRsp = d.lastRsp := by unfold Drive.bumpOpen; exact Drive.setReg_lastRsp ..
@[simp] theorem Drive.bumpOpen_free : (d.bumpOpen a k).free = d.free := by unfold Drive.bumpOpen; exact Drive.setReg_free ..
@[simp] theorem Drive.bumpOpen_out : (d.bumpOpen a k).out = d.out := by unfold Drive.bumpOpen; exact Drive.setReg_out ..

/-! ### A wide counter -/

@[simp] theorem Drive.bumpWide_pwr : (d.bumpWide a k).pwr = d.pwr := by unfold Drive.bumpWide; exact Drive.setWide_pwr ..
@[simp] theorem Drive.bumpWide_nrg : (d.bumpWide a k).nrg = d.nrg := by unfold Drive.bumpWide; exact Drive.setWide_nrg ..
@[simp] theorem Drive.bumpWide_pack : (d.bumpWide a k).pack = d.pack := by unfold Drive.bumpWide; exact Drive.setWide_pack ..
@[simp] theorem Drive.bumpWide_recorder : (d.bumpWide a k).recorder = d.recorder := by unfold Drive.bumpWide; exact Drive.setWide_recorder ..
@[simp] theorem Drive.bumpWide_chn : (d.bumpWide a k).chn = d.chn := by unfold Drive.bumpWide; exact Drive.setWide_chn ..
@[simp] theorem Drive.bumpWide_ports : (d.bumpWide a k).ports = d.ports := by unfold Drive.bumpWide; exact Drive.setWide_ports ..
@[simp] theorem Drive.bumpWide_xpt : (d.bumpWide a k).xpt = d.xpt := by unfold Drive.bumpWide; exact Drive.setWide_xpt ..
@[simp] theorem Drive.bumpWide_mch : (d.bumpWide a k).mch = d.mch := by unfold Drive.bumpWide; exact Drive.setWide_mch ..
@[simp] theorem Drive.bumpWide_cph : (d.bumpWide a k).cph = d.cph := by unfold Drive.bumpWide; exact Drive.setWide_cph ..
@[simp] theorem Drive.bumpWide_nss : (d.bumpWide a k).nss = d.nss := by unfold Drive.bumpWide; exact Drive.setWide_nss ..
@[simp] theorem Drive.bumpWide_vers : (d.bumpWide a k).vers = d.vers := by unfold Drive.bumpWide; exact Drive.setWide_vers ..
@[simp] theorem Drive.bumpWide_uses : (d.bumpWide a k).uses = d.uses := by unfold Drive.bumpWide; exact Drive.setWide_uses ..
@[simp] theorem Drive.bumpWide_jobs : (d.bumpWide a k).jobs = d.jobs := by unfold Drive.bumpWide; exact Drive.setWide_jobs ..
@[simp] theorem Drive.bumpWide_nextJob : (d.bumpWide a k).nextJob = d.nextJob := by unfold Drive.bumpWide; exact Drive.setWide_nextJob ..
@[simp] theorem Drive.bumpWide_jrn : (d.bumpWide a k).jrn = d.jrn := by unfold Drive.bumpWide; exact Drive.setWide_jrn ..
@[simp] theorem Drive.bumpWide_med : (d.bumpWide a k).med = d.med := by unfold Drive.bumpWide; exact Drive.setWide_med ..
@[simp] theorem Drive.bumpWide_ctl : (d.bumpWide a k).ctl = d.ctl := by unfold Drive.bumpWide; exact Drive.setWide_ctl ..
@[simp] theorem Drive.bumpWide_upd : (d.bumpWide a k).upd = d.upd := by unfold Drive.bumpWide; exact Drive.setWide_upd ..
@[simp] theorem Drive.bumpWide_snaps : (d.bumpWide a k).snaps = d.snaps := by unfold Drive.bumpWide; exact Drive.setWide_snaps ..
@[simp] theorem Drive.bumpWide_bufs : (d.bumpWide a k).bufs = d.bufs := by unfold Drive.bumpWide; exact Drive.setWide_bufs ..
@[simp] theorem Drive.bumpWide_results : (d.bumpWide a k).results = d.results := by unfold Drive.bumpWide; exact Drive.setWide_results ..
@[simp] theorem Drive.bumpWide_i3cAddr : (d.bumpWide a k).i3cAddr = d.i3cAddr := by unfold Drive.bumpWide; exact Drive.setWide_i3cAddr ..
@[simp] theorem Drive.bumpWide_i3cIbi : (d.bumpWide a k).i3cIbi = d.i3cIbi := by unfold Drive.bumpWide; exact Drive.setWide_i3cIbi ..
@[simp] theorem Drive.bumpWide_edges : (d.bumpWide a k).edges = d.edges := by unfold Drive.bumpWide; exact Drive.setWide_edges ..
@[simp] theorem Drive.bumpWide_deferred : (d.bumpWide a k).deferred = d.deferred := by unfold Drive.bumpWide; exact Drive.setWide_deferred ..
@[simp] theorem Drive.bumpWide_late : (d.bumpWide a k).late = d.late := by unfold Drive.bumpWide; exact Drive.setWide_late ..
@[simp] theorem Drive.bumpWide_ledTest : (d.bumpWide a k).ledTest = d.ledTest := by unfold Drive.bumpWide; exact Drive.setWide_ledTest ..
@[simp] theorem Drive.bumpWide_airSeen : (d.bumpWide a k).airSeen = d.airSeen := by unfold Drive.bumpWide; exact Drive.setWide_airSeen ..
@[simp] theorem Drive.bumpWide_lastRsp : (d.bumpWide a k).lastRsp = d.lastRsp := by unfold Drive.bumpWide; exact Drive.setWide_lastRsp ..
@[simp] theorem Drive.bumpWide_free : (d.bumpWide a k).free = d.free := by unfold Drive.bumpWide; exact Drive.setWide_free ..
@[simp] theorem Drive.bumpWide_out : (d.bumpWide a k).out = d.out := by unfold Drive.bumpWide; exact Drive.setWide_out ..

/-! ### ERR_CNT -/

@[simp] theorem Drive.errCnt_pwr : (d.errCnt p).pwr = d.pwr := Drive.bump_pwr ..
@[simp] theorem Drive.errCnt_nrg : (d.errCnt p).nrg = d.nrg := Drive.bump_nrg ..
@[simp] theorem Drive.errCnt_pack : (d.errCnt p).pack = d.pack := Drive.bump_pack ..
@[simp] theorem Drive.errCnt_recorder : (d.errCnt p).recorder = d.recorder := Drive.bump_recorder ..
@[simp] theorem Drive.errCnt_chn : (d.errCnt p).chn = d.chn := Drive.bump_chn ..
@[simp] theorem Drive.errCnt_ports : (d.errCnt p).ports = d.ports := Drive.bump_ports ..
@[simp] theorem Drive.errCnt_xpt : (d.errCnt p).xpt = d.xpt := Drive.bump_xpt ..
@[simp] theorem Drive.errCnt_mch : (d.errCnt p).mch = d.mch := Drive.bump_mch ..
@[simp] theorem Drive.errCnt_cph : (d.errCnt p).cph = d.cph := Drive.bump_cph ..
@[simp] theorem Drive.errCnt_nss : (d.errCnt p).nss = d.nss := Drive.bump_nss ..
@[simp] theorem Drive.errCnt_vers : (d.errCnt p).vers = d.vers := Drive.bump_vers ..
@[simp] theorem Drive.errCnt_uses : (d.errCnt p).uses = d.uses := Drive.bump_uses ..
@[simp] theorem Drive.errCnt_jobs : (d.errCnt p).jobs = d.jobs := Drive.bump_jobs ..
@[simp] theorem Drive.errCnt_nextJob : (d.errCnt p).nextJob = d.nextJob := Drive.bump_nextJob ..
@[simp] theorem Drive.errCnt_jrn : (d.errCnt p).jrn = d.jrn := Drive.bump_jrn ..
@[simp] theorem Drive.errCnt_med : (d.errCnt p).med = d.med := Drive.bump_med ..
@[simp] theorem Drive.errCnt_ctl : (d.errCnt p).ctl = d.ctl := Drive.bump_ctl ..
@[simp] theorem Drive.errCnt_upd : (d.errCnt p).upd = d.upd := Drive.bump_upd ..
@[simp] theorem Drive.errCnt_snaps : (d.errCnt p).snaps = d.snaps := Drive.bump_snaps ..
@[simp] theorem Drive.errCnt_bufs : (d.errCnt p).bufs = d.bufs := Drive.bump_bufs ..
@[simp] theorem Drive.errCnt_results : (d.errCnt p).results = d.results := Drive.bump_results ..
@[simp] theorem Drive.errCnt_i3cAddr : (d.errCnt p).i3cAddr = d.i3cAddr := Drive.bump_i3cAddr ..
@[simp] theorem Drive.errCnt_i3cIbi : (d.errCnt p).i3cIbi = d.i3cIbi := Drive.bump_i3cIbi ..
@[simp] theorem Drive.errCnt_edges : (d.errCnt p).edges = d.edges := Drive.bump_edges ..
@[simp] theorem Drive.errCnt_deferred : (d.errCnt p).deferred = d.deferred := Drive.bump_deferred ..
@[simp] theorem Drive.errCnt_late : (d.errCnt p).late = d.late := Drive.bump_late ..
@[simp] theorem Drive.errCnt_ledTest : (d.errCnt p).ledTest = d.ledTest := Drive.bump_ledTest ..
@[simp] theorem Drive.errCnt_airSeen : (d.errCnt p).airSeen = d.airSeen := Drive.bump_airSeen ..
@[simp] theorem Drive.errCnt_lastRsp : (d.errCnt p).lastRsp = d.lastRsp := Drive.bump_lastRsp ..
@[simp] theorem Drive.errCnt_free : (d.errCnt p).free = d.free := Drive.bump_free ..
@[simp] theorem Drive.errCnt_out : (d.errCnt p).out = d.out := Drive.bump_out ..

/-! ### A change of INT_STAT or INT_EN -/

@[simp] theorem Drive.withEdge_pwr (g : Drive → Drive) : (d.withEdge p g).pwr = (g d).pwr := by
  unfold Drive.withEdge; dsimp only; split_ifs <;> rfl
@[simp] theorem Drive.withEdge_nrg (g : Drive → Drive) : (d.withEdge p g).nrg = (g d).nrg := by
  unfold Drive.withEdge; dsimp only; split_ifs <;> rfl
@[simp] theorem Drive.withEdge_pack (g : Drive → Drive) : (d.withEdge p g).pack = (g d).pack := by
  unfold Drive.withEdge; dsimp only; split_ifs <;> rfl
@[simp] theorem Drive.withEdge_recorder (g : Drive → Drive) : (d.withEdge p g).recorder = (g d).recorder := by
  unfold Drive.withEdge; dsimp only; split_ifs <;> rfl
@[simp] theorem Drive.withEdge_chn (g : Drive → Drive) : (d.withEdge p g).chn = (g d).chn := by
  unfold Drive.withEdge; dsimp only; split_ifs <;> rfl
@[simp] theorem Drive.withEdge_ports (g : Drive → Drive) : (d.withEdge p g).ports = (g d).ports := by
  unfold Drive.withEdge; dsimp only; split_ifs <;> rfl
@[simp] theorem Drive.withEdge_xpt (g : Drive → Drive) : (d.withEdge p g).xpt = (g d).xpt := by
  unfold Drive.withEdge; dsimp only; split_ifs <;> rfl
@[simp] theorem Drive.withEdge_mch (g : Drive → Drive) : (d.withEdge p g).mch = (g d).mch := by
  unfold Drive.withEdge; dsimp only; split_ifs <;> rfl
@[simp] theorem Drive.withEdge_cph (g : Drive → Drive) : (d.withEdge p g).cph = (g d).cph := by
  unfold Drive.withEdge; dsimp only; split_ifs <;> rfl
@[simp] theorem Drive.withEdge_nss (g : Drive → Drive) : (d.withEdge p g).nss = (g d).nss := by
  unfold Drive.withEdge; dsimp only; split_ifs <;> rfl
@[simp] theorem Drive.withEdge_vers (g : Drive → Drive) : (d.withEdge p g).vers = (g d).vers := by
  unfold Drive.withEdge; dsimp only; split_ifs <;> rfl
@[simp] theorem Drive.withEdge_uses (g : Drive → Drive) : (d.withEdge p g).uses = (g d).uses := by
  unfold Drive.withEdge; dsimp only; split_ifs <;> rfl
@[simp] theorem Drive.withEdge_jobs (g : Drive → Drive) : (d.withEdge p g).jobs = (g d).jobs := by
  unfold Drive.withEdge; dsimp only; split_ifs <;> rfl
@[simp] theorem Drive.withEdge_nextJob (g : Drive → Drive) : (d.withEdge p g).nextJob = (g d).nextJob := by
  unfold Drive.withEdge; dsimp only; split_ifs <;> rfl
@[simp] theorem Drive.withEdge_jrn (g : Drive → Drive) : (d.withEdge p g).jrn = (g d).jrn := by
  unfold Drive.withEdge; dsimp only; split_ifs <;> rfl
@[simp] theorem Drive.withEdge_med (g : Drive → Drive) : (d.withEdge p g).med = (g d).med := by
  unfold Drive.withEdge; dsimp only; split_ifs <;> rfl
@[simp] theorem Drive.withEdge_ctl (g : Drive → Drive) : (d.withEdge p g).ctl = (g d).ctl := by
  unfold Drive.withEdge; dsimp only; split_ifs <;> rfl
@[simp] theorem Drive.withEdge_upd (g : Drive → Drive) : (d.withEdge p g).upd = (g d).upd := by
  unfold Drive.withEdge; dsimp only; split_ifs <;> rfl
@[simp] theorem Drive.withEdge_snaps (g : Drive → Drive) : (d.withEdge p g).snaps = (g d).snaps := by
  unfold Drive.withEdge; dsimp only; split_ifs <;> rfl
@[simp] theorem Drive.withEdge_bufs (g : Drive → Drive) : (d.withEdge p g).bufs = (g d).bufs := by
  unfold Drive.withEdge; dsimp only; split_ifs <;> rfl
@[simp] theorem Drive.withEdge_results (g : Drive → Drive) : (d.withEdge p g).results = (g d).results := by
  unfold Drive.withEdge; dsimp only; split_ifs <;> rfl
@[simp] theorem Drive.withEdge_i3cAddr (g : Drive → Drive) : (d.withEdge p g).i3cAddr = (g d).i3cAddr := by
  unfold Drive.withEdge; dsimp only; split_ifs <;> rfl
@[simp] theorem Drive.withEdge_i3cIbi (g : Drive → Drive) : (d.withEdge p g).i3cIbi = (g d).i3cIbi := by
  unfold Drive.withEdge; dsimp only; split_ifs <;> rfl
@[simp] theorem Drive.withEdge_late (g : Drive → Drive) : (d.withEdge p g).late = (g d).late := by
  unfold Drive.withEdge; dsimp only; split_ifs <;> rfl
@[simp] theorem Drive.withEdge_ledTest (g : Drive → Drive) : (d.withEdge p g).ledTest = (g d).ledTest := by
  unfold Drive.withEdge; dsimp only; split_ifs <;> rfl
@[simp] theorem Drive.withEdge_airSeen (g : Drive → Drive) : (d.withEdge p g).airSeen = (g d).airSeen := by
  unfold Drive.withEdge; dsimp only; split_ifs <;> rfl
@[simp] theorem Drive.withEdge_lastRsp (g : Drive → Drive) : (d.withEdge p g).lastRsp = (g d).lastRsp := by
  unfold Drive.withEdge; dsimp only; split_ifs <;> rfl
@[simp] theorem Drive.withEdge_free (g : Drive → Drive) : (d.withEdge p g).free = (g d).free := by
  unfold Drive.withEdge; dsimp only; split_ifs <;> rfl
@[simp] theorem Drive.withEdge_out (g : Drive → Drive) : (d.withEdge p g).out = (g d).out := by
  unfold Drive.withEdge; dsimp only; split_ifs <;> rfl

/-! ### An interrupt bit -/

@[simp] theorem Drive.setInt_pwr : (d.setInt p b).pwr = d.pwr := by
  unfold Drive.setInt; split_ifs <;> first | exact Drive.withEdge_pwr .. | rfl
@[simp] theorem Drive.setInt_nrg : (d.setInt p b).nrg = d.nrg := by
  unfold Drive.setInt; split_ifs <;> first | exact Drive.withEdge_nrg .. | rfl
@[simp] theorem Drive.setInt_pack : (d.setInt p b).pack = d.pack := by
  unfold Drive.setInt; split_ifs <;> first | exact Drive.withEdge_pack .. | rfl
@[simp] theorem Drive.setInt_recorder : (d.setInt p b).recorder = d.recorder := by
  unfold Drive.setInt; split_ifs <;> first | exact Drive.withEdge_recorder .. | rfl
@[simp] theorem Drive.setInt_chn : (d.setInt p b).chn = d.chn := by
  unfold Drive.setInt; split_ifs <;> first | exact Drive.withEdge_chn .. | rfl
@[simp] theorem Drive.setInt_ports : (d.setInt p b).ports = d.ports := by
  unfold Drive.setInt; split_ifs <;> first | exact Drive.withEdge_ports .. | rfl
@[simp] theorem Drive.setInt_xpt : (d.setInt p b).xpt = d.xpt := by
  unfold Drive.setInt; split_ifs <;> first | exact Drive.withEdge_xpt .. | rfl
@[simp] theorem Drive.setInt_mch : (d.setInt p b).mch = d.mch := by
  unfold Drive.setInt; split_ifs <;> first | exact Drive.withEdge_mch .. | rfl
@[simp] theorem Drive.setInt_cph : (d.setInt p b).cph = d.cph := by
  unfold Drive.setInt; split_ifs <;> first | exact Drive.withEdge_cph .. | rfl
@[simp] theorem Drive.setInt_nss : (d.setInt p b).nss = d.nss := by
  unfold Drive.setInt; split_ifs <;> first | exact Drive.withEdge_nss .. | rfl
@[simp] theorem Drive.setInt_vers : (d.setInt p b).vers = d.vers := by
  unfold Drive.setInt; split_ifs <;> first | exact Drive.withEdge_vers .. | rfl
@[simp] theorem Drive.setInt_uses : (d.setInt p b).uses = d.uses := by
  unfold Drive.setInt; split_ifs <;> first | exact Drive.withEdge_uses .. | rfl
@[simp] theorem Drive.setInt_jobs : (d.setInt p b).jobs = d.jobs := by
  unfold Drive.setInt; split_ifs <;> first | exact Drive.withEdge_jobs .. | rfl
@[simp] theorem Drive.setInt_nextJob : (d.setInt p b).nextJob = d.nextJob := by
  unfold Drive.setInt; split_ifs <;> first | exact Drive.withEdge_nextJob .. | rfl
@[simp] theorem Drive.setInt_jrn : (d.setInt p b).jrn = d.jrn := by
  unfold Drive.setInt; split_ifs <;> first | exact Drive.withEdge_jrn .. | rfl
@[simp] theorem Drive.setInt_med : (d.setInt p b).med = d.med := by
  unfold Drive.setInt; split_ifs <;> first | exact Drive.withEdge_med .. | rfl
@[simp] theorem Drive.setInt_ctl : (d.setInt p b).ctl = d.ctl := by
  unfold Drive.setInt; split_ifs <;> first | exact Drive.withEdge_ctl .. | rfl
@[simp] theorem Drive.setInt_upd : (d.setInt p b).upd = d.upd := by
  unfold Drive.setInt; split_ifs <;> first | exact Drive.withEdge_upd .. | rfl
@[simp] theorem Drive.setInt_snaps : (d.setInt p b).snaps = d.snaps := by
  unfold Drive.setInt; split_ifs <;> first | exact Drive.withEdge_snaps .. | rfl
@[simp] theorem Drive.setInt_bufs : (d.setInt p b).bufs = d.bufs := by
  unfold Drive.setInt; split_ifs <;> first | exact Drive.withEdge_bufs .. | rfl
@[simp] theorem Drive.setInt_results : (d.setInt p b).results = d.results := by
  unfold Drive.setInt; split_ifs <;> first | exact Drive.withEdge_results .. | rfl
@[simp] theorem Drive.setInt_i3cAddr : (d.setInt p b).i3cAddr = d.i3cAddr := by
  unfold Drive.setInt; split_ifs <;> first | exact Drive.withEdge_i3cAddr .. | rfl
@[simp] theorem Drive.setInt_i3cIbi : (d.setInt p b).i3cIbi = d.i3cIbi := by
  unfold Drive.setInt; split_ifs <;> first | exact Drive.withEdge_i3cIbi .. | rfl
@[simp] theorem Drive.setInt_ledTest : (d.setInt p b).ledTest = d.ledTest := by
  unfold Drive.setInt; split_ifs <;> first | exact Drive.withEdge_ledTest .. | rfl
@[simp] theorem Drive.setInt_airSeen : (d.setInt p b).airSeen = d.airSeen := by
  unfold Drive.setInt; split_ifs <;> first | exact Drive.withEdge_airSeen .. | rfl
@[simp] theorem Drive.setInt_lastRsp : (d.setInt p b).lastRsp = d.lastRsp := by
  unfold Drive.setInt; split_ifs <;> first | exact Drive.withEdge_lastRsp .. | rfl
@[simp] theorem Drive.setInt_free : (d.setInt p b).free = d.free := by
  unfold Drive.setInt; split_ifs <;> first | exact Drive.withEdge_free .. | rfl
@[simp] theorem Drive.setInt_out : (d.setInt p b).out = d.out := by
  unfold Drive.setInt; split_ifs <;> first | exact Drive.withEdge_out .. | rfl

/-! ### A dropped event -/

@[simp] theorem Drive.recDrop_pwr : (d.recDrop code k n).pwr = d.pwr := Drive.setInt_pwr ..
@[simp] theorem Drive.recDrop_nrg : (d.recDrop code k n).nrg = d.nrg := Drive.setInt_nrg ..
@[simp] theorem Drive.recDrop_pack : (d.recDrop code k n).pack = d.pack := Drive.setInt_pack ..
@[simp] theorem Drive.recDrop_chn : (d.recDrop code k n).chn = d.chn := Drive.setInt_chn ..
@[simp] theorem Drive.recDrop_ports : (d.recDrop code k n).ports = d.ports := Drive.setInt_ports ..
@[simp] theorem Drive.recDrop_xpt : (d.recDrop code k n).xpt = d.xpt := Drive.setInt_xpt ..
@[simp] theorem Drive.recDrop_mch : (d.recDrop code k n).mch = d.mch := Drive.setInt_mch ..
@[simp] theorem Drive.recDrop_cph : (d.recDrop code k n).cph = d.cph := Drive.setInt_cph ..
@[simp] theorem Drive.recDrop_nss : (d.recDrop code k n).nss = d.nss := Drive.setInt_nss ..
@[simp] theorem Drive.recDrop_vers : (d.recDrop code k n).vers = d.vers := Drive.setInt_vers ..
@[simp] theorem Drive.recDrop_uses : (d.recDrop code k n).uses = d.uses := Drive.setInt_uses ..
@[simp] theorem Drive.recDrop_jobs : (d.recDrop code k n).jobs = d.jobs := Drive.setInt_jobs ..
@[simp] theorem Drive.recDrop_nextJob : (d.recDrop code k n).nextJob = d.nextJob := Drive.setInt_nextJob ..
@[simp] theorem Drive.recDrop_jrn : (d.recDrop code k n).jrn = d.jrn := Drive.setInt_jrn ..
@[simp] theorem Drive.recDrop_med : (d.recDrop code k n).med = d.med := Drive.setInt_med ..
@[simp] theorem Drive.recDrop_ctl : (d.recDrop code k n).ctl = d.ctl := Drive.setInt_ctl ..
@[simp] theorem Drive.recDrop_upd : (d.recDrop code k n).upd = d.upd := Drive.setInt_upd ..
@[simp] theorem Drive.recDrop_snaps : (d.recDrop code k n).snaps = d.snaps := Drive.setInt_snaps ..
@[simp] theorem Drive.recDrop_bufs : (d.recDrop code k n).bufs = d.bufs := Drive.setInt_bufs ..
@[simp] theorem Drive.recDrop_results : (d.recDrop code k n).results = d.results := Drive.setInt_results ..
@[simp] theorem Drive.recDrop_i3cAddr : (d.recDrop code k n).i3cAddr = d.i3cAddr := Drive.setInt_i3cAddr ..
@[simp] theorem Drive.recDrop_i3cIbi : (d.recDrop code k n).i3cIbi = d.i3cIbi := Drive.setInt_i3cIbi ..
@[simp] theorem Drive.recDrop_ledTest : (d.recDrop code k n).ledTest = d.ledTest := Drive.setInt_ledTest ..
@[simp] theorem Drive.recDrop_airSeen : (d.recDrop code k n).airSeen = d.airSeen := Drive.setInt_airSeen ..
@[simp] theorem Drive.recDrop_lastRsp : (d.recDrop code k n).lastRsp = d.lastRsp := Drive.setInt_lastRsp ..
@[simp] theorem Drive.recDrop_free : (d.recDrop code k n).free = d.free := Drive.setInt_free ..
@[simp] theorem Drive.recDrop_out : (d.recDrop code k n).out = d.out := Drive.setInt_out ..

/-! ### A peak -/

@[simp] theorem Drive.peak_pwr : (d.peak a hi lo v).pwr = d.pwr := by unfold Drive.peak; dsimp only; split_ifs <;> rfl
@[simp] theorem Drive.peak_nrg : (d.peak a hi lo v).nrg = d.nrg := by unfold Drive.peak; dsimp only; split_ifs <;> rfl
@[simp] theorem Drive.peak_pack : (d.peak a hi lo v).pack = d.pack := by unfold Drive.peak; dsimp only; split_ifs <;> rfl
@[simp] theorem Drive.peak_recorder : (d.peak a hi lo v).recorder = d.recorder := by unfold Drive.peak; dsimp only; split_ifs <;> rfl
@[simp] theorem Drive.peak_chn : (d.peak a hi lo v).chn = d.chn := by unfold Drive.peak; dsimp only; split_ifs <;> rfl
@[simp] theorem Drive.peak_ports : (d.peak a hi lo v).ports = d.ports := by unfold Drive.peak; dsimp only; split_ifs <;> rfl
@[simp] theorem Drive.peak_xpt : (d.peak a hi lo v).xpt = d.xpt := by unfold Drive.peak; dsimp only; split_ifs <;> rfl
@[simp] theorem Drive.peak_mch : (d.peak a hi lo v).mch = d.mch := by unfold Drive.peak; dsimp only; split_ifs <;> rfl
@[simp] theorem Drive.peak_cph : (d.peak a hi lo v).cph = d.cph := by unfold Drive.peak; dsimp only; split_ifs <;> rfl
@[simp] theorem Drive.peak_nss : (d.peak a hi lo v).nss = d.nss := by unfold Drive.peak; dsimp only; split_ifs <;> rfl
@[simp] theorem Drive.peak_vers : (d.peak a hi lo v).vers = d.vers := by unfold Drive.peak; dsimp only; split_ifs <;> rfl
@[simp] theorem Drive.peak_uses : (d.peak a hi lo v).uses = d.uses := by unfold Drive.peak; dsimp only; split_ifs <;> rfl
@[simp] theorem Drive.peak_jobs : (d.peak a hi lo v).jobs = d.jobs := by unfold Drive.peak; dsimp only; split_ifs <;> rfl
@[simp] theorem Drive.peak_nextJob : (d.peak a hi lo v).nextJob = d.nextJob := by unfold Drive.peak; dsimp only; split_ifs <;> rfl
@[simp] theorem Drive.peak_jrn : (d.peak a hi lo v).jrn = d.jrn := by unfold Drive.peak; dsimp only; split_ifs <;> rfl
@[simp] theorem Drive.peak_med : (d.peak a hi lo v).med = d.med := by unfold Drive.peak; dsimp only; split_ifs <;> rfl
@[simp] theorem Drive.peak_ctl : (d.peak a hi lo v).ctl = d.ctl := by unfold Drive.peak; dsimp only; split_ifs <;> rfl
@[simp] theorem Drive.peak_upd : (d.peak a hi lo v).upd = d.upd := by unfold Drive.peak; dsimp only; split_ifs <;> rfl
@[simp] theorem Drive.peak_snaps : (d.peak a hi lo v).snaps = d.snaps := by unfold Drive.peak; dsimp only; split_ifs <;> rfl
@[simp] theorem Drive.peak_bufs : (d.peak a hi lo v).bufs = d.bufs := by unfold Drive.peak; dsimp only; split_ifs <;> rfl
@[simp] theorem Drive.peak_results : (d.peak a hi lo v).results = d.results := by unfold Drive.peak; dsimp only; split_ifs <;> rfl
@[simp] theorem Drive.peak_i3cAddr : (d.peak a hi lo v).i3cAddr = d.i3cAddr := by unfold Drive.peak; dsimp only; split_ifs <;> rfl
@[simp] theorem Drive.peak_i3cIbi : (d.peak a hi lo v).i3cIbi = d.i3cIbi := by unfold Drive.peak; dsimp only; split_ifs <;> rfl
@[simp] theorem Drive.peak_edges : (d.peak a hi lo v).edges = d.edges := by unfold Drive.peak; dsimp only; split_ifs <;> rfl
@[simp] theorem Drive.peak_deferred : (d.peak a hi lo v).deferred = d.deferred := by unfold Drive.peak; dsimp only; split_ifs <;> rfl
@[simp] theorem Drive.peak_late : (d.peak a hi lo v).late = d.late := by unfold Drive.peak; dsimp only; split_ifs <;> rfl
@[simp] theorem Drive.peak_ledTest : (d.peak a hi lo v).ledTest = d.ledTest := by unfold Drive.peak; dsimp only; split_ifs <;> rfl
@[simp] theorem Drive.peak_airSeen : (d.peak a hi lo v).airSeen = d.airSeen := by unfold Drive.peak; dsimp only; split_ifs <;> rfl
@[simp] theorem Drive.peak_lastRsp : (d.peak a hi lo v).lastRsp = d.lastRsp := by unfold Drive.peak; dsimp only; split_ifs <;> rfl
@[simp] theorem Drive.peak_free : (d.peak a hi lo v).free = d.free := by unfold Drive.peak; dsimp only; split_ifs <;> rfl
@[simp] theorem Drive.peak_out : (d.peak a hi lo v).out = d.out := by unfold Drive.peak; dsimp only; split_ifs <;> rfl

/-! ### An event that enters the queue -/

@[simp] theorem Drive.recEnter_pwr : (d.recEnter clk code p0 p1 p2 p3).pwr = d.pwr := Drive.peak_pwr ..
@[simp] theorem Drive.recEnter_nrg : (d.recEnter clk code p0 p1 p2 p3).nrg = d.nrg := Drive.peak_nrg ..
@[simp] theorem Drive.recEnter_pack : (d.recEnter clk code p0 p1 p2 p3).pack = d.pack := Drive.peak_pack ..
@[simp] theorem Drive.recEnter_chn : (d.recEnter clk code p0 p1 p2 p3).chn = d.chn := Drive.peak_chn ..
@[simp] theorem Drive.recEnter_ports : (d.recEnter clk code p0 p1 p2 p3).ports = d.ports := Drive.peak_ports ..
@[simp] theorem Drive.recEnter_xpt : (d.recEnter clk code p0 p1 p2 p3).xpt = d.xpt := Drive.peak_xpt ..
@[simp] theorem Drive.recEnter_mch : (d.recEnter clk code p0 p1 p2 p3).mch = d.mch := Drive.peak_mch ..
@[simp] theorem Drive.recEnter_cph : (d.recEnter clk code p0 p1 p2 p3).cph = d.cph := Drive.peak_cph ..
@[simp] theorem Drive.recEnter_nss : (d.recEnter clk code p0 p1 p2 p3).nss = d.nss := Drive.peak_nss ..
@[simp] theorem Drive.recEnter_vers : (d.recEnter clk code p0 p1 p2 p3).vers = d.vers := Drive.peak_vers ..
@[simp] theorem Drive.recEnter_uses : (d.recEnter clk code p0 p1 p2 p3).uses = d.uses := Drive.peak_uses ..
@[simp] theorem Drive.recEnter_jobs : (d.recEnter clk code p0 p1 p2 p3).jobs = d.jobs := Drive.peak_jobs ..
@[simp] theorem Drive.recEnter_nextJob : (d.recEnter clk code p0 p1 p2 p3).nextJob = d.nextJob := Drive.peak_nextJob ..
@[simp] theorem Drive.recEnter_jrn : (d.recEnter clk code p0 p1 p2 p3).jrn = d.jrn := Drive.peak_jrn ..
@[simp] theorem Drive.recEnter_med : (d.recEnter clk code p0 p1 p2 p3).med = d.med := Drive.peak_med ..
@[simp] theorem Drive.recEnter_ctl : (d.recEnter clk code p0 p1 p2 p3).ctl = d.ctl := Drive.peak_ctl ..
@[simp] theorem Drive.recEnter_upd : (d.recEnter clk code p0 p1 p2 p3).upd = d.upd := Drive.peak_upd ..
@[simp] theorem Drive.recEnter_snaps : (d.recEnter clk code p0 p1 p2 p3).snaps = d.snaps := Drive.peak_snaps ..
@[simp] theorem Drive.recEnter_bufs : (d.recEnter clk code p0 p1 p2 p3).bufs = d.bufs := Drive.peak_bufs ..
@[simp] theorem Drive.recEnter_results : (d.recEnter clk code p0 p1 p2 p3).results = d.results := Drive.peak_results ..
@[simp] theorem Drive.recEnter_i3cAddr : (d.recEnter clk code p0 p1 p2 p3).i3cAddr = d.i3cAddr := Drive.peak_i3cAddr ..
@[simp] theorem Drive.recEnter_i3cIbi : (d.recEnter clk code p0 p1 p2 p3).i3cIbi = d.i3cIbi := Drive.peak_i3cIbi ..
@[simp] theorem Drive.recEnter_ledTest : (d.recEnter clk code p0 p1 p2 p3).ledTest = d.ledTest := Drive.peak_ledTest ..
@[simp] theorem Drive.recEnter_airSeen : (d.recEnter clk code p0 p1 p2 p3).airSeen = d.airSeen := Drive.peak_airSeen ..
@[simp] theorem Drive.recEnter_lastRsp : (d.recEnter clk code p0 p1 p2 p3).lastRsp = d.lastRsp := Drive.peak_lastRsp ..
@[simp] theorem Drive.recEnter_free : (d.recEnter clk code p0 p1 p2 p3).free = d.free := Drive.peak_free ..
@[simp] theorem Drive.recEnter_out : (d.recEnter clk code p0 p1 p2 p3).out = d.out := Drive.peak_out ..

/-! ### A change of the recorder alone -/

@[simp] theorem Drive.onRec_pwr (g : Recorder → Recorder) : (d.onRec g).pwr = d.pwr := rfl
@[simp] theorem Drive.onRec_nrg (g : Recorder → Recorder) : (d.onRec g).nrg = d.nrg := rfl
@[simp] theorem Drive.onRec_pack (g : Recorder → Recorder) : (d.onRec g).pack = d.pack := rfl
@[simp] theorem Drive.onRec_chn (g : Recorder → Recorder) : (d.onRec g).chn = d.chn := rfl
@[simp] theorem Drive.onRec_ports (g : Recorder → Recorder) : (d.onRec g).ports = d.ports := rfl
@[simp] theorem Drive.onRec_xpt (g : Recorder → Recorder) : (d.onRec g).xpt = d.xpt := rfl
@[simp] theorem Drive.onRec_mch (g : Recorder → Recorder) : (d.onRec g).mch = d.mch := rfl
@[simp] theorem Drive.onRec_cph (g : Recorder → Recorder) : (d.onRec g).cph = d.cph := rfl
@[simp] theorem Drive.onRec_nss (g : Recorder → Recorder) : (d.onRec g).nss = d.nss := rfl
@[simp] theorem Drive.onRec_vers (g : Recorder → Recorder) : (d.onRec g).vers = d.vers := rfl
@[simp] theorem Drive.onRec_uses (g : Recorder → Recorder) : (d.onRec g).uses = d.uses := rfl
@[simp] theorem Drive.onRec_jobs (g : Recorder → Recorder) : (d.onRec g).jobs = d.jobs := rfl
@[simp] theorem Drive.onRec_nextJob (g : Recorder → Recorder) : (d.onRec g).nextJob = d.nextJob := rfl
@[simp] theorem Drive.onRec_jrn (g : Recorder → Recorder) : (d.onRec g).jrn = d.jrn := rfl
@[simp] theorem Drive.onRec_med (g : Recorder → Recorder) : (d.onRec g).med = d.med := rfl
@[simp] theorem Drive.onRec_ctl (g : Recorder → Recorder) : (d.onRec g).ctl = d.ctl := rfl
@[simp] theorem Drive.onRec_upd (g : Recorder → Recorder) : (d.onRec g).upd = d.upd := rfl
@[simp] theorem Drive.onRec_snaps (g : Recorder → Recorder) : (d.onRec g).snaps = d.snaps := rfl
@[simp] theorem Drive.onRec_bufs (g : Recorder → Recorder) : (d.onRec g).bufs = d.bufs := rfl
@[simp] theorem Drive.onRec_results (g : Recorder → Recorder) : (d.onRec g).results = d.results := rfl
@[simp] theorem Drive.onRec_i3cAddr (g : Recorder → Recorder) : (d.onRec g).i3cAddr = d.i3cAddr := rfl
@[simp] theorem Drive.onRec_i3cIbi (g : Recorder → Recorder) : (d.onRec g).i3cIbi = d.i3cIbi := rfl
@[simp] theorem Drive.onRec_edges (g : Recorder → Recorder) : (d.onRec g).edges = d.edges := rfl
@[simp] theorem Drive.onRec_deferred (g : Recorder → Recorder) : (d.onRec g).deferred = d.deferred := rfl
@[simp] theorem Drive.onRec_late (g : Recorder → Recorder) : (d.onRec g).late = d.late := rfl
@[simp] theorem Drive.onRec_ledTest (g : Recorder → Recorder) : (d.onRec g).ledTest = d.ledTest := rfl
@[simp] theorem Drive.onRec_airSeen (g : Recorder → Recorder) : (d.onRec g).airSeen = d.airSeen := rfl
@[simp] theorem Drive.onRec_lastRsp (g : Recorder → Recorder) : (d.onRec g).lastRsp = d.lastRsp := rfl
@[simp] theorem Drive.onRec_free (g : Recorder → Recorder) : (d.onRec g).free = d.free := rfl
@[simp] theorem Drive.onRec_out (g : Recorder → Recorder) : (d.onRec g).out = d.out := rfl
@[simp] theorem Drive.onRec_recorder (g : Recorder → Recorder) : (d.onRec g).recorder = g d.recorder := rfl

/-! ### An event offered -/

@[simp] theorem Drive.offer_pwr : (d.offer clk h code p0 p1 p2 p3).pwr = d.pwr := by
  unfold Drive.offer; dsimp only; split_ifs <;> cases h <;> simp only [Drive.recDrop_pwr, Drive.recEnter_pwr, Drive.onRec_pwr]
@[simp] theorem Drive.offer_nrg : (d.offer clk h code p0 p1 p2 p3).nrg = d.nrg := by
  unfold Drive.offer; dsimp only; split_ifs <;> cases h <;> simp only [Drive.recDrop_nrg, Drive.recEnter_nrg, Drive.onRec_nrg]
@[simp] theorem Drive.offer_pack : (d.offer clk h code p0 p1 p2 p3).pack = d.pack := by
  unfold Drive.offer; dsimp only; split_ifs <;> cases h <;> simp only [Drive.recDrop_pack, Drive.recEnter_pack, Drive.onRec_pack]
@[simp] theorem Drive.offer_chn : (d.offer clk h code p0 p1 p2 p3).chn = d.chn := by
  unfold Drive.offer; dsimp only; split_ifs <;> cases h <;> simp only [Drive.recDrop_chn, Drive.recEnter_chn, Drive.onRec_chn]
@[simp] theorem Drive.offer_ports : (d.offer clk h code p0 p1 p2 p3).ports = d.ports := by
  unfold Drive.offer; dsimp only; split_ifs <;> cases h <;> simp only [Drive.recDrop_ports, Drive.recEnter_ports, Drive.onRec_ports]
@[simp] theorem Drive.offer_xpt : (d.offer clk h code p0 p1 p2 p3).xpt = d.xpt := by
  unfold Drive.offer; dsimp only; split_ifs <;> cases h <;> simp only [Drive.recDrop_xpt, Drive.recEnter_xpt, Drive.onRec_xpt]
@[simp] theorem Drive.offer_mch : (d.offer clk h code p0 p1 p2 p3).mch = d.mch := by
  unfold Drive.offer; dsimp only; split_ifs <;> cases h <;> simp only [Drive.recDrop_mch, Drive.recEnter_mch, Drive.onRec_mch]
@[simp] theorem Drive.offer_cph : (d.offer clk h code p0 p1 p2 p3).cph = d.cph := by
  unfold Drive.offer; dsimp only; split_ifs <;> cases h <;> simp only [Drive.recDrop_cph, Drive.recEnter_cph, Drive.onRec_cph]
@[simp] theorem Drive.offer_nss : (d.offer clk h code p0 p1 p2 p3).nss = d.nss := by
  unfold Drive.offer; dsimp only; split_ifs <;> cases h <;> simp only [Drive.recDrop_nss, Drive.recEnter_nss, Drive.onRec_nss]
@[simp] theorem Drive.offer_vers : (d.offer clk h code p0 p1 p2 p3).vers = d.vers := by
  unfold Drive.offer; dsimp only; split_ifs <;> cases h <;> simp only [Drive.recDrop_vers, Drive.recEnter_vers, Drive.onRec_vers]
@[simp] theorem Drive.offer_uses : (d.offer clk h code p0 p1 p2 p3).uses = d.uses := by
  unfold Drive.offer; dsimp only; split_ifs <;> cases h <;> simp only [Drive.recDrop_uses, Drive.recEnter_uses, Drive.onRec_uses]
@[simp] theorem Drive.offer_jobs : (d.offer clk h code p0 p1 p2 p3).jobs = d.jobs := by
  unfold Drive.offer; dsimp only; split_ifs <;> cases h <;> simp only [Drive.recDrop_jobs, Drive.recEnter_jobs, Drive.onRec_jobs]
@[simp] theorem Drive.offer_nextJob : (d.offer clk h code p0 p1 p2 p3).nextJob = d.nextJob := by
  unfold Drive.offer; dsimp only; split_ifs <;> cases h <;> simp only [Drive.recDrop_nextJob, Drive.recEnter_nextJob, Drive.onRec_nextJob]
@[simp] theorem Drive.offer_jrn : (d.offer clk h code p0 p1 p2 p3).jrn = d.jrn := by
  unfold Drive.offer; dsimp only; split_ifs <;> cases h <;> simp only [Drive.recDrop_jrn, Drive.recEnter_jrn, Drive.onRec_jrn]
@[simp] theorem Drive.offer_med : (d.offer clk h code p0 p1 p2 p3).med = d.med := by
  unfold Drive.offer; dsimp only; split_ifs <;> cases h <;> simp only [Drive.recDrop_med, Drive.recEnter_med, Drive.onRec_med]
@[simp] theorem Drive.offer_ctl : (d.offer clk h code p0 p1 p2 p3).ctl = d.ctl := by
  unfold Drive.offer; dsimp only; split_ifs <;> cases h <;> simp only [Drive.recDrop_ctl, Drive.recEnter_ctl, Drive.onRec_ctl]
@[simp] theorem Drive.offer_upd : (d.offer clk h code p0 p1 p2 p3).upd = d.upd := by
  unfold Drive.offer; dsimp only; split_ifs <;> cases h <;> simp only [Drive.recDrop_upd, Drive.recEnter_upd, Drive.onRec_upd]
@[simp] theorem Drive.offer_snaps : (d.offer clk h code p0 p1 p2 p3).snaps = d.snaps := by
  unfold Drive.offer; dsimp only; split_ifs <;> cases h <;> simp only [Drive.recDrop_snaps, Drive.recEnter_snaps, Drive.onRec_snaps]
@[simp] theorem Drive.offer_bufs : (d.offer clk h code p0 p1 p2 p3).bufs = d.bufs := by
  unfold Drive.offer; dsimp only; split_ifs <;> cases h <;> simp only [Drive.recDrop_bufs, Drive.recEnter_bufs, Drive.onRec_bufs]
@[simp] theorem Drive.offer_results : (d.offer clk h code p0 p1 p2 p3).results = d.results := by
  unfold Drive.offer; dsimp only; split_ifs <;> cases h <;> simp only [Drive.recDrop_results, Drive.recEnter_results, Drive.onRec_results]
@[simp] theorem Drive.offer_i3cAddr : (d.offer clk h code p0 p1 p2 p3).i3cAddr = d.i3cAddr := by
  unfold Drive.offer; dsimp only; split_ifs <;> cases h <;> simp only [Drive.recDrop_i3cAddr, Drive.recEnter_i3cAddr, Drive.onRec_i3cAddr]
@[simp] theorem Drive.offer_i3cIbi : (d.offer clk h code p0 p1 p2 p3).i3cIbi = d.i3cIbi := by
  unfold Drive.offer; dsimp only; split_ifs <;> cases h <;> simp only [Drive.recDrop_i3cIbi, Drive.recEnter_i3cIbi, Drive.onRec_i3cIbi]
@[simp] theorem Drive.offer_ledTest : (d.offer clk h code p0 p1 p2 p3).ledTest = d.ledTest := by
  unfold Drive.offer; dsimp only; split_ifs <;> cases h <;> simp only [Drive.recDrop_ledTest, Drive.recEnter_ledTest, Drive.onRec_ledTest]
@[simp] theorem Drive.offer_airSeen : (d.offer clk h code p0 p1 p2 p3).airSeen = d.airSeen := by
  unfold Drive.offer; dsimp only; split_ifs <;> cases h <;> simp only [Drive.recDrop_airSeen, Drive.recEnter_airSeen, Drive.onRec_airSeen]
@[simp] theorem Drive.offer_lastRsp : (d.offer clk h code p0 p1 p2 p3).lastRsp = d.lastRsp := by
  unfold Drive.offer; dsimp only; split_ifs <;> cases h <;> simp only [Drive.recDrop_lastRsp, Drive.recEnter_lastRsp, Drive.onRec_lastRsp]
@[simp] theorem Drive.offer_free : (d.offer clk h code p0 p1 p2 p3).free = d.free := by
  unfold Drive.offer; dsimp only; split_ifs <;> cases h <;> simp only [Drive.recDrop_free, Drive.recEnter_free, Drive.onRec_free]
@[simp] theorem Drive.offer_out : (d.offer clk h code p0 p1 p2 p3).out = d.out := by
  unfold Drive.offer; dsimp only; split_ifs <;> cases h <;> simp only [Drive.recDrop_out, Drive.recEnter_out, Drive.onRec_out]

/-! ### An event of the drive's own -/

@[simp] theorem Drive.event_pwr : (d.event e code p0 p1 p2 p3).pwr = d.pwr := Drive.offer_pwr ..
@[simp] theorem Drive.event_nrg : (d.event e code p0 p1 p2 p3).nrg = d.nrg := Drive.offer_nrg ..
@[simp] theorem Drive.event_pack : (d.event e code p0 p1 p2 p3).pack = d.pack := Drive.offer_pack ..
@[simp] theorem Drive.event_chn : (d.event e code p0 p1 p2 p3).chn = d.chn := Drive.offer_chn ..
@[simp] theorem Drive.event_ports : (d.event e code p0 p1 p2 p3).ports = d.ports := Drive.offer_ports ..
@[simp] theorem Drive.event_xpt : (d.event e code p0 p1 p2 p3).xpt = d.xpt := Drive.offer_xpt ..
@[simp] theorem Drive.event_mch : (d.event e code p0 p1 p2 p3).mch = d.mch := Drive.offer_mch ..
@[simp] theorem Drive.event_cph : (d.event e code p0 p1 p2 p3).cph = d.cph := Drive.offer_cph ..
@[simp] theorem Drive.event_nss : (d.event e code p0 p1 p2 p3).nss = d.nss := Drive.offer_nss ..
@[simp] theorem Drive.event_vers : (d.event e code p0 p1 p2 p3).vers = d.vers := Drive.offer_vers ..
@[simp] theorem Drive.event_uses : (d.event e code p0 p1 p2 p3).uses = d.uses := Drive.offer_uses ..
@[simp] theorem Drive.event_jobs : (d.event e code p0 p1 p2 p3).jobs = d.jobs := Drive.offer_jobs ..
@[simp] theorem Drive.event_nextJob : (d.event e code p0 p1 p2 p3).nextJob = d.nextJob := Drive.offer_nextJob ..
@[simp] theorem Drive.event_jrn : (d.event e code p0 p1 p2 p3).jrn = d.jrn := Drive.offer_jrn ..
@[simp] theorem Drive.event_med : (d.event e code p0 p1 p2 p3).med = d.med := Drive.offer_med ..
@[simp] theorem Drive.event_ctl : (d.event e code p0 p1 p2 p3).ctl = d.ctl := Drive.offer_ctl ..
@[simp] theorem Drive.event_upd : (d.event e code p0 p1 p2 p3).upd = d.upd := Drive.offer_upd ..
@[simp] theorem Drive.event_snaps : (d.event e code p0 p1 p2 p3).snaps = d.snaps := Drive.offer_snaps ..
@[simp] theorem Drive.event_bufs : (d.event e code p0 p1 p2 p3).bufs = d.bufs := Drive.offer_bufs ..
@[simp] theorem Drive.event_results : (d.event e code p0 p1 p2 p3).results = d.results := Drive.offer_results ..
@[simp] theorem Drive.event_i3cAddr : (d.event e code p0 p1 p2 p3).i3cAddr = d.i3cAddr := Drive.offer_i3cAddr ..
@[simp] theorem Drive.event_i3cIbi : (d.event e code p0 p1 p2 p3).i3cIbi = d.i3cIbi := Drive.offer_i3cIbi ..
@[simp] theorem Drive.event_ledTest : (d.event e code p0 p1 p2 p3).ledTest = d.ledTest := Drive.offer_ledTest ..
@[simp] theorem Drive.event_airSeen : (d.event e code p0 p1 p2 p3).airSeen = d.airSeen := Drive.offer_airSeen ..
@[simp] theorem Drive.event_lastRsp : (d.event e code p0 p1 p2 p3).lastRsp = d.lastRsp := Drive.offer_lastRsp ..
@[simp] theorem Drive.event_free : (d.event e code p0 p1 p2 p3).free = d.free := Drive.offer_free ..
@[simp] theorem Drive.event_out : (d.event e code p0 p1 p2 p3).out = d.out := Drive.offer_out ..

end Sys2Proof.Machine
end

