-- ==== Sys2Proof/Laws/Regs.lean ====
section
/-! SUPPORT. The register store: read after write, that every operation keeps the canonical form, and what a register
reads after each way of writing it. -/

namespace Sys2Proof.Machine

/-! ### Sparse words -/

@[simp] theorem FMap.find_erase_same (m : FMap) (k : Nat) : FMap.find (FMap.erase m k) k = none := by
  induction m with
  | nil => rfl
  | cons x m ih =>
    obtain ⟨j, u⟩ := x
    unfold FMap.erase at *
    by_cases h : j = k
    · simp [h, ih]
    · simp [h, FMap.find, ih, Ne.symm h]

theorem FMap.find_erase_ne (m : FMap) (k j : Nat) (h : j ≠ k) : FMap.find (FMap.erase m k) j = FMap.find m j := by
  induction m with
  | nil => rfl
  | cons x m ih =>
    obtain ⟨i, u⟩ := x
    unfold FMap.erase at *
    by_cases e : i = k
    · have : j ≠ i := by omega
      simp [e, ih, FMap.find, h]
    · by_cases f : j = i <;> simp [e, FMap.find, f, ih]

@[simp] theorem FMap.find_insert_same (m : FMap) (k : Nat) (v : Word) : FMap.find (FMap.insert m k v) k = some v := by
  induction m with
  | nil => simp [FMap.insert, FMap.find]
  | cons x m ih =>
    obtain ⟨i, u⟩ := x
    unfold FMap.insert
    split_ifs <;> simp_all [FMap.find]

theorem FMap.find_insert_ne (m : FMap) (k j : Nat) (v : Word) (h : j ≠ k) :
    FMap.find (FMap.insert m k v) j = FMap.find m j := by
  induction m with
  | nil => simp [FMap.insert, FMap.find, h]
  | cons x m ih =>
    obtain ⟨i, u⟩ := x
    unfold FMap.insert
    split_ifs with a b
    · subst a; simp [FMap.find, h]
    · simp [FMap.find, h]
    · simp only [FMap.find, ih]

@[simp] theorem FMap.get_set_same (df : Nat → Word) (m : FMap) (k : Nat) (v : Word) : FMap.get df (FMap.set df m k v) k = v := by
  unfold FMap.get FMap.set
  split_ifs with h <;> simp [h]

theorem FMap.get_set_ne (df : Nat → Word) (m : FMap) (k j : Nat) (v : Word) (h : j ≠ k) :
    FMap.get df (FMap.set df m k v) j = FMap.get df m j := by
  unfold FMap.get FMap.set
  split_ifs
  · rw [FMap.find_erase_ne _ _ _ h]
  · rw [FMap.find_insert_ne _ _ _ _ h]

/-! ### The canonical form -/

theorem FMap.erase_wf (df : Nat → Word) (m : FMap) (k : Nat) (h : FMap.wf df m) : FMap.wf df (FMap.erase m k) :=
  ⟨h.1.filter _, fun e he => h.2 e (List.mem_filter.1 he).1⟩

theorem FMap.mem_insert (m : FMap) (k : Nat) (v : Word) (x : Nat × Word) (h : x ∈ FMap.insert m k v) : x = (k, v) ∨ x ∈ m := by
  induction m with
  | nil => simpa [FMap.insert] using h
  | cons y m ih =>
    obtain ⟨i, u⟩ := y
    unfold FMap.insert at h
    split_ifs at h with a b
    · subst a; simp only [List.mem_cons] at h ⊢; tauto
    · simp only [List.mem_cons] at h ⊢; tauto
    · simp only [List.mem_cons] at h ⊢; tauto

theorem FMap.insert_wf (df : Nat → Word) (m : FMap) (k : Nat) (v : Word) (h : FMap.wf df m) (hv : v ≠ df k) :
    FMap.wf df (FMap.insert m k v) := by
  refine ⟨?_, fun x hx => ?_⟩
  · obtain ⟨h, -⟩ := h
    induction m with
    | nil => simp [FMap.insert]
    | cons y m ih =>
      obtain ⟨i, u⟩ := y
      rw [List.pairwise_cons] at h
      unfold FMap.insert
      split_ifs with a b
      · subst a; exact List.pairwise_cons.2 h
      · exact List.pairwise_cons.2 ⟨fun x hx => by
          rcases List.mem_cons.1 hx with rfl | hx
          · exact b
          · exact lt_trans b (h.1 x hx), List.pairwise_cons.2 h⟩
      · refine List.pairwise_cons.2 ⟨fun x hx => ?_, ih h.2⟩
        rcases FMap.mem_insert m k v x hx with rfl | hx
        · dsimp only; omega
        · exact h.1 x hx
  · rcases FMap.mem_insert m k v x hx with rfl | hx
    · exact hv
    · exact h.2 x hx

theorem FMap.set_wf (df : Nat → Word) (m : FMap) (k : Nat) (v : Word) (h : FMap.wf df m) : FMap.wf df (FMap.set df m k v) := by
  unfold FMap.set
  split_ifs with e
  · exact FMap.erase_wf df m k h
  · exact FMap.insert_wf df m k v h e

theorem FMap.filter_wf (df : Nat → Word) (m : FMap) (q : Nat × Word → Bool) (h : FMap.wf df m) : FMap.wf df (m.filter q) :=
  ⟨h.1.filter _, fun e he => h.2 e (List.mem_filter.1 he).1⟩

/-! ### Registers -/

variable (d : Drive) (a k v hi lo p b n : Nat) (w : Word)

@[simp] theorem Drive.reg_setReg_same : (d.setReg a w).reg a = w := FMap.get_set_same ..

theorem Drive.reg_setReg_ne (h : k ≠ a) : (d.setReg a w).reg k = d.reg k := FMap.get_set_ne _ _ _ _ _ h

/-- What a register reads after another is written, as one rewriting rule. -/
theorem Drive.reg_setReg : (d.setReg a w).reg k = if k = a then w else d.reg k := by
  split_ifs with h
  · subst h; simp
  · exact d.reg_setReg_ne a k w h

/-- A register that reads the same in two drives with the same store. -/
theorem Drive.reg_of_regs (d' : Drive) (h : d'.regs = d.regs) : d'.reg a = d.reg a := by unfold Drive.reg; rw [h]

/-- Writing a register keeps both stores canonical. -/
theorem Drive.setReg_wf (h : FMap.wf rstVal d.regs) (h' : FMap.wf rstVal d.saved) :
    FMap.wf rstVal (d.setReg a w).regs ∧ FMap.wf rstVal (d.setReg a w).saved := by
  refine ⟨FMap.set_wf _ _ _ _ h, ?_⟩
  unfold Drive.setReg
  dsimp only
  split_ifs
  · exact h'
  · exact FMap.set_wf _ _ _ _ h'

/-- Returning a domain to reset keeps the register store canonical. -/
theorem Drive.resetDom_wf (h : FMap.wf rstVal d.regs) : FMap.wf rstVal (d.resetDom n).regs := by
  unfold Drive.resetDom
  dsimp only
  generalize List.filter (fun e => keyDom e.1 == n) d.saved = l
  have base := FMap.filter_wf rstVal d.regs (fun e => !(keyDom e.1 == n)) h
  generalize List.filter (fun e => !(keyDom e.1 == n)) d.regs = m at base
  induction l generalizing m with
  | nil => exact base
  | cons x l ih => exact ih _ (FMap.set_wf _ _ _ _ base)

end Sys2Proof.Machine
end

