-- ==== Sys2Proof/Laws/Fabric.lean ====
section
/-! SUPPORT. The register fabric: what an access that passes every check does (R527), what a written word that
enters its register leaves unchanged, and what runs after an effect while no command waits. -/

namespace Sys2Proof.Machine

/-! ### Waiting commands -/

/-- With no command waiting, nothing runs after an effect. -/
theorem Drive.settled_calm (d : Drive) (e : Env) (h : calm d = true) : d.settled e = d := by
  unfold calm at h
  unfold Drive.settled
  rw [if_pos (by simpa using h)]

theorem calm_of_jrn (d d' : Drive) (h : d'.jrn = d.jrn) (m : d'.med.heldLeaf = d.med.heldLeaf) : calm d' = calm d := by
  unfold calm Drive.waits; rw [h, m]

/-- A row whose effect leaves no command waiting completes with that effect's drive. -/
theorem cmdOp_gives (f : Effect) (s : State) (h : calm (f s.env s.d) = true) :
    runOp (cmdOp f) s = .next { s with perm := ⟨s.perm.readOnly || (f s.env s.d).med.readOnly⟩, d := f s.env s.d } := by
  rw [runOp_next]
  unfold cmdOp
  rw [Drive.settled_calm _ _ h]

/-! ### An access that passes every check -/

variable {s t : State} {p : Path} {arb : Arb} {a : Nat} {v : Word}

theorem writes_parts (h : writes s p a v = true) :
    shapeOk p a 1 = true ∧ (pageInfo (a / 4096)).isNone = false ∧ s.d.writeCheck s.env p a v = 0 := by
  unfold writes at h
  simp only [Bool.and_eq_true, beq_iff_eq, and_assoc] at h
  refine ⟨h.1, ?_, h.2.2⟩
  have := h.2.1
  cases e : pageInfo (a / 4096) <;> simp_all

theorem reads_parts (h : reads s p a = true) :
    shapeOk p a 1 = true ∧ (pageInfo (a / 4096)).isNone = false ∧ s.d.readCheck a = 0 := by
  unfold reads at h
  simp only [Bool.and_eq_true, beq_iff_eq, and_assoc] at h
  refine ⟨h.1, ?_, h.2.2⟩
  have := h.2.1
  cases e : pageInfo (a / 4096) <;> simp_all

/-- The state that the policy's search leaves differs from the state before in the drive alone. -/
theorem State.admitted.rest (h : s.admitted p arb t) :
    t.env = s.env ∧ t.perm = s.perm ∧ t.clk = s.clk ∧ t.fac = s.fac ∧ t.pending = s.pending := by
  obtain ⟨-, -, -, d, -, rfl⟩ := h
  exact ⟨rfl, rfl, rfl, rfl, rfl⟩

/-- An access on the chain or I3C has no search: the state stays. -/
theorem State.admitted.same (h : s.admitted p arb t) (hp : p ≠ .net) : t = s := by
  obtain ⟨-, -, -, d, hd, rfl⟩ := h
  unfold Drive.searched at hd
  rw [if_neg hp] at hd
  obtain ⟨-, rfl⟩ := Prod.mk.inj hd
  rfl

/-- An admitted access of one register whose shape fits reaches the checks of its register in the state that the search
leaves. -/
theorem regAccess_admitted (rd : Bool) (data : List Word) (h : s.admitted p arb t) (hs : shapeOk p a 1 = true) :
    s.d.regAccess s.env p a rd data arb = Drive.keep p (t.d.onFabric t.env p a rd 1 data arb) := by
  have same := h.same
  obtain ⟨h0, h3, hg, d, hd, rfl⟩ := h
  have g : s.d.gate s.env p arb = (none, s.d) := by
    unfold Drive.gate
    rw [if_neg (by rw [hg]; simp), if_pos h3]
  unfold Drive.regAccess
  rw [if_neg (by simp [h0])]
  cases p with
  | net =>
    dsimp only
    unfold Drive.searched at hd
    rw [if_pos rfl] at hd
    unfold Drive.netAccess
    rw [g]
    dsimp only
    rw [if_neg (by simp [hs]), hd]
    rfl
  | chain =>
    have e : d = s.d := congrArg State.d (same (by decide))
    subst e
    unfold Drive.access
    rw [h3]
    simp [g, hs]
  | i3c =>
    have e : d = s.d := congrArg State.d (same (by decide))
    subst e
    unfold Drive.access
    rw [h3]
    simp [g, hs]

/-- A write that passes every check is DONE and its word takes effect. -/
theorem regWriteOp_done (h : takes s p arb a v t) :
    regWriteOp p a v arb s.env s.d = (t.d.writeWords t.env p [(a, v)]).done p [] := by
  obtain ⟨h, w⟩ := h
  obtain ⟨hs, hp, hw⟩ := writes_parts w
  unfold regWriteOp
  rw [regAccess_admitted _ _ h hs]
  unfold Drive.onFabric Drive.keep Drive.done
  simp [hp, hw, firstBad, h.2.2.1]

/-- A read that passes every check is DONE with the register's value. -/
theorem regReadOp_done (h : fetches s p arb a t) :
    regReadOp p a arb s.env s.d = ((t.d.readWord t.env p a).2).done p [(t.d.readWord t.env p a).1] := by
  obtain ⟨h, w⟩ := h
  obtain ⟨hs, hp, hw⟩ := reads_parts w
  unfold regReadOp
  rw [regAccess_admitted _ _ h hs]
  unfold Drive.onFabric Drive.keep Drive.done
  simp [hp, hw, firstBad, Drive.readWords, h.2.2.1]

/-- One written word: it enters its register, and the register's command acts. -/
theorem writeWords_one (d : Drive) (e : Env) (p : Path) (a : Nat) (v : Word) (h : plainPage a = true) :
    d.writeWords e p [(a, v)] = hook e p a v d (d.storeWord e p [(a, v)] a v) := by
  unfold plainPage at h
  unfold Drive.writeWords
  simp only [List.foldl_cons, List.foldl_nil, List.any_cons, List.any_nil, Bool.or_false]
  rw [if_neg]
  simp only [Bool.not_eq_true, Bool.not_eq_eq_eq_not, Bool.not_true] at h ⊢
  exact h

/-- A register row that passes every check completes: the access is DONE, the word stored and its command carried out. -/
theorem regRow_gives (h : takes s p arb a v t) (hp : plainPage a = true)
    (hc : calm (hook t.env p a v t.d (stored t p a v)) = true) :
    regRow p a v arb s = .next { s with
      perm := ⟨s.perm.readOnly || (hook t.env p a v t.d (stored t p a v)).med.readOnly⟩
      d := (hook t.env p a v t.d (stored t p a v)).done p [] } := by
  unfold regRow
  have e := regWriteOp_done h
  rw [writeWords_one _ _ _ _ _ hp] at e
  rw [cmdOp_gives _ _ (by rw [e]; exact hc), e]
  rfl

/-! ### What entering a register leaves unchanged -/

variable (s : State) (d : Drive) (e : Env) (p : Path) (acc : List (Nat × Word)) (a new : Nat) (v : Word) (sp : RegSpec)

@[simp] theorem Drive.storeFull_pwr : (d.storeFull e p sp a new).pwr = d.pwr := by
  unfold Drive.storeFull; dsimp only; split_ifs <;> rfl
@[simp] theorem Drive.storeFull_nrg : (d.storeFull e p sp a new).nrg = d.nrg := by
  unfold Drive.storeFull; dsimp only; split_ifs <;> rfl
@[simp] theorem Drive.storeFull_pack : (d.storeFull e p sp a new).pack = d.pack := by
  unfold Drive.storeFull; dsimp only; split_ifs <;> rfl
@[simp] theorem Drive.storeFull_recorder : (d.storeFull e p sp a new).recorder = d.recorder := by
  unfold Drive.storeFull; dsimp only; split_ifs <;> rfl
@[simp] theorem Drive.storeFull_chn : (d.storeFull e p sp a new).chn = d.chn := by
  unfold Drive.storeFull; dsimp only; split_ifs <;> rfl
@[simp] theorem Drive.storeFull_ports : (d.storeFull e p sp a new).ports = d.ports := by
  unfold Drive.storeFull; dsimp only; split_ifs <;> rfl
@[simp] theorem Drive.storeFull_xpt : (d.storeFull e p sp a new).xpt = d.xpt := by
  unfold Drive.storeFull; dsimp only; split_ifs <;> rfl
@[simp] theorem Drive.storeFull_mch : (d.storeFull e p sp a new).mch = d.mch := by
  unfold Drive.storeFull; dsimp only; split_ifs <;> rfl
@[simp] theorem Drive.storeFull_cph : (d.storeFull e p sp a new).cph = d.cph := by
  unfold Drive.storeFull; dsimp only; split_ifs <;> rfl
@[simp] theorem Drive.storeFull_nss : (d.storeFull e p sp a new).nss = d.nss := by
  unfold Drive.storeFull; dsimp only; split_ifs <;> rfl
@[simp] theorem Drive.storeFull_vers : (d.storeFull e p sp a new).vers = d.vers := by
  unfold Drive.storeFull; dsimp only; split_ifs <;> rfl
@[simp] theorem Drive.storeFull_uses : (d.storeFull e p sp a new).uses = d.uses := by
  unfold Drive.storeFull; dsimp only; split_ifs <;> rfl
@[simp] theorem Drive.storeFull_jobs : (d.storeFull e p sp a new).jobs = d.jobs := by
  unfold Drive.storeFull; dsimp only; split_ifs <;> rfl
@[simp] theorem Drive.storeFull_nextJob : (d.storeFull e p sp a new).nextJob = d.nextJob := by
  unfold Drive.storeFull; dsimp only; split_ifs <;> rfl
@[simp] theorem Drive.storeFull_jrn : (d.storeFull e p sp a new).jrn = d.jrn := by
  unfold Drive.storeFull; dsimp only; split_ifs <;> rfl
@[simp] theorem Drive.storeFull_med : (d.storeFull e p sp a new).med = d.med := by
  unfold Drive.storeFull; dsimp only; split_ifs <;> rfl
@[simp] theorem Drive.storeFull_ctl : (d.storeFull e p sp a new).ctl = d.ctl := by
  unfold Drive.storeFull; dsimp only; split_ifs <;> rfl
@[simp] theorem Drive.storeFull_upd : (d.storeFull e p sp a new).upd = d.upd := by
  unfold Drive.storeFull; dsimp only; split_ifs <;> rfl
@[simp] theorem Drive.storeFull_snaps : (d.storeFull e p sp a new).snaps = d.snaps := by
  unfold Drive.storeFull; dsimp only; split_ifs <;> rfl
@[simp] theorem Drive.storeFull_results : (d.storeFull e p sp a new).results = d.results := by
  unfold Drive.storeFull; dsimp only; split_ifs <;> rfl
@[simp] theorem Drive.storeFull_i3cAddr : (d.storeFull e p sp a new).i3cAddr = d.i3cAddr := by
  unfold Drive.storeFull; dsimp only; split_ifs <;> rfl
@[simp] theorem Drive.storeFull_i3cIbi : (d.storeFull e p sp a new).i3cIbi = d.i3cIbi := by
  unfold Drive.storeFull; dsimp only; split_ifs <;> rfl
@[simp] theorem Drive.storeFull_late : (d.storeFull e p sp a new).late = d.late := by
  unfold Drive.storeFull; dsimp only; split_ifs <;> rfl
@[simp] theorem Drive.storeFull_ledTest : (d.storeFull e p sp a new).ledTest = d.ledTest := by
  unfold Drive.storeFull; dsimp only; split_ifs <;> rfl
@[simp] theorem Drive.storeFull_airSeen : (d.storeFull e p sp a new).airSeen = d.airSeen := by
  unfold Drive.storeFull; dsimp only; split_ifs <;> rfl
@[simp] theorem Drive.storeFull_lastRsp : (d.storeFull e p sp a new).lastRsp = d.lastRsp := by
  unfold Drive.storeFull; dsimp only; split_ifs <;> rfl
@[simp] theorem Drive.storeFull_free : (d.storeFull e p sp a new).free = d.free := by
  unfold Drive.storeFull; dsimp only; split_ifs <;> rfl
@[simp] theorem Drive.storeFull_out : (d.storeFull e p sp a new).out = d.out := by
  unfold Drive.storeFull; dsimp only; split_ifs <;> rfl
@[simp] theorem Drive.storeFull_bufs : (d.storeFull e p sp a new).bufs = d.bufs := by
  unfold Drive.storeFull; dsimp only; split_ifs <;> rfl
@[simp] theorem Drive.storeFull_edges : (d.storeFull e p sp a new).edges = d.edges := by
  unfold Drive.storeFull; dsimp only; split_ifs <;> rfl
@[simp] theorem Drive.storeFull_deferred : (d.storeFull e p sp a new).deferred = d.deferred := by
  unfold Drive.storeFull; dsimp only; split_ifs <;> rfl

@[simp] theorem Drive.storeWord_pwr : (d.storeWord e p acc a v).pwr = d.pwr := by
  unfold Drive.storeWord; split
  · rfl
  · split_ifs <;> simp only [Drive.withEdge_pwr, Drive.storeFull_pwr]
@[simp] theorem Drive.storeWord_nrg : (d.storeWord e p acc a v).nrg = d.nrg := by
  unfold Drive.storeWord; split
  · rfl
  · split_ifs <;> simp only [Drive.withEdge_nrg, Drive.storeFull_nrg]
@[simp] theorem Drive.storeWord_pack : (d.storeWord e p acc a v).pack = d.pack := by
  unfold Drive.storeWord; split
  · rfl
  · split_ifs <;> simp only [Drive.withEdge_pack, Drive.storeFull_pack]
@[simp] theorem Drive.storeWord_recorder : (d.storeWord e p acc a v).recorder = d.recorder := by
  unfold Drive.storeWord; split
  · rfl
  · split_ifs <;> simp only [Drive.withEdge_recorder, Drive.storeFull_recorder]
@[simp] theorem Drive.storeWord_chn : (d.storeWord e p acc a v).chn = d.chn := by
  unfold Drive.storeWord; split
  · rfl
  · split_ifs <;> simp only [Drive.withEdge_chn, Drive.storeFull_chn]
@[simp] theorem Drive.storeWord_ports : (d.storeWord e p acc a v).ports = d.ports := by
  unfold Drive.storeWord; split
  · rfl
  · split_ifs <;> simp only [Drive.withEdge_ports, Drive.storeFull_ports]
@[simp] theorem Drive.storeWord_xpt : (d.storeWord e p acc a v).xpt = d.xpt := by
  unfold Drive.storeWord; split
  · rfl
  · split_ifs <;> simp only [Drive.withEdge_xpt, Drive.storeFull_xpt]
@[simp] theorem Drive.storeWord_mch : (d.storeWord e p acc a v).mch = d.mch := by
  unfold Drive.storeWord; split
  · rfl
  · split_ifs <;> simp only [Drive.withEdge_mch, Drive.storeFull_mch]
@[simp] theorem Drive.storeWord_cph : (d.storeWord e p acc a v).cph = d.cph := by
  unfold Drive.storeWord; split
  · rfl
  · split_ifs <;> simp only [Drive.withEdge_cph, Drive.storeFull_cph]
@[simp] theorem Drive.storeWord_nss : (d.storeWord e p acc a v).nss = d.nss := by
  unfold Drive.storeWord; split
  · rfl
  · split_ifs <;> simp only [Drive.withEdge_nss, Drive.storeFull_nss]
@[simp] theorem Drive.storeWord_vers : (d.storeWord e p acc a v).vers = d.vers := by
  unfold Drive.storeWord; split
  · rfl
  · split_ifs <;> simp only [Drive.withEdge_vers, Drive.storeFull_vers]
@[simp] theorem Drive.storeWord_uses : (d.storeWord e p acc a v).uses = d.uses := by
  unfold Drive.storeWord; split
  · rfl
  · split_ifs <;> simp only [Drive.withEdge_uses, Drive.storeFull_uses]
@[simp] theorem Drive.storeWord_jobs : (d.storeWord e p acc a v).jobs = d.jobs := by
  unfold Drive.storeWord; split
  · rfl
  · split_ifs <;> simp only [Drive.withEdge_jobs, Drive.storeFull_jobs]
@[simp] theorem Drive.storeWord_nextJob : (d.storeWord e p acc a v).nextJob = d.nextJob := by
  unfold Drive.storeWord; split
  · rfl
  · split_ifs <;> simp only [Drive.withEdge_nextJob, Drive.storeFull_nextJob]
@[simp] theorem Drive.storeWord_jrn : (d.storeWord e p acc a v).jrn = d.jrn := by
  unfold Drive.storeWord; split
  · rfl
  · split_ifs <;> simp only [Drive.withEdge_jrn, Drive.storeFull_jrn]
@[simp] theorem Drive.storeWord_med : (d.storeWord e p acc a v).med = d.med := by
  unfold Drive.storeWord; split
  · rfl
  · split_ifs <;> simp only [Drive.withEdge_med, Drive.storeFull_med]
@[simp] theorem Drive.storeWord_ctl : (d.storeWord e p acc a v).ctl = d.ctl := by
  unfold Drive.storeWord; split
  · rfl
  · split_ifs <;> simp only [Drive.withEdge_ctl, Drive.storeFull_ctl]
@[simp] theorem Drive.storeWord_upd : (d.storeWord e p acc a v).upd = d.upd := by
  unfold Drive.storeWord; split
  · rfl
  · split_ifs <;> simp only [Drive.withEdge_upd, Drive.storeFull_upd]
@[simp] theorem Drive.storeWord_snaps : (d.storeWord e p acc a v).snaps = d.snaps := by
  unfold Drive.storeWord; split
  · rfl
  · split_ifs <;> simp only [Drive.withEdge_snaps, Drive.storeFull_snaps]
@[simp] theorem Drive.storeWord_results : (d.storeWord e p acc a v).results = d.results := by
  unfold Drive.storeWord; split
  · rfl
  · split_ifs <;> simp only [Drive.withEdge_results, Drive.storeFull_results]
@[simp] theorem Drive.storeWord_i3cAddr : (d.storeWord e p acc a v).i3cAddr = d.i3cAddr := by
  unfold Drive.storeWord; split
  · rfl
  · split_ifs <;> simp only [Drive.withEdge_i3cAddr, Drive.storeFull_i3cAddr]
@[simp] theorem Drive.storeWord_i3cIbi : (d.storeWord e p acc a v).i3cIbi = d.i3cIbi := by
  unfold Drive.storeWord; split
  · rfl
  · split_ifs <;> simp only [Drive.withEdge_i3cIbi, Drive.storeFull_i3cIbi]
@[simp] theorem Drive.storeWord_late : (d.storeWord e p acc a v).late = d.late := by
  unfold Drive.storeWord; split
  · rfl
  · split_ifs <;> simp only [Drive.withEdge_late, Drive.storeFull_late]
@[simp] theorem Drive.storeWord_ledTest : (d.storeWord e p acc a v).ledTest = d.ledTest := by
  unfold Drive.storeWord; split
  · rfl
  · split_ifs <;> simp only [Drive.withEdge_ledTest, Drive.storeFull_ledTest]
@[simp] theorem Drive.storeWord_airSeen : (d.storeWord e p acc a v).airSeen = d.airSeen := by
  unfold Drive.storeWord; split
  · rfl
  · split_ifs <;> simp only [Drive.withEdge_airSeen, Drive.storeFull_airSeen]
@[simp] theorem Drive.storeWord_lastRsp : (d.storeWord e p acc a v).lastRsp = d.lastRsp := by
  unfold Drive.storeWord; split
  · rfl
  · split_ifs <;> simp only [Drive.withEdge_lastRsp, Drive.storeFull_lastRsp]
@[simp] theorem Drive.storeWord_free : (d.storeWord e p acc a v).free = d.free := by
  unfold Drive.storeWord; split
  · rfl
  · split_ifs <;> simp only [Drive.withEdge_free, Drive.storeFull_free]
@[simp] theorem Drive.storeWord_out : (d.storeWord e p acc a v).out = d.out := by
  unfold Drive.storeWord; split
  · rfl
  · split_ifs <;> simp only [Drive.withEdge_out, Drive.storeFull_out]

@[simp] theorem stored_pwr : (stored s p a v).pwr = s.d.pwr := Drive.storeWord_pwr ..
@[simp] theorem stored_nrg : (stored s p a v).nrg = s.d.nrg := Drive.storeWord_nrg ..
@[simp] theorem stored_pack : (stored s p a v).pack = s.d.pack := Drive.storeWord_pack ..
@[simp] theorem stored_recorder : (stored s p a v).recorder = s.d.recorder := Drive.storeWord_recorder ..
@[simp] theorem stored_chn : (stored s p a v).chn = s.d.chn := Drive.storeWord_chn ..
@[simp] theorem stored_ports : (stored s p a v).ports = s.d.ports := Drive.storeWord_ports ..
@[simp] theorem stored_xpt : (stored s p a v).xpt = s.d.xpt := Drive.storeWord_xpt ..
@[simp] theorem stored_mch : (stored s p a v).mch = s.d.mch := Drive.storeWord_mch ..
@[simp] theorem stored_cph : (stored s p a v).cph = s.d.cph := Drive.storeWord_cph ..
@[simp] theorem stored_nss : (stored s p a v).nss = s.d.nss := Drive.storeWord_nss ..
@[simp] theorem stored_vers : (stored s p a v).vers = s.d.vers := Drive.storeWord_vers ..
@[simp] theorem stored_uses : (stored s p a v).uses = s.d.uses := Drive.storeWord_uses ..
@[simp] theorem stored_jobs : (stored s p a v).jobs = s.d.jobs := Drive.storeWord_jobs ..
@[simp] theorem stored_nextJob : (stored s p a v).nextJob = s.d.nextJob := Drive.storeWord_nextJob ..
@[simp] theorem stored_jrn : (stored s p a v).jrn = s.d.jrn := Drive.storeWord_jrn ..
@[simp] theorem stored_med : (stored s p a v).med = s.d.med := Drive.storeWord_med ..
@[simp] theorem stored_ctl : (stored s p a v).ctl = s.d.ctl := Drive.storeWord_ctl ..
@[simp] theorem stored_upd : (stored s p a v).upd = s.d.upd := Drive.storeWord_upd ..
@[simp] theorem stored_snaps : (stored s p a v).snaps = s.d.snaps := Drive.storeWord_snaps ..
@[simp] theorem stored_results : (stored s p a v).results = s.d.results := Drive.storeWord_results ..
@[simp] theorem stored_i3cAddr : (stored s p a v).i3cAddr = s.d.i3cAddr := Drive.storeWord_i3cAddr ..
@[simp] theorem stored_i3cIbi : (stored s p a v).i3cIbi = s.d.i3cIbi := Drive.storeWord_i3cIbi ..
@[simp] theorem stored_late : (stored s p a v).late = s.d.late := Drive.storeWord_late ..
@[simp] theorem stored_ledTest : (stored s p a v).ledTest = s.d.ledTest := Drive.storeWord_ledTest ..
@[simp] theorem stored_airSeen : (stored s p a v).airSeen = s.d.airSeen := Drive.storeWord_airSeen ..
@[simp] theorem stored_lastRsp : (stored s p a v).lastRsp = s.d.lastRsp := Drive.storeWord_lastRsp ..
@[simp] theorem stored_free : (stored s p a v).free = s.d.free := Drive.storeWord_free ..
@[simp] theorem stored_out : (stored s p a v).out = s.d.out := Drive.storeWord_out ..

variable (ws : List Word)

@[simp] theorem Drive.done_pwr : (d.done p ws).pwr = d.pwr := rfl
@[simp] theorem Drive.done_nrg : (d.done p ws).nrg = d.nrg := rfl
@[simp] theorem Drive.done_pack : (d.done p ws).pack = d.pack := rfl
@[simp] theorem Drive.done_recorder : (d.done p ws).recorder = d.recorder := rfl
@[simp] theorem Drive.done_chn : (d.done p ws).chn = d.chn := rfl
@[simp] theorem Drive.done_ports : (d.done p ws).ports = d.ports := rfl
@[simp] theorem Drive.done_xpt : (d.done p ws).xpt = d.xpt := rfl
@[simp] theorem Drive.done_mch : (d.done p ws).mch = d.mch := rfl
@[simp] theorem Drive.done_cph : (d.done p ws).cph = d.cph := rfl
@[simp] theorem Drive.done_nss : (d.done p ws).nss = d.nss := rfl
@[simp] theorem Drive.done_vers : (d.done p ws).vers = d.vers := rfl
@[simp] theorem Drive.done_uses : (d.done p ws).uses = d.uses := rfl
@[simp] theorem Drive.done_jobs : (d.done p ws).jobs = d.jobs := rfl
@[simp] theorem Drive.done_nextJob : (d.done p ws).nextJob = d.nextJob := rfl
@[simp] theorem Drive.done_jrn : (d.done p ws).jrn = d.jrn := rfl
@[simp] theorem Drive.done_med : (d.done p ws).med = d.med := rfl
@[simp] theorem Drive.done_ctl : (d.done p ws).ctl = d.ctl := rfl
@[simp] theorem Drive.done_upd : (d.done p ws).upd = d.upd := rfl
@[simp] theorem Drive.done_snaps : (d.done p ws).snaps = d.snaps := rfl
@[simp] theorem Drive.done_i3cAddr : (d.done p ws).i3cAddr = d.i3cAddr := rfl
@[simp] theorem Drive.done_i3cIbi : (d.done p ws).i3cIbi = d.i3cIbi := rfl
@[simp] theorem Drive.done_late : (d.done p ws).late = d.late := rfl
@[simp] theorem Drive.done_ledTest : (d.done p ws).ledTest = d.ledTest := rfl
@[simp] theorem Drive.done_airSeen : (d.done p ws).airSeen = d.airSeen := rfl
@[simp] theorem Drive.done_lastRsp : (d.done p ws).lastRsp = d.lastRsp := rfl
@[simp] theorem Drive.done_free : (d.done p ws).free = d.free := rfl
@[simp] theorem Drive.done_out : (d.done p ws).out = d.out := rfl
@[simp] theorem Drive.done_regs : (d.done p ws).regs = d.regs := rfl
@[simp] theorem Drive.done_saved : (d.done p ws).saved = d.saved := rfl
@[simp] theorem Drive.done_bufs : (d.done p ws).bufs = d.bufs := rfl
@[simp] theorem Drive.done_edges : (d.done p ws).edges = d.edges := rfl
@[simp] theorem Drive.done_deferred : (d.done p ws).deferred = d.deferred := rfl

@[simp] theorem stored_calm : calm (stored s p a v) = calm s.d := calm_of_jrn _ _ (stored_jrn ..) (by rw [stored_med])
@[simp] theorem done_calm : calm (d.done p ws) = calm d := rfl

end Sys2Proof.Machine
end

