-- ==== Sys2Proof/Laws/Hooks.lean ====
section
/-! SUPPORT. What a write of each command register does beside entering the store: the one arm of `hook` for its address. -/

namespace Sys2Proof.Machine

variable (s : State) (e : Env) (p : Path) (v : Word) (was d : Drive)

/-- A row completes with the drive its effect gives. -/
theorem gives_runOp {i : Instr} {s : State} {f : Effect} {d : Drive} (h : exec i s = runOp f s) (hf : f s.env s.d = d) :
    Gives i s d := by unfold Gives; rw [h, runOp_next, hf]

/-- A register row that passes every check completes with what its command does to the drive that the word has entered. -/
theorem gives_reg {i : Instr} {s t : State} {p : Path} {arb : Arb} {a : Nat} {v : Word} {d : Drive} (h : exec i s = regRow p a v arb s)
    (hw : takes s p arb a v t) (hp : plainPage a = true) (hd : (hook s.env p a v t.d (stored t p a v)).accessed s p = d) :
    Gives i s d := by
  have e : cmdOp (regWriteOp p a v arb) s.env s.d = d := by
    have w := regWriteOp_done hw
    rw [writeWords_one _ _ _ _ _ hp] at w
    obtain ⟨-, -, -, d', -, rfl⟩ := hw.1
    unfold cmdOp; rw [w]; exact hd
  unfold Gives
  rw [h]
  unfold regRow
  rw [runOp_next, e]

theorem hook_AON_RST_CTL : hook e p Reg.AON_RST_CTL v was d = rstCtlW v e d := by
  unfold hook hookPower; dsimp only; repeat first | rw [if_pos (by decide)] | rw [if_neg (by decide)]
theorem hook_AON_PD_FORCE_OFF : hook e p Reg.AON_PD_FORCE_OFF v was d = (pdForceOffW (was.reg Reg.AON_PD_FORCE_OFF).toNat e d).updReleased := by
  unfold hook hookPower; dsimp only; repeat first | rw [if_pos (by decide)] | rw [if_neg (by decide)]
theorem hook_AON_LED_CTL : hook e p Reg.AON_LED_CTL v was d = ledCtlW v e d := by
  unfold hook hookPower; dsimp only; repeat first | rw [if_pos (by decide)] | rw [if_neg (by decide)]
theorem hook_NRG_ALLOT_SET : hook e p Reg.NRG_ALLOT_SET v was d = d.grant p (bits v 9 0) := by
  unfold hook hookPower; dsimp only; repeat first | rw [if_pos (by decide)] | rw [if_neg (by decide)]
theorem hook_NRG_PS_CMD : hook e p Reg.NRG_PS_CMD v was d = psCmdW v e d := by
  unfold hook hookPower; dsimp only; repeat first | rw [if_pos (by decide)] | rw [if_neg (by decide)]
theorem hook_CHN_CTL : hook e p Reg.CHN_CTL v was d = chnCtlW e d := by
  unfold hook hookChn; dsimp only; repeat first | rw [if_pos (by decide)] | rw [if_neg (by decide)]
theorem hook_CHN_ENUM_CMD : hook e p Reg.CHN_ENUM_CMD v was d = chnEnumW v e d := by
  unfold hook hookChn; dsimp only; repeat first | rw [if_pos (by decide)] | rw [if_neg (by decide)]
theorem hook_CHN_REQ_CMD : hook e p Reg.CHN_REQ_CMD v was d = chnReqW p v e d := by
  unfold hook hookChn; dsimp only; repeat first | rw [if_pos (by decide)] | rw [if_neg (by decide)]
theorem hook_CHN_TX_CTL : hook e p Reg.CHN_TX_CTL v was d = chnTxW p v e d := by
  unfold hook hookChn; dsimp only; repeat first | rw [if_pos (by decide)] | rw [if_neg (by decide)]
theorem hook_REC_FREEZE : hook e p Reg.REC_FREEZE v was d = recFreezeW p v e d := by
  unfold hook hookRec; dsimp only; repeat first | rw [if_pos (by decide)] | rw [if_neg (by decide)]
theorem hook_REC_RL_SEL : hook e p Reg.REC_RL_SEL v was d = recRlSelW p v e d := by
  unfold hook hookRec; dsimp only; repeat first | rw [if_pos (by decide)] | rw [if_neg (by decide)]
theorem hook_REC_HOST_GO : hook e p Reg.REC_HOST_GO v was d = recHostGoW p v e d := by
  unfold hook hookRec; dsimp only; repeat first | rw [if_pos (by decide)] | rw [if_neg (by decide)]
theorem hook_REC_CLR_CMD : hook e p Reg.REC_CLR_CMD v was d = recClrCmdW p v e d := by
  unfold hook hookRec; dsimp only; repeat first | rw [if_pos (by decide)] | rw [if_neg (by decide)]
theorem hook_REC_RL_CFG : hook e p Reg.REC_RL_CFG v was d = recRlCfgW p v e d := by
  unfold hook hookRec; dsimp only; repeat first | rw [if_pos (by decide)] | rw [if_neg (by decide)]
theorem hook_REC_HOST_RL : hook e p Reg.REC_HOST_RL v was d = hostRlW (was.reg Reg.REC_HOST_RL) e d := by
  unfold hook hookRec; dsimp only; repeat first | rw [if_pos (by decide)] | rw [if_neg (by decide)]
theorem hook_REC_RD_SEL : hook e p Reg.REC_RD_SEL v was d = recRdSelW p e d := by
  unfold hook hookRec; dsimp only; repeat first | rw [if_pos (by decide)] | rw [if_neg (by decide)]
theorem hook_HUP_MEAS_CTL : hook e p Reg.HUP_MEAS_CTL v was d = hupMeasGoW v e d := by
  unfold hook hookStore; dsimp only; repeat first | rw [if_pos (by decide)] | rw [if_neg (by decide)]
theorem hook_HUP_SWAP : hook e p Reg.HUP_SWAP v was d = hupSwapW v e d := by
  unfold hook hookStore; dsimp only; repeat first | rw [if_pos (by decide)] | rw [if_neg (by decide)]
theorem hook_CL_UPD_CMD : hook e p Reg.CL_UPD_CMD v was d = updCmdW p v e d := by
  unfold hook hookStore; dsimp only; repeat first | rw [if_pos (by decide)] | rw [if_neg (by decide)]
theorem hook_CL_UPD_CHUNK : hook e p Reg.CL_UPD_CHUNK v was d = updChunkW p v e d := by
  unfold hook hookStore; dsimp only; repeat first | rw [if_pos (by decide)] | rw [if_neg (by decide)]
theorem hook_JRN_CTL : hook e p Reg.JRN_CTL v was d = jrnCtlW (was.flag Reg.JRN_CTL 0) v e d := by
  unfold hook hookStore; dsimp only; repeat first | rw [if_pos (by decide)] | rw [if_neg (by decide)]
theorem hook_JRN_REC_SEL : hook e p Reg.JRN_REC_SEL v was d = jrnRecSelW p e d := by
  unfold hook hookStore; dsimp only; repeat first | rw [if_pos (by decide)] | rw [if_neg (by decide)]
theorem hook_CTL_SAVE : hook e p Reg.CTL_SAVE v was d = ctlSaveW v e d := by
  unfold hook hookCtl; dsimp only; repeat first | rw [if_pos (by decide)] | rw [if_neg (by decide)]
theorem hook_CTL_TH_SEL : hook e p Reg.CTL_TH_SEL v was d = ctlThSelW p v e d := by
  unfold hook hookCtl; dsimp only; repeat first | rw [if_pos (by decide)] | rw [if_neg (by decide)]
theorem hook_CTL_TH_MAN : hook e p Reg.CTL_TH_MAN v was d = thManW p v e d := by
  unfold hook hookCtl; dsimp only; repeat first | rw [if_pos (by decide)] | rw [if_neg (by decide)]
theorem hook_CTL_TH_CMD : hook e p Reg.CTL_TH_CMD v was d = thCmdW p v e d := by
  unfold hook hookCtl; dsimp only; repeat first | rw [if_pos (by decide)] | rw [if_neg (by decide)]
theorem hook_CTL_TH_BULK : hook e p Reg.CTL_TH_BULK v was d = thBulkW v e d := by
  unfold hook hookCtl; dsimp only; repeat first | rw [if_pos (by decide)] | rw [if_neg (by decide)]
theorem hook_XPT_CTL : hook e p Reg.XPT_CTL v was d = (if was.flag Reg.XPT_CTL 0 && !(xptCfgSaveW v e d).flag Reg.XPT_CTL 0 then (xptCfgSaveW v e d).killAll e else xptCfgSaveW v e d) := by
  unfold hook hookNet; dsimp only; repeat first | rw [if_pos (by decide)] | rw [if_neg (by decide)]
theorem hook_XPT_FLOW_KILL : hook e p Reg.XPT_FLOW_KILL v was d = xptKillW v e d := by
  unfold hook hookNet; dsimp only; repeat first | rw [if_pos (by decide)] | rw [if_neg (by decide)]
theorem hook_XPT_FLOW_SEL : hook e p Reg.XPT_FLOW_SEL v was d = xptFlowSelW v e d := by
  unfold hook hookNet; dsimp only; repeat first | rw [if_pos (by decide)] | rw [if_neg (by decide)]
theorem hook_CPH_SLOT_SEL : hook e p Reg.CPH_SLOT_SEL v was d = (if 4119 < bits v 12 0 then d else slotSelW p v e d) := by
  unfold hook hookKey; dsimp only; repeat first | rw [if_pos (by decide)] | rw [if_neg (by decide)]
theorem hook_CPH_CEIL_SET : hook e p Reg.CPH_CEIL_SET v was d = ceilSetW v e d := by
  unfold hook hookKey; dsimp only; repeat first | rw [if_pos (by decide)] | rw [if_neg (by decide)]
theorem hook_CPH_DSLOT_CMD : hook e p Reg.CPH_DSLOT_CMD v was d = dslotW p v e d := by
  unfold hook hookKey; dsimp only; repeat first | rw [if_pos (by decide)] | rw [if_neg (by decide)]
theorem hook_CPH_MQ_GO : hook e p Reg.CPH_MQ_GO v was d = mqGoW p v e d := by
  unfold hook hookKey; dsimp only; repeat first | rw [if_pos (by decide)] | rw [if_neg (by decide)]
theorem hook_MCH_ENG_CTL : hook e p Reg.MCH_ENG_CTL v was d = mchSaveW v e (if was.geom = d.geom then d else geomChanged d) := by
  unfold hook hookKey; dsimp only; repeat first | rw [if_pos (by decide)] | rw [if_neg (by decide)]
theorem hook_MCH_SRCH_CTL : hook e p Reg.MCH_SRCH_CTL v was d = srchCtlW p v e d := by
  unfold hook hookKey; dsimp only; repeat first | rw [if_pos (by decide)] | rw [if_neg (by decide)]
theorem hook_MCH_ACCT_SEL : hook e p Reg.MCH_ACCT_SEL v was d = acctSelW p v e d := by
  unfold hook hookKey; dsimp only; repeat first | rw [if_pos (by decide)] | rw [if_neg (by decide)]
theorem hook_MED_HLOG_SNAP : hook e p Reg.MED_HLOG_SNAP v was d = hlogSnapW p v e d := by
  unfold hook hookMed; dsimp only; repeat first | rw [if_pos (by decide)] | rw [if_neg (by decide)]
theorem hook_MED_GC_CTL : hook e p Reg.MED_GC_CTL v was d = d.urgentAll e := by
  unfold hook hookMed; dsimp only; repeat first | rw [if_pos (by decide)] | rw [if_neg (by decide)]
theorem hook_MED_SPARE_CTL : hook e p Reg.MED_SPARE_CTL v was d = d.spareCheck e := by
  unfold hook hookMed; dsimp only; repeat first | rw [if_pos (by decide)] | rw [if_neg (by decide)]
theorem hook_NRG_ALLOT_CTL : hook e p Reg.NRG_ALLOT_CTL v was d = (if was.allot = d.allot then d else d.setInt pgNrg 3) := by
  unfold hook hookPower; dsimp only; repeat first | rw [if_pos (by decide)] | rw [if_neg (by decide)]
theorem hook_CTL_TH_PROFILE : hook e p Reg.CTL_TH_PROFILE v was d = thProfileW p v e d := by
  unfold hook hookCtl; dsimp only; repeat first | rw [if_pos (by decide)] | rw [if_neg (by decide)]
theorem hook_MED_USER_BANDS : hook e p Reg.MED_USER_BANDS v was d = d.spareCheck e := by
  unfold hook hookMed; dsimp only; repeat first | rw [if_pos (by decide)] | rw [if_neg (by decide)]
theorem hook_MAC_LINK_CTL (n : Nat) (h : n < 2) : hook e p (Reg.MAC_LINK_CTL n) v was d = linkCtlW n (was.flag (Reg.MAC_LINK_CTL n) 0) v e d := by
  interval_cases n
  all_goals
    unfold hook hookNet; dsimp only
    repeat first | rw [if_pos (by decide)] | rw [if_neg (by decide)]
  all_goals try simp only [Reg.MAC_LINK_CTL, Nat.reduceMul, Nat.reduceAdd, Nat.reduceDiv, Nat.reduceSub]
theorem plainPage_MAC_LINK_CTL (n : Nat) (h : n < 2) : plainPage (Reg.MAC_LINK_CTL n) = true := by
  interval_cases n <;> rfl
theorem hook_MAC_IPV4_ADDR (n : Nat) (h : n < 2) : hook e p (Reg.MAC_IPV4_ADDR n) v was d = d.garp n := by
  interval_cases n
  all_goals
    unfold hook hookNet; dsimp only
    repeat first | rw [if_pos (by decide)] | rw [if_neg (by decide)]
  all_goals try simp only [Reg.MAC_IPV4_ADDR, ipv4AddrW, Nat.reduceMul, Nat.reduceAdd, Nat.reduceDiv, Nat.reduceSub]
theorem hook_MAC_ICMP_RATE (n : Nat) (h : n < 2) : hook e p (Reg.MAC_ICMP_RATE n) v was d = icmpRateW n (bits (was.reg (Reg.MAC_ICMP_RATE n)) 15 0) e d := by
  interval_cases n
  all_goals
    unfold hook hookNet; dsimp only
    repeat first | rw [if_pos (by decide)] | rw [if_neg (by decide)]
  all_goals try simp only [Reg.MAC_ICMP_RATE, Nat.reduceMul, Nat.reduceAdd, Nat.reduceDiv, Nat.reduceSub]
theorem hook_MAC_DIAG_POP (n : Nat) (h : n < 2) : hook e p (Reg.MAC_DIAG_POP n) v was d = diagPopW n v e d := by
  interval_cases n
  all_goals
    unfold hook hookNet; dsimp only
    repeat first | rw [if_pos (by decide)] | rw [if_neg (by decide)]
  all_goals try simp only [Reg.MAC_DIAG_POP, Nat.reduceMul, Nat.reduceAdd, Nat.reduceDiv, Nat.reduceSub]
theorem plainPage_MAC_DIAG_POP (n : Nat) (h : n < 2) : plainPage (Reg.MAC_DIAG_POP n) = true := by
  interval_cases n <;> rfl
theorem hook_MCH_CTL (n : Nat) (h : n < 4) : hook e p (0x60010 + n * 0x1000) v was d = mchCtlW n v e d := by
  interval_cases n
  all_goals
    unfold hook hookKey; dsimp only
    repeat first | rw [if_pos (by decide)] | rw [if_neg (by decide)]
  all_goals try simp only [Nat.reduceMul, Nat.reduceAdd, Nat.reduceDiv, Nat.reduceSub]
theorem plainPage_MCH_CTL (n : Nat) (h : n < 4) : plainPage (0x60010 + n * 0x1000) = true := by
  interval_cases n <;> rfl
theorem hook_MCH_ENT_CMD (n : Nat) (h : n < 4) : hook e p (Reg.MCH_ENT_CMD n) v was d = entCmdW n p v e d := by
  interval_cases n
  all_goals
    unfold hook hookKey; dsimp only
    repeat first | rw [if_pos (by decide)] | rw [if_neg (by decide)]
  all_goals try simp only [Reg.MCH_ENT_CMD, Nat.reduceMul, Nat.reduceAdd, Nat.reduceDiv, Nat.reduceSub]
theorem plainPage_MCH_ENT_CMD (n : Nat) (h : n < 4) : plainPage (Reg.MCH_ENT_CMD n) = true := by
  interval_cases n <;> rfl
theorem hook_MED_SPARE_CMD (n : Nat) (h : n < 8) : hook e p (Reg.MED_SPARE_CMD n) v was d = spareCmdW n v e d := by
  interval_cases n
  all_goals
    unfold hook hookMed; dsimp only
    repeat first | rw [if_pos (by decide)] | rw [if_neg (by decide)]
  all_goals try simp only [Reg.MED_SPARE_CMD, Nat.reduceMul, Nat.reduceAdd, Nat.reduceDiv, Nat.reduceSub]
theorem plainPage_MED_SPARE_CMD (n : Nat) (h : n < 8) : plainPage (Reg.MED_SPARE_CMD n) = true := by
  interval_cases n <;> rfl
theorem hook_MED_DIE_SEL (n : Nat) (h : n < 8) : hook e p (Reg.MED_DIE_SEL n) v was d = dieSelW n p v e d := by
  interval_cases n
  all_goals
    unfold hook hookMed; dsimp only
    repeat first | rw [if_pos (by decide)] | rw [if_neg (by decide)]
  all_goals try simp only [Reg.MED_DIE_SEL, Nat.reduceMul, Nat.reduceAdd, Nat.reduceDiv, Nat.reduceSub]
theorem plainPage_MED_DIE_SEL (n : Nat) (h : n < 8) : plainPage (Reg.MED_DIE_SEL n) = true := by
  interval_cases n <;> rfl
theorem hook_CTL_L_CMD (n : Nat) (h : n < 16) : hook e p (Reg.CTL_L_CMD n) v was d = loopCmdW n v e d := by
  interval_cases n
  all_goals
    unfold hook hookCtl; dsimp only
    repeat first | rw [if_pos (by decide)] | rw [if_neg (by decide)]
  all_goals try simp only [Reg.CTL_L_CMD, Nat.reduceMul, Nat.reduceAdd, Nat.reduceDiv, Nat.reduceSub]
theorem plainPage_CTL_L_CMD (n : Nat) (h : n < 16) : plainPage (Reg.CTL_L_CMD n) = true := by
  interval_cases n <;> rfl
theorem hook_CTL_L_MAN (n : Nat) (h : n < 16) : hook e p (Reg.CTL_L_MAN n) v was d = manW n v e d := by
  interval_cases n
  all_goals
    unfold hook hookCtl; dsimp only
    repeat first | rw [if_pos (by decide)] | rw [if_neg (by decide)]
  all_goals try simp only [Reg.CTL_L_MAN, Nat.reduceMul, Nat.reduceAdd, Nat.reduceDiv, Nat.reduceSub]
theorem plainPage_CTL_L_MAN (n : Nat) (h : n < 16) : plainPage (Reg.CTL_L_MAN n) = true := by
  interval_cases n <;> rfl
theorem hook_CTL_L_SP_TARGET (n : Nat) (h : n < 16) : hook e p (Reg.CTL_L_SP_TARGET n) v was d = (if n = 10 then d else spTargetW n e d) := by
  interval_cases n
  all_goals
    unfold hook hookCtl; dsimp only
    repeat first | rw [if_pos (by decide)] | rw [if_neg (by decide)]
  all_goals try simp only [Reg.CTL_L_SP_TARGET, Nat.reduceMul, Nat.reduceAdd, Nat.reduceDiv, Nat.reduceSub]
theorem plainPage_CTL_L_SP_TARGET (n : Nat) (h : n < 16) : plainPage (Reg.CTL_L_SP_TARGET n) = true := by
  interval_cases n <;> rfl

end Sys2Proof.Machine
end

