-- ==== Sys2Proof/Laws/Fields.lean ====
section
/-! SUPPORT. Fields of registers: what a written field reads as, what stays beside it, and what an interrupt bit set by its
event changes. -/

namespace Sys2Proof.Machine

variable (d : Drive) (a k hi lo v p b : Nat)

theorem setBitsN_lt (n hi lo v : Nat) (h : lo ≤ hi) (h32 : hi < 32) (hn : n < 2 ^ 32) : setBitsN n hi lo v < 2 ^ 32 := by
  rw [setBitsN_eq n hi lo v h]
  have e : 2 ^ (hi + 1) = 2 ^ (hi + 1 - lo) * 2 ^ lo := by rw [← pow_add]; congr 1; omega
  have f : 2 ^ 32 = 2 ^ (32 - (hi + 1)) * 2 ^ (hi + 1) := by rw [← pow_add]; congr 1; omega
  have vlt : v % 2 ^ (hi + 1 - lo) < 2 ^ (hi + 1 - lo) := Nat.mod_lt _ (by positivity)
  have rlt : n % 2 ^ lo < 2 ^ lo := Nat.mod_lt _ (by positivity)
  have m := Nat.mul_le_mul_right (2 ^ lo) (show _ + 1 ≤ _ from vlt)
  rw [Nat.add_mul] at m
  have q : n / 2 ^ (hi + 1) < 2 ^ (32 - (hi + 1)) := by
    rw [Nat.div_lt_iff_lt_mul (by positivity), ← f]; exact hn
  have m2 := Nat.mul_le_mul_right (2 ^ (hi + 1)) (show _ + 1 ≤ _ from q)
  rw [Nat.add_mul] at m2
  omega

/-- The register that a field is written in. -/
theorem Drive.poke_reg_toNat (h : lo ≤ hi) (h32 : hi < 32) :
    ((d.poke a hi lo v).reg a).toNat = setBitsN (d.reg a).toNat hi lo v := by
  unfold Drive.poke
  rw [Drive.reg_setReg_same]
  unfold word
  rw [BitVec.toNat_ofNat, Nat.mod_eq_of_lt (setBitsN_lt _ _ _ _ h h32 (d.reg a).isLt)]

theorem Drive.poke_reg_ne (h : k ≠ a) : (d.poke a hi lo v).reg k = d.reg k := Drive.reg_setReg_ne _ _ _ _ h

/-- A written field reads as what was written. -/
theorem Drive.fld_poke_same (h : lo ≤ hi) (h32 : hi < 32) : (d.poke a hi lo v).fld a hi lo = v % 2 ^ (hi + 1 - lo) := by
  unfold Drive.fld bits
  rw [Drive.poke_reg_toNat _ _ _ _ _ h h32, bitsN_setBitsN _ _ _ _ h]

/-- A field apart from a written one stays. -/
theorem Drive.fld_poke_ne (hi' lo' : Nat) (h : lo ≤ hi) (h32 : hi < 32) (h' : lo' ≤ hi') (ne : hi < lo' ∨ hi' < lo) :
    (d.poke a hi lo v).fld a hi' lo' = d.fld a hi' lo' := by
  unfold Drive.fld bits
  rw [Drive.poke_reg_toNat _ _ _ _ _ h h32, bitsN_setBitsN_ne _ _ _ _ _ _ h h' ne]

theorem Drive.fld_of_reg (d' : Drive) (h : d'.reg a = d.reg a) : d'.fld a hi lo = d.fld a hi lo := by unfold Drive.fld; rw [h]

theorem Drive.flag_of_reg (d' : Drive) (i : Nat) (h : d'.reg a = d.reg a) : d'.flag a i = d.flag a i := by unfold Drive.flag; rw [h]

/-- A flag is its one-bit field. -/
theorem Drive.flag_eq_fld (i : Nat) : d.flag a i = (d.fld a i i == 1) := by
  unfold Drive.flag Drive.fld bit bits bitN bitsN
  rw [Nat.add_sub_cancel_left, pow_one]

theorem Drive.isUp_of_pwr (d' : Drive) (h : d'.pwr = d.pwr) : d'.isUp k = d.isUp k := by unfold Drive.isUp Drive.pdSt; rw [h]

theorem Drive.isOn_of_pwr (d' : Drive) (h : d'.pwr = d.pwr) : d'.isOn k = d.isOn k := by unfold Drive.isOn Drive.pdSt; rw [h]

/-- `withEdge` changes no register beside what its change does. -/
@[simp] theorem Drive.withEdge_regs (f : Drive → Drive) : (d.withEdge p f).regs = (f d).regs := by
  unfold Drive.withEdge; dsimp only; split_ifs <;> rfl

/-- An event's interrupt bit changes no other register. -/
theorem Drive.setInt_reg_ne (h : k ≠ intStatA p) : (d.setInt p b).reg k = d.reg k := by
  unfold Drive.setInt
  split_ifs
  · rw [Drive.reg_of_regs (d.poke (intStatA p) b b 1) k _ (by simp), Drive.poke_reg_ne _ _ _ _ _ _ h]
  · rfl
  · rfl

/-- An event's interrupt bit is set at once while its domain is up. -/
theorem Drive.setInt_flag (hb : b < 32) (h : d.isUp (keyDom (p * 4096)) = true) : (d.setInt p b).flag (intStatA p) b = true := by
  unfold Drive.setInt
  rw [if_pos h, Drive.flag_of_reg (d.poke (intStatA p) b b 1) _ _ _ (Drive.reg_of_regs _ _ _ (by simp)), Drive.flag_eq_fld,
    Drive.fld_poke_same _ _ _ _ _ (Nat.le_refl b) hb]
  simp

/-- A counter's step changes no other register. -/
theorem Drive.bumpOpen_reg_ne (n : Nat) (h : k ≠ a) : (d.bumpOpen a n).reg k = d.reg k := Drive.reg_setReg_ne _ _ _ _ h

theorem Drive.bump_reg_ne (n : Nat) (h : k ≠ a) : (d.bump a n).reg k = d.reg k := Drive.reg_setReg_ne _ _ _ _ h

@[simp] theorem Drive.onPort_regs (n : Nat) (f : Port → Port) : (d.onPort n f).regs = d.regs := rfl

@[simp] theorem Drive.onPort_pwr (n : Nat) (f : Port → Port) : (d.onPort n f).pwr = d.pwr := rfl

@[simp] theorem Drive.send_regs (n : Nat) (f : TxFrame) : (d.send n f).regs = d.regs := by
  unfold Drive.send; split_ifs <;> rfl

/-- Changing one element of a list. -/
theorem modAt_getD {α : Type} (l : List α) (i j : Nat) (f : α → α) (x : α) :
    ((modAt l i f)[j]?).getD x = if i = j ∧ i < l.length then f ((l[j]?).getD x) else (l[j]?).getD x := by
  unfold modAt
  split <;> rename_i h
  · obtain ⟨hi, rfl⟩ := List.getElem?_eq_some_iff.1 h
    rw [List.getElem?_set]
    by_cases e : i = j
    · subst e; simp [hi]
    · simp [e]
  · rw [List.getElem?_eq_none_iff] at h
    rw [if_neg (by omega)]

/-- A changed port, and the other ports. -/
theorem Drive.port_onPort (n m : Nat) (f : Port → Port) :
    (d.onPort n f).port m = if n = m ∧ n < d.ports.length then f (d.port m) else d.port m := modAt_getD ..

/-- The new power state, with nothing else of the supplies changed. -/
@[simp] theorem Drive.setPs_pwr (x : PState) : (d.setPs x).pwr = { d.pwr with ps := x } := by
  unfold Drive.setPs; split_ifs with h
  · subst h; rfl
  · dsimp only; split_ifs <;> simp

@[simp] theorem Drive.setPs_jrn (x : PState) : (d.setPs x).jrn = d.jrn := by
  unfold Drive.setPs; split_ifs with h
  · rfl
  · dsimp only; split_ifs <;> simp

end Sys2Proof.Machine
end

