-- ==== Sys2Proof/Laws/Flows.lean ====
section
/-! SUPPORT. Flows of the drive transport: the flow in a slot after a flow is changed, and what a datagram's header does. -/

namespace Sys2Proof.Machine

variable {s : State} {r : Arrival} {h : Hdr} {f : Flow}

theorem modIf_find {α : Type} (l : List α) (p q : α → Bool) (g : α → α) (hg : ∀ x, q (g x) = q x) :
    (modIf l p g).find? q = (l.find? q).map fun x => if p x then g x else x := by
  unfold modIf
  induction l with
  | nil => rfl
  | cons a l ih =>
    rw [List.map_cons, List.find?_cons, List.find?_cons]
    have e : q (if p a = true then g a else a) = q a := by split_ifs <;> simp [hg]
    rw [e]
    cases q a <;> simp [ih]

/-- The flow in a slot after a change of the flow in slot `a`. -/
theorem Drive.flow_onFlow (d : Drive) (a slot : Nat) (g : Flow → Flow) (hg : ∀ f, (g f).slot = f.slot) :
    (d.onFlow a g).flow? slot = if a = slot then (d.flow? slot).map g else d.flow? slot := by
  unfold Drive.flow? Drive.onFlow Drive.onXpt
  dsimp only
  rw [modIf_find _ _ _ _ (fun x => by rw [hg])]
  cases e : d.xpt.flows.find? (fun f => f.slot == slot) with
  | none => simp
  | some x =>
    have := List.find?_some e
    simp only [beq_iff_eq] at this
    by_cases h : a = slot
    · simp [h, this]
    · simp [h, this, Ne.symm h]

/-- A datagram that is taken for a flow: the flow, and the drive once the header is taken. -/
theorem comesTo_findFlow (c : comesTo s r h f) : s.d.findFlow s.env r h = (some f, heard s r h f) := by
  obtain ⟨_, h1, h2, h3, h4, h5, h6, h7⟩ := c
  unfold Drive.findFlow heard
  rw [if_neg (by rw [h1, h2]; decide), h3]
  dsimp only
  rw [if_neg (by rw [h4]; decide), if_neg (by simp [h5, h6, h7])]

/-- A row of the transport while no firmware of its carrier is out. -/
theorem gives_xpt {i : Instr} {s : State} {f : Effect} {d : Drive} (h : exec i s = xptRow f s) (hu : s.d.unitOut 2 = false)
    (hf : (f s.env s.d).settled s.env = d) : Gives i s d := by
  refine gives_runOp h ?_
  unfold unitRow cmdOp
  rw [if_neg (by rw [hu]; decide)]
  exact hf

end Sys2Proof.Machine
end

