-- ==== Sys2Proof/WellFormed.lean ====
section
/-! DEFINITION. Well-formed commands: the operands a row can have on this drive. The meanings are total; a command that is not
well-formed comes from no sender of the spec. -/

namespace Sys2Proof

/-- At most 16 requests wait in the chain's queue (R429), and a flow has one of 65,536 slots (R108). -/
def arbOk (a : Arb) : Bool := decide (a.queue ≤ 16) && decide (a.flow < 65536)

/-- A register address: word-aligned, 24 bits (R38). -/
def addrOk (addr : Nat) : Bool := addr % 4 == 0 && decide (addr < 2 ^ 24)

/-- A chain frame of type `ty`, with its 52 bytes of body (R409, R410). -/
def Frame.is (f : Frame) (ty : Byte) : Bool := f.ty == ty && f.body.length == 52

/-- A CMD fits a datagram (R103, R133). -/
def Cmd.ok (c : Cmd) : Bool := decide (c.body.length ≤ 4076)

/-- A DATA carries one or two blocks of 4,096 bytes (R124). -/
def blocksOk (bs : List Block) : Bool := decide (1 ≤ bs.length) && decide (bs.length ≤ 2) && bs.all fun b => b.bytes.length == 4096

/-- What the diagnostic queue keeps of a frame is at most 256 bytes and no more than the frame. -/
def RxFrame.ok (f : RxFrame) : Bool := decide (f.head.length ≤ 256) && decide (f.head.length ≤ f.len)

/-- The operands of a command are in the ranges of the spec. -/
def Instr.wellFormed : Instr → Bool
  | .controllerFault dom => decide (dom < 30)
  | .i3cPrivateWrite _ a => arbOk a
  | .registerWrite _ addr _ a => arbOk a && addrOk addr
  | .rcRegisterRead _ addr a => arbOk a && addrOk addr
  | .wideLowWordRead _ addr a => arbOk a && addrOk addr
  | .wideLowWordWrite _ addr _ a => arbOk a && addrOk addr
  | .pageInterruptPending page => decide (page < 4096)
  | .deferredInterruptDelivery page => decide (page < 4096)
  | .autonegResolved _ partner => decide (partner < 8)
  | .rxFrame _ f => f.ok
  | .rxBufferRelease _ ring _ => decide (ring < 8)
  | .pfcRefresh _ prio => decide (prio < 8)
  | .pfcReceived _ _ times => times.length == 8
  | .pauseTimerExpiry _ prio => decide (prio < 8)
  | .arpRequest arr _ _ _ _ => !arr.ipv6
  | .ipv6AddrWrite _ _ addr wd _ a => arbOk a && decide (addr < 3) && decide (wd < 4)
  | .dadTimeout _ addr => decide (addr < 3)
  | .neighborSolicitation arr _ => arr.ipv6
  | .flowOpen _ _ _ _ slot _ => decide (slot < 65536)
  | .closeAckSend slot => decide (slot < 65536)
  | .data _ _ _ blocks _ => blocksOk blocks
  | .ackDelayExpiry slot => decide (slot < 65536)
  | .rtoExpiry slot _ _ => decide (slot < 65536)
  | .reorderTimerExpiry slot _ _ => decide (slot < 65536)
  | .flowIdleTimeout slot => decide (slot < 65536)
  | .tombExpiry slot => decide (slot < 65536)
  | .fabricCopyConfirm slot _ _ _ => decide (slot < 65536)
  | .flushComplete slot _ => decide (slot < 65536)
  | .mgmtRead c a => arbOk a && c.ok
  | .mgmtWrite c a => arbOk a && c.ok
  | .unitSlotAllocate slot _ => decide (slot < 65536)
  | .spillSegment _ run => decide (0 < run)
  | .dramPatrolUe err => (match err.shadow with | some (_, i) => decide (i < 16384) | none => true)
  | .scrubCompare _ index _ => decide (index < 16384)
  | .cphDequeue q => decide (q < 32)
  | .rekeyInForce slot => decide (slot < 4120)
  | .mediaRead _ _ => true
  | .stripeProgramDone _ failed => (match failed with | some u => decide (u < 32) | none => true)
  | .eraseDone _ ch _ => decide (ch < 32)
  | .gcCopy group => decide (group < 32)
  | .wearLevelMove ch die => decide (ch < 32) && decide (die < 17)
  | .dieOpTimeout ch die => decide (ch < 32) && decide (die < 17)
  | .rebuildBand group _ => decide (group < 32)
  | .readRetryRung _ rung r => decide (rung < 15) && decide (r.peers.length < 32)
  | .thLoopPeriod t _ => decide (t < 544)
  | .goAuto _ loop _ a => arbOk a && decide (loop < 18)
  | .goManual _ loop _ a => arbOk a && decide (loop < 18)
  | .clearTrip _ loop _ a => arbOk a && decide (loop < 18)
  | .manWrite _ loop _ a => arbOk a && decide (loop < 18)
  | .packFault cause => decide (1 ≤ cause) && decide (cause ≤ 6)
  | .packFitted record _ => record.length == 64
  | .domainEnable dom => decide (dom < 30)
  | .domainDisable dom _ => decide (dom < 30)
  | .domainShutdownDone dom => decide (dom < 30)
  | .claimFrame f => f.is 0x01
  | .enumFrame f => f.is 0x02
  | .enumReturn f _ => f.is 0x02
  | .enumReqFrame f => f.is 0x03
  | .tickFrame f => f.is 0x04
  | .allotFrame f => f.is 0x05
  | .alarmFrame f => f.is 0x06
  | .chainNoticeFrame f => f.is 0x07
  | .regRdFrame f a => arbOk a && f.is 0x10
  | .regWrFrame f a => arbOk a && f.is 0x11
  | .regRspFrame f => f.is 0x12
  | .emptySlot f => f.frame.is 0x00
  | .unknownFrame f => f.body.length == 52
  | .eventOffer code _ _ _ _ => decide (code < 65536)
  | .summaryDue code => decide (code < 65536)
  | .softFullReset _ _ a | .perDomainReset _ _ a | .nrgAllotSetWrite _ _ a | .xptFlowKill _ _ a
  | .xptEnableClear _ _ a | .xptCfgSave _ _ a | .xptFlowSel _ _ a | .ckptNow _ _ a
  | .wtReqSet _ _ a | .wtReqClear _ _ a | .mchSave _ _ a | .mchGeomWrite _ _ a
  | .diagSearchGo _ _ a | .diagSearchNext _ _ a | .mchAcctSel _ _ a | .ceilSet _ _ a
  | .dslotLoad _ _ a | .dslotErase _ _ a | .mqGo _ _ a | .cphSlotSel _ _ a
  | .hlogSnap _ _ a | .userBandsWrite _ _ a | .ctlSave _ _ a | .ctlThSel _ _ a
  | .hupMeasGo _ _ a | .swapRequest _ _ a | .swapCancel _ _ a | .fawnEnterCmd _ _ a
  | .fawnCancelCmd _ _ a | .pdForceOffWrite _ _ a | .chnEnumCmd _ _ a | .chnReqGo _ _ a
  | .chnTxSend _ _ a | .recFreeze _ _ a | .recUnfreeze _ _ a | .recRdSel _ _ a
  | .recChallenge _ _ a | .recClear _ _ a | .recHostGo _ _ a | .recRlSel _ _ a
  | .updOpen _ _ a | .updChunk _ _ a | .updVerify _ _ a | .updActivate _ _ a
  | .updRevert _ _ a | .updClose _ _ a | .ledTest _ _ a | .chnCtlEnableWrite _ _ a
  | .jrnRecSel _ _ a => arbOk a
  | .macRetrain _ _ _ a | .macPortEnable _ _ _ a | .macCfgSave _ _ _ a | .diagPop _ _ _ a
  | .ipv4AddrWrite _ _ _ a | .entRead _ _ _ a | .entInvalidate _ _ _ a | .entWrite _ _ _ a
  | .entValidate _ _ _ a | .segmentRebuild _ _ _ a | .spareCmd _ _ _ a | .dieSel _ _ _ a
  | .spTargetWrite _ _ _ a | .macPortDisable _ _ _ a => arbOk a
  | .unknownOpcode c _ => c.ok
  | .put c | .putRange c | .cas c | .delete c | .punch c | .get c | .getRange c | .stat c
  | .list c | .flush c | .replayReport c | .nsCreate c | .nsDelete c | .nsUsage c | .keyLoad c | .keyErase c
  | .noticeSubscribe c => c.ok
  | .guardGiveup .. | .drainGivenUp .. | .refClockFault | .refClockValid | .powerOnReset .. | .resetNAssert ..
  | .resetNRelease | .chainReadyTimeout | .v12Good | .firmwareRunning .. | .readReady | .writeReady
  | .replayDrainDone | .supplyLoss .. | .flushSeal | .flushReserveOut .. | .supplyReturnDuringFlush | .i3cPrivateRead
  | .enec .. | .disec .. | .getpid | .getbcr | .getdcr | .getstatus
  | .getmxds | .entdaa .. | .setdasa .. | .rstdaa | .trainingAttemptFailed .. | .phyFallback ..
  | .linkUp .. | .linkDown .. | .macCfgSaveDone .. | .preemptVerifyDone .. | .txFrame .. | .preemptHoldTimeout ..
  | .echoRequest .. | .wakeDetectorArm .. | .wakePattern .. | .flowClose .. | .hostReset .. | .ackMessage ..
  | .probe .. | .hostBitmap .. | .bmapReq .. | .commit .. | .acceptHeld | .journalDrain ..
  | .recordDrained .. | .checkpoint | .journalDramUe .. | .reportEntryExpiry | .wtSafe | .wtCommitPage
  | .wtCommitEffect | .mchSaveDone | .segmentRebuildDone .. | .matchTempSample .. | .cphCompletion .. | .tagFailure ..
  | .segmentRelease .. | .releaseSlotFree .. | .healthLogSave | .loopTick .. | .thStateSave
  | .reserveMeasure .. | .packTestPeriod | .packTestDone .. | .chainLeaseExpiry | .staticDrawEstimate .. | .packRemoved
  | .packLatchOpen | .packLatchClose | .idleEntry | .fawnIdleTimeout | .fawnGraceEnd | .fawnReached
  | .wakeTimerExpiry | .chainLockAcquired | .chainLockLost | .claimTimer | .enumTimeout | .enumReqTimer
  | .enumPeriodExpiry | .tickTimer | .tickLoss | .chnReqTimeout .. | .recordProgram | .recordProgramDone ..
  | .recorderScan | .optHwAdvance | .freezeTimeout | .challengeExpiry | .recClearDone | .updChunkDone ..
  | .updVerifyDone .. | .unitReturn | .unitFaultTimeout | .macLinkWaitTimeout | .ledTestEnd | .moduleTempSample ..
  | .auxLoss | .auxReturn | .packCooled | .eyeRefresh .. | .badTransportDatagram .. | .badChainFrame ..
  | .xptCfgSaveDone | .ctlSaveDone => true

end Sys2Proof
end

