-- ==== Sys2Proof/Tests/Slice0.lean ====
section
/-! SUPPORT. Tests: ill-formed commands, single steps with results worked out from the spec, and for every statement a state and
operands that meet its hypotheses (`meets_…`). -/

set_option Elab.async false

namespace Sys2Proof.Tests

open Sys2Proof Sys2Proof.Machine

/-! ### States for the tests -/

/-- A drive that runs, with every domain ON but the four clusters but CL0: the clock, the factory data and the recorder are
numbers of the tests. -/
def ready : State :=
  { State.reset with
    clk := ⟨70000, 131072, 5⟩
    fac := ⟨0x123456, 0x020000000001, 0x020000000002, false, 0, 900, []⟩
    d := { Drive.reset with
      pwr := { Pwr.reset with
        pds := (List.range 30).map fun k => ⟨if 7 ≤ k ∧ k < 10 then .off else .on, false, false, false, .off⟩
        clks := [.crystal, .aon, .core, .dram, .serdes 0, .serdes 1] ++ (List.range 8).map .mediaIo
        aux := true, v12 := true, refOk := true, chainReady := true, fw := true, readReady := true, ps := .active, fawnStep := 0 }
      recorder := { Recorder.reset with nor := [], queue := [], scanDone := true, hostBuckets := List.replicate 3 ⟨960000, 70000⟩, lastMs := none } } }

/-- `ready` with its drive changed. -/
def with_ (g : Drive → Drive) : State := { ready with d := g ready.d }

/-- A drive that has just been switched off. -/
def dark : State := with_ fun d => { d with pwr := { d.pwr with pds := List.replicate 30 ⟨.off, false, false, false, .off⟩, aux := false, v12 := false } }

/-- A drive on AON alone. -/
def aonOnly : State := with_ fun d => { d with pwr := { d.pwr with
  pds := (List.range 30).map fun k => ⟨if k = 0 then .on else .off, false, false, false, .off⟩, v12 := false } }

/-- What `takes` asks of the chain and I3C, computed; a path that is not searched leaves the state as it is. -/
def took (s : State) (p : Path) (arb : Arb) (a : Nat) (v : Word) : Bool :=
  s.d.isOn 0 && s.d.isOn 3 && arb.found p == .granted && !(p == .net) && writes s p a v

theorem took_takes {s : State} {p : Path} {arb : Arb} {a : Nat} {v : Word} (h : took s p arb a v = true) : takes s p arb a v s := by
  simp only [took, Bool.and_eq_true, beq_iff_eq, Bool.not_eq_true', beq_eq_false_iff_ne] at h
  obtain ⟨⟨⟨⟨h0, h3⟩, hf⟩, hp⟩, hw⟩ := h
  exact ⟨⟨h0, h3, hf, s.d, if_neg hp, rfl⟩, hw⟩

/-- What `fetches` asks of them. -/
def read_ (s : State) (p : Path) (arb : Arb) (a : Nat) : Bool :=
  s.d.isOn 0 && s.d.isOn 3 && arb.found p == .granted && !(p == .net) && reads s p a

theorem read_fetches {s : State} {p : Path} {arb : Arb} {a : Nat} (h : read_ s p arb a = true) : fetches s p arb a s := by
  simp only [read_, Bool.and_eq_true, beq_iff_eq, Bool.not_eq_true', beq_eq_false_iff_ne] at h
  obtain ⟨⟨⟨⟨h0, h3⟩, hf⟩, hp⟩, hw⟩ := h
  exact ⟨⟨h0, h3, hf, s.d, if_neg hp, rfl⟩, hw⟩

/-- Nothing competes with an access. -/
abbrev free_ : Arb := .alone 0

/-! ### The block and its registers -/

theorem meets_StepRunsFront : ({ ready with pending := [.getbcr, .getdcr] } : State).pending = .getbcr :: [.getdcr] := by decide
theorem meets_IdleLetsTimePass : (ready.pending = [] ∧ ready.d.isOn 0 = true) ∧ dark.pending = [] ∧ dark.d.isOn 0 = false := by decide +kernel
theorem meets_EveryCommandCompletes : ({ ready with perm := ⟨true⟩ } : State).perm.readOnly = true ∧ ({ ready with perm := ⟨true⟩ } : State).latched ∧
    Instr.getbcr ≠ .optHwAdvance ∧ ∀ l g, Instr.getbcr ≠ .powerOnReset l g := ⟨rfl, fun _ => rfl, by decide, fun _ _ => by intro h; cases h⟩
theorem ready_inv : ready.Inv := by refine ⟨⟨?_, ?_⟩, ?_⟩ <;> first | decide | exact fun h => by cases h
theorem meets_InvariantKept : ∃ t, ready.Inv ∧ step { ready with pending := [.getbcr] } = .next t := ⟨_, ready_inv, rfl⟩
theorem meets_TimeAndReadOnlyOnlyGrow : ready.Inv ∧ Reaches ready ready := ⟨ready_inv, .refl _⟩
theorem meets_OperatingTimeAcrossPower : ready.d.isOn 0 = true ∧ ready.clk.optHw = ready.clk.optime / 65536 * 65536 + 65536 := by decide +kernel
theorem meets_PagesTakeWritesByPath : ∀ a ∈ [0x0, 0x1000, 0x3000, 0x4000, 0x10000, 0x10FFC], (pageInfo (a / 4096)).isSome = true := by decide +kernel
theorem meets_AccessIsAllOrNothing :
    (ready.d.onFabric ready.env .i3c Reg.AON_LED_CTL true 1 [] { free_ with held := true }).1.code = 1 ∧ (ready.d.onFabric ready.env .i3c Reg.AON_LED_CTL false 1 [0] free_).1.code = 0 ∧ free_.found .net = .granted ∧
    (pageInfo (Reg.NRG_ALLOT_CTL / 4096)).isSome = true ∧ ready.d.writeCheck ready.env .net Reg.NRG_ALLOT_CTL 0 ≠ 0 := by
  decide +kernel
theorem meets_AccessCheckOrder : ready.d.isOn 3 = true ∧ shapeOk .i3c 0x2 1 = false ∧ shapeOk .i3c 0xFFFFFC 1 = true ∧ (pageInfo 0xFFF).isNone = true ∧
    shapeOk .net Reg.AON_LED_CTL 1 = true ∧ (pageInfo (Reg.AON_LED_CTL / 4096)).isSome = true ∧ ({ free_ with queue := 16 } : Arb).found .chain = .queueFull ∧
    ({ free_ with queue := 15 } : Arb).found .chain ≠ .queueFull ∧ ({ free_ with chain := true } : Arb).found .i3c = .lost ∧
    ({ free_ with i3c := true } : Arb).found .net = .lost ∧ ({ free_ with seq := true } : Arb).found .chain = .lost ∧ shapeOk .net 0x2 1 = false ∧
    aonOnly.d.isOn 3 = false ∧ ¬(Reg.AON_LED_CTL = Reg.NRG_ALLOT_SET ∧ false = false ∧ 1 = 1) := by decide +kernel
theorem meets_StateRefusedOnlyOnChange : Reg.MAC_RX_BUF 0 ≠ Reg.AON_RST_CTL ∧
    ((ready.d.setReg (Reg.MAC_LINK_CTL 0) 1).stateRefused ready.env .i3c (Reg.MAC_RX_BUF 0) 2) = true ∧
    (specOf (Reg.MAC_RX_BUF 0)).isSome = true ∧ ready.d.rwlNow .i3c (Reg.MAC_RX_BUF 0) = (ready.d.reg (Reg.MAC_RX_BUF 0)).toNat ∧
    ((specOf Reg.AON_LED_CTL).any fun x => x.1.flds.any fun f => f.acc == .rw && f.takes 1) = true := by decide +kernel
theorem meets_WordEntersRegister : fieldsApart ((specOf Reg.AON_LED_CTL).map (·.1.flds)).get! ∧ ((specOf Reg.AON_LED_CTL).map (·.1.flds)).get! ≠ [] := by
  unfold fieldsApart; decide +kernel
theorem meets_RegisterWriteCompletes : took ready .i3c free_ Reg.AON_LED_CTL 2 = true ∧ plainPage Reg.AON_LED_CTL = true ∧
    calm (hook ready.env .i3c Reg.AON_LED_CTL 2 ready.d (stored ready .i3c Reg.AON_LED_CTL 2)) = true ∧
    Reg.AON_WAKE_TIMER ≠ regKey .i3c Reg.AON_LED_CTL ∧ Reg.AON_WAKE_TIMER ≠ regKey .i3c Reg.AON_LED_CTL + 4 := by decide +kernel
theorem meets_RcRegisterReadCompletes : read_ ready .i3c free_ Reg.FAB_GUARD_INGRESS = true ∧
    ((specOf Reg.FAB_GUARD_INGRESS).map fun x => (x.1.words, x.1.clears)) = some (1, true) ∧ ((specOf Reg.AON_LED_CTL).map fun x => (x.1.words, x.1.clears)) = some (1, false) ∧
    ((specOf Reg.FAB_GUARD_INGRESS).any fun x => x.1.flds.any fun f => f.acc == .rc && f.hi < 32) = true ∧
    read_ ready .chain free_ Reg.XPT_RX_BLOCKS = true ∧ ((specOf Reg.XPT_RX_BLOCKS).map fun x => (x.1.words, x.2.2)) = some (2, 0) := by
  decide +kernel
theorem meets_WideValues_read : read_ ready .chain free_ Reg.CHN_EPOCH = true ∧ ((specOf Reg.CHN_EPOCH).map fun x => (x.1.words, x.2.2, x.1.clears)) = some (2, 0, false) := by
  decide +kernel
theorem meets_WideValues_write : took ready .chain free_ 0x58104 1 = true ∧ plainPage 0x58104 = true ∧
    ((specOf 0x58104).map fun x => (x.1.words, x.2.2, x.1.writable)) = some (2, 0, true) ∧ ready.d.noStore .chain 0x58104 = false ∧
    (∀ d n, Drive.takesWhole d ready.env 0x58104 n = true) ∧ (∀ x, hook ready.env .chain 0x58104 1 ready.d x = x) ∧
    calm ready.d = true ∧ ((specOf 0x58108).map fun x => (x.1.words, x.2.2, x.1.writable)) = some (2, 1, true) ∧ ready.d.noStore .chain 0x58108 = false :=
  ⟨by decide +kernel, by decide, by decide +kernel, by decide, fun _ _ => rfl, fun _ => rfl, by decide +kernel, by decide +kernel, by decide⟩
theorem meets_AllotmentWriteWithoutMgmt : aonOnly.d.isOn 0 = true ∧ aonOnly.d.isOn 3 = false ∧ took ready .chain free_ Reg.NRG_ALLOT_SET 0 = true ∧
    took ready .i3c free_ Reg.NRG_ALLOT_SET 250 = true := by decide +kernel
theorem meets_InterruptDelivery :
    ((with_ fun d => { d with edges := [(1, 2)] }).d.edges.find? fun x => x.1 == 1) = some (1, 2) ∧
    (with_ fun d => { d.setReg (intStatA 1) 2 with deferred := [1] }).d.deferred.contains 1 = true ∧
    ((with_ fun d => { (d.setReg (intStatA 1) 2).setReg (intEnA 1) 2 with deferred := [1] }).d.intPend 1) = true ∧ aonOnly.d.isOn 3 = false ∧
    (ready.d.setReg 0x1010 0x40000000).flag (1 * 4096 + 0x10) 30 = true ∧ (ready.d.setReg 0x1010 0x40000000).flag (1 * 4096 + 0x10) 31 = false ∧
    (ready.d.setReg 0x1010 0x40000000).flag (1 * 4096 + 0x10) 29 = false := by decide +kernel
theorem meets_I3cAddressing : ready.d.isOn 0 = true ∧ ready.d.i3cAddr = none ∧ (with_ fun d => { d with i3cAddr := some 9 }).d.i3cAddr ≠ none ∧
    (1 : Byte).getLsbD 0 = true ∧ (0 : Byte).getLsbD 0 = false ∧ (0x3A : BitVec 7) ≠ 0x3B := by decide
theorem meets_I3cAnswers : ready.d.isOn 0 = true ∧ (with_ fun d => { d with i3cAddr := some 9 }).d.i3cAddr = some 9 ∧ ready.d.results[1]? = some ⟨0, 0, []⟩ ∧
    ready.d.i3cAddr = none := by decide
theorem meets_I3cPrivateWrites : (with_ fun d => { d with i3cAddr := some 9 }).d.i3cAddr.isSome = true ∧ ready.d.isOn 0 = true ∧ ready.d.isOn 3 = true ∧
    (0xFFFFFF : Nat) < 2 ^ 24 ∧ (255 : Nat) < 256 ∧ [(5 : Word), 6].length = 2 ∧ ([1, 0, 0, 0] : List Byte).length < 5 ∧ (beAt [3, 0, 0, 0, 0] 0 1 ≠ 1 ∧ beAt [3, 0, 0, 0, 0] 0 1 ≠ 2) ∧
    (beAt [1, 0, 0, 0, 1, 0] 0 1 = 1 ∧ ([1, 0, 0, 0, 1, 0] : List Byte).length ≠ 5) ∧
    (beAt [2, 0, 0, 0, 1] 0 1 = 2 ∧ ([2, 0, 0, 0, 1] : List Byte).length ≠ 5 + 4 * beAt [2, 0, 0, 0, 1] 4 1) := by decide


/-! ### Commands and records for the tests -/

def arr0 : Arrival := ⟨0, 0x02AA00000001, none, false, 0x0A000001, 0x0A000002, 5000, false⟩
def hdr0 : Hdr := ⟨0x00010000, 1, 1, 100, false, 0⟩
def cmd0 (body : List Byte) (payload : Long) : Cmd := ⟨arr0, hdr0, 7, 0, payload, 0, body⟩

/-- A PUT's record in state `st`, with RSN `rsn`. -/
def rec0 (rsn : Nat) (st : RecState) : JRec where
  pair := 0
  rsn := rsn
  st := st
  spill := false
  wt := false
  replayed := false
  settled := false
  finished := false
  flow := 0x00010000
  slot := 0
  inc := 1
  tag := 7
  cmdSeq := 1
  op := .put
  cflags := 0
  payload := 0
  opq := 0
  tenant := 1
  keySlot := 0
  quota := 0
  qos := 0
  body := []
  csn := 9
  version := 1
  status := 0
  pcycle := 5
  optime := 70000
  rsvLeft := 0
  commitMs := 0
  growth := 0
  ordered := false
  ids := []
  units := []
  xlist := none
  spills := []
  drain := none
  vmap := []
  pageDone := false
  commitPage := false
  effect := false
  erased := false
  res0 := 0
  reported := false
  keyDone := false
  full := 1
  pin := false
  passes := []

/-- `ready` with these records in its journal. -/
def withRecs (rs : List JRec) : State := with_ fun d => { d with jrn := { d.jrn with recs := rs } }


/-! ### Start-up, resets, losses -/

/-- `ready` without firmware. -/
def booting (g : Drive → Drive) : State := with_ fun d => g { d with pwr := { d.pwr with fw := false, readReady := false } }
/-- The drive once FIRMWARE_RUNNING has done its steps. -/
def booted (s : State) (ck : BitVec 4) (failed : List (Nat × Nat)) : Drive :=
  let d1 := [15, 20, 21, 22, 23, 24, 25, 26, 27].foldl (fun (d : Drive) k => d.enable s.env k) { s.d with pwr := { s.d.pwr with fw := true } }
  let d2 := if d1.pwr.warm then d1 else d1.loadShadows
  let d3 := { d2 with upd := { d2.upd.interrupted with
    carriers := (if d2.pwr.warm then [] else failed).foldl (fun (cs : List Carrier) (x : Nat × Nat) => modAt cs x.1 fun c => c.startOther x.2) d2.upd.interrupted.carriers } }
  let d4 := if d3.unclean then d3.replay s.env (ck.getLsbD 0 || ck.getLsbD 1) else d3.loadIndex s.env (ck.getLsbD 0 || ck.getLsbD 1)
  [14, 16, 17, 18, 19, 28, 7, 8, 9].foldl (fun (d : Drive) k => d.enable s.env k) d4

theorem meets_StartUpCompletes :
    (aonOnly.d.isOn 0 = true ∧ aonOnly.d.chn.lock = false ∧ (with_ fun d => { d with pwr := { d.pwr with chainReady := false } }).d.pwr.v12Waits = false ∧
      (with_ fun d => { d with pwr := { d.pwr with chainReady := false, v12Waits := true } }).d.pwr.v12Waits = true ∧ ready.d.pwr.aux = true ∧ ready.d.pwr.resetPin = true ∧
      (with_ fun d => { d with pwr := { d.pwr with chainReady := false } }).d.pwr.chainReady = false) ∧
    (aonOnly.d.jrn.flush = none ∧ aonOnly.d.pwr.v12 = false ∧ aonOnly.d.pwr.aux = true ∧ aonOnly.d.pwr.chainReady = true ∧ aonOnly.d.pwr.resetPin = true) ∧
    (dark.d.jrn.flush = none ∧ dark.d.pwr.v12 = false ∧ dark.d.pwr.aux = false ∧ State.reset.d.pwr.chainReady = false) ∧
    ((booting id).d.isOn 6 = true ∧ (booting id).d.pwr.fw = false ∧ (booting id).d.pwr.v12 = true ∧ (booting id).d.jrn.flush = none) ∧
    (ready.d.pwr.fw = true ∧ (with_ fun d => { d with pwr := { d.pwr with readReady := false } }).d.pwr.readReady = false ∧ ready.d.flag Reg.JRN_STAT 4 = false ∧
      ready.d.jrn.ckptOpen = none ∧ ready.d.med.idx = [] ∧ (with_ fun d => d.poke Reg.JRN_STAT 4 4 1).d.flag Reg.JRN_STAT 4 = true) ∧
    ((with_ fun d => { d with pack := { d.pack with measured := true, closed := true, mv := 16000 } }).d.nrg.writeReady = false ∧ ready.d.flag Reg.JRN_STAT 5 = false ∧
      nrgLevel ≤ (with_ fun d => { d with pack := { d.pack with measured := true, closed := true, mv := 16000 } }).d.reserve ready.env) := by decide +kernel
theorem meets_StartUpCompletes_firmware : (booted (booting id) 3 [(1, 0)]).nrg.demand = false ∧
    (booted (booting fun d => { d with nrg := { d.nrg with demand := true } }) 3 []).nrg.demand = true ∧
    (booting fun d => d.setUnclean true).d.unclean = true ∧ (booting id).d.unclean = false := by decide +kernel

def replayed_ : State := with_ fun d => (d.poke Reg.JRN_STAT 5 5 1).onJrn fun j => { j with recs := [{ rec0 1 .drained with replayed := true }] }
def rich (s : State) : State := { s with d := { s.d with nrg := { s.d.nrg with credit := 10 ^ 12 } } }
theorem meets_ReplayDrainDoneCompletes : ∀ s ∈ [replayed_, rich replayed_],
    s.d.pwr.readReady = true ∧ s.d.flag Reg.JRN_STAT 5 = true ∧ s.d.jrn.ckptOpen = none ∧ (∀ r ∈ s.d.jrn.recs, r.replayed = true → r.st ≠ .committed) ∧
      (∀ b ∈ s.d.med.bands, b.st = .flush → s.d.liveIn b.id = []) := by decide +kernel
theorem meets_ReplayDrainDoneCompletes_each : (replayed_.d.startCkpt replayed_.env).affords [20, 21, 22, 23, 24, 25, 26, 27] (cost 9) = false ∧
    ((rich replayed_).d.startCkpt replayed_.env).affords [20, 21, 22, 23, 24, 25, 26, 27] (cost 9) = true ∧
    ((rich replayed_).d.startCkpt replayed_.env).jrn.ckptOpen = none := by decide +kernel

theorem meets_ResetsComplete :
    (took ready .i3c free_ Reg.AON_RST_CTL 0xA5010000 = true ∧ bits (0xA5010000 : Word) 31 24 = 0xA5 ∧ bit (0xA5010000 : Word) 16 = true) ∧
    (took ready .chain free_ Reg.AON_RST_CTL 0xA500800C = true ∧ bits (0xA500800C : Word) 31 24 = 0xA5 ∧ bit (0xA500800C : Word) 15 = true ∧ bit (0xA500800C : Word) 16 = false ∧
      (stored ready .chain Reg.AON_RST_CTL 0xA500800C).rstRefused 0xA500800C = false) ∧
    ((1000 : Nat) ≤ 1000 ∧ (99 : Nat) < 100 ∧ (999 : Nat) < 1000 ∧ ready.d.pwr.v12 = true ∧ ready.d.pwr.aux = true ∧ ready.d.jrn.flush = none ∧ ready.d.pwr.chainReady = true) ∧
    (with_ fun d => d.onPwr fun p => { p with resetHold := true }).d.pwr.resetHold = true ∧ ready.d.isUp 29 = true ∧ ready.d.isUp 0 = true ∧
    ready.d.pwr.resetHold = false := by decide +kernel

theorem meets_ClockAndPowerOn : (ready.d.isOn 0 = true ∧ ready.d.pwr.clks.any (·.fast) = true ∧ ready.d.pwr.v12 = true ∧ ready.d.jrn.flush = none) ∧
    (aonOnly.d.isOn 0 = true ∧ aonOnly.d.pwr.v12 = false) ∧ dark.d.isOn 0 = false := by decide

/-- `ready` in a flush. -/
def flushing (begun : Bool) : State := with_ fun d => d.onJrn fun j => { j with flush := some ⟨69000, false, begun, 30000⟩ }
theorem meets_SupplyLossesComplete : (ready.d.pwr.v12 = true ∧ ready.d.jrn.flush = none ∧ ready.d.pwr.ps ≠ .fawn ∧ ready.d.pwr.fw = true) ∧
    ((booting fun d => { d with pwr := { d.pwr with warm := true } }).d.pwr.warm = true ∧ (booting id).d.pwr.readReady = false ∧ (booting id).d.pwr.ps ≠ .fawn) ∧
    ((booting id).d.pwr.fw = false ∧ (booting id).d.pwr.warm = false) ∧
    (with_ fun d => { d with pwr := { d.pwr with ps := .fawn } }).d.pwr.ps = .fawn ∧
    (∀ b, (flushing b).d.jrn.flush = some ⟨69000, false, b, 30000⟩ ∧ (flushing b).d.pwr.aux = true) ∧
    aonOnly.d.jrn.flush = none ∧ aonOnly.d.pwr.v12 = false ∧ aonOnly.d.isOn 0 = true := by decide
theorem meets_SupplyLossesComplete_flush : ((flushing true).d.flushReport ready.env ⟨69000, false, true, 30000⟩).cutImage 3 |>.flushOver ready.env false |>.pwr.aux := by decide +kernel
theorem meets_SupplyLossesComplete_aux : ∃ t, exec (.supplyLoss .aux) ready = .next t := ⟨_, rfl⟩

/-- A record of payload block 0 of whose segment `index` the encryption is asked for. -/
def draining (st : RecState) (index : Nat) : JRec := { rec0 3 st with effect := true, drain := some [⟨index, [], [], true, none, false, false⟩] }
theorem meets_GuardGivesUp : ((withRecs [rec0 3 .accepted]).d.rec? 3) = some (rec0 3 .accepted) ∧
    ((withRecs [draining .committed 0]).d.rec? 3) = some (draining .committed 0) ∧ (draining .committed 0).pending = false ∧
    ((draining .committed 0).segAt 4 = 0 ∧ ∃ x ∈ (draining .committed 0).drain.getD [], x.index = (draining .committed 0).segAt 4 ∧ x.asked = true ∧ x.done = false) ∧
    (({ rec0 3 .accepted with spills := [(1, 7, false)] } : JRec).pending = true ∧ (∃ y ∈ ({ rec0 3 .accepted with spills := [(1, 7, false)] } : JRec).spills, y.1 = 31 / 16 ∧ y.2.2 = false) ∧
      ∀ x ∈ ({ rec0 3 .accepted with spills := [(1, 7, false)] } : JRec).drain.getD [], x.asked = true → x.done = true) ∧
    (({ rec0 3 .committed with effect := true, spills := [(1, 7, false)] } : JRec).pending = false) := by decide +kernel
theorem meets_GuardGivesUp_drain : (∃ n, ((4 : Nat), n) ∈ ({ draining .committed 0 with passes := [(4, 8)] } : JRec).passes ∧ 8 ≤ n) ∧
    (draining .committed 0).st = .committed ∧ (∃ x ∈ (draining .committed 0).drain.getD [], x.index = (draining .committed 0).segAt 4 ∧ x.done = false) :=
  ⟨⟨8, by decide, by decide⟩, rfl, by decide⟩
/-! ### Network ports -/

/-- A register holds `v`, whatever its reset value. -/
def holds (d : Drive) (k : Nat) (v : Word) : Drive := { d with regs := FMap.insert d.regs k v }

/-- Link-local addresses that are numbers, and port 0 disabled. -/
def homed (d : Drive) : Drive :=
  (holds (holds (holds (holds d (Reg.MAC_IPV6_ADDR 0 2) 1) (Reg.MAC_IPV6_ADDR 0 3) 1) (Reg.MAC_IPV6_ADDR 1 2) 1) (Reg.MAC_IPV6_ADDR 1 3) 1).poke
    (Reg.MAC_LINK_CTL 0) 0 0 0
def still : State := with_ homed

/-- `ready` with port 0 enabled and its link up at the highest rate. -/
def linked : State := with_ fun d => ((((homed d).poke (Reg.MAC_LINK_CTL 0) 0 0 1).poke (Reg.MAC_LINK_STAT 0) 2 0 7).onPort 0 fun x => { x with phy := some 2 })
def link_ (g : Drive → Drive) : State := { linked with d := g linked.d }
def training : State := with_ fun d => ((d.poke (Reg.MAC_LINK_CTL 0) 0 0 1).onPort 0 fun x => { x with phy := some 2, training := true, tries := 7 })

theorem meets_LinkBringUp :
    (training.d.macEnabled 0 = true ∧ training.d.linkUp 0 = false ∧
      ([2, 1, 0].find? fun i => bitN (training.d.fld (Reg.MAC_LINK_CTL 0) 6 4) i && !bitN (training.d.fld (Reg.MAC_LINK_STAT 0) 6 4) i && bitN 1 i) = some 0) ∧
    (training.d.port 0).training = true ∧
    ((training.d.port 0).phy = some (1 + 1) ∧ training.d.macOn 0 = true ∧ training.d.fld (Reg.MAC_LINK_CTL 0) 10 8 ≤ (training.d.port 0).tries) ∧
    (training.d.port 0).phy = some 2 ∧ linked.d.linkUp 0 = true ∧ (link_ fun d => d.poke (Reg.MAC_LINK_STAT 0) 9 8 1).d.fld (Reg.MAC_LINK_STAT 0) 9 8 = 1 := by decide +kernel
theorem meets_LinkDropLosesTheQueue : (1 : Nat) < 2 ∧ 1 < linked.d.ports.length ∧ linked.d.linkUp 0 = true := by decide +kernel

/-- A write of MAC0_LINK_CTL with these bits, on its reset value. -/
def linkCtl (s : State) (add : Nat) : Word := (s.d.reg (Reg.MAC_LINK_CTL 0)) + word add
theorem meets_PortRegisters :
    (took still .i3c free_ (Reg.MAC_LINK_CTL 0) (linkCtl still 1) = true ∧ still.d.flag (Reg.MAC_LINK_CTL 0) 0 = false ∧
      (stored still .i3c (Reg.MAC_LINK_CTL 0) (linkCtl still 1)).flag (Reg.MAC_LINK_CTL 0) 0 = true ∧ bit (linkCtl still 1) 1 = false ∧
      bit (linkCtl still 1) 13 = false ∧ ((stored still .i3c (Reg.MAC_LINK_CTL 0) (linkCtl still 1)).restorePhys 0).poolOk 0 = true) ∧
    ((stored (with_ fun d => (homed d).poke (Reg.MAC_RX_BUF 0) 1 0 2) .i3c (Reg.MAC_LINK_CTL 0) (linkCtl still 1)).restorePhys 0).poolOk 0 = false ∧
    (took linked .i3c free_ (Reg.MAC_LINK_CTL 0) (linkCtl still 0) = true ∧ (stored linked .i3c (Reg.MAC_LINK_CTL 0) (linkCtl still 0)).flag (Reg.MAC_LINK_CTL 0) 0 = false) ∧
    (took linked .i3c free_ (Reg.MAC_LINK_CTL 0) (linkCtl still 3) = true ∧ bit (linkCtl still 3) 1 = true ∧
      linked.d.flag (Reg.MAC_LINK_CTL 0) 0 = (stored linked .i3c (Reg.MAC_LINK_CTL 0) (linkCtl still 3)).flag (Reg.MAC_LINK_CTL 0) 0) ∧
    (took linked .i3c free_ (Reg.MAC_LINK_CTL 0) (linkCtl still 0x2001) = true ∧ bit (linkCtl still 0x2001) 13 = true ∧
      ((stored linked .i3c (Reg.MAC_LINK_CTL 0) (linkCtl still 0x2001)).port 0).saving = none) ∧
    ((with_ fun d => d.onPort 1 fun x => { x with saving := some [] }).d.port 1).saving = some [] ∧
    took still .chain free_ (Reg.MAC_DIAG_POP 1) 1 = true ∧ bit (1 : Word) 0 = true ∧ took still .chain free_ (Reg.MAC_DIAG_POP 0) 0 = true ∧ bit (0 : Word) 0 = false ∧ took still .chain free_ (Reg.MAC_IPV4_ADDR 0) 0x0A000002 = true ∧
    took still .chain free_ (Reg.MAC_IPV6_ADDR 0 11) 5 = true ∧
    (∀ m < 2, ∀ b < 3, (still.d.ipv6 m b ≠ (stored still .chain (Reg.MAC_IPV6_ADDR 0 11) 5).ipv6 m b ↔ m = 0 ∧ b = 2)) ∧
    (∀ m < 2, ∀ b < 3, still.d.ipv6 m b = (stored still .chain (Reg.MAC_IPV6_ADDR 0 11) 0).ipv6 m b) ∧ took still .chain free_ (Reg.MAC_IPV6_ADDR 0 11) 0 = true := by decide +kernel

def frame0 : RxFrame := ⟨0x333300000001#48, some ⟨7, 0, 1⟩, false, 64, false, false, false, false, .other, [], 0, 0, 0⟩
/-- A datagram for the transport that port 0 takes. -/
def dgram4 (err : Bool) (len : Nat) : RxFrame :=
  { frame0 with dst := 0x020000000001#48, fcsBad := err, len := len, body := .ipv4 0x0A000002 5 false 17 17470 false 1 }
/-- `linked` with an IPv4 address and tagged frames accepted. -/
def tagged : State := link_ fun d => (d.setReg (Reg.MAC_IPV4_ADDR 0) 0x0A000002).poke (Reg.MAC_VLAN_CTL 0) 0 0 1
theorem meets_ReceivedFrames : linked.d.linkUp 0 = true ∧
    (linked.d.countBelow 0 frame0).accepts linked.env 0 0x0123456789AB#48 = false ∧ (linked.d.countBelow 0 frame0).accepts linked.env 0 frame0.dst = true ∧
    frame0.stag = false ∧ ({ frame0 with stag := true } : RxFrame).stag = true ∧
    ((link_ fun d => d.poke (Reg.MAC_VLAN_CTL 0) 0 0 0).d.countBelow 0 frame0).flag (Reg.MAC_VLAN_CTL 0) 0 = false ∧ (tagged.d.countBelow 0 frame0).flag (Reg.MAC_VLAN_CTL 0) 0 = true ∧
    tagged.d.steer 0 frame0.dst .macOther = .control ∧ tagged.d.steer 0 frame0.dst .pause = .legacyPause ∧
    tagged.d.steer 0 frame0.dst .other = .unclaimed ∧ tagged.d.steer 0 frame0.dst (.ipv4 0x0A000002 4 false 17 17470 false 1) = .ipDrop := by decide +kernel
theorem meets_ReceivedFrames_ring : ∀ x ∈ [(dgram4 false 64, 0), (dgram4 true 64, 1), (dgram4 false 64, 0)],
    (tagged.d.countBelow 0 x.1).steer 0 x.1.dst x.1.body = .xpt ∧ tagged.d.steer 0 frame0.dst .arp = .offload ∧
    max 1 (ceilDiv (min 64 ((tagged.d.countBelow 0 x.1).fld (Reg.MAC_MAX_FRAME 0) 13 0) - 4) ((tagged.d.countBelow 0 x.1).bufSize 0)) ≤
      (tagged.d.countBelow 0 x.1).ringBufs 0 7 - (tagged.d.countBelow 0 x.1).ringOcc 0 7 ∧
    ((tagged.d.countBelow 0 x.1).frameErr 0 x.1 = 0 ↔ x.2 = 0) := by decide +kernel
def desc0 : Desc := ⟨false, 0, none, 60, true, true, false, 7, false, 0, 0, 64, 0⟩
theorem meets_ReceivedFrames_full : ∀ d ∈ [tagged.d.onPort 0 fun p => { p with rings := modAt p.rings 7 fun _ => List.replicate 65536 desc0 }],
    d.ringBufs 0 7 - d.ringOcc 0 7 = 0 := by decide +kernel
theorem meets_ReceivedFrames_release : (linked.d.onPort 0 fun x => { x with rings := modAt x.rings 7 (·.drop 1) }).txPausing 0 7 = false ∧
    ((linked.d.poke (Reg.MAC_PFC_STAT 0) 15 15 1).onPort 0 fun x => { x with rings := modAt x.rings 7 (·.drop 1) }).txPausing 0 7 = true ∧
    ((linked.d.poke (Reg.MAC_PFC_STAT 0) 15 15 1).onPort 0 fun x => { x with rings := modAt x.rings 7 (·.drop 1) }).ringOcc 0 7 ≤ linked.d.wmLow 0 7 := by
  decide +kernel

def txf : TxFrame := ⟨0, 0x333300000001#48, none, .garp 1, 1500⟩
def sending : State := link_ fun d => (d.poke (Reg.MAC_LINK_STAT 0) 9 8 2).onPort 0 fun x => { x with txq := [txf] }
def suspended : State := link_ fun d => d.onPort 0 fun x => { x with suspended := some (txf, 64) }
theorem meets_PauseAndTransmit :
    (linked.d.linkUp 0 = true ∧ (link_ fun d => d.poke (Reg.MAC_PFC_CTL 0) 15 8 0xFF).d.flag (Reg.MAC_PFC_CTL 0) (8 + 7) = true) ∧
    (sending.d.nextFrame 0 = some txf ∧ (sending.d.onPort 0 fun p => p.unqueue txf).preempting 0 = true ∧ txf.prio ≠ (sending.d.onPort 0 fun p => p.unqueue txf).express 0 ∧
      fragLegal ((sending.d.onPort 0 fun p => p.unqueue txf).fragMin 0) txf.len 0 64 = true) ∧
    (suspended.d.nextFrame 0 = none ∧ (suspended.d.port 0).suspended = some (txf, 64) ∧ (suspended.d.port 0).paused 0 = false) ∧
    ((link_ fun d => d.onPort 0 fun x => { x with suspended := some (txf, 64), pauses := [(0, 9)] }).d.port 0).paused 0 = true := by decide +kernel
/-- Ring 7 of port 0 above LOW, and the port pausing it. -/
def pausing : State := link_ fun d => ((d.poke (Reg.MAC_PFC_STAT 0) 15 15 1).setReg (Reg.MAC_RXQ_WM 0 7) 0).onPort 0 fun x =>
  { x with rings := modAt x.rings 7 fun _ => [desc0] }
theorem meets_PauseAndTransmit_refresh : pausing.d.linkUp 0 = true ∧ pausing.d.txPausing 0 7 = true ∧ pausing.d.wmLow 0 7 < pausing.d.ringOcc 0 7 := by decide +kernel

def addressed4 : State := link_ fun d => d.setReg (Reg.MAC_IPV4_ADDR 0) 0x0A000002
def tentative : State := link_ fun d => (d.setReg (Reg.MAC_IPV6_ADDR 0 7) 5).poke (Reg.MAC_IPV6_STAT 0) 9 9 1
def valid : State := link_ fun d => ((d.setReg (Reg.MAC_IPV6_ADDR 0 7) 5).poke (Reg.MAC_IPV6_STAT 0) 1 1 1)
/-- `ready` in Fawn with the detector of port 0 enabled and armed, and that of port 1 likewise or not. -/
def fawned (both : Nat) : State := with_ fun d => { (d.poke Reg.WAKE_CTL 0 0 1).poke Reg.WAKE_STAT 1 0 (2 * both + 1) with pwr := { d.pwr with ps := .fawn } }
theorem meets_PortOffloads :
    (addressed4.d.linkUp 0 = true ∧ addressed4.d.reg (Reg.MAC_IPV4_ADDR 0) = 0x0A000002 ∧ addressed4.d.flag (Reg.MAC_OFF_CTL 0) 0 = true ∧ (1 : BitVec 48) ≠ addressed4.env.mac 0) ∧
    (tentative.d.macOn 0 = true ∧ tentative.d.ipv6Tentative 0 1 = true) ∧
    (tentative.d.flag (Reg.MAC_OFF_CTL 0) 1 = true ∧ tentative.d.ipv6Valid 0 1 = false ∧
      ([0, 1, 2].find? fun a => tentative.d.ipv6 0 a == (5 : BitVec 128).toNat && (tentative.d.ipv6Valid 0 a || tentative.d.ipv6Tentative 0 a)) = some 1) ∧
    (valid.d.ipv6Valid 0 1 = true ∧ arr0.ip ≠ 0 ∧ ({ arr0 with ip := 0 } : Arrival).ip = 0 ∧
      ([0, 1, 2].find? fun a => valid.d.ipv6 0 a == (5 : BitVec 128).toNat && (valid.d.ipv6Valid 0 a || valid.d.ipv6Tentative 0 a)) = some 1) ∧
    (linked.d.flag (Reg.MAC_OFF_CTL 0) 2 = true ∧ linked.d.fld (Reg.MAC_ICMP_RATE 0) 15 0 ≠ 0 ∧
      1000 ≤ min 16000 ((linked.d.port 0).icmp.tok + linked.d.fld (Reg.MAC_ICMP_RATE 0) 15 0 * (linked.env.clk.optime - (linked.d.port 0).icmp.at_)) ∧
      ((link_ fun d => d.setReg (Reg.MAC_ICMP_RATE 0) 0).d.fld (Reg.MAC_ICMP_RATE 0) 15 0 = 0)) ∧
    (ready.d.isOn 1 = true ∧ (fawned 0).d.pwr.ps = .fawn ∧ (fawned 0).d.flag Reg.WAKE_CTL 0 = true ∧ (fawned 0).d.flag Reg.WAKE_STAT 0 = true ∧
      (fawned 1).d.flag Reg.WAKE_STAT (1 - 0) = true) := by
  decide +kernel

/-! ### Flows and commands -/

/-- The row that allows everything, and the entry that holds it. -/
def row0 : Long := BitVec.ofNat 64 ((5 <<< 46) ||| (1 <<< 33) ||| (7 <<< 20) ||| (0xFFF <<< 8))
def flow0 : Flow where
  slot := 0
  inc := 1
  st := .open_
  tenant := 0x2A
  nonce := 9
  ipv6 := false
  ip := 0x0A000001
  udp := 5000
  arr := arr0
  qos := 0
  mtu := 9216
  target := 4
  isnHost := 0
  isnDrive := 100
  rto := 10000
  idleS := 60
  rxNext := 1
  limit := 50
  gap := []
  cmds := []
  closeSeq := none
  txNext := 101
  txAcked := 100
  credit := 64
  msgs := []
  subs := []
  notices := []
  resends := 0
  lastRx := 70000
  ackDue := false
  closed := false
def key0 : KeyRec := ⟨[1, 2, 3], 4, 5000, 0, 5, false, 0x115, 1, [⟨8192, .hole⟩], []⟩
def ns0 : Ns := ⟨0x115, 0x2A, 1000000, 5, [key0], 4, 0, 0, 0, 0, 0⟩

/-- A drive with a link, a flow, a namespace with a key, and a policy that allows everything; no cluster is ON, so that no
choice of a cluster enters. -/
def hosted : State := link_ fun d => { (d.install 5 ⟨List.replicate 32 7, 0x2A, 0, none, 0⟩).poke (Reg.XPT_CTL) 0 0 1 with
  pwr := { d.pwr with pds := d.pwr.pds.mapIdx fun k x => if 6 ≤ k ∧ k < 10 then ⟨.off, false, false, false, .off⟩ else x }
  xpt := { d.xpt with flows := [flow0] }, nss := [ns0]
  mch := { d.mch with segs := [⟨0, 0, 0, 0, true, row0⟩] :: List.replicate 3 [] }
  nrg := { d.nrg with writeReady := true }, pack := { d.pack with closed := true, measured := true, mv := 16000 }, ports := d.ports }
def host_ (g : Drive → Drive) : State := { hosted with d := g hosted.d }

/-- What `allowed` needs of a state, computed. -/
def verdict (s : State) (op : Op) (c : Cmd) (arb : Arb) : Option (Flow × Flow × Flow × Verdict × Drive) :=
  match s.d.xpt.flows.find? fun f => f.id == c.hdr.flow with
  | none => none
  | some f =>
    match (heard s c.arr c.hdr f).flow? f.slot with
    | none => none
    | some g =>
      match (entered s op c f).flowAt g.slot g.inc with
      | none => none
      | some k' =>
        match (entered s op c f).policy s.env (asked op c arb g) k' with
        | (none, _) => none
        | (some v, d) =>
          match d.flowAt g.slot g.inc with
          | none => none
          | some k =>
            if (s.d.unitOut 2 = false ∧ s.d.xptTakes c.arr = true ∧ c.arr.group = false ∧ f.live = true ∧ f.ip = c.arr.ip ∧ f.ipv6 = c.arr.ipv6 ∧ f.udp = c.arr.udp) ∧
                (c.body.length ≤ 4076 ∧ g.slot = f.slot ∧ g.st = .open_ ∧ (g.gap.any fun x => x.seq == c.hdr.seq) = false ∧ c.hdr.seq = g.rxNext ∧
                  seqLt g.limit c.hdr.seq = false) ∧
                stepOne g c op = 0 ∧ (op = .mgmtRead ∨ op = .mgmtWrite ∨ ((entered s op c f).pwr.readReady = true ∧ (entered s op c f).pwr.fawnStep = 0)) ∧
                stepThree op c.payload.toNat c.body = 0 then some (f, g, k, v, d) else none

theorem verdict_allowed {s : State} {op : Op} {c : Cmd} {arb : Arb} {f g k : Flow} {v : Verdict} {d : Drive}
    (h : verdict s op c arb = some (f, g, k, v, d)) : allowed s op c arb f g k v d := by
  unfold verdict at h
  split at h; · cases h
  rename_i f' hf
  split at h; · cases h
  rename_i g' hg
  split at h; · cases h
  rename_i k' hk'
  split at h; · cases h
  rename_i v' d' hp
  split at h; · cases h
  rename_i k'' hk
  split at h
  · rename_i hc
    injection h with h; injection h with h1 h; injection h with h2 h; injection h with h3 h; injection h with h4 h5
    subst h1; subst h2; subst h3; subst h4; subst h5
    obtain ⟨⟨a1, a2, a3, a4, a5, a6, a7⟩, ⟨b1, b2, b3, b4, b5, b6⟩, c1, c2, c3⟩ := hc
    exact ⟨⟨⟨a1, a2, a3, hf, a4, a5, a6, a7⟩, b1, hg, b2, b3, b4, b5, b6⟩, c1, c2, c3, ⟨k', hk', hp⟩, hk⟩
  · cases h

/-- Command `c` passes steps 1 to 4 in `s`, and `P` holds of what it leaves: its flow, the row's verdict, the drive and the
command as the checks carry it. -/
def runs (s : State) (op : Op) (c : Cmd) (P : Flow → Verdict → Drive → HeldCmd → Bool) : Bool :=
  (verdict s op c free_).any fun x => P x.2.2.1 x.2.2.2.1 x.2.2.2.2 (asked op c free_ x.2.1)

theorem runs_allowed {s : State} {op : Op} {c : Cmd} {P : Flow → Verdict → Drive → HeldCmd → Bool} (h : runs s op c P = true) :
    ∃ f g k v d, allowed s op c free_ f g k v d ∧ P k v d (asked op c free_ g) = true := by
  match hv : verdict s op c free_ with
  | none => rw [runs, hv] at h; cases h
  | some (f, g, k, v, d) => rw [runs, hv] at h; exact ⟨f, g, k, v, d, verdict_allowed hv, h⟩

def keyed (key : List Byte) (x y : Nat) : List Byte := beBytes 2 0x115 ++ beBytes 2 key.length ++ beBytes 4 0 ++ beBytes 8 x ++ beBytes 8 y ++ beBytes 8 0 ++ key
/-- A leaf page of namespace 0x115 that DRAM does not hold. -/
def leaf0 : IdxPage := ⟨9, 0x115, true, [key0], [], false⟩
def paged (s : State) : State := { s with d := { s.d with med := { s.d.med with idx := [leaf0] } } }

/-- A PUT of one block. -/
def put0 : Cmd := cmd0 (keyed [9] 0 0) 4096
/-- Steps 6 to 10 pass. -/
def passes (s : State) (v : Verdict) (d : Drive) (h : HeldCmd) : Bool :=
  d.writeSteps s.env h v (if h.op.paid then d.growthOf h.op (bodyNs h.cmd.body) h.cmd.payload.toNat h.cmd.body else 0) == ⟨0, 0⟩
theorem meets_WritesAreAccepted : runs hosted .put put0 (fun k v d h => d.owns k 0x115 && (d.med.leavesMissing .put put0.body == []) && passes hosted v d h &&
      ((d.stepEleven hosted.env 1).1 == none) && decide (((d.stepEleven hosted.env 1).2.leaveIdle hosted.env).jrn.recs.length < pairTotal) &&
      ((d.stepEleven hosted.env 1).2.leaveIdle hosted.env).jrn.heldAccept == []) = true := by decide +kernel
/-- The other commands that write. -/
theorem meets_WritesAreAccepted_rows : ∀ x ∈ [(Op.putRange, cmd0 (keyed [1, 2, 3] 0 0) 4096), (.cas, cmd0 (keyed [1, 2, 3] 4 0) 4096),
      (.delete, cmd0 (keyed [1, 2, 3] 0 0) 0), (.punch, cmd0 (keyed [1, 2, 3] 0 100) 0)],
    (writeRow x.1).isSome = true ∧ runs hosted x.1 x.2 (fun k v d h => d.owns k 0x115 && passes hosted v d h) = true := by decide +kernel
def refusing (g : Drive → Drive) (P : Flow → Verdict → Drive → HeldCmd → Bool) : Bool := runs (host_ g) .put put0 P
/-- Another tenant's namespace; leaf pages that are not in DRAM; a quota that is full; a reserve that is not there; no record pair. -/
theorem meets_WritesAreAccepted_other : refusing (fun d => { d with nss := [{ ns0 with owner := 1 }] }) (fun k _ d _ => !d.owns k 0x115) = true ∧
    runs (paged hosted) .put (cmd0 (keyed [1, 2, 3] 0 0) 4096) (fun k _ d h => d.owns k 0x115 && !(d.med.leavesMissing .put h.cmd.body == [])) = true ∧
    refusing (fun d => { d with nss := [{ ns0 with limit := 0 }] }) (fun k v d h => d.owns k 0x115 &&
      (d.writeSteps hosted.env h v (d.growthOf .put 0x115 4096 put0.body)).status == 6) = true ∧
    refusing (fun d => { d with pack := { d.pack with mv := 1 } }) (fun k v d h => d.owns k 0x115 && passes hosted v d h && (d.stepEleven hosted.env 1).1.isSome) = true ∧
    refusing (fun d => d.onJrn fun j => { j with heldAccept := [asked .put put0 free_ flow0] }) (fun k v d h => d.owns k 0x115 && passes hosted v d h &&
      (d.stepEleven hosted.env 1).1 == none && !(((d.stepEleven hosted.env 1).2.leaveIdle hosted.env).jrn.heldAccept == [])) = true := by decide +kernel
/-- The steps of R157 one by one. -/
theorem meets_WritesAreAccepted_steps : refusing id (fun _ v d h => !(hosted.env.readOnly || d.med.readOnly) &&
      d.judgeSlot (d.rowSlot v 0x115) (segCount .put 4096 0 (d.jrnMode != 0 || d.spills 4096)) == 0 && (judgeWrite d.nss 0x115 .put 0 4096 h.cmd.body).status == 0 &&
      !(d.quotaFull (rowQuotaNs v 0x115) 4097) && decide (d.userUsed + unitLen (bodyKeyLen h.cmd.body + 4096) ≤ d.userCap)) = true ∧
    refusing (fun d => d.setSlot { d.kslot 5 with st := .empty }) (fun _ v d _ => d.judgeSlot (d.rowSlot v 0x115) 1 != 0) = true ∧
    refusing (fun d => d.setReg Reg.MED_USER_BANDS 0) (fun _ _ d _ => decide (d.userCap < d.userUsed)) = true ∧
    runs hosted .cas (cmd0 (keyed [1, 2, 3] 9 0) 4096) (fun _ _ d h => (judgeWrite d.nss 0x115 .cas 0 4096 h.cmd.body).status != 0) = true := by decide +kernel

def nsBody (id : Nat) : List Byte := beBytes 2 id ++ beBytes 2 0x2A ++ beBytes 2 5 ++ beBytes 2 0 ++ beBytes 8 100000
theorem meets_AdminCommandsAreAccepted : (adminRow .nsCreate).isSome = true ∧
    runs hosted .nsCreate (cmd0 (nsBody 0x116) 0) (fun k v d h => (d.reevaluate hosted.env d.nss (d.newRec hosted.env h k v 0)).status == 0 && (d.stepEleven hosted.env 0).1 == none &&
      decide (((d.stepEleven hosted.env 0).2.leaveIdle hosted.env).jrn.recs.length < pairTotal) && ((d.stepEleven hosted.env 0).2.leaveIdle hosted.env).jrn.heldAccept == []) = true ∧
    runs hosted .nsCreate (cmd0 (nsBody 0x115) 0) (fun k v d h => (d.reevaluate hosted.env d.nss (d.newRec hosted.env h k v 0)).status != 0) = true ∧
    runs (host_ fun d => { d with pack := { d.pack with mv := 1 } }) .nsCreate (cmd0 (nsBody 0x116) 0) (fun k v d h =>
      (d.reevaluate hosted.env d.nss (d.newRec hosted.env h k v 0)).status == 0 && (d.stepEleven hosted.env 0).1.isSome) = true := by decide +kernel

def listBody (start : List Byte) : List Byte := beBytes 2 0x115 ++ beBytes 2 1 ++ beBytes 2 start.length ++ beBytes 2 0 ++ beBytes 4 10 ++ beBytes 4 0 ++ [1] ++ start
/-- The reads at their snapshot points: a key that is there, one that is not, a range that fits, to the last byte, and one that does
not, by one; a listing whose start has the prefix, and one whose start has not. -/
theorem meets_ReadsAnswer : ∀ x ∈ [(Op.get, keyed [1, 2, 3] 0 0), (.get, keyed [9] 0 0), (.getRange, keyed [1, 2, 3] 0 5000), (.getRange, keyed [1, 2, 3] 1 5000),
      (.stat, keyed [1, 2, 3] 0 0), (.list, listBody [1, 0]), (.list, listBody [2]), (.list, listBody [])],
    x.1.cls = 1 ∧ runs hosted x.1 (cmd0 x.2 0) (fun k _ d h => d.owns k (bodyNs x.2) && !d.mustWait h && (d.med.leavesMissing x.1 x.2 == [])) = true := by decide +kernel
theorem meets_ReadsAnswer_ranges : ((nsOf hosted.d.nss 0x115).bind (·.find [1, 2, 3])) = some key0 ∧ ((nsOf hosted.d.nss 0x115).bind (·.find [9])) = none ∧
    key0.len < bodyArg0 (keyed [1, 2, 3] 1 5000) + bodyArg1 (keyed [1, 2, 3] 1 5000) ∧
    bodyArg0 (keyed [1, 2, 3] 0 5000) + bodyArg1 (keyed [1, 2, 3] 0 5000) ≤ key0.len ∧
    startsWith (listStart (listBody [1, 0])) (listPrefix (listBody [1, 0])) = true ∧ startsWith (listStart (listBody [2])) (listPrefix (listBody [2])) = false ∧
    listStart (listBody []) = [] := by decide +kernel
theorem meets_ReadsAnswer_waits : runs (paged hosted) .get (cmd0 (keyed [1, 2, 3] 0 0) 0) (fun k _ d h => d.owns k 0x115 && !d.mustWait h && !(d.med.leavesMissing .get h.cmd.body == [])) = true ∧
    runs (host_ fun d => { d with nss := [{ ns0 with owner := 1 }] }) .get (cmd0 (keyed [1, 2, 3] 0 0) 0) (fun k _ d _ => !d.owns k 0x115) = true := by decide +kernel

def withRec (st : RecState) : State := host_ fun d => { d with jrn := { d.jrn with recs := [{ rec0 1 st with cmdSeq := 0, effect := true }] } }
def reported : State := host_ fun d => { d with jrn := { d.jrn with report := [⟨0x00010000, 3, 9, 1, 0, 0, 0x115, 5, 0, 4, 0x2A, 0⟩] } }
def reportBody (q : Nat) (x : Nat) : List Byte := beBytes 1 q ++ zeros 1 ++ beBytes 2 1 ++ beBytes 4 0x00010000 ++ beBytes 4 x ++ zeros 4
def mgmtBody (addr n : Nat) (ws : List Nat) : List Byte := beBytes 1 0 ++ beBytes 3 addr ++ beBytes 2 n ++ zeros 2 ++ (ws.map (beBytes 4)).flatten
def subBody (page on : Nat) : List Byte := beBytes 2 page ++ beBytes 1 on ++ zeros 5
theorem meets_ServiceCommandsAnswer : ∀ x ∈ [(withRec .drained, Op.flush, zeros 8), (withRec .committed, .flush, zeros 8),
      (withRec .drained, .flush, beBytes 1 1 ++ zeros 3 ++ beBytes 2 1 ++ zeros 2 ++ beBytes 4 0), (withRec .drained, .flush, beBytes 1 2 ++ zeros 1 ++ beBytes 2 0x115 ++ zeros 4),
      (withRec .drained, .flush, beBytes 1 2 ++ zeros 1 ++ beBytes 2 0x116 ++ zeros 4), (reported, .replayReport, reportBody 0 3), (reported, .replayReport, reportBody 0 4),
      (reported, .replayReport, reportBody 1 9), (reported, .replayReport, reportBody 1 10), (reported, .replayReport, reportBody 2 9), (reported, .replayReport, reportBody 2 10),
      (hosted, .nsUsage, beBytes 2 0x115 ++ zeros 6), (hosted, .nsUsage, beBytes 2 0x116 ++ zeros 6),
      (hosted, .noticeSubscribe, subBody 1 1), (hosted, .noticeSubscribe, subBody 0xFFF 1), (hosted, .noticeSubscribe, subBody 1 0),
      (hosted, .mgmtRead, mgmtBody Reg.AON_LED_CTL 1 []), (hosted, .mgmtWrite, mgmtBody Reg.AON_WAKE_TIMER 1 [1])],
    runs x.1 x.2.1 (cmd0 x.2.2 0) (fun _ _ d h => !d.mustWait h) = true := by decide +kernel
/-- Of FLUSH: the records it names that are drained, and those that are not; the three scopes. -/
theorem meets_ServiceCommandsAnswer_flush :
    runs (withRec .drained) .flush (cmd0 (zeros 8) 0) (fun k _ d _ =>
      let xs := (d.jrn.recs.filter JRec.covered).filter fun r => r.slot == k.slot && r.inc == k.inc && seqLt r.cmdSeq 1
      xs.length == 1 && xs.all fun r => r.st == .drained) = true ∧
    runs (withRec .committed) .flush (cmd0 (zeros 8) 0) (fun k _ d _ =>
      ((d.jrn.recs.filter JRec.covered).filter fun r => r.slot == k.slot && r.inc == k.inc && seqLt r.cmdSeq 1).any fun r => r.st == .committed) = true ∧
    runs hosted .flush (cmd0 (beBytes 1 2 ++ zeros 1 ++ beBytes 2 0x115 ++ zeros 4) 0) (fun k _ d h => d.owns k (beAt h.cmd.body 2 2)) = true ∧
    runs hosted .flush (cmd0 (beBytes 1 2 ++ zeros 1 ++ beBytes 2 0x116 ++ zeros 4) 0) (fun k _ d h => !d.owns k (beAt h.cmd.body 2 2)) = true := by
  decide +kernel
/-- Of the others: what is there and what is not; a subscription that finds its flow full; an access that ends DONE and one that
does not. -/
theorem meets_ServiceCommandsAnswer_found :
    (reported.d.jrn.report.any fun x => x.flow == 0x00010000 && x.tag == 3 && x.tenant == 0x2A) = true ∧ (9 - 9 : Word).toNat < 2 ^ 31 ∧ ¬((9 - 10 : Word).toNat < 2 ^ 31) ∧
    nsVisible hosted.d.nss 0x2A 0x115 = true ∧ nsVisible hosted.d.nss 0x2A 0x116 = false ∧
    ((nsOf hosted.d.nss 0x115).map fun n => n.settle 70000).isSome = true ∧ (pageInfo 1).isSome = true ∧ (pageInfo 0xFFF).isSome = false ∧
    runs (host_ fun d => { d with xpt := { d.xpt with flows := [{ flow0 with subs := List.range 64 }] } }) .noticeSubscribe (cmd0 (subBody 64 1) 0) (fun k _ _ _ =>
      !k.subs.contains 64 && decide (64 ≤ k.subs.length)) = true ∧
    runs (host_ fun d => { d with xpt := { d.xpt with flows := [{ flow0 with subs := [1] }] } }) .noticeSubscribe (cmd0 (subBody 1 1) 0) (fun k _ _ _ => k.subs.contains 1) = true ∧
    runs hosted .mgmtRead (cmd0 (mgmtBody Reg.AON_LED_CTL 1 []) 0) (fun _ _ d _ => (d.access hosted.env .net Reg.AON_LED_CTL true 1 [] free_).1.code == 0) = true ∧
    runs hosted .mgmtWrite (cmd0 (mgmtBody Reg.AON_WAKE_TIMER 1 [1]) 0) (fun _ _ d _ => (d.access hosted.env .net Reg.AON_WAKE_TIMER false 1 [1] free_).1 == ⟨0, 0, []⟩) = true ∧
    runs hosted .mgmtWrite (cmd0 (mgmtBody 0 1 [1]) 0) (fun _ _ d _ => (d.access hosted.env .net 0 false 1 [1] free_).1.code != 0) = true := by decide +kernel
/-- Under ORDERED a command without a record waits behind an earlier one. -/
theorem meets_ServiceCommandsAnswer_waits : runs (host_ fun d => { d with
      xpt := { d.xpt with flows := [{ flow0 with rxNext := 2, cmds := [{ listedCmd put0 .put with rsn := some 1 }] }] }, jrn := { d.jrn with recs := [{ rec0 1 .accepted with body := put0.body }] } })
    .get { cmd0 (keyed [9] 0 0) 0 with hdr := { hdr0 with seq := 2 }, tag := 8, cflags := 1 } (fun k _ d h => d.mustWait h && !d.unowned k h) = true := by decide +kernel

/-- Flow 0 of `hosted` takes a datagram from its host, and stands as `f` afterwards. -/
theorem hosted_comesTo (h : Hdr) (hf : h.flow = 0x00010000) : comesTo hosted arr0 h flow0 := by
  unfold comesTo; rw [hf]; decide +kernel
/-- The flow as a datagram with header `hdr0` leaves it. -/
theorem hosted_heard : ((heard hosted arr0 hdr0 flow0).flow? 0).any (fun g => g.slot == 0 && g.st == .open_ && g.gap == [] && g.rxNext == 1 && !(seqLt g.limit 1) &&
    !(g.cmds.any fun x => x.tag == 7)) = true := by decide +kernel
theorem meets_ServiceCommandsAnswer_inSequence (body : List Byte) (hb : body.length ≤ 4076) : ∃ g, inSequence hosted (cmd0 body 0) flow0 g ∧ (g.cmds.any fun x => x.tag == 7) = false := by
  have h := hosted_heard
  match hg : (heard hosted arr0 hdr0 flow0).flow? 0 with
  | none => rw [hg] at h; cases h
  | some g =>
    rw [hg] at h
    simp only [Option.any_some, Bool.and_eq_true, beq_iff_eq, Bool.not_eq_true'] at h
    exact ⟨g, ⟨hosted_comesTo _ rfl, hb, hg, h.1.1.1.1.1, h.1.1.1.1.2, by rw [h.1.1.1.2]; rfl, h.1.1.2.symm, h.1.2⟩, h.2⟩
/-- The steps 1 to 4 of such a command, each failing and passing. -/
theorem meets_ServiceCommandsAnswer_steps : knownCodes.contains (0xFFFF : Half).toNat = false ∧ stepOne flow0 (cmd0 [] 0) (.unknown 0xFFFF) = 0x111 ∧
    stepOne flow0 { cmd0 [] 0 with cflags := 8 } .get = 0x112 ∧ stepOne flow0 (cmd0 [] 0) .get = 0 ∧
    (entered (host_ fun d => { d with pwr := { d.pwr with readReady := false } }) .get (cmd0 [] 0) flow0).pwr.readReady = false ∧
    (entered hosted .get (cmd0 [] 0) flow0).pwr.readReady = true ∧ stepThree .get 0 [] ≠ 0 ∧ stepThree .get 0 (keyed [1, 2, 3] 0 0) = 0 ∧
    ((entered hosted .get (cmd0 (keyed [1, 2, 3] 0 0) 0) flow0).flowAt 0 1).isSome = true ∧
    (entered (host_ fun d => { d with mch := { d.mch with rebuilding := [0] } }) .get (cmd0 [] 0) flow0).tableHeld ((hosted.d).classTable 1) = true ∧
    (entered hosted .get (cmd0 [] 0) flow0).tableHeld (hosted.d.classTable 1) = false := by decide +kernel
theorem meets_ServiceCommandsAnswer_denied :
    ((host_ fun d => { d with mch := { d.mch with segs := List.replicate 4 [] } }).d.search 1 (searchKey 0x2A 0x115 0 1 0 [])).1.allow = false ∧
    ((host_ fun d => { d with mch := { d.mch with segs := [⟨0, 0, 0, 0, true, row0 + (0xEE0 <<< 46)⟩] :: List.replicate 3 [] } }).d.search 2 (searchKey 0x2A 0x115 0 2 0 [])).1.allow = true := by
  decide +kernel
/-- A header again, beyond the credit, and beyond a gap. -/
theorem meets_ServiceCommandsAnswer_again : seqLt (0 : Word) 1 = true ∧ seqLt (1 : Word) 1 = false ∧ seqLt (50 : Word) 51 = true ∧ seqLt (50 : Word) 50 = false ∧ (2 : Word) ≠ 1 := by decide
theorem meets_ServiceCommandsAnswer_complete : ∀ s ∈ [host_ fun d => { d with jrn := { d.jrn with recs := [rec0 1 .drained], flushes := [⟨0, 1, 1, [1], 1, 0, []⟩] } }],
    (s.d.jrn.flushes.find? fun x => x.slot == 0 && x.cmdSeq == 1) = some ⟨0, 1, 1, [1], 1, 0, []⟩ ∧
      ∀ r ∈ s.d.jrn.recs, [1].contains r.rsn = true → r.st ≠ .committed := by decide +kernel
/-- A register access over the network: one that the policy allows and one that it denies. -/
theorem meets_AccessCheckOrder_net : shapeOk .net Reg.AON_LED_CTL 1 = true ∧ (hosted.d.netSearch free_).1 = some true ∧
    ((host_ fun d => { d with mch := { d.mch with segs := List.replicate 4 [] } }).d.netSearch free_).1 = some false := by decide +kernel
theorem meets_takes_net : ∃ t, takes hosted .net free_ Reg.AON_WAKE_TIMER 9 t := by
  match h : hosted.d.netSearch free_ with
  | (o, d) =>
    have ho : o = some true := (congrArg Prod.fst h).symm.trans (by decide +kernel)
    have hw : writes { hosted with d := (hosted.d.netSearch free_).2 } .net Reg.AON_WAKE_TIMER 9 = true := by decide +kernel
    rw [h] at hw
    exact ⟨{ hosted with d := d }, ⟨by decide +kernel, by decide +kernel, by decide, d, by rw [Drive.searched, if_pos rfl, h, ho], rfl⟩, hw⟩

/-! ### The transport -/

def openBody (tenant mtu cmds : Nat) : List Byte := beBytes 8 0xABCD ++ beBytes 4 100 ++ beBytes 2 tenant ++ beBytes 2 mtu ++ beBytes 2 cmds ++ beBytes 2 0
def openNew (s : State) (b : List Byte) : Bool :=
  (s.d.xpt.flows.find? fun f => f.st == .open_ && f.ip == arr0.ip && f.ipv6 == arr0.ipv6 && f.udp == arr0.udp && f.nonce == openNonce b).isNone
def openSearched (s : State) (b : List Byte) : Verdict × Drive := s.d.search 0 (searchKey (openTenant b) 0 0 0 (s.d.vidOf arr0) [])
def noRows : State := host_ fun d => { d with mch := { d.mch with segs := List.replicate 4 [] } }
theorem meets_FlowsOpen : hosted.d.unitOut 2 = false ∧ hosted.d.xptTakes arr0 = true ∧ arr0.group = false ∧ hosted.d.pwr.fawnStep = 0 ∧
    (host_ fun d => d.onPwr fun p => { p with fawnStep := 1 }).d.pwr.fawnStep ≠ 0 ∧ ([] : List Byte).length ≠ 20 ∧
    (∀ b ∈ [openBody 0x2A 9216 64], b.length = 20 ∧ openNew hosted b = true ∧ openTenant b < 4096 ∧ 0 < openCmds b ∧ openCmds b ≤ 4096 ∧ 4352 ≤ hosted.d.flowMtu arr0 b ∧
      hosted.d.tableHeld (hosted.d.classTable 0) = false ∧ (host_ fun d => { d with mch := { d.mch with rebuilding := [0] } }).d.tableHeld (hosted.d.classTable 0) = true ∧
      (openSearched hosted b).1.allow = true ∧ (openSearched noRows b).1.allow = false ∧ (openSearched hosted b).2.xpt.freeSlot 5 = some 5) ∧
    openTenant (openBody 4096 9216 64) = 4096 ∧ openTenant (openBody 4095 9216 64) < 4096 ∧ openCmds (openBody 1 9216 0) = 0 ∧ 4096 < openCmds (openBody 1 9216 4097) ∧
    openCmds (openBody 1 9216 4096) ≤ 4096 ∧ hosted.d.flowMtu arr0 (openBody 1 4351 1) < 4352 ∧ 4352 ≤ hosted.d.flowMtu arr0 (openBody 1 4352 1) ∧
    (∀ b ∈ [beBytes 8 9 ++ zeros 12], b.length = 20 ∧
      (hosted.d.xpt.flows.find? fun f => f.st == .open_ && f.ip == arr0.ip && f.ipv6 == arr0.ipv6 && f.udp == arr0.udp && f.nonce == openNonce b) = some flow0) ∧
    hosted.d.flow? 7 = none := by decide +kernel
theorem next_above (l : List Nat) : ∀ m x : Nat, x ∈ l ∨ x < m → x < l.foldl (fun m x => max m (x + 1)) m := by
  induction l with
  | nil => rintro m x (h | h); · cases h
           exact h
  | cons a l ih =>
    rintro m x (h | h)
    · rcases List.mem_cons.mp h with rfl | h
      · exact ih _ _ (.inr (by show x < max m (x + 1); omega))
      · exact ih _ _ (.inl h)
    · exact ih _ _ (.inr (by show x < max m (a + 1); omega))
/-- A drive whose 65,536 flow slots are all taken: an OPEN that the policy allows finds none. -/
theorem meets_FlowsOpen_full : ∀ x : Xpt, x.flows.map (·.slot) = List.range 65536 → ∀ slot, x.freeSlot slot = none := by
  intro x h slot
  have hn : 65535 < (x.flows.map (·.slot)).foldl (fun m x => max m (x + 1)) 0 := next_above _ _ _ (.inl (by rw [h]; exact List.mem_range.mpr (by omega)))
  have hf : freeNums (x.flows.map (·.slot)) 65536 1 = [] := by
    unfold freeNums
    rw [if_neg (by omega), h]
    simp only [List.take_eq_nil_iff, List.filter_eq_nil_iff]
    exact .inr fun a ha => by simpa using List.mem_range.mp ha
  unfold Xpt.freeSlot
  rw [hf, if_neg, List.head?_nil]
  rintro ⟨h1, h2⟩
  have : slot ∈ x.flows.map (·.slot) := by rw [h]; exact List.mem_range.mpr h1
  obtain ⟨f, hf, hs⟩ := List.mem_map.mp this
  simp at h2
  exact h2 f hf hs
theorem meets_FlowsOpen_all : ∃ x : Xpt, x.flows.map (·.slot) = List.range 65536 :=
  ⟨{ Xpt.reset with flows := (List.range 65536).map fun k => { flow0 with slot := k } }, by rw [List.map_map]; exact List.map_id _⟩

theorem meets_FlowsEnd_close : comesTo hosted arr0 hdr0 flow0 ∧
    (hosted.d.xpt.flows.find? fun f => f.id == 0x00010000 && f.st == .tomb && f.closed && f.closeSeq == some 1) = none ∧
    ((heard hosted arr0 hdr0 flow0).flow? 0).any (fun g => g.st == .open_ && g.slot == 0 && g.rxNext == 1 && (g.gap == []) && !(seqLt g.limit 1)) = true :=
  ⟨hosted_comesTo _ rfl, by decide +kernel, by decide +kernel⟩
def withFlow (g : Flow → Flow) : State := host_ fun d => { d with xpt := { d.xpt with flows := [g flow0] } }
theorem meets_FlowsEnd :
    (hosted.d.unitOut 2 = false ∧ hosted.d.isOn 14 = true ∧ (withFlow fun f => { f with st := .closing }).d.flow? 0 = some { flow0 with st := .closing }) ∧
    ((withFlow fun f => { f with st := .tomb, closed := true, closeSeq := some 1 }).d.xpt.flows.find? fun f => f.id == 0x00010000 && f.st == .tomb && f.closed && f.closeSeq == some 1).isSome = true ∧
    (hosted.d.xpt.flows.find? fun f => f.id == 0x00010000 && f.live) = some flow0 ∧ hosted.d.fld Reg.XPT_FLOW_CTL 31 16 ≠ 0 ∧
    (withFlow fun f => { f with st := .tomb }).d.flow? 0 = some { flow0 with st := .tomb } ∧
    (took hosted .chain free_ Reg.XPT_FLOW_KILL 0xA5000000 = true ∧ bits (0xA5000000 : Word) 31 24 = 0xA5 ∧ took hosted .chain free_ Reg.XPT_FLOW_KILL 0 = true) ∧
    hosted.d.flag Reg.XPT_CTL 0 = true := by decide +kernel
theorem meets_FlowsEnd_disable : took hosted .chain free_ Reg.XPT_CTL 0 = true ∧ (stored hosted .chain Reg.XPT_CTL 0).flag Reg.XPT_CTL 0 = false ∧
    took hosted .chain free_ Reg.XPT_CTL 16 = true ∧ (stored hosted .chain Reg.XPT_CTL 16).flag Reg.XPT_CTL 0 = false := by decide +kernel

def fcmd0 : FlowCmd := { listedCmd put0 .put with passed := true, rsn := some 1, blocks := 2, grantEnd := 2 }
def flow1 : Flow := { flow0 with cmds := [fcmd0], rxNext := 2 }
def receiving : State := withFlow fun _ => flow1
def zeroBlock : List Byte := zeros 4096
theorem triple {α β γ : Type} (x : α × β × γ) : ∃ a b c, x = (a, b, c) := ⟨x.1, x.2.1, x.2.2, rfl⟩
theorem meets_Datagrams_data : comesTo receiving arr0 hdr0 flow1 ∧ zeroBlock.length = 4096 ∧ (∃ bad dead d, (heard receiving arr0 hdr0 flow1).dataBlock 0 1 1 0 ⟨zeroBlock, 0⟩ = (bad, dead, d)) ∧
    (∃ b : Block, b.bytes = zeroBlock ∧ crc32c b.bytes = b.crc) ∧ (∃ b : Block, b.bytes = zeroBlock ∧ crc32c b.bytes ≠ b.crc) ∧ (7 : BitVec 3).toNat = 7 := by
  refine ⟨?_, by unfold zeroBlock zeros; exact List.length_replicate .., triple _, ⟨⟨zeroBlock, crc32c zeroBlock⟩, rfl, rfl⟩,
    ⟨⟨zeroBlock, crc32c zeroBlock + 1⟩, rfl, fun h => ?_⟩, by decide⟩
  · unfold comesTo; decide +kernel
  · have h : crc32c zeroBlock = crc32c zeroBlock + 1 := h
    bv_omega
/-- The clauses on one block: no command; one that has ended, one whose grant ends below the block, and one that takes it, with and
without a record. -/
theorem meets_Datagrams_block : ∀ x ∈ [receiving.d.pay [12, 14] 3 1],
    ((receiving.d.flow? 0).map (·.arr.port.toNat)).getD 0 = 0 ∧ (x.flow? 0).bind (·.cmd? 2) = none ∧ (x.flow? 0).bind (·.cmd? 1) = some fcmd0 ∧ fcmd0.seq = 1 ∧ fcmd0.rsp = none ∧
    1 < fcmd0.grantEnd ∧ fcmd0.grantEnd ≤ 2 ∧ ({ fcmd0 with rsp := some 9 } : FlowCmd).rsp.isSome = true ∧ (fcmd0.units.any fun u => u.idx == 1 && u.good) = false ∧
    (({ fcmd0 with units := [⟨1, true, false, 0, false, 0, false⟩] } : FlowCmd).units.any fun u => u.idx == 1 && u.good) = true ∧ fcmd0.rsn = some 1 ∧
    ({ fcmd0 with rsn := none } : FlowCmd).rsn = none := by decide +kernel
theorem meets_Datagrams_gap : ∀ s ∈ [withFlow fun f => { f with gap := [⟨3, none, 0⟩] }],
    (((heard s arr0 hdr0 { flow0 with gap := [⟨3, none, 0⟩] }).flow? 0).bind fun f => f.gap.find? (·.seq == 3)) = some ⟨3, none, 0⟩ ∧
    (((heard s arr0 hdr0 { flow0 with gap := [⟨3, none, 0⟩] }).flow? 0).bind fun f => f.gap.find? (·.seq == 4)) = none := by decide +kernel

def txu : TxUnit := ⟨0, [], 0, false, 1, false, false⟩
def msg0 : DMsg := ⟨100, 0x11, [], 1, 1, [txu], true, 0⟩
def answering : State := withFlow fun f => { f with msgs := [msg0], txNext := 101, txAcked := 100 }
def hdr1 : Hdr := { hdr0 with seq := 100, ack := 100 }
/-- A bitmap of one unit, good or reported bad. -/
def bitmap0 (no : Nat) (good : Bool) : List Byte := beBytes 2 no ++ beBytes 2 1 ++ zeros 4 ++ [if good then 0x80 else 0]
theorem meets_Datagrams_bitmap : comesTo answering arr0 hdr1 { flow0 with msgs := [msg0], txNext := 101, txAcked := 100 } ∧
    (∀ x ∈ [(bitmap0 1 true, true, false), (bitmap0 0 true, false, false)], 8 ≤ x.1.length ∧ beAt x.1 2 2 ≤ 4096 ∧ x.1.length = 8 + ceilDiv (beAt x.1 2 2) 8 ∧
      (((heard answering arr0 hdr1 { flow0 with msgs := [msg0], txNext := 101, txAcked := 100 }).flow? 0).bind fun f => f.msgs.find? (·.seq == 100)).any
        (fun m => serialAfter (beAt x.1 0 2) m.bmapNo == x.2.1 && ((m.units.map fun u => u.reported 0 1 (x.1.drop 8)).any fun u => u.nacked && u.att == 7) == x.2.2) = true) ∧
    (({ txu with att := 7 } : TxUnit).reported 0 1 ((bitmap0 1 false).drop 8)).nacked = true := by
  refine ⟨?_, by decide +kernel⟩
  unfold comesTo; decide +kernel
theorem meets_Datagrams_probe : hosted.d.unitOut 2 = false ∧ hosted.d.xptTakes arr0 = true ∧ (host_ fun d => d.poke Reg.XPT_CTL 3 3 1).d.flag Reg.XPT_CTL 3 = true ∧
    (host_ fun d => d.poke Reg.XPT_CTL 3 3 0).d.flag Reg.XPT_CTL 3 = false ∧ (zeros 8).length = 8 ∧ ([] : List Byte).length ≠ 8 ∧
    ((Option.getD (hosted.d.xpt.probes[0]?) (⟨0, 0⟩ : Rate)).take (hosted.env.clk.optime / 1000) 100).isSome = true ∧
    ((⟨hosted.env.clk.optime / 1000, 100⟩ : Rate).take (hosted.env.clk.optime / 1000) 100) = none := by decide +kernel
/-- A PROBE of 8 bytes as a datagram. -/
def dgramOf (ty len : Nat) (body : List Byte) : List Byte :=
  let h := beBytes 2 0x4957 ++ beBytes 1 1 ++ beBytes 1 ty ++ zeros 22 ++ beBytes 2 len
  h ++ beBytes 4 (crc32c (h ++ body)).toNat ++ body
theorem meets_Datagrams_bad : dgramBad (dgramOf 8 8 (zeros 8)) = false ∧ dgramBad (dgramOf 8 7 (zeros 8)) = true ∧ ([] : List Byte).length < 32 ∧ beAt (zeros 40) 0 2 ≠ 0x4957 ∧
    beAt (dgramOf 8 7 (zeros 8)) 26 2 ≠ (dgramOf 8 7 (zeros 8)).length - 32 ∧ beAt (dgramOf 8 8 (zeros 8)) 3 1 ≠ 0x20 := by decide +kernel

theorem meets_FlowTimersAndRegisters :
    ((withFlow fun f => { f with ackDue := true }).d.flow? 0 = some { flow0 with ackDue := true } ∧ flow0.live = true ∧ hosted.d.isOn 14 = true) ∧
    (answering.d.flow? 0 = some { flow0 with msgs := [msg0], txNext := 101, txAcked := 100 } ∧ [msg0].find? (·.seq == msg0.seq) = some msg0 ∧ seqLt msg0.seq 100 = false ∧ msg0.att < 7 ∧
      (msg0.units.find? fun u => u.idx == 0 && decide (0 < u.att) && !u.acked && !u.nacked) = some txu ∧ txu.att < 7 ∧ flow0.credit ≠ 0 ∧
      7 ≤ ({ msg0 with att := 7 } : DMsg).att ∧ 7 ≤ ({ txu with att := 7 } : TxUnit).att) ∧
    ((withFlow fun f => { f with msgs := [{ msg0 with att := 7 }], txAcked := 100 }).d.flow? 0).isSome = true ∧
    (hosted.d.isOn 10 = true ∧ (({ fcmd0 with units := [⟨1, true, false, 0, false, 0, false⟩] } : FlowCmd).units.any fun u => u.idx == 1 && u.good && !u.conf) = true ∧
      2 < hosted.d.fld Reg.FAB_GUARD_CTL 2 0 ∧ hosted.d.fld Reg.FAB_GUARD_CTL 2 0 ≤ 7) ∧
    (took hosted .chain free_ Reg.XPT_CTL (hosted.d.reg Reg.XPT_CTL ||| 16) = true ∧ bit (hosted.d.reg Reg.XPT_CTL ||| 16) 4 = true ∧
      hosted.d.xpt.saving = none ∧ (stored hosted .chain Reg.XPT_CTL (hosted.d.reg Reg.XPT_CTL ||| 16)).flag Reg.XPT_CTL 0 = true ∧ bit (hosted.d.reg Reg.XPT_CTL) 4 = false ∧
      took hosted .chain free_ Reg.XPT_CTL (hosted.d.reg Reg.XPT_CTL) = true) ∧
    (host_ fun d => { d with xpt := { d.xpt with saving := some [] } }).d.xpt.saving = some [] ∧
    (took hosted .chain free_ Reg.XPT_FLOW_SEL 0 = true ∧
      (stored hosted .chain Reg.XPT_FLOW_SEL 0).flow? ((stored hosted .chain Reg.XPT_FLOW_SEL 0).fld Reg.XPT_FLOW_SEL 15 0) = some flow0 ∧
      (stored hosted .chain Reg.XPT_FLOW_SEL 1).flow? ((stored hosted .chain Reg.XPT_FLOW_SEL 1).fld Reg.XPT_FLOW_SEL 15 0) = none) := by decide +kernel
/-- What REORDER_TIMER_EXPIRY waits for: a unit below one that has come, or below the end asked for by REQ; nothing. -/
theorem meets_FlowTimersAndRegisters_reorder : ∀ x ∈ [({ fcmd0 with units := [⟨1, true, false, 0, false, 0, false⟩] }, [0]), ({ fcmd0 with reqTo := 1 }, [0]), (fcmd0, [])],
    ([0].filter fun i => decide (i < x.1.grantEnd) && (decide (i < x.1.reqTo) || x.1.units.any fun u => decide (i < u.idx) && (u.good || u.bad)) &&
      !(x.1.units.any fun u => u.idx == i && (u.good || u.bad))) = x.2 ∧ fcmd0.reqDue = false := by decide +kernel

/-! ### The journal -/

/-- An acknowledged PUT of `n` blocks, every block in its unit slot. -/
def recPut (st : RecState) (n : Nat) : JRec :=
  { rec0 1 st with
    payload := 4096 * n, tenant := 0x2A, keySlot := 5, body := keyed [9] 0 0, effect := true
    units := (List.range n).map fun i => ⟨i, i, some ([], 0)⟩ }
def jr (r : JRec) : State := host_ fun d => { d with jrn := { d.jrn with recs := [r] } }

theorem meets_RecordsCommitAndDrain_commit :
    (∀ r ∈ [recPut .accepted 0, { recPut .accepted 0 with ordered := true }], (jr r).d.rec? 1 = some r ∧ r.st = .accepted ∧ (jr r).d.complete r = true ∧ (jr r).d.jrn.flush = none ∧
      (jr r).d.pwr.readReady = true ∧ (jr r).d.earlierFull r = false ∧ (jr r).d.orderOk r.slot r.inc r.cmdSeq r.op (cmdNs r.op r.body) = true ∧
      ((jr r).d.reevaluate hosted.env ((jr r).d.projected 70000) r).status = 0) ∧
    (∀ s ∈ [host_ fun d => { d with nss := [], jrn := { d.jrn with recs := [recPut .accepted 0] } }],
      (s.d.reevaluate s.env (s.d.projected s.env.clk.optime) (recPut .accepted 0)).status ≠ 0) := by decide +kernel
/-- The reasons to wait: a payload that is not there, an earlier record that is complete, an earlier command under ORDERED. -/
theorem meets_RecordsCommitAndDrain_waits : (jr { recPut .accepted 1 with units := [] }).d.complete { recPut .accepted 1 with units := [] } = false ∧
    (host_ fun d => { d with jrn := { d.jrn with recs := [recPut .accepted 0, { recPut .accepted 0 with rsn := 2, full := 2 }] } }).d.earlierFull { recPut .accepted 0 with rsn := 2, full := 2 } = true ∧
    (host_ fun d => { d with jrn := { d.jrn with recs := [recPut .accepted 0] }, xpt := { d.xpt with flows := [{ flow0 with cmds := [fcmd0] }] } }).d.orderOk 0 1 2 .put (some 0x115) = false := by
  decide +kernel
theorem meets_RecordsCommitAndDrain_spill : ∀ r ∈ [{ recPut .accepted 17 with spill := true }],
    (jr r).d.rec? 1 = some r ∧ r.spill = true ∧ 16 * 1 < ceilDiv r.payload 4096 ∧ (r.spills.any fun x => x.1 == 1) = false ∧ r.erased = false ∧ r.drain = none ∧
      (r.st = .accepted ∨ r.st = .committed) ∧ (jr r).d.isOn 10 = true ∧
      (∀ i, i < min 16 (ceilDiv r.payload 4096 - 16 * 1) → ∃ u ∈ r.units, u.unit = 16 * 1 + i ∧ u.data.isSome) := by decide +kernel
theorem meets_RecordsCommitAndDrain_drain : ∀ r ∈ [recPut .committed 1],
    (jr r).d.rec? 1 = some r ∧ r.st = .committed ∧ r.effect = true ∧ (jr r).d.isOn 10 = true ∧ (jr r).d.mayDrain r = true ∧ (jr r).d.drainsOf r.qos < r.qos + 1 ∧
      (rich (jr r)).d.affords [15] (jr r).d.drainCost = true ∧
      (host_ fun d => { d with jrn := { d.jrn with recs := [r], served := [1, 0, 0, 0, 0, 0, 0, 0] } }).d.drainRound = true ∧
      (∀ x ∈ ({ r with drain := some [⟨0, [], [], true, some 0, true, false⟩] } : JRec).drain.getD [], x.done = true) ∧ r.op.cls ≠ 5 ∧
      ({ r with drain := some [⟨0, [], [], false, none, false, true⟩] } : JRec).givenUp 0 = false ∧
      (({ r with op := .keyLoad, keyDone := true } : JRec).op.cls = 5) := by decide +kernel
def heldPut : HeldCmd := ⟨0, 1, .put, put0, free_, some ⟨true, false, 0, 5, 0, true, [], 0, 0⟩, (0, 0)⟩
theorem meets_RecordsCommitAndDrain_held : ∀ s ∈ [host_ fun d => { d with jrn := { d.jrn with heldAccept := [heldPut] } }],
    s.d.jrn.heldAccept = [heldPut] ∧ s.d.jrn.recs.length < pairTotal ∧ s.d.jrn.flush = none ∧ (s.d.flowAt 0 1) = some flow0 ∧ heldPut.v.isSome = true := by decide +kernel
def fcmd1 : FlowCmd := { fcmd0 with blocks := 1, grantEnd := 0 }
def granting : State := host_ fun d => { d with
  xpt := { d.xpt with flows := [{ flow0 with cmds := [fcmd1] }] }, jrn := { d.jrn with recs := [{ recPut .accepted 1 with units := [] }] }, nrg := { d.nrg with credit := 10 ^ 12 } }
theorem meets_RecordsCommitAndDrain_grant : granting.d.isOn 10 = true ∧ (granting.d.flow? 0).any (fun f => (f.cmd? 1) == some fcmd1) = true ∧ fcmd1.rsn = some 1 ∧ fcmd1.rsp = none ∧
    (granting.d.rec? 1) = some { recPut .accepted 1 with units := [] } ∧ granting.d.grantsWait 0 = false ∧ granting.d.admits granting.env 0 1 = true ∧
    min (min 1 (0 + granting.d.fld Reg.XPT_WINDOW 31 16) - 0) (slotTotal - granting.d.jrn.unitsUsed) = 1 := by decide +kernel

/-- A checkpoint that waits for page 4, or for pages 4 and 5. -/
def ckptOpen_ (w : List Nat) : CkptOpen := ⟨⟨1, 1, [], []⟩, w⟩
theorem meets_CheckpointsAndWriteThrough :
    (ready.d.isOn 10 = true ∧ ready.d.pwr.readReady = true) ∧ ((with_ fun d => d.poke Reg.JRN_STAT 1 0 1).d.jrnMode = 1) ∧
    (∀ r ∈ (jr { recPut .committed 0 with wt := true }).d.jrn.recs, r.wt = true) ∧
    ((jr { recPut .committed 0 with wt := true, effect := false }).d.jrn.recs.filter (fun r => r.wt && r.st == .committed && !r.effect && !r.commitPage) ≠ [] ∧
      ∀ p ∈ hosted.d.med.pages, p.kind ≠ .commit 9) ∧
    ready.d.jrn.ckptOpen = none ∧ ((ready.d.med.trees (ready.d.nss.map (fun n => n.settle 70000))).1.any fun p => decide (ready.d.med.nextIdx ≤ p.num)) = false ∧
    ((hosted.d.med.trees (hosted.d.nss.map (fun n => n.settle 70000))).1.any fun p => decide (hosted.d.med.nextIdx ≤ p.num)) = true ∧
    ((ckptOpen_ [4]).wait = [4] ∧ (∃ k ∈ (ckptOpen_ [4, 5]).wait, k ≠ 4) ∧
      (host_ fun d => d.onMed fun m => { m with pages := [⟨4, 0, .index 9, 0, 0, [], none⟩] }).d.med.page 4 = some ⟨4, 0, .index 9, 0, 0, [], none⟩) ∧
    took ready .chain free_ Reg.JRN_REC_SEL 0x3FFFF = true := by decide +kernel
theorem meets_CheckpointsAndWriteThrough_write :
    (took ready .chain free_ Reg.JRN_CTL 2 = true ∧ bit (2 : Word) 1 = true) ∧
    (took ready .chain free_ Reg.JRN_CTL 1 = true ∧ ready.d.flag Reg.JRN_CTL 0 = false ∧ (stored ready .chain Reg.JRN_CTL 1).flag Reg.JRN_CTL 0 = true ∧
      (stored ready .chain Reg.JRN_CTL 1).jrnMode = 0) ∧
    (∀ s ∈ [host_ fun d => (d.poke Reg.JRN_CTL 0 0 1).poke Reg.JRN_STAT 1 0 2], took s .chain free_ Reg.JRN_CTL 0 = true ∧ s.d.flag Reg.JRN_CTL 0 = true ∧
      (stored s .chain Reg.JRN_CTL 0).flag Reg.JRN_CTL 0 = false ∧ (stored s .chain Reg.JRN_CTL 0).jrnMode ≠ 0 ∧ (stored s .chain Reg.JRN_CTL 0).nrg.demand = false ∧
      nrgLevel ≤ (stored s .chain Reg.JRN_CTL 0).reserve s.env) := by decide +kernel

/-- An error's own effect, as DramErrors writes it. -/
def ueAt (s : State) (a : Nat) : Drive :=
  (((s.d.bumpOpen Reg.JRN_DRAM_UE 1).errCnt pgJrn).setInt pgJrn 4).event s.env 0x800 (a / 2 ^ 32) (a % 2 ^ 32) (areaOf a).code 0
theorem meets_DramErrors : ready.d.isOn 10 = true ∧ ready.d.isOn 28 = true ∧ (2 ^ 33 - 1 : BitVec 36).toNat < 2 ^ 33 ∧ 2 ^ 33 ≤ (2 ^ 33 : BitVec 36).toNat ∧
    areaOf 65535 = .control ∧ areaOf 65536 = .report 0 ∧ areaOf 6356991 = .report 131071 ∧ areaOf 67108864 = .record 0 ∧ areaOf 603979775 = .record 262143 ∧
    areaOf 603979776 = .record 0 ∧ areaOf 1140850688 = .unit 0 := by decide +kernel
theorem meets_DramErrors_area :
    (∀ st ∈ [RecState.accepted, .committed, .drained], ((ueAt (jr (recPut st 1)) 67108864).jrn.recs.find? fun r => r.pair == 0) = some (recPut st 1) ∧
      ((jr (recPut st 1)).d.jrn.recs.find? fun r => r.units.any fun u => u.num == 0) = some (recPut st 1) ∧
      ((recPut st 1).units.find? fun u => u.num == 0) = some ⟨0, 0, some ([], 0)⟩ ∧ ((recPut st 1).pending = true ↔ st = .accepted)) ∧
    0 < (ueAt reported 65536).jrn.report.length := by decide +kernel

/-! ### Policy match -/

theorem meets_SearchesAndEntrySteps_command : took ready .chain free_ (Reg.MCH_ENT_CMD 3) 0 = true ∧ bits (0 : Word) 1 0 = 0 ∧ took ready .chain free_ (Reg.MCH_ENT_CMD 3) 1 = true ∧
    took ready .chain free_ (Reg.MCH_ENT_CMD 3) 2 = true ∧ took ready .chain free_ (Reg.MCH_ENT_CMD 3) 3 = true ∧ (stored ready .chain (Reg.MCH_ENT_CMD 3) 2).mch.saving = none ∧
    (entryOf ((stored ready .chain (Reg.MCH_ENT_CMD 3) 2).mch.seg 3) 0).valid = false ∧ (entryOf ((stored hosted .chain (Reg.MCH_ENT_CMD 0) 2).mch.seg 0) 0).valid = true ∧
    (stored (with_ fun d => { d with mch := { d.mch with saving := some ([], 0, 0) } }) .chain (Reg.MCH_ENT_CMD 0) 2).mch.saving.isSome = true ∧
    (0 : Nat) < hosted.d.mch.segs.length ∧ 0 < hosted.d.mch.shadows.length := by decide +kernel
def twoRows : State := host_ fun d => { d with mch := { d.mch with segs := [⟨0, 0, 0, 1, true, row0⟩, ⟨1, 0, 0, 2, true, row0⟩] :: List.replicate 3 [] } }
theorem meets_SearchesAndEntrySteps_search : took hosted .chain free_ Reg.MCH_SRCH_CTL 0 = true ∧ took hosted .chain free_ Reg.MCH_SRCH_CTL 0x100 = true ∧
    took hosted .chain free_ Reg.MCH_SRCH_CTL 0x200 = true ∧ bit (0x100 : Word) 8 = true ∧ bit (0x200 : Word) 9 = true ∧
    (stored hosted .chain Reg.MCH_SRCH_CTL 0x100).tableHeld 0 = false ∧ (host_ fun d => { d with mch := { d.mch with rebuilding := [0] } }).d.tableHeld 0 = true ∧
    (hosted.d.diagMatches .chain).length < 2 ∧ (twoRows.d.diagMatches .chain).map (·.prio) = [2, 1] ∧
    ((host_ fun d => { d with mch := { d.mch with segs := [⟨0, 0, 0, 1, true, row0⟩, ⟨1, 0, 0, 1, true, row0⟩] :: List.replicate 3 [] } }).d.diagMatches .chain).map (·.prio) = [1, 1] ∧
    (host_ fun d => d.poke (pk .chain Reg.MCH_SRCH_RES) 31 31 1).d.flag (pk .chain Reg.MCH_SRCH_RES) 31 = true ∧ hosted.d.flag (pk .chain Reg.MCH_SRCH_RES) 31 = false ∧
    took ready .i3c free_ Reg.MCH_ACCT_SEL 0xFFF = true := by decide +kernel

theorem meets_MatchTablesAndSensors_save : took ready .chain free_ Reg.MCH_ENG_CTL 0x40003 = true ∧ ready.d.geom = 0 ∧ (stored ready .chain Reg.MCH_ENG_CTL 0x40003).geom = 0 ∧
    bit (0x40003 : Word) 1 = true ∧ (stored ready .chain Reg.MCH_ENG_CTL 0x40003).mch.saving = none ∧
    (with_ fun d => { d with mch := { d.mch with saving := some ([], 0, 0) } }).d.mch.saving = some ([], 0, 0) := by decide +kernel
def notRunning : State := with_ fun d => d.poke Reg.MCH_ENG_CTL 0 0 0
theorem meets_MatchTablesAndSensors_geom : took notRunning .chain free_ Reg.MCH_ENG_CTL 0x100 = true ∧
    notRunning.d.geom ≠ (stored notRunning .chain Reg.MCH_ENG_CTL 0x100).geom ∧ bit (0x100 : Word) 1 = false := by decide +kernel
theorem meets_MatchTablesAndSensors_rebuild : took ready .chain free_ (0x60010 + (3 : BitVec 2).toNat * 0x1000) 1 = true ∧ (stored ready .chain 0x63010 1).mch.rebuilding.contains 3 = false ∧
    (with_ fun d => { d with mch := { d.mch with rebuilding := [3] } }).d.mch.rebuilding.contains 3 = true := by decide +kernel
theorem meets_MatchTablesAndSensors_scrub : ready.d.isOn 28 = true ∧ ready.d.isOn 19 = true ∧ (16383 : Nat) < 16384 ∧ ready.d.mch.badShadow.contains (3, 16383) = false ∧
    ready.d.mch.shadowUe.contains (3, 16383) = false ∧ (with_ fun d => { d with mch := { d.mch with shadowUe := [(3, 16383)] } }).d.mch.shadowUe.contains (3, 16383) = true ∧
    (with_ fun d => { d with mch := { d.mch with badShadow := [(3, 16383)] } }).d.mch.badShadow.contains (3, 16383) = true ∧
    entryOf (ready.d.mch.seg 3) 16383 = entryOf ((ready.d.mch.shadows[3]?).getD []) 16383 ∧ (entryOf (hosted.d.mch.seg 0) 0).valid ≠ (entryOf ((hosted.d.mch.shadows[0]?).getD []) 0).valid := by
  decide +kernel
theorem meets_MatchTablesAndSensors_sample : (List.range 4).filter (fun n => aonOnly.d.isUp (16 + n)) = [] ∧ (List.range 4).filter (fun n => ready.d.isUp (16 + n)) ≠ [] := by decide +kernel

/-! ### Cipher -/

/-- An encryption request for slot 5 in queue 0. -/
def enc0 : CphReq := { CphReq.blank .gcmEnc 5 4160 (.drain 1 0) with id := 3, queue := 0, src := zeros 16 }
def queued (r : CphReq) (g : Drive → Drive) : State := host_ fun d => g { d with
  cph := { d.cph with queues := d.cph.queues.set 0 [r] }, nrg := { d.nrg with credit := 10 ^ 12 } }
theorem meets_CipherRequests_dequeue : ∀ s ∈ [queued enc0 id],
    s.d.unitOut 3 = false ∧ s.d.isOn 15 = true ∧ s.d.mayStart 0 = true ∧ s.d.affords [15] (cost 5) = true ∧ s.d.cph.queue 0 = enc0 :: [] ∧
    (queued enc0 fun d => { d with nrg := { d.nrg with credit := 0 } }).d.affords [15] (cost 5) = false ∧ enc0.release = false := by decide +kernel
theorem meets_CipherRequests_check : (queued enc0 id).d.dequeueCheck 0 { enc0 with slot := 7 } = some 0x30 ∧ (queued enc0 id).d.dequeueCheck 0 enc0 = none ∧
    (enc0.op.encrypts = true ∧ slotClass 5 ≠ 2 ∧ slotClass 4112 = 2) ∧ ((queued enc0 id).d.kslot 5).ctr < ((queued enc0 id).d.kslot 5).ceil ∧
    ((queued enc0 fun d => d.setSlot { d.kslot 5 with ceil := 0 }).d.kslot 5).ceil ≤ 0 ∧ ({ enc0 with op := .gcmDec } : CphReq).op.encrypts = false := by decide +kernel
/-- A read's request: a release slot is free, or all are taken by other segments. -/
def dec0 : CphReq := { enc0 with op := .gcmDec, gen := 1, release := true, use := .read 0 0 }
theorem meets_CipherRequests_relslot : (queued dec0 id).d.dequeueCheck 8 dec0 = none ∧ hosted.d.cph.relFree ≠ 0 ∧
    ({ hosted.d.cph with release := List.replicate 384 ⟨9, 9, [], false, false, false⟩ } : Cph).relFree = 0 ∧
    ({ hosted.d.cph with release := List.replicate 384 ⟨9, 9, [], false, false, false⟩ } : Cph).relHeld dec0 = false := by decide +kernel
def wait5 : KeyWait := ⟨zeros 32, 0x2A, 0, some 9, 0⟩
def waiting5 (d : Drive) : Drive := d.setSlot { d.kslot 5 with st := .rekeyWait, waits := [wait5] }
theorem meets_CipherRequests_wait : ((queued enc0 waiting5).d.kslot 5).st = .rekeyWait ∧ ((queued enc0 waiting5).d.kslot 5).waits = [wait5] ∧
    (queued enc0 waiting5).d.boundTo 5 = 0 ∧ (∀ r ∈ (queued enc0 waiting5).d.cph.aside, r.slot ≠ 5) ∧ ((queued enc0 waiting5).d.rekeyed ready.env 5).1.isSome = true ∧
    (hosted.d.kslot 5).st ≠ .rekeyWait ∧ (hosted.d.rekeyed ready.env 5).1 = none := by decide +kernel
def running (r : CphReq) : State := host_ fun d => { d with cph := { d.cph with running := [r] } }
theorem meets_CipherRequests_running : (∀ r ∈ [enc0, dec0], (running r).d.isOn 15 = true ∧ ((running r).d.cph.running.find? fun r => r.id == 3) = some r) ∧
    dec0.op = .gcmDec ∧ enc0.op ≠ .gcmDec := by decide +kernel
theorem meets_CipherRequests_leg : ∀ s ∈ [host_ fun d => { d with cph := { d.cph with running := [enc0] }, jrn := { d.jrn with recs := [{ draining .committed 0 with rsn := 1 }] } }],
    s.d.rec? 1 = some { draining .committed 0 with rsn := 1 } ∧ enc0.use = .drain 1 0 ∧ (s.d.mediaLeg ready.env enc0 0 s.d.resendMax).1 = true ∧
    (s.d.mediaLeg ready.env enc0 0 (s.d.resendMax - 1)).1 = false := by decide +kernel
def job0 : Job := ⟨0, 0, 1, 1, .get, 0x115, 4, 5, 0, 5000, 5000, 0, false, [⟨0, [⟨5000, .hole⟩], [], [], 0⟩], [], 0, false, 0, []⟩
/-- A segment of zeros is whole; one that still needs a flash segment, and one that cannot be read, wait. -/
theorem meets_CipherRequests_release : (host_ fun d => { d with jobs := [job0] }).d.job? 0 = some job0 ∧
    fragsOk (job0.tail ++ ((⟨5000, .hole⟩ : Piece).frags [])) = true ∧ 0 < hosted.d.resendMax ∧
    fragsOk [⟨4096, some ([], 1), 0⟩] = false ∧ (∃ x ∈ [(⟨0, [], [7], [], 0⟩ : JobSeg), ⟨0, [], [], [], 0xF⟩], x.need ≠ [] ∨ x.fault ≠ 0) := by decide +kernel

theorem meets_KeySlots_ceiling :
    (∀ s ∈ [host_ fun d => (d.setReg Reg.CPH_SLOT_SEL 5).setWide Reg.CPH_CEIL_NEW (2 ^ 64 - 2 ^ 21)], took s .chain free_ Reg.CPH_CEIL_SET 0xA5000001 = true ∧ s.d.fld Reg.CPH_SLOT_SEL 12 0 = 5 ∧
      s.d.wide Reg.CPH_CEIL_NEW = 2 ^ 64 - 2 ^ 21 ∧ (s.d.kslot 5).st ≠ .empty ∧ slotClass 5 ≠ 2) ∧
    bits (0xA5000001 : Word) 31 24 = 0xA5 ∧ bit (0xA5000001 : Word) 0 = true ∧ took hosted .chain free_ Reg.CPH_CEIL_SET 1 = true ∧ bits (1 : Word) 31 24 ≠ 0xA5 := by decide +kernel
theorem meets_KeySlots_direct : took hosted .i3c free_ Reg.CPH_DSLOT_CMD 0xA500010F = true ∧ bits (0xA500010F : Word) 31 24 = 0xA5 ∧ bits (0xA500010F : Word) 9 8 = 1 ∧
    (hosted.d.kslot (4096 + 15)).st = .empty ∧ (hosted.d.kslot (4096 + 15)).held < 65536 ∧ took hosted .i3c free_ Reg.CPH_DSLOT_CMD 0xA500020F = true ∧ bits (0xA500020F : Word) 9 8 = 2 ∧
    ((host_ fun d => d.install 4111 ⟨zeros 32, 0, 0, none, 0⟩).d.kslot 4111).st ≠ .empty ∧ took hosted .i3c free_ Reg.CPH_DSLOT_CMD 0xA500000F = true ∧ bits (0xA500000F : Word) 9 8 = 0 := by decide +kernel
/-- 65,536 generations held. -/
theorem meets_KeySlots_held (g : List (Nat × List Byte)) (h : g.length = 65536) : 65536 ≤ ({ hosted.d.kslot 4111 with gens := g } : KeySlot).held := by
  rw [KeySlot.held, h]
  exact Nat.le_add_right _ _
theorem meets_KeySlots_window : took hosted .chain free_ Reg.CPH_MQ_GO 1 = true ∧ (stored hosted .chain Reg.CPH_MQ_GO 1).flag (pk .chain Reg.CPH_MQ_STAT) 31 = false ∧ bit (1 : Word) 0 = true ∧
    (host_ fun d => d.poke (pk .chain Reg.CPH_MQ_STAT) 31 31 1).d.flag (pk .chain Reg.CPH_MQ_STAT) 31 = true ∧
    took hosted .chain free_ Reg.CPH_SLOT_SEL 4119 = true ∧ bits (4119 : Word) 12 0 ≤ 4119 ∧ took hosted .chain free_ Reg.CPH_SLOT_SEL 4120 = true ∧ 4119 < bits (4120 : Word) 12 0 := by decide +kernel

/-! ### Media -/

def seg0 : Seg where
  id := 1
  ns := 0x115
  slot := 5
  gen := 0
  ctr := 0
  ver := 4
  index := 0
  units := 2
  ct := []
  tag := []
  mcrc := []
  loc := some (0, 0, 0)
def band0 : Band := ⟨0, 0, .host, .closed, (List.range 16).map fun c => (c, 0, 7), [3], 1, 0, 0, [], false⟩
def rd0 : Rd := ⟨4, .job 0 0, .seg 1, (0, 0, 0), [.rung 0, .rung 2], false⟩
/-- A drive with one band of group 0, one segment on it, and a read of it. -/
def stored1 (g : Band → Band) (rd : Rd) : State := host_ fun d => { d with
  nrg := { d.nrg with credit := 10 ^ 12 }, med := { d.med with bands := [g band0], segs := [seg0], nextBand := 1, nextSeg := 2, reads := [rd] } }
theorem meets_MediaReadsAndPrograms_read : ∀ s ∈ [stored1 id rd0], (s.d.med.reads.find? fun y => y.id == 4) = some rd0 ∧ rd0.units[0]? = some (.rung 0) ∧ rd0.units[1]? = some (.rung 2) ∧
    (s.d.med.unitDie rd0.loc 0).any (fun x => s.d.medOn (engineOf x.1)) = true ∧ (s.d.med.unitDie rd0.loc 1).any (fun x => s.d.medOn (engineOf x.1)) = true ∧
    s.d.affords [20] (cost 8) = true ∧ s.d.affords [20] (cost 10) = true ∧ s.d.nextRung 0 0 ≠ .bad ∧ s.d.nextRung 0 8 = .bad ∧ (s.d.med.reads.any fun y => y.id == 5) = false := by decide +kernel
/-- Index page 9 and a copy of it on flash, or no copy. -/
def indexed (ps : List Page) : State := host_ fun d => d.onMed fun m => { m with idx := [leaf0], pages := ps }
theorem meets_MediaReadsAndPrograms_load : ∀ ps ∈ [[], [(⟨4, 0, .index 9, 0, 0, [], some (0, 0, 0)⟩ : Page)]], ((indexed ps).d.med.idx.find? fun y => y.num == 9) = some leaf0 ∧ leaf0.here = false ∧
    ((indexed ps).d.med.reads.any fun r => r.use == .load 9) = false ∧
    (((indexed ps).d.cph.queues.flatten ++ (indexed ps).d.cph.running).any fun r => match r.use with | .load n _ => n == 9 | _ => false) = false ∧
    (((indexed ps).d.med.pages.find? fun p => p.kind == .index 9 && p.loc.isSome).isSome = !ps.isEmpty) := by decide +kernel
theorem meets_MediaReadsAndPrograms_lost : (indexed []).d.med.heldLeaf = [] ∧ nsOf (indexed []).d.nss 0x115 = some ns0 ∧ (nsOf ((indexed []).d.projected 70000) 0x115).isSome = true ∧
    (ns0.keys.filter fun k => leaf0.keys.any fun x => x.key == k.key && x.version == k.version) ≠ [] := by decide +kernel
def programming (g : Band → Band) : State := let s := stored1 (fun b => g { b with st := .open_, left := [] }) rd0
  { s with d := s.d.onMed fun m => { m with wait := [(.host, [.new (.seg 1)])] } }
theorem meets_MediaReadsAndPrograms_program : ∀ s ∈ [programming id], (s.d.med.band 0).any (fun b => b.st == .open_ && b.group == 0 && b.stream == .host) = true ∧ s.d.halfOn 0 = true ∧
    s.d.mayProgram s.env .host = true ∧ s.d.turn s.env .host = some 0 ∧ s.d.stripeAfforded { band0 with st := .open_, left := [] } = true ∧ (band0.blocks.any fun x => x.1 == 15) = true ∧
    (band0.blocks.any fun x => x.1 == 16) = false ∧ (s.d.med.nextStripe { band0 with st := .open_, left := [] }).1 ≠ [] ∧ s.d.turn s.env .gc = none := by decide +kernel
theorem meets_MediaReadsAndPrograms_idle : (stored1 (fun b => { b with st := .open_, left := [] }) rd0).d.turn ready.env .gc ≠ some 0 ∧
    ((stored1 (fun b => { b with st := .open_, left := [] }) rd0).d.med.nextStripe { band0 with st := .open_, left := [] }).1 = [] := by decide +kernel

theorem meets_FlashUpkeep_erase : ∀ s ∈ [stored1 id rd0], (s.d.med.band 0).any (fun x => x.left.contains 3) = true ∧ (band0.blocks.find? fun y => y.1 == 3) = some (3, 0, 7) ∧
    s.d.medOn (engineOf 3) = true ∧ s.d.mayProgram s.env .host = true ∧ s.d.affords [20] (cost 9) = true ∧ band0.st ≠ .opening ∧ ({ band0 with st := .opening } : Band).st = .opening ∧
    (s.d.med.pickBlock s.env.fac .host (s.d.med.die 3 0)).isSome = true ∧ hosted.d.affords [20] (cost 9) = false := by decide +kernel
theorem meets_FlashUpkeep_move : ∀ s ∈ [stored1 (fun b => { b with queued := 1 }) rd0], ((s.d.finishMoves s.env).halfOn 0 = true ∧ (s.d.finishMoves s.env).pwr.fawnStep ≠ 3 ∧
    (s.d.finishMoves s.env).affords (halfDoms 0) (cost 8 + cost 5) = true ∧ (s.d.finishMoves s.env).sealedOff s.env = false ∧ (s.d.finishMoves s.env).victim 0 = some 0 ∧
    ((s.d.finishMoves s.env).med.band 0).any (fun b => b.queued != 0) = true) := by decide +kernel
theorem meets_FlashUpkeep_novictim : (hosted.d.finishMoves hosted.env).victim 0 = none ∧ ((stored1 id rd0).d.finishMoves hosted.env).victim 0 = some 0 ∧
    (hosted.d.gcLevel hosted.env 0 = 0 ∨ hosted.d.gcLevel hosted.env 0 ≠ 0) := by
  refine ⟨by decide +kernel, by decide +kernel, Nat.eq_zero_or_pos _ |>.imp id Nat.pos_iff_ne_zero.mp⟩
def worn : State := host_ fun d => { d with
  nrg := { d.nrg with credit := 10 ^ 12 }
  med := { d.med with bands := [band0], dies := [⟨0, 0, .active, 0, [(7, 0)], [], [], 0, 0, [], [], true⟩] } }
theorem meets_FlashUpkeep_level : (worn.d.med.die 0 0).levelling = true ∧ worn.d.med.rebuilding (groupOf 0 (worn.d.med.die 0 0).pos) = false ∧
    worn.d.affords (halfDoms (groupOf 0 0)) (cost 8) = true ∧ worn.d.sealedOff worn.env = false ∧ worn.d.pwr.fawnStep ≠ 3 ∧
    (worn.d.med.bands.find? fun b => b.st == .closed && b.blocks.any fun y => y.1 == 0 && y.2.1 == 0 &&
      (worn.d.med.die 0 0).peOf y.2.2 == ((worn.d.med.die 0 0).peStats worn.env.fac).2.1) = some band0 := by decide +kernel
theorem meets_FlashUpkeep_commands : ready.d.medOn (engineOf 31) = true ∧
    (took ready .chain free_ (Reg.MED_SPARE_CMD (7 : BitVec 3).toNat) 0xA500030F = true ∧ bits (0xA500030F : Word) 31 24 = 0xA5 ∧ bits (0xA500030F : Word) 4 0 ≤ 15 ∧
      bits (0xA500030F : Word) 9 8 = 3 ∧ (ready.d.med.serving 31 15).isSome = true) ∧ 15 < bits (0xA5000310 : Word) 4 0 ∧
    (ready.d.med.die 0 16).st = .spare ∧ (ready.d.med.die 0 15).st = .active ∧ took ready .chain free_ Reg.MED_HLOG_SNAP 1 = true ∧
    took ready .chain free_ (Reg.MED_DIE_SEL (7 : BitVec 3).toNat) 0x310 = true ∧ took ready .chain free_ Reg.MED_USER_BANDS 0 = true := by decide +kernel
theorem meets_FlashUpkeep_dies : ∀ m ∈ [({ ready.d.med with dies := [⟨0, 16, .rebuild, 3, [], [], [], 0, 0, [], [], false⟩, ⟨0, 3, .failing, 31, [], [], [], 0, 0, [], [], false⟩] } : Med)],
    (m.die 0 3).st = .failing ∧ (m.die 0 16).st = .rebuild ∧ (m.die 0 16).pos = 3 ∧ (∀ q < 17, (m.die 0 q).st ≠ .spare) ∧
    (((List.range 17).map (ready.d.med.die 0)).find? fun y => y.st == .spare).isSome = true := by decide +kernel
def rebuilding0 (r : Rebuild) : State := host_ fun d => { d with nrg := { d.nrg with credit := 10 ^ 12 }, med := { d.med with bands := [band0], rebuilds := [r] } }
theorem meets_FlashUpkeep_rebuild : ∀ r ∈ [(⟨0, 3, none, [0], [0], 0, []⟩ : Rebuild), ⟨0, 3, some 16, [0], [0], 0, []⟩, ⟨0, 3, some 16, [0], [], 2, []⟩, ⟨0, 3, some 16, [0], [], 0, []⟩],
    ((rebuilding0 r).d.med.rebuilds.find? fun x => x.group == 0) = some r ∧ (rebuilding0 r).d.halfOn 0 = true ∧ (rebuilding0 r).d.pwr.fawnStep ≠ 3 ∧
    (rebuilding0 r).d.affords (halfDoms 0) (if r.spare.isSome then cost 7 else cost 8) = true ∧ (rebuilding0 r).d.med.band 0 = some band0 ∧ (rebuilding0 r).d.med.band 1 = none ∧
    ((rebuilding0 r).d.med.pickBlock hosted.env.fac .host ((rebuilding0 r).d.med.die 3 16)).isSome = true := by decide +kernel

/-! ### Control -/

def setMode_ (n : Nat) (m : LMode) : State := with_ fun d => (d.setLmode n m)
theorem meets_PlantLoops_tick : ready.d.unitOut 4 = false ∧ ready.d.isOn 5 = true ∧ aonOnly.d.isOn 5 = false ∧ (15 : BitVec 4).toNat = 15 ∧ (11 : BitVec 4).toNat < 12 ∧
    (setMode_ 11 .auto).d.lmode 11 = .auto ∧ (setMode_ 0 .tripped).d.lmode 0 = .tripped ∧ ready.d.lmode 0 = .manual ∧ (ready.d.lrun 0).manNext = none ∧
    ((with_ fun d => (d.setLmode 11 .auto).onRun 11 fun r => { r with ovr := 3, next := some 5 }).d.lrun 11).next = some 5 ∧ (ready.d.lrun 11).next = none ∧
    3 ≤ ((((with_ fun d => (d.setLmode 11 .auto).onRun 11 fun r => { r with ovr := 2 }).d).overrun 11).lrun 11).ovr ∧ 11 < ready.d.ctl.runs.length := by decide +kernel
theorem meets_PlantLoops_write :
    took ready .chain free_ (loopCmdA 0) 0xA5000001 = true ∧ took ready .chain free_ (loopCmdA 11) 0xA5000002 = true ∧ took ready .chain free_ (loopCmdA 16) 0xA5000003 = true ∧
    took ready .chain free_ (loopCmdA 17) 0xA5000001 = true ∧ took ready .chain free_ (loopCmdA 0) 0 = true ∧
    (lcmdOf (bits (0xA5000001 : Word) 1 0)).isSome = true ∧ (lcmdOf (bits (0xA5000002 : Word) 1 0)).isSome = true ∧ (lcmdOf (bits (0xA5000003 : Word) 1 0)).isSome = true ∧
    took ready .chain free_ (Reg.CTL_L_SP_TARGET (15 : BitVec 4).toNat) 7 = true ∧ (stored (setMode_ 0 .auto) .chain (Reg.CTL_L_SP_TARGET 0) 7).lmode 0 = .auto ∧
    took ready .chain free_ (Reg.CTL_L_MAN 15) 7 = true ∧ (stored ready .chain (Reg.CTL_L_MAN 0) 7).lmode 0 = .manual ∧
    (stored (setMode_ 0 .auto) .chain (Reg.CTL_L_MAN 0) 7).lmode 0 ≠ .manual ∧ took ready .chain free_ Reg.CTL_TH_MAN 7 = true := by decide +kernel
/-- Loop 0 with a configuration that GO_AUTO takes: one section, an integrator. -/
def looped (m : LMode) : State := with_ fun d => (holds (holds (holds (holds (holds (holds (holds (holds (holds (holds (holds (holds d (Reg.CTL_L_CFG 0) 1)
  (Reg.CTL_L_S_A1 0 0) 0x800000) (Reg.CTL_L_S_A2 0 0) 0) (Reg.CTL_L_S_EXP 0 0) 0) (Reg.CTL_L_UMIN 0) 0) (Reg.CTL_L_UMAX 0) 9) (Reg.CTL_L_SAFE 0) 1)
  (Reg.CTL_L_IMIN 0) 0) (Reg.CTL_L_IMAX 0) 9) (Reg.CTL_L_MAN 0) 4) (Reg.CTL_L_OUT 0) 4) (Reg.CTL_L_SP_NOW 0) 0).setLmode 0 m
theorem meets_PlantLoops_commands : ((looped .manual).d.lmode 0 = .manual ∧ ((looped .manual).d.loopCfg 0).valid = true) ∧ ((with_ fun _ => holds (looped .manual).d (Reg.CTL_L_UMIN 0) 10).d.loopCfg 0).valid = false ∧
    (looped .auto).d.lmode 0 = .auto ∧ (looped .tripped).d.lmode 0 = .tripped ∧ ((looped .auto).d.loopCfg 0).umin ≤ ((looped .auto).d.loopCfg 0).umax ∧
    ¬((ready.d.thDie 3).st = .failing ∨ (ready.d.thDie 3).st = .failed) := by decide +kernel
/-- The threshold loop 3 with `n` samples in its period. -/
def sampled (n : Nat) (c : Option LCmd) : State := with_ fun d => d.setTh { d.th 3 with n := n, run := { (d.th 3).run with cmd := c } }
theorem meets_ThresholdLoops : ready.d.thHeld 542 = false ∧ ready.d.thHeld 543 = true ∧ ready.d.unitOut 4 = false ∧ ready.d.isUp 5 = true ∧ aonOnly.d.isUp 5 = false ∧ ((sampled 2 none).d.th 3).n = 2 ∧
    (((sampled 0 none).d.th 3).n = 0 ∧ ((sampled 0 none).d.th 3).run.cmd = none) ∧ ((sampled 0 (some .goManual)).d.th 3).run.cmd = some .goManual ∧ (ready.d.th 3).run.manNext = none ∧
    ({ ready.d.th 3 with mode := .auto, run := { (ready.d.th 3).run with ovr := 3 } } : ThLoop).live = true := by decide +kernel
theorem meets_ThresholdLoops_writes : took ready .chain free_ Reg.CTL_SAVE 1 = true ∧ bit (1 : Word) 0 = true ∧ (stored ready .chain Reg.CTL_SAVE 1).ctl.saving = none ∧
    took ready .chain free_ Reg.CTL_TH_SEL 543 = true ∧ bits (543 : Word) 9 0 < 544 ∧ 544 ≤ bits (544 : Word) 9 0 ∧ (with_ fun d => { d with ctl := { d.ctl with saving := some [] } }).d.ctl.saving = some [] := by
  decide +kernel

/-! ### Energy, the pack, power states and domains -/

def pack_ (g : Pack → Pack) : State := with_ fun d => { d with pack := g { d.pack with closed := true, mv := 16000, measured := true } }
def demanded : State := with_ fun d => { (pack_ id).d with nrg := { d.nrg with demand := true } }
theorem meets_HoldUpPack_measure :
    ((pack_ id).d.isOn 4 = true ∧ (pack_ id).d.pack.closed = true ∧ (pack_ id).d.nrg.demand = false ∧ (pack_ id).d.jrn.flush = none ∧ (pack_ id).d.pack.test = .none) ∧
    (ready.d.pack.closed = false ∧ aonOnly.d.isOn 4 = false) ∧ (demanded.d.nrg.demand = true ∧ demanded.d.isOn 4 = true ∧ demanded.d.pack.closed = true) ∧
    (took (pack_ id) .chain free_ Reg.HUP_MEAS_CTL 0x80000000 = true ∧ bit (0x80000000 : Word) 31 = true) ∧
    (pack_ fun x => { x with test := .running 5 }).d.pack.test = .running 5 ∧ ready.d.pack.faults = [] ∧ (pack_ fun x => { x with faults := [3] }).d.pack.faults ≠ [] := by decide +kernel
theorem meets_HoldUpPack_swap :
    (took ready .i3c free_ Reg.HUP_SWAP 0xA5000001 = true ∧ bits (0xA5000001 : Word) 31 24 = 0xA5 ∧ bits (0xA5000001 : Word) 1 0 = 1 ∧
      (stored ready .i3c Reg.HUP_SWAP 0xA5000001).pwr.v12 = true ∧ (stored ready .i3c Reg.HUP_SWAP 0xA5000001).isOn 4 = true ∧ (stored ready .i3c Reg.HUP_SWAP 0xA5000001).pack.swap = 0) ∧
    (took (pack_ fun x => { x with swap := 2 }) .i3c free_ Reg.HUP_SWAP 0xA5000002 = true ∧ bits (0xA5000002 : Word) 1 0 = 2 ∧
      (stored (pack_ fun x => { x with swap := 2 }) .i3c Reg.HUP_SWAP 0xA5000002).pack.swap = 2) ∧ took ready .i3c free_ Reg.HUP_SWAP 0 = true ∧
    ((pack_ fun x => { x with swap := 1 }).d.pack.swap = 1 ∧ (with_ fun d => d.poke Reg.JRN_STAT 3 3 1).d.flag Reg.JRN_STAT 3 = true) := by decide +kernel
theorem meets_HoldUpPack_bay :
    (with_ fun d => { d with pack := { d.pack with det := false } }).d.pack.det = false ∧ ready.d.pack.det = true ∧ ready.d.pack.latched = true ∧
    (pack_ fun x => { x with latched := false }).d.pack.latched = false ∧ ready.d.pack.refit = false ∧ (pack_ fun x => { x with refit := true }).d.pack.refit = true ∧ ready.d.pack.closed = false ∧
    (with_ fun d => { d with pack := { d.pack with serial := 1, baySerial := 1 } }).d.tryClose.pack.closed = true := by decide +kernel

def ps_ (st : PState) (k : Nat) : State := with_ fun d => holds { d with pwr := { d.pwr with ps := st, fawnStep := k } } Reg.NRG_PS_CTL 0x50005
theorem meets_PowerStates_grants : (with_ fun d => holds { d with nrg := { d.nrg with chainGrant := 300 } } Reg.NRG_ALLOT_CTL 5).d.nrg.chainGrant ≠ 0 ∧
    (with_ fun d => holds { d with nrg := { d.nrg with chainGrant := 300 } } Reg.NRG_ALLOT_CTL 5).d.fld Reg.NRG_ALLOT_CTL 7 0 ≠ 0 ∧ ready.d.nrg.chainGrant = 0 := by decide +kernel
/-- A drive with nothing to do whose factory list has one bad block in each plane, so that no group lacks bands. -/
def restful : State := with_ fun d => { holds (holds d Reg.NRG_PS_CTL 0x50005) Reg.MED_GC_CTL 0 with pwr := d.pwr }
theorem meets_PowerStates_idle : restful.d.pwr.ps = .active ∧ restful.d.pwr.readReady = true ∧ restful.d.jrn.flush = none ∧ restful.d.fld Reg.NRG_PS_CTL 15 0 ≠ 0 ∧
    restful.d.quiet = true ∧ restful.d.drainsLeft = false ∧ restful.d.med.rebuilds = [] ∧ (∀ x ∈ restful.d.med.dies, x.levelling = false) ∧
    restful.d.ckptDue = false ∧ (ps_ .idle 0).d.pwr.ps ≠ .active := by decide +kernel
theorem meets_PowerStates_gc : ∀ g < 32, restful.d.gcLevel restful.env g = 0 := by decide +kernel
theorem meets_PowerStates_fawn :
    (took ready .chain free_ Reg.NRG_PS_CMD 0xA5000001 = true ∧ bits (0xA5000001 : Word) 1 0 = 1 ∧ (stored ready .chain Reg.NRG_PS_CMD 0xA5000001).upd.out = none ∧
      ready.d.pwr.ps = .active ∧ ready.d.pwr.readReady = true ∧ ready.d.pwr.v12 = true ∧ ready.d.jrn.flush = none) ∧
    (took (ps_ .fawnEntry 2) .chain free_ Reg.NRG_PS_CMD 0xA5000002 = true ∧ bits (0xA5000002 : Word) 1 0 = 2 ∧ (ps_ .fawnEntry 2).d.pwr.ps = .fawnEntry) ∧
    (with_ fun d => { d with upd := { d.upd with st := .activating, out := some 0 } }).d.upd.out.isSome = true ∧
    ((ps_ .idle 0).d.pwr.ps = .idle ∧ (ps_ .idle 0).d.fld Reg.NRG_PS_CTL 31 16 ≠ 0) ∧ (ps_ .fawnEntry 2).d.pwr.fawnStep = 2 ∧ took ready .chain free_ Reg.NRG_PS_CMD 0 = true := by decide +kernel
theorem meets_PowerStates_reached : (ps_ .fawnEntry 3).d.pwr.fawnStep = 3 ∧ (ps_ .fawnEntry 3).d.drainsLeft = false ∧ (ps_ .fawnEntry 3).d.jrn.ckptOpen = none ∧ (ps_ .fawnEntry 3).d.med.bands = [] ∧
    ((ps_ .fawnEntry 3).d.startCkpt (ps_ .fawnEntry 3).env).jrn.ckptOpen = none ∧
    (({ (ps_ .fawnEntry 3).d with nss := [ns0] }).startCkpt (ps_ .fawnEntry 3).env).jrn.ckptOpen.isSome = true ∧ ready.d.pwr.fawnStep ≠ 3 ∧
    (with_ fun d => (({ d with pwr := { d.pwr with ps := .fawn } }).setReg Reg.AON_WAKE_TIMER 9)).d.reg Reg.AON_WAKE_TIMER ≠ 0 ∧ ready.d.reg Reg.AON_WAKE_TIMER = 0 := by decide +kernel

theorem meets_PowerDomains :
    (ready.d.mayStart' 8 = true ∧ (∀ j ∈ needsOf 8, ready.d.isOn j = true) ∧ ready.d.pdSt 8 = .off) ∧
    (¬(dark.d.mayStart' 8 = true) ∧ dark.d.pdSt 8 = .off) ∧ ready.d.pdSt 6 = .on ∧ ready.d.forcedOff 8 = false ∧ (with_ fun d => holds d Reg.AON_PD_FORCE_OFF 0x100).d.forcedOff 8 = true ∧
    (ready.d.isOn 13 = true ∧ ready.d.needed 13 = false) ∧ (ready.d.isOn 11 = true ∧ ready.d.needed 11 = true) ∧ (ready.d.isOn 10 = true ∧ ready.d.needed 10 = true) ∧
    (with_ fun d => d.onPd 13 fun x => { x with st := .draining }).d.pdSt 13 = .draining ∧ ((with_ fun d => d.onPd 13 fun x => { x with st := .draining, pend := true }).d.pd 13).pend = true ∧
    ready.d.isUp 8 = false ∧ took ready .chain free_ Reg.AON_PD_FORCE_OFF 0x2000 = true := by decide +kernel

/-! ### The chain -/

/-- A drive in the ring with an address, a role and the CHN_CTL word `w`. -/
def chained (r : Role) (w : Word) (g : Chn → Chn) : State := with_ fun d => holds { d with
  pwr := { d.pwr with lead := true }
  chn := g { d.chn with lock := true, active := true, role := r, addr := some 65, stored := some (7, 1, 1), lastTick := some (7, 5, 69990) } } Reg.CHN_CTL w
def frame_ (ty : Byte) (body : List Byte) : Frame := { emptyFrame with ty := ty, bcast := true, src := 9, dst := 0xFFFF, hops := 3, body := padTo 52 body }
def toMe (ty : Byte) (auth : Bool) : Frame := { frame_ ty [] with bcast := false, auth := auth, dst := (chained .addressed 1 id).d.chn.addrHalf }
def serialIs (n : Nat) : Frame := frame_ 0x01 (beBytes 8 n)
/-- A Kid, in the ring and without an address. -/
def kid_ : State := chained .kid 1 fun c => { c with addr := none }

theorem meets_RingAndHerd_relay :
    (ready.d.inRing = false ∧ (chained .addressed 1 id).d.inRing = true) ∧
    ((frame_ 6 []).src = (chained .addressed 1 fun c => { c with addr := some 9, onRing := 1 }).d.chn.addrHalf ∧
      (chained .addressed 1 fun c => { c with addr := some 9, onRing := 1 }).d.chn.onRing ≠ 0) ∧
    ((chained .addressed 1 id).d.chn.onRing = 0 ∧ (frame_ 6 []).bcast = true) ∧
    ((toMe 6 false).bcast = false ∧ (chained .addressed 1 id).d.chn.addr.isSome ∧ (toMe 6 false).dst = (chained .addressed 1 id).d.chn.addrHalf) ∧
    (chained .lead 1 id).d.chn.role = .lead ∧ (frame_ 6 []).lap = false ∧ { frame_ 6 [] with lap := true }.lap = true := by decide +kernel
def enum_ (last flags : Nat) : Enum := ⟨7, 1, last, flags, 0, 0, 0⟩
theorem meets_RingAndHerd_step :
    ((enum_ 0 0).flags % 2 = 0 ∧ (chained .addressed 1 id).d.chn.stored = some ((enum_ 0 0).herd, 1, 1) ∧ 0 + 1 ≤ 1) ∧ kid_.d.pwr.seg = false ∧
    (¬((enum_ 0 1).flags % 2 = 0) ∧ (255 : Nat) < 256 ∧ (63 : Nat) < 64 ∧ (1 : Nat) ≤ 255) ∧ (with_ fun d => { d with pwr := { d.pwr with seg := true } }).d.pwr.seg = true := by
  decide +kernel
theorem meets_RingAndHerd_ring :
    dark.d.isOn 0 = false ∧ ready.d.isOn 0 = true ∧
    ((chained .addressed 1 id).d.chn.active = true ∧ (chained .addressed 1 fun c => { c with active := false }).d.chn.active = false ∧
      (chained .addressed 1 fun c => { c with active := false }).d.chn.lock = true ∧ (chained .addressed 1 id).d.flag Reg.CHN_CTL 0 = true ∧
      (chained .addressed 0 id).d.flag Reg.CHN_CTL 0 = false ∧ ready.d.chn.lock = false) ∧
    (took (chained .addressed 1 fun c => { c with active := false }) .i3c free_ Reg.CHN_CTL 1 = true ∧
      (stored (chained .addressed 1 fun c => { c with active := false }) .i3c Reg.CHN_CTL 1).flag Reg.CHN_CTL 0 = true) ∧
    (took (chained .addressed 1 id) .i3c free_ Reg.CHN_CTL 0 = true ∧ (stored (chained .addressed 1 id) .i3c Reg.CHN_CTL 0).flag Reg.CHN_CTL 0 = false ∧
      (stored (chained .addressed 1 id) .i3c Reg.CHN_CTL 0).chn.active = true) := by decide +kernel
/-- A candidate that has heard no tick for long. -/
def claimer : State := chained .addressed 3 fun c => { c with tickFrom := 0, lastTick := none, gaveWay := some 5 }
theorem meets_RingAndHerd_claim :
    (claimer.d.inRing = true ∧ claimer.d.pwr.lead = true ∧ claimer.d.flag Reg.CHN_CTL 1 = true ∧ claimer.d.chn.role ≠ .lead ∧
      claimer.d.chn.tickFrom + claimer.d.fld Reg.CHN_TIMERS 15 0 ≤ claimer.clk.optime ∧ claimer.d.chn.gaveWay = some 5 ∧
      5 + claimer.d.fld Reg.CHN_TIMERS 15 0 ≤ claimer.clk.optime) ∧ ready.d.inRing = false ∧
    ((serialIs 5).ty = 0x01 ∧ (frame_ 6 []).ty ≠ 0x01 ∧ (chained .lead 3 id).d.chn.role = .lead ∧ (chained .lead 3 id).d.inRing = true) ∧
    ((chained .addressed 1 id).d.chn.role ≠ .lead ∧ (chained .addressed 1 id).d.candidate = false) ∧
    ((chained .addressed 3 id).d.candidate = true ∧ (serialIs 5).at_ 8 8 < (chained .addressed 3 id).env.fac.serial.toNat) ∧
    ((chained .claiming 3 id).d.chn.role = .claiming ∧ (chained .claiming 3 id).d.candidate = true ∧
      (serialIs 0x123456).at_ 8 8 = (chained .claiming 3 id).env.fac.serial.toNat ∧ (serialIs 5).hops ≠ 0) ∧
    ({ serialIs 0x123456 with hops := 0 }).hops = 0 ∧ (chained .claiming 3 id).env.fac.serial.toNat < (serialIs 0x200000).at_ 8 8 := by decide +kernel
theorem meets_RingAndHerd_enum :
    ((frame_ 2 []).ty = 0x02 ∧ (frame_ 6 []).ty ≠ 0x02 ∧ ready.d.inRing = false) ∧
    ((chained .lead 3 fun c => { c with enumOut := true }).d.chn.enumOut = true ∧ (chained .lead 3 id).d.chn.enumOut = false ∧ (enumOf (frame_ 2 [])).round = (chained .lead 3 id).d.chn.round ∧
      bitN (enumOf (frame_ 2 [])).flags 1 = false ∧ bitN (enumOf (frame_ 2 (zeros 11 ++ [2]))).flags 1 = true) ∧
    (chained .lead 3 id).d.inRing = true ∧ (chained .addressed 3 id).d.chn.role ≠ .lead ∧
    ((chained .lead 3 fun c => { c with enumAt := some 69950 }).d.chn.enumAt = some 69950 ∧ ready.clk.optime < 69950 + 100 ∧ (chained .lead 3 id).d.chn.enumAt = none) := by
  decide +kernel
theorem meets_RingAndHerd_asks :
    ((frame_ 3 []).ty = 0x03 ∧ (frame_ 6 []).ty ≠ 0x03 ∧ (chained .lead 3 id).d.inRing = true ∧ ready.d.inRing = false) ∧
    (kid_.d.inRing = true ∧ kid_.d.chn.addr = none ∧ kid_.d.chn.role ≠ .lead ∧ kid_.d.chn.overflow = false ∧ kid_.d.chn.txq = []) ∧
    (chained .addressed 1 id).d.chn.addr ≠ none ∧
    ((with_ fun d => holds d Reg.CHN_ENUM_CTL 7).d.fld Reg.CHN_ENUM_CTL 15 0 ≠ 0 ∧ (with_ fun d => holds d Reg.CHN_ENUM_CTL 0).d.fld Reg.CHN_ENUM_CTL 15 0 = 0) ∧
    emptyFrame.ty = 0x00 ∧ ((chained .addressed 1 fun c => { c with txq := [(frame_ 3 [], .own), (frame_ 5 [], .window .i3c)], onRing := 4 }).d.chn.onRing - 1 < 4 ∧
      (chained .addressed 1 fun c => { c with txq := [(frame_ 3 [], .own), (frame_ 5 [], .window .i3c)] }).d.chn.txq = (frame_ 3 [], .own) :: [(frame_ 5 [], .window .i3c)]) ∧
    (chained .addressed 1 fun c => { c with txq := [(frame_ 5 [], .window .i3c)] }).d.chn.txq = (frame_ 5 [], .window .i3c) :: [] ∧
    (took (chained .lead 3 id) .i3c free_ Reg.CHN_ENUM_CMD 0xA5000003 = true ∧ bits (0xA5000003 : Word) 31 24 = 0xA5 ∧ bit (0xA5000003 : Word) 0 = true) ∧
    took (chained .lead 3 id) .i3c free_ Reg.CHN_ENUM_CMD 1 = true ∧ ¬(bits (1 : Word) 31 24 = 0xA5) := by decide +kernel
def tick_ (n : Nat) : Frame := frame_ 0x04 (beBytes 8 n ++ beBytes 8 7 ++ beBytes 8 6)
theorem meets_RingAndHerd_tick :
    ((tick_ 5).ty = 0x04 ∧ (frame_ 6 []).ty ≠ 0x04 ∧ (chained .lead 3 id).d.hears = true ∧ ready.d.hears = false) ∧
    ((tick_ 0x123456).at_ 8 8 = ready.env.fac.serial.toNat ∧ (chained .lead 3 id).d.chn.role = .lead ∧ ready.env.fac.serial.toNat < (tick_ 0x200000).at_ 8 8) ∧
    ((tick_ 5).at_ 8 8 ≠ ready.env.fac.serial.toNat ∧ ¬(ready.env.fac.serial.toNat < (tick_ 5).at_ 8 8)) ∧
    ((chained .addressed 1 id).d.chn.stored = some (BitVec.ofNat 64 ((tick_ 5).at_ 16 8), 1, 1) ∧ (chained .addressed 1 id).d.chn.addr.isSome) ∧ kid_.d.chn.addr = none := by decide +kernel
theorem meets_RingAndHerd_loss :
    ((chained .addressed 1 id).d.chn.role ≠ .lead ∧ (chained .addressed 1 id).d.chn.addr.isSome ∧ (chained .addressed 1 id).d.chn.herdLost = false) ∧
    (kid_.d.chn.role ≠ .lead ∧ kid_.d.chn.addr = none) ∧ (frameKnown 0x08 = false ∧ frameKnown 7 = true ∧ (chained .addressed 1 id).d.hears = true) ∧
    ((crc32c ((zeros 64).take 60)).toNat ≠ beAt (zeros 64) 60 4 ∧ (zeros 3).length ≠ 64) ∧
    ¬((crc32c (emptyFrame.bytes.take 60)).toNat ≠ beAt emptyFrame.bytes 60 4) ∧ emptyFrame.bytes.length = 64 := by decide +kernel

/-- An ALLOT that gives addresses 60 to 70 the grant 250, and one that gives it to others. -/
def allot_ : Frame := frame_ 5 (beBytes 2 60 ++ beBytes 2 70 ++ beBytes 2 250)
def allotElse : Frame := frame_ 5 (beBytes 2 80 ++ beBytes 2 90 ++ beBytes 2 250)
theorem meets_ChainTraffic_frames :
    (allot_.ty = 0x05 ∧ (frame_ 6 []).ty ≠ 0x05 ∧ allotEntry allot_ (65 : BitVec 14).toNat = some 250 ∧ (chained .addressed 1 id).d.chn.addr = some 65 ∧
      (chained .addressed 1 id).d.chn.addr.bind (fun a => allotEntry allotElse a.toNat) = none ∧ allot_.auth = false) ∧
    ((chained .addressed 1 id).d.flag Reg.CHN_CTL 2 = false ∧ (chained .addressed 5 id).d.flag Reg.CHN_CTL 2 = true ∧ (chained .addressed 5 id).d.nrg.chainGrant = 0 ∧
      (with_ fun d => holds d Reg.NRG_ALLOT_CTL 0x600000).d.fld Reg.NRG_ALLOT_CTL 25 16 < 250) ∧
    ((chained .addressed 1 id).d.forMe (frame_ 6 []) = true ∧ (frame_ 6 (zeros 2 ++ [2])).at_ 10 1 = 2 ∧ (frame_ 6 []).at_ 10 1 ≠ 2 ∧ (frame_ 7 []).ty = 0x07) ∧
    (kid_.d.hears = true ∧ kid_.d.forMe (frame_ 6 []) = false) ∧
    ((chained .addressed 1 id).d.forMe (toMe 0x10 false) = true ∧ (toMe 0x10 false).bcast = false) ∧ (toMe 0x11 false).auth = false ∧
    ((chained .addressed 1 fun c => { c with reqs := [⟨.net, 4, 9, 1, 1⟩] }).d.chn.reqs.find? fun r => r.rid == 4) = some ⟨.net, 4, 9, 1, 1⟩ ∧
    ((chained .addressed 1 id).d.chn.reqs.find? fun r => r.rid == 4) = none := by decide +kernel
/-- The unauthenticated and the wrongly tagged write; the second where the pack of keys is empty, so that no tag is computed. -/
theorem meets_ChainTraffic_tags :
    (chained .addressed 5 id).d.forMe (toMe 0x11 true) = true ∧ (((chained .addressed 5 id).d.relay (toMe 0x11 true)).chainVerify ready.env (toMe 0x11 true)).1 ≠ some true := by decide +kernel
theorem meets_ChainTraffic_refused : { allot_ with auth := true }.auth = true ∧
    (((chained .addressed 5 id).d.relay { allot_ with auth := true }).chainVerify ready.env { allot_ with auth := true }).1 ≠ some true := by decide +kernel
/-- A write that verifies: slot 4110 holds the chain key, and the tag is that of the drive's epoch. -/
def keyed_ : State := { chained .addressed 5 id with d := (chained .addressed 5 id).d.install 4110 ⟨zeros 32, 0, 0, none, 0⟩ }
def signed_ : Frame := { toMe 0x11 true with body := zeros 36 ++ (keyed_.d.chainTag keyed_.env (toMe 0x11 true)).1.getD [] }
theorem meets_ChainTraffic_verified : keyed_.d.forMe signed_ = true ∧ signed_.ty = 0x11 ∧ signed_.auth = true ∧ ((keyed_.d.relay signed_).chainVerify keyed_.env signed_).1 = some true := by decide +kernel
theorem meets_ChainTraffic_access :
    (Drive.keep .chain (ready.d.access ready.env .chain Reg.AON_LED_CTL true 1 [0, 0, 0, 0, 0, 0, 0, 0] free_)).isOn 0 = true := by decide +kernel
theorem meets_ChainTraffic_request :
    (took (chained .addressed 1 id) .i3c free_ Reg.CHN_REQ_CMD 0x121 = true ∧ bit (0x121 : Word) 8 = true ∧
      (stored (chained .addressed 1 id) .i3c Reg.CHN_REQ_CMD 0x121).fld (pk .i3c Reg.CHN_REQ_STAT) 2 0 ≠ 1 ∧
      (stored (chained .addressed 1 id) .i3c Reg.CHN_REQ_CMD 0x121).fld (pk .i3c Reg.CHN_REQ_CMD) 6 5 = 1) ∧
    (took (chained .addressed 1 id) .i3c free_ Reg.CHN_REQ_CMD 0x1C1 = true ∧
      (stored (chained .addressed 1 id) .i3c Reg.CHN_REQ_CMD 0x1C1).fld (pk .i3c Reg.CHN_REQ_CMD) 6 5 = 2 ∧
      (stored (chained .addressed 1 id) .i3c Reg.CHN_REQ_CMD 0x1C1).flag (pk .i3c Reg.CHN_REQ_CMD) 7 = true) ∧
    took (chained .addressed 1 id) .i3c free_ Reg.CHN_REQ_CMD 0x21 = true ∧ bit (0x21 : Word) 8 = false ∧
    (with_ fun d => d.setReg (pk .i3c Reg.CHN_REQ_STAT) 1).d.fld (pk .i3c Reg.CHN_REQ_STAT) 2 0 = 1 ∧ ready.d.fld (pk .i3c Reg.CHN_REQ_STAT) 2 0 ≠ 1 := by decide +kernel
/-- An untagged answer where no key is loaded, and a tag where one is. -/
theorem meets_ChainTraffic_tagged : ((chained .addressed 5 id).d.chainTag ready.env (toMe 0x11 true)).1 = none ∧
    (keyed_.d.chainTag keyed_.env (toMe 0x11 true)).1.isSome = true := by decide +kernel
theorem meets_ChainTraffic_windows :
    (took (chained .addressed 1 id) .i3c free_ Reg.CHN_TX_CTL 0xA5050000 = true ∧ bits (0xA5050000 : Word) 31 24 = 0xA5 ∧ bits (0xA5050000 : Word) 23 16 = 5 ∧ bit (0xA5050000 : Word) 8 = false ∧
      (stored (chained .addressed 1 id) .i3c Reg.CHN_TX_CTL 0xA5050000).chn.addr.isSome) ∧
    (took (chained .addressed 1 id) .i3c free_ Reg.CHN_TX_CTL 0xA5050100 = true ∧ bit (0xA5050100 : Word) 8 = true) ∧
    (took (chained .addressed 1 id) .i3c free_ Reg.CHN_TX_CTL 0xA5060000 = true ∧ bits (0xA5060000 : Word) 23 16 = 6) ∧ 0x8000 ≤ beAt (beBytes 4 0x80010000) 0 2 ∧
    (took (chained .addressed 1 id) .i3c free_ Reg.CHN_TX_CTL 0x50000 = true ∧ bits (0x50000 : Word) 31 24 ≠ 0xA5) ∧
    (took kid_ .i3c free_ Reg.CHN_TX_CTL 0xA5050000 = true ∧ (stored kid_ .i3c Reg.CHN_TX_CTL 0xA5050000).chn.addr = none) := by decide +kernel

/-! ### The event recorder, live update and the module -/

def rec_ (g : Recorder → Recorder) : State := with_ fun d => { d with recorder := g d.recorder }
def ev0 : RecEvent := ⟨0x500, 0, 1, 9, 0, 0, 0, 0⟩
/-- A queue of 64 events, and buckets that hold no token. -/
def brim : State := rec_ fun r => { r with queue := List.replicate 64 ev0 }
def spent : State := rec_ fun r => { r with buckets := [(0x500, ⟨100, 70000⟩)], hostBuckets := List.replicate 3 ⟨100, 70000⟩ }
def hostBucket (s : State) : Bucket :=
  ((s.d.recorder.hostBuckets[Path.code .i3c]?).getD ⟨0, 70000⟩).settle (s.d.fld Reg.REC_HOST_RL 23 16) (s.d.fld Reg.REC_HOST_RL 15 0) 70000
theorem meets_EventRecorder_offer :
    (ready.d.recorder.queue.length ≤ 64 ∧ ready.d.recorder.clearing = false ∧ ready.d.recorder.full = false ∧ ready.d.recorder.frozen = false ∧ ready.d.recorder.norFault = false ∧
      ready.d.recorder.queue.length < 64) ∧
    ((rec_ fun r => { r with clearing := true }).d.recorder.clearing = true ∧ (rec_ fun r => { r with full := true }).d.recorder.full = true ∧
      (rec_ fun r => { r with frozen := true }).d.recorder.frozen = true ∧ (rec_ fun r => { r with norFault := true }).d.recorder.norFault = true) ∧
    recExempt 0x708 = true ∧ recExempt 0x500 = false ∧ 64 ≤ brim.d.recorder.queue.length ∧ brim.d.recorder.queue.length ≤ 64 ∧
    ((spent.d.recorder.bucket 0x500 70000).tok < 60000 ∧ 60000 ≤ (ready.d.recorder.bucket 0x500 70000).tok ∧ 60000 ≤ (brim.d.recorder.bucket 0x500 70000).tok) ∧
    ((hostBucket spent).tok < 60000 ∧ 60000 ≤ (hostBucket ready).tok ∧ 60000 ≤ (hostBucket brim).tok) ∧ (1 ≤ 0x500 ∧ 0x500 < 0xC00) ∧ 0xC00 ≤ 0xC00 := by decide +kernel
def mayProgram (s : State) : Prop := s.d.pwr.aux = true ∧ s.d.recorder.scanDone = true ∧ s.d.recorder.frozen = false ∧ s.d.recorder.freezing = false ∧
  s.d.recorder.clearing = false ∧ s.d.recorder.norFault = false ∧ s.d.recorder.full = false ∧ s.d.recorder.staging = none
theorem meets_EventRecorder_program :
    (mayProgram (rec_ fun r => { r with queue := [ev0] }) ∧ (rec_ fun r => { r with queue := [ev0] }).d.recorder.queue = [ev0] ∧ ready.d.recorder.nor.length ≠ 1048575) ∧
    ready.d.recorder.queue = [] ∧ (rec_ fun r => { r with staging := some (ev0, 1) }).d.recorder.staging = some (ev0, 1) := by unfold mayProgram; decide +kernel
/-- The recorder with `n` slots written and an event at hand. -/
def written (n : Nat) : State := rec_ fun r => { r with nor := List.replicate n (.bad []), queue := [ev0], nearDone := true, scanDone := false }
theorem written_length (n : Nat) : (written n).d.recorder.nor.length = n := List.length_replicate
theorem meets_EventRecorder_last : (rec_ fun r => { r with queue := [ev0], nor := List.replicate 1048575 (.bad []) }).d.recorder.nor.length = 1048575 ∧
    mayProgram (rec_ fun r => { r with queue := [ev0], nor := List.replicate 1048575 (.bad []) }) :=
  ⟨List.length_replicate, rfl, rfl, rfl, rfl, rfl, rfl, rfl, rfl⟩
/-- What a bad slot leaves of a recorder that has warned already. -/
theorem bad_length {d : Drive} (e : Env) (z : NorSlot) (h : d.recorder.nearDone = true) :
    ((((d.bumpOpen Reg.REC_PROG_FAIL 1).errCnt pgRec).onRec fun r => { r with nor := r.nor ++ [z] }).recNearFull e).recorder.nor.length =
      d.recorder.nor.length + 1 := by
  have : ∀ x : Drive, x.recorder.nearDone = true → x.recNearFull e = x := fun x hx => by simp [Drive.recNearFull, hx]
  rw [this]
  · simp [Drive.onRec, Drive.bumpOpen, Drive.errCnt]
  · simpa [Drive.onRec, Drive.bumpOpen, Drive.errCnt] using h
theorem meets_EventRecorder_bad (e : Env) (z : NorSlot) :
    ((((((written 1048574).d).bumpOpen Reg.REC_PROG_FAIL 1).errCnt pgRec).onRec fun r => { r with nor := r.nor ++ [z] }).recNearFull e).recorder.nor.length = 1048575 ∧
    1048576 ≤ ((((((written 1048575).d).bumpOpen Reg.REC_PROG_FAIL 1).errCnt pgRec).onRec fun r => { r with nor := r.nor ++ [z] }).recNearFull e).recorder.nor.length ∧
    ((((((written 5).d).bumpOpen Reg.REC_PROG_FAIL 1).errCnt pgRec).onRec fun r => { r with nor := r.nor ++ [z] }).recNearFull e).recorder.nor.length < 1048575 ∧
    ev0.code ≠ 0x3 := by
  refine ⟨?_, ?_, ?_, by decide⟩ <;> rw [bad_length _ _ rfl, written_length]
  all_goals omega
/-- Pending drops of 0x500 and 0x501, due and not due. -/
def dropped : State := rec_ fun r => { r with drops := [⟨0x500, 3, 1, 9, 1⟩, ⟨0x501, 3, 69999, 69999, 1⟩] }
theorem meets_EventRecorder_summary :
    ((dropped.d.recorder.drops.find? (·.code == 0x500)) = some ⟨0x500, 3, 1, 9, 1⟩ ∧ (dropped.d.recorder.drops.find? (·.code == 0x502)) = none ∧
      (dropped.d.recorder.drops.find? (·.code == 0x501)) = some ⟨0x501, 3, 69999, 69999, 1⟩) ∧
    (dropped.d.recorder.queue.length < 32 ∧ dropped.d.recorder.frozen = false ∧ dropped.d.recorder.clearing = false ∧ dropped.d.recorder.full = false ∧
      dropped.d.recorder.norFault = false ∧ dropped.d.summaryDue dropped.env ⟨0x500, 3, 1, 9, 1⟩ = true ∧
      ∀ y ∈ dropped.d.recorder.drops, y.code < 0x500 → dropped.d.summaryDue dropped.env y = false) ∧
    dropped.d.summaryDue dropped.env ⟨0x501, 3, 69999, 69999, 1⟩ = false := by decide +kernel
theorem meets_EventRecorder_scan :
    (ready.d.recorder.scanDone = true ∧ (rec_ fun r => { r with scanDone := false }).d.recorder.scanDone = false ∧ ready.d.recorder.cleared = none ∧ ready.d.recorder.nor.length < 1048576 ∧
      (rec_ fun r => { r with scanDone := false, cleared := some ev0 }).d.recorder.cleared = some ev0) ∧
    ((rec_ fun r => { r with frozen := true }).d.recorder.frozen = true ∧ ready.d.recorder.clearing = false ∧
      (with_ fun d => { holds d Reg.REC_FREEZE_CTL 60 with recorder := { d.recorder with frozen := true } }).d.recorder.frozenAt +
        (with_ fun d => { holds d Reg.REC_FREEZE_CTL 60 with recorder := { d.recorder with frozen := true } }).d.fld Reg.REC_FREEZE_CTL 9 0 * 1000 ≤ ready.clk.optime) ∧
    ((rec_ fun r => { r with clearing := true, mark := some (1, 0, 5, 0) }).d.recorder.mark = some (1, 0, 5, 0) ∧
      (rec_ fun r => { r with clearing := true, mark := some (1, 0, 5, 0) }).d.recorder.clearing = true ∧ ready.d.recorder.mark = none) := by decide +kernel
theorem meets_EventRecorder_scanFull : (written 1048576).d.recorder.scanDone = false ∧ (written 1048576).d.recorder.cleared = none ∧
    1048576 ≤ (written 1048576).d.recorder.nor.length := ⟨rfl, rfl, (written_length _).ge⟩
theorem meets_EventRecorder_registers :
    (took ready .i3c free_ Reg.REC_FREEZE 0xA5000001 = true ∧ bits (0xA5000001 : Word) 31 24 = 0xA5 ∧ bits (0xA5000001 : Word) 1 0 = 1 ∧
      (stored ready .i3c Reg.REC_FREEZE 0xA5000001).recorder.clearing = false) ∧
    (took ready .i3c free_ Reg.REC_FREEZE 0xA5000002 = true ∧ bits (0xA5000002 : Word) 1 0 = 2 ∧ (stored ready .i3c Reg.REC_FREEZE 0xA5000002).recorder.clearing = false) ∧
    (took ready .i3c free_ Reg.REC_FREEZE 0xA5000000 = true ∧ bits (0xA5000000 : Word) 1 0 = 0) ∧ took ready .chain free_ Reg.REC_RD_SEL 0xFFFFF = true ∧
    (took ready .chain free_ Reg.REC_HOST_GO 1 = true ∧ bits (1 : Word) 0 0 = 1) ∧ (took ready .chain free_ Reg.REC_HOST_GO 0 = true ∧ bits (0 : Word) 0 0 = 0) ∧
    (took ready .i3c free_ Reg.REC_RL_SEL 0x500 = true ∧ 4 ≤ bits (0x500 : Word) 15 0 ∧ bits (0x500 : Word) 15 0 ≤ 0x7FFF ∧
      (stored ready .i3c Reg.REC_RL_SEL 0x500).recorder.limit 0x500 = (32, 600)) ∧ took ready .i3c free_ Reg.REC_RL_SEL 3 = true ∧ bits (3 : Word) 15 0 < 4 ∧
    0x7FFF < bits (0x8000 : Word) 15 0 := by decide +kernel
def chal0 : Challenge := ⟨.i3c, zeros 16, 0, 5, 69000⟩
/-- A frozen recorder with a live challenge of the I3C path, and the path's tag over it. -/
def challenged : State := with_ fun d => { d.install 4111 ⟨zeros 32, 0, 0, none, 0⟩ with recorder := { d.recorder with frozen := true, chal := some chal0 } }
def proven : State := { challenged with d := challenged.d.setRegs (pk .i3c (Reg.REC_CLR_TAG 0)) (leWords (aesCmac (zeros 32) (recClearMsg challenged.env chal0))) }
theorem meets_EventRecorder_proven :
    (took proven .i3c free_ Reg.REC_CLR_CMD 0xA5000002 = true ∧ bits (0xA5000002 : Word) 31 24 = 0xA5 ∧ bits (0xA5000002 : Word) 1 0 = 2) ∧
    (stored proven .i3c Reg.REC_CLR_CMD 0xA5000002).recorder.clearing = false ∧
    ((stored proven .i3c Reg.REC_CLR_CMD 0xA5000002).recClearCheck proven.env .i3c).1 = 0 ∧
    ((stored proven .i3c Reg.REC_CLR_CMD 0xA5000002).recClearCheck proven.env .i3c).2.recorder.chal = some chal0 := by decide +kernel
theorem meets_EventRecorder_clear :
    (took ready .i3c free_ Reg.REC_CLR_CMD 0xA5000001 = true ∧ bits (0xA5000001 : Word) 1 0 = 1) ∧ (took ready .i3c free_ Reg.REC_CLR_CMD 0xA5000000 = true ∧ bits (0xA5000000 : Word) 1 0 = 0) ∧
    (took (rec_ fun r => { r with clearing := true }) .i3c free_ Reg.REC_CLR_CMD 0xA5000002 = true ∧ (stored (rec_ fun r => { r with clearing := true }) .i3c Reg.REC_CLR_CMD 0xA5000002).recorder.clearing = true) ∧
    (ready.d.recorder.chal = none ∧ challenged.d.recorder.chal = some chal0 ∧ chal0.path = .i3c ∧ chal0.path ≠ .chain ∧ challenged.d.recorder.frozen = true ∧
      (rec_ fun r => { r with chal := some chal0 }).d.recorder.frozen = false ∧ challenged.d.recorder.nor.length = chal0.count ∧
      (rec_ fun r => { r with chal := some chal0, frozen := true, nor := [.good ev0] }).d.recorder.nor.length ≠ chal0.count) ∧
    ((stored ready .i3c Reg.REC_CLR_CMD 0xA5000002).recClearCheck ready.env .i3c).1 ≠ 0 := by decide +kernel

def upd_ (g : Upd → Upd) : State := with_ fun d => { d with upd := g d.upd }
def session (st : UpdState) : State := upd_ fun u => { u with st := st, owner := .i3c, lastStaged := [(0, true)] }
def upd_takes (s : State) (v : Word) : Bool := took s .i3c free_ Reg.CL_UPD_CMD v
theorem meets_LiveUpdate_open :
    (upd_takes ready 0xA5000001 = true ∧ bits (0xA5000001 : Word) 31 24 = 0xA5 ∧ bits (0xA5000001 : Word) 10 8 ≤ 5 ∧ bits (0xA5000001 : Word) 3 0 = 1 ∧
      (stored ready .i3c Reg.CL_UPD_CMD 0xA5000001).upd.st = .idle ∧ (stored ready .i3c Reg.CL_UPD_CMD 0xA5000001).upd.mixed 0 = false) ∧
    (upd_ fun u => u.onCar 0 fun c => { c with runB := 1 }).d.upd.mixed 0 = true ∧ (session .staging).d.upd.st ≠ .idle ∧ (session .staging).d.upd.owner ≠ .chain ∧
    (upd_takes ready 1 = true ∧ bits (1 : Word) 31 24 ≠ 0xA5) ∧ 5 < bits (0xA5000601 : Word) 10 8 ∧ bits (0xA5000000 : Word) 3 0 = 0 ∧ 5 < bits (0xA5000006 : Word) 3 0 := by decide +kernel
theorem meets_LiveUpdate_session :
    (upd_takes (session .staging) 0xA5000002 = true ∧ bits (0xA5000002 : Word) 3 0 = 2 ∧ (stored (session .staging) .i3c Reg.CL_UPD_CMD 0xA5000002).upd.st = .staging ∧
      (stored (session .staging) .i3c Reg.CL_UPD_CMD 0xA5000002).upd.owner = .i3c ∧ (stored (session .staging) .i3c Reg.CL_UPD_CMD 0xA5000002).upd.chunk = none) ∧
    (upd_ fun u => { u with st := .staging, chunk := some [1] }).d.upd.chunk.isSome ∧
    (upd_takes (session .staged) 0xA5FF0003 = true ∧ bits (0xA5FF0003 : Word) 3 0 = 3 ∧ (stored (session .staged) .i3c Reg.CL_UPD_CMD 0xA5FF0003).upd.st = .staged ∧
      (session .failed).d.upd.st = .failed ∧ (session .idle).d.upd.mixed 0 = false ∧
      ((upd_ fun u => (u.onCar 0 fun c => { c with runB := 1 })).d.upd.mixed 0 = true)) ∧
    (upd_takes (session .staged) 0xA5FF0004 = true ∧ bits (0xA5FF0004 : Word) 3 0 = 4 ∧ ((session .staged).d.upd.lastStaged.find? fun x => x.1 == 0) = some (0, true) ∧
      (ready.d.upd.lastStaged.find? fun x => x.1 == 0) = none) ∧
    (upd_takes (session .staging) 0xA5000005 = true ∧ bits (0xA5000005 : Word) 3 0 = 5 ∧ (session .activating).d.upd.st = .activating ∧
      (∀ i ∈ unitOrder 0, (session .staging).d.upd.runsB 0 i ≠ true) ∧ (session .staging).d.upd.slotB = true) ∧
    3 ∈ unitOrder (upd_ fun u => { u with slotB := false }).d.upd.carrier ∧ (upd_ fun u => { u with slotB := false }).d.upd.runsB 0 3 = false := by decide +kernel
def chunks (s : State) (v : Word) : Bool := took s .i3c free_ Reg.CL_UPD_CHUNK v
theorem meets_LiveUpdate_chunk :
    (chunks (session .staging) 0x80000010 = true ∧ bit (0x80000010 : Word) 31 = true ∧ (stored (session .staging) .i3c Reg.CL_UPD_CHUNK 0x80000010).fld Reg.CL_UPD_CHUNK 10 0 = 16 ∧
      (stored (session .staging) .i3c Reg.CL_UPD_CHUNK 0x80000010).upd.st = .staging ∧ (stored (session .staging) .i3c Reg.CL_UPD_CHUNK 0x80000010).upd.owner = .i3c ∧
      (stored (session .staging) .i3c Reg.CL_UPD_CHUNK 0x80000010).upd.chunk = none ∧
      (stored (session .staging) .i3c Reg.CL_UPD_CHUNK 0x80000010).upd.bytes.length + 16 ≤ 33554432 ∧
      ((stored (session .staging) .i3c Reg.CL_UPD_CHUNK 0x80000010).reg Reg.CL_UPD_OFFSET).toNat = (stored (session .staging) .i3c Reg.CL_UPD_CHUNK 0x80000010).upd.bytes.length) ∧
    (chunks (session .staging) 0x80000000 = true ∧ (stored (session .staging) .i3c Reg.CL_UPD_CHUNK 0x80000000).fld Reg.CL_UPD_CHUNK 10 0 = 0) ∧
    (chunks (session .staging) 0x80000401 = true ∧ 1024 < (stored (session .staging) .i3c Reg.CL_UPD_CHUNK 0x80000401).fld Reg.CL_UPD_CHUNK 10 0) ∧
    (chunks (session .staging) 0x10 = true ∧ bit (0x10 : Word) 31 = false) ∧ (session .staged).d.upd.st ≠ .staging := by decide +kernel
def filled (n : Nat) : State := upd_ fun u => { u with bytes := List.replicate n 0 }
theorem filled_length (n : Nat) : (filled n).d.upd.bytes.length = n := List.length_replicate
theorem meets_LiveUpdate_chunkLeft :
    ((upd_ fun u => { u with bytes := zeros 16 }).d.reg Reg.CL_UPD_OFFSET).toNat ≠ (upd_ fun u => { u with bytes := zeros 16 }).d.upd.bytes.length ∧
    33554432 < (filled 33554432).d.upd.bytes.length + 1 ∧ (upd_ fun u => { u with chunk := some [1] }).d.upd.chunk = some [1] ∧ ready.d.upd.chunk = none :=
  ⟨by decide +kernel, by rw [filled_length]; omega, rfl, rfl⟩
/-- An image of 4096 bytes for carrier 0, level 1, that accepts level 1 and up. -/
def image0 : List Byte := padTo 4096 (beBytes 4 0x4957494D ++ [0, 1, 0, 0] ++ beBytes 4 7 ++ beBytes 2 1 ++ beBytes 2 1 ++ beBytes 4 4096)
def staged0 : State := upd_ fun u => { u with carriers := List.replicate 6 ⟨some ⟨1, 1, 1⟩, none, 0, 0⟩, st := .verifying, bytes := image0 }
theorem meets_LiveUpdate_verify : staged0.d.upd.verdict true = 0 ∧ staged0.d.upd.verdict false ≠ 0 ∧ staged0.d.upd.st = .verifying ∧ ready.d.upd.st ≠ .verifying := by decide +kernel
def moving (c : Nat) (out : Option Nat) (todo : List Nat) : State := upd_ fun u => { u with st := .activating, carrier := c, out := out, todo := todo }
theorem meets_LiveUpdate_units :
    (ready.d.upd.out = none ∧ (moving 2 (some 0) []).d.upd.out = some 0 ∧ (moving 2 (some 0) []).d.upd.st = .activating ∧ unitDom 2 0 = none ∧ (moving 2 (some 0) []).d.upd.fawnAsked = false) ∧
    (unitDom 0 2 = some 8 ∧ ((with_ fun d => { (moving 0 (some 2) []).d with pwr := { d.pwr with v12 := false } }).d.bringBack ready.env 2).isOn 8 = false) ∧
    (upd_ fun u => { u with fawnAsked := true }).d.upd.fawnAsked = true ∧
    ((moving 5 none [1]).d.upd.todo = 1 :: [] ∧ (moving 5 none [1]).d.upd.carrier = 5 ∧ (moving 5 none [1]).d.upd.out = none ∧ (moving 5 none [1]).d.linkUp (1 - 1) = false) ∧ ready.d.upd.todo = [] ∧
    (moving 0 none [1]).d.mayTake ready.env 1 = true ∧ (moving 0 none []).d.mayTake ready.env 0 = false ∧ (moving 5 none [1]).d.mayTake ready.env 1 = false ∧ (moving 2 none [0]).d.mayTake ready.env 0 = true ∧
    ((moving 0 none [3]).d.upd.st = .activating ∧ ready.d.pwr.ps ≠ .fawnEntry ∧ ready.d.pwr.ps ≠ .fawn ∧ ∀ i ∈ (moving 0 none [3]).d.upd.todo, (moving 0 none [3]).d.forcedOff (6 + i) = false) := by decide +kernel
theorem meets_LiveUpdate_module :
    (took ready .i3c free_ Reg.AON_LED_CTL 2 = true ∧ bit (2 : Word) 1 = true) ∧ (took ready .i3c free_ Reg.AON_LED_CTL 0 = true ∧ bit (0 : Word) 1 = false) ∧
    dark.d.pwr.aux = false ∧ ready.d.pwr.aux = true ∧ ready.d.isOn 0 = true ∧ ready.d.airSeen = false ∧ (with_ fun d => { d with airSeen := true }).d.airSeen = true ∧
    (0xF0 : Byte).toInt < (5 : Byte).toInt := by decide +kernel

/-! ### Ill-formed commands are refused, one for each check -/

def fr0 (ty : Byte) (n : Nat) : Frame := { emptyFrame with ty := ty, body := zeros n }
def rx0 (k len : Nat) : RxFrame := ⟨0, none, false, len, false, false, false, false, .other, zeros k, 0, 0, 0⟩
def allBad (l : List Instr) : Bool := l.all fun i => !i.wellFormed
def allGood (l : List Instr) : Bool := l.all Instr.wellFormed
/-- A queue of the chain beyond its 16 entries, and a flow beyond the last. -/
def crowd : Arb := { free_ with queue := 17 }
def beyond : Arb := .alone 65536

theorem test_ill_register_rows : allBad [.softFullReset .i3c 0 crowd, .jrnRecSel .net 0 beyond, .registerWrite .net 0x1000 0 beyond, .registerWrite .net 0x1002 0 free_,
    .rcRegisterRead .i3c 0x1000 crowd, .rcRegisterRead .i3c 0x1000000 free_, .wideLowWordRead .i3c 0x1001 free_, .wideLowWordRead .i3c 4 crowd,
    .wideLowWordWrite .chain 0x1003 0 free_, .wideLowWordWrite .net 4 0 beyond, .i3cPrivateWrite [] crowd, .macRetrain .i3c 0 0 crowd,
    .pageInterruptPending 4096, .deferredInterruptDelivery 4096] = true := by decide
theorem test_ill_ports : allBad [.autonegResolved 0 8, .rxFrame 0 (rx0 257 400), .rxFrame 0 (rx0 65 64), .rxBufferRelease 0 8 1, .pfcRefresh 0 8, .pfcReceived 0 0 [1, 2],
    .pauseTimerExpiry 0 8, .arpRequest { arr0 with ipv6 := true } 1 2 3 true, .ipv6AddrWrite .i3c 0 3 0 0 free_, .ipv6AddrWrite .i3c 0 0 4 0 free_, .ipv6AddrWrite .i3c 0 0 0 0 crowd,
    .dadTimeout 0 3, .neighborSolicitation arr0 ⟨1, false⟩] = true := by decide +kernel
theorem test_ill_transport : allBad [.flowOpen arr0 hdr0 1 [] 65536 0, .closeAckSend 65536, .data arr0 hdr0 0 [] 0, .data arr0 hdr0 0 [⟨[1], 0⟩] 0, .ackDelayExpiry 65536, .rtoExpiry 65536 0 none,
    .reorderTimerExpiry 65536 0 [], .flowIdleTimeout 65536, .tombExpiry 65536, .fabricCopyConfirm 65536 0 0 0, .flushComplete 65536 0, .unitSlotAllocate 65536 0] = true := by decide
theorem test_ill_commands : allBad [.put (cmd0 (zeros 4077) 0), .unknownOpcode (cmd0 (zeros 4077) 0) 0xFF, .mgmtRead (cmd0 [] 0) crowd, .mgmtWrite (cmd0 (zeros 4077) 0) free_, .spillSegment 1 0,
    .dramPatrolUe ⟨0, false, some (0, 16384), 0⟩] = true := by decide +kernel
theorem test_ill_engines : allBad [.scrubCompare 0 16384 false, .cphDequeue 32, .rekeyInForce 4120, .stripeProgramDone 0 (some 32), .eraseDone 0 32 true, .gcCopy 32, .wearLevelMove 32 0, .wearLevelMove 0 17,
    .dieOpTimeout 32 0, .dieOpTimeout 0 17, .rebuildBand 32 none, .readRetryRung ⟨0, 0⟩ 15 ⟨.decodeFail, []⟩, .readRetryRung ⟨0, 0⟩ 0 ⟨.decodeFail, (List.replicate 32 0)⟩, .thLoopPeriod 544 false,
    .goAuto .i3c 18 0 free_, .goManual .i3c 0 0 crowd, .clearTrip .i3c 18 0 free_, .manWrite .net 18 0 free_] = true := by decide
theorem test_ill_power : allBad [.packFault 0, .packFault 7, .packFitted [1] 0, .domainEnable 30, .domainDisable 30 false, .domainShutdownDone 30, .controllerFault 30] = true := by decide
theorem test_ill_frames : allBad [.claimFrame (fr0 2 52), .enumFrame (fr0 1 52), .enumReturn (fr0 1 52) 0, .enumReqFrame (fr0 1 52), .tickFrame (fr0 1 52), .allotFrame (fr0 1 52), .alarmFrame (fr0 1 52),
    .chainNoticeFrame (fr0 1 52), .regRdFrame (fr0 1 52) free_, .regWrFrame (fr0 0x11 52) crowd, .regRspFrame (fr0 1 52), .emptySlot ⟨fr0 1 52, 0⟩, .unknownFrame (fr0 0x20 51), .claimFrame (fr0 1 51),
    .eventOffer 65536 0 0 0 0, .summaryDue 65536] = true := by decide +kernel
theorem test_well_formed : allGood [.softFullReset .chain 0xA5010000 { free_ with queue := 16 }, .registerWrite .net 0x1000 0 (.alone 65535), .rxFrame 0 (rx0 64 64), .pfcReceived 0 1 (List.replicate 8 9), .arpRequest arr0 1 2 3 true,
    .put (cmd0 (keyed [1] 0 0) 5), .dramPatrolUe ⟨0, false, some (0, 16383), 0⟩, .cphDequeue 31, .readRetryRung ⟨0, 0⟩ 14 ⟨.decodeFail, [1]⟩, .thLoopPeriod 543 true, .packFault 6, .packFitted (zeros 64) 0,
    .claimFrame (fr0 1 52), .regWrFrame (fr0 0x11 52) free_] = true := by decide +kernel
theorem test_no_bits : decodeTableWord 32 0xFFFFFFFF = none := by decide

/-! ### Worked examples of the spec, and published test values -/

/-- 10_control_loops.md, "one VCORE computation": y, the new s1 and FF(37). -/
theorem test_vcore : cascade [⟨0x700000, -0x600000, 0, -0x200000, 0, 2⟩] 32768 [(2916352, 0)] = (3031040, [(2932736, 0)], 0) := by decide +kernel
theorem test_feed_forward : (holds (holds ready.d (Reg.CTL_L_FF 0 1) 24576) (Reg.CTL_L_FF 0 2) 40960).ff 0 37 = 26022 := by decide +kernel
/-- 06_policy_match.md, "Worked policy table": the key words and the decision on the PUT. -/
def vmKey : SKey := searchKey 0x02A 0x115 0 2 210 [0x76, 0x6D, 0x2D, 0x37, 0x37, 0x33, 0x34, 0x2F, 0x64, 0x69, 0x73, 0x6B, 0x30, 0x2F, 0x63, 0x68, 0x75, 0x6E, 0x6B, 0x2D, 0x30, 0x30, 0x30, 0x34, 0x31, 0x38]
def ent_ (i w9 w8 w7 w6 m9 m8 m7 m6 prio : Nat) (row : Long) : Entry :=
  ⟨i, BitVec.ofNat 320 ((((w9 * 2 ^ 32 + w8) * 2 ^ 32 + w7) * 2 ^ 32 + w6) * 2 ^ 192), BitVec.ofNat 320 ((((m9 * 2 ^ 32 + m8) * 2 ^ 32 + m7) * 2 ^ 32 + m6) * 2 ^ 192), BitVec.ofNat 12 prio, true, row⟩
def worked : State := with_ fun d => { d with mch := { d.mch with segs := [
  ent_ 0 0x02A11500 0 0 0 0xFFFFFF00 0 0 0 0xFF0 0xC00000007FEFFF00, ent_ 1 0x02A11520 0x766D 0x2D373733 0x342F0000 0xFFFFFF70 0xFFFF 0xFFFFFFFF 0xFFFF0000 0xFA0 0x18454454020FFF00,
  ent_ 2 0x02A11510 0x766D 0x2D373733 0x342F0000 0xFFFFFF70 0xFFFF 0xFFFFFFFF 0xFFFF0000 0xFA0 0x98000000021FFF00, ent_ 3 0x02A00000 0 0 0 0xFFF00040 0 0 0 0x800 0x1FFFC002FFFFFF00,
  ent_ 4 0x02A00000 0 0 0 0xFFF00000 0 0 0 0x064 0x4000000002FFFF00] :: List.replicate 3 [] } }
theorem test_policy_key : (vmKey.headD 0).toNat / 2 ^ 192 = 0x02A11520D21A766D2D373733342F6469 := by decide +kernel
theorem test_policy_matches : (worked.d.mch.matches false [0] vmKey).map (·.index) = [0, 1, 3, 4] := by decide +kernel
theorem test_policy_decision : (walk 4 (worked.d.mch.matches false [0] vmKey)).decide.map (fun h => (h.index, rowQos h.row, rowSlot h.row, rowQuota h.row, rowIds h.row)) = some (1, 3, 0x115, 0x115, [0x20]) ∧
    (walk 4 (worked.d.mch.matches false [0] vmKey)).passed.map (fun h => rowIds h.row) = [[0x7FE]] := by decide +kernel
/-- 13_event_recorder.md, "a burst that overruns its rate limit": after 32 events in 32 ms, 0.31 tokens remain. -/
theorem test_burst : ((List.range 32).foldl (fun (b : Bucket) k => let b := b.settle 32 600 k; ⟨b.tok - 60000, k⟩) ⟨32 * 60000, 0⟩) = ⟨18600, 31⟩ := by decide +kernel
/-- 03_network_ports.md R73: with SIZE 4,096 and eight rings of 256, the port does not enable and sets CFG_BAD. -/
def bigBuffers : State := { still with d := still.d.poke (Reg.MAC_RX_BUF 0) 1 0 2 }
theorem test_cfg_bad : (match exec (.macPortEnable .i3c 0 1 free_) bigBuffers with
    | .next t => t.d.flag (Reg.MAC_LINK_STAT 0) 10 && !t.d.macEnabled 0
    | _ => false) = true := by decide +kernel
/-- RFC 3720's check value of CRC-32C, FIPS 197's AES-256 example, and the GCM specification's test case 13. -/
theorem test_crc32c : crc32c [0x31, 0x32, 0x33, 0x34, 0x35, 0x36, 0x37, 0x38, 0x39] = 0xE3069283 := by decide +kernel
theorem test_aes256 : aesEnc ((List.range 32).map (BitVec.ofNat 8)) ((List.range 16).map fun k => BitVec.ofNat 8 (17 * k)) =
    beBytes 16 0x8EA2B7CA516745BFEAFC49904B496089 := by decide +kernel
theorem test_gcm_empty : gcmEnc (zeros 32) (zeros 12) [] [] = ([], beBytes 16 0x530F8AFBC74536B9A963B4F1C4CB738B) := by decide +kernel
theorem test_cmac_empty : aesCmac (beBytes 32 0x603DEB1015CA71BE2B73AEF0857D77811F352C073B6108D72D9810A30914DFF4) [] = beBytes 16 0x028962F61B7BF89EFC6B551F4667D983 := by decide +kernel

end Sys2Proof.Tests
end

section
/-! PROOFS. Chapter 0: how a written word enters a register and how a read clears one (R11), the completion of a register
access that passes every check (R527), and the step on an empty queue (R3). -/

namespace Sys2Proof.Machine

/-! ### Passing a register's fields one by one -/

section
variable {upd : Nat → Fld → Nat} {fs : List Fld} {f : Fld} {n hi lo : Nat}

/-- `upd` changes no field beside the one it is given. -/
def KeepsApart (upd : Nat → Fld → Nat) : Prop :=
  ∀ (n : Nat) (g : Fld) (hi lo : Nat), g.lo ≤ g.hi → lo ≤ hi → g.hi < lo ∨ hi < g.lo → bitsN (upd n g) hi lo = bitsN n hi lo

/-- A pass over fields that lie apart from the bits `hi:lo` leaves those bits as they are. -/
theorem KeepsApart.foldl_apart (hs : KeepsApart upd) (hf : lo ≤ hi)
    (h : ∀ g ∈ fs, g.lo ≤ g.hi ∧ (g.hi < lo ∨ hi < g.lo)) : bitsN (fs.foldl upd n) hi lo = bitsN n hi lo := by
  induction fs generalizing n with
  | nil => rfl
  | cons g fs ih =>
    obtain ⟨hg, ne⟩ := h g List.mem_cons_self
    rw [List.foldl_cons, ih fun x hx => h x (List.mem_cons_of_mem g hx), hs n g hi lo hg hf ne]

/-- A pass over the fields of a register gives each field what `upd` for that field makes of the field's old value. -/
theorem KeepsApart.foldl_field (hs : KeepsApart upd) (apart : fieldsApart fs) (hf : f ∈ fs) {new : Nat → Nat}
    (h : ∀ n, bitsN (upd n f) f.hi f.lo = new (bitsN n f.hi f.lo)) :
    bitsN (fs.foldl upd n) f.hi f.lo = new (bitsN n f.hi f.lo) := by
  obtain ⟨ord, pw⟩ := apart
  obtain ⟨pre, post, rfl⟩ := List.append_of_mem hf
  obtain ⟨-, pwf, cross⟩ := List.pairwise_append.1 pw
  have before : ∀ g ∈ pre, g.lo ≤ g.hi ∧ (g.hi < f.lo ∨ f.hi < g.lo) := fun g hg =>
    ⟨ord g (List.mem_append_left _ hg), cross g hg f List.mem_cons_self⟩
  have after : ∀ g ∈ post, g.lo ≤ g.hi ∧ (g.hi < f.lo ∨ f.hi < g.lo) := fun g hg =>
    ⟨ord g (List.mem_append_right _ (List.mem_cons_of_mem f hg)), (List.rel_of_pairwise_cons pwf hg).symm⟩
  rw [List.foldl_append, List.foldl_cons, hs.foldl_apart (ord f hf) after, h, hs.foldl_apart (ord f hf) before]

end

/-! ### A written word, field by field (R11) -/

/-- The value of a field after its word is written, by access code: from its value `old` and the written one `new`. -/
def Fld.entered (f : Fld) (old new : Nat) : Nat :=
  match f.acc with
  | .ro | .rc | .cmd => old
  | .wo => new
  | .rw | .rwl => if f.takes new then new else old
  | .w1c => old ^^^ (old &&& new)

theorem keepsApart_fldWrite (new : Nat) : KeepsApart (fldWrite new) := by
  intro n g hi lo hg h ne
  have apart (v : Nat) := bitsN_setBitsN_ne n g.hi g.lo v hi lo hg h ne
  unfold fldWrite
  cases g.acc <;> dsimp only
  case rw | rwl => split_ifs <;> simp only [apart]
  case wo | w1c => exact apart _

/-- A field set to a value that fits in it reads as that value. -/
theorem bitsN_setBitsN_of_lt {n hi lo v : Nat} (h : lo ≤ hi) (hv : v < 2 ^ (hi + 1 - lo)) : bitsN (setBitsN n hi lo v) hi lo = v := by
  rw [bitsN_setBitsN n hi lo v h, Nat.mod_eq_of_lt hv]

theorem bitsN_fldWrite_same (new n : Nat) (f : Fld) (h : f.lo ≤ f.hi) :
    bitsN (fldWrite new n f) f.hi f.lo = f.entered (bitsN n f.hi f.lo) (bitsN new f.hi f.lo) := by
  have oldLt := bitsN_lt n f.hi f.lo
  have newLt := bitsN_lt new f.hi f.lo
  unfold fldWrite Fld.entered
  cases f.acc <;> dsimp only
  case rw | rwl => split_ifs <;> simp only [bitsN_setBitsN_of_lt h newLt]
  case wo => exact bitsN_setBitsN_of_lt h newLt
  case w1c => exact bitsN_setBitsN_of_lt h (Nat.xor_lt_two_pow oldLt (Nat.and_lt_two_pow _ newLt))

/-- Each field of a written register holds what its access code makes of the old and the written value. -/
theorem bitsN_regWrite {fs : List Fld} {f : Fld} (cur new : Nat) (apart : fieldsApart fs) (hf : f ∈ fs) :
    bitsN (regWrite cur new fs) f.hi f.lo = f.entered (bitsN cur f.hi f.lo) (bitsN new f.hi f.lo) :=
  (keepsApart_fldWrite new).foldl_field (new := fun old => f.entered old (bitsN new f.hi f.lo)) apart hf
    fun n => bitsN_fldWrite_same new n f (apart.1 f hf)

/-- Settles O12: the pass over the fields gives each field the value that its access code says. -/
theorem wordEntersRegister : Obligations.WordEntersRegister := by
  intro fs cur new f apart hf
  exact bitsN_regWrite cur new apart hf

/-! ### A read that clears (R11) -/

/-- Clearing a field that is RC changes no field beside it. -/
theorem keepsApart_clear : KeepsApart fun n f => if f.acc = .rc then setBitsN n f.hi f.lo 0 else n := by
  intro n g hi lo hg h ne
  dsimp only
  split_ifs
  · exact bitsN_setBitsN_ne n g.hi g.lo 0 hi lo hg h ne
  · rfl

/-- An RC field is 0 once its register is read. -/
theorem bitsN_regClear {fs : List Fld} {f : Fld} (cur : Nat) (apart : fieldsApart fs) (hf : f ∈ fs) (hrc : f.acc = .rc) :
    bitsN (regClear cur fs) f.hi f.lo = 0 := by
  refine keepsApart_clear.foldl_field (new := fun _ => 0) apart hf fun n => ?_
  rw [if_pos hrc]
  exact bitsN_setBitsN_of_lt (apart.1 f hf) (by positivity)

theorem RegSpec.clears_of_rc {sp : RegSpec} {f : Fld} (hf : f ∈ sp.flds) (hrc : f.acc = .rc) : sp.clears = true :=
  List.any_eq_true.2 ⟨f, hf, by rw [hrc]; rfl⟩

/-! ### Registers and wide values -/

/-- A field that ends below bit `w` is the same in the low `w` bits. -/
theorem bitsN_mod_two_pow {hi lo w : Nat} (n : Nat) (h : lo ≤ hi) (hw : hi < w) : bitsN (n % 2 ^ w) hi lo = bitsN n hi lo := by
  have e : 2 ^ w = 2 ^ lo * 2 ^ (w - lo) := by rw [← pow_add]; congr 1; omega
  unfold bitsN
  rw [e, Nat.mod_mul_right_div_self, Nat.mod_mod_of_dvd _ (pow_dvd_pow 2 (by omega))]

variable (d : Drive) (a k n : Nat)

/-- A register set to a number holds the number's fields. -/
theorem Drive.fld_setReg_word {hi lo : Nat} (h : lo ≤ hi) (h32 : hi < 32) : (d.setReg a (word n)).fld a hi lo = bitsN n hi lo := by
  unfold Drive.fld bits word
  rw [Drive.reg_setReg_same, BitVec.toNat_ofNat, bitsN_mod_two_pow n h h32]

/-- A wide value reads as the 64 bits written. -/
theorem Drive.wide_setWide : (d.setWide a n).wide a = n % 2 ^ 64 := by
  unfold Drive.wide Drive.setWide word
  rw [Drive.reg_setReg_same, Drive.reg_setReg_ne _ _ _ _ (show a ≠ a + 4 by omega), Drive.reg_setReg_same]
  simp only [BitVec.toNat_ofNat]
  omega

/-- Writing a wide value changes no register but its two words. -/
theorem Drive.reg_setWide_ne (h : k ≠ a) (h4 : k ≠ a + 4) : (d.setWide a n).reg k = d.reg k := by
  unfold Drive.setWide
  rw [Drive.reg_setReg_ne _ _ _ _ h4, Drive.reg_setReg_ne _ _ _ _ h]

/-! ### What entering a register leaves of the other registers (R11, R45) -/

variable {d a k n}

theorem Drive.storeFull_reg_ne {e : Env} {p : Path} {sp : RegSpec} (h : k ≠ regKey p a) (h4 : k ≠ regKey p a + 4) :
    (d.storeFull e p sp a n).reg k = d.reg k := by
  unfold Drive.storeFull
  dsimp only
  split_ifs
  · rfl
  · exact Drive.reg_setWide_ne _ _ _ _ h h4
  · exact Drive.reg_setReg_ne _ _ _ _ h

theorem Drive.withEdge_reg (p : Nat) (f : Drive → Drive) : (d.withEdge p f).reg k = (f d).reg k :=
  Drive.reg_of_regs _ _ _ (Drive.withEdge_regs ..)

/-- A written word changes no register but the one at its address, of a wide value its two words. -/
theorem Drive.storeWord_reg_ne {e : Env} {p : Path} {acc : List (Nat × Word)} {v : Word} (h : k ≠ regKey p a)
    (h4 : k ≠ regKey p a + 4) : (d.storeWord e p acc a v).reg k = d.reg k := by
  unfold Drive.storeWord
  split
  case h_1 => rfl
  case h_2 sp _ w _ =>
    by_cases hno : d.noStore p a = true
    · rw [if_pos hno]
    rw [if_neg hno]
    by_cases one : sp.words = 1
    · rw [if_pos one]
      split_ifs
      · rw [Drive.withEdge_reg, Drive.storeFull_reg_ne h h4]
      · exact Drive.storeFull_reg_ne h h4
    · rw [if_neg one]
      split_ifs
      · rfl
      · exact Drive.storeFull_reg_ne h h4
      · rfl
      · rfl

/-! ### A register write that passes every check -/

variable {s t : State} {p : Path} {arb : Arb} {v : Word}

theorem takes.env_eq (h : takes s p arb a v t) : t.env = s.env := h.1.rest.1

theorem fetches.env_eq (h : fetches s p arb a t) : t.env = s.env := h.1.rest.1

/-- One written word of an IPv6 address page: beside entering its register, an address that changed begins DAD again (R87). -/
theorem writeWords_ipv6 (d : Drive) (e : Env) (p : Path) (a : Nat) (v : Word) (h : plainPage a = false) :
    d.writeWords e p [(a, v)] = (hook e p a v d (d.storeWord e p [(a, v)] a v)).ipv6Writes d := by
  unfold plainPage at h
  unfold Drive.writeWords
  simp only [List.foldl_cons, List.foldl_nil, List.any_cons, List.any_nil, Bool.or_false]
  rw [if_pos (by simpa using h)]

/-- A register row that passes every check completes with the drive that its one written word leaves. -/
theorem gives_writeWords {i : Instr} {d : Drive} (h : exec i s = regRow p a v arb s) (hw : takes s p arb a v t)
    (hd : t.d.writeWords s.env p [(a, v)] = d) : Gives i s (d.accessed s p) := by
  refine gives_runOp h ?_
  unfold cmdOp
  rw [regWriteOp_done hw, hw.env_eq, hd]
  rfl

/-- Settles O13: the access is DONE with the one word written, on an IPv6 address page with DAD after it; and entering the
store reaches no key but those of the address. -/
theorem registerWriteCompletes : Obligations.RegisterWriteCompletes := by
  refine ⟨fun s t p arb a v d hw hd => ⟨fun hp => ?_, fun hp => ?_⟩, fun s p a k v => Drive.storeWord_reg_ne⟩
  · exact gives_reg rfl hw hp (by rw [hd])
  · have written : t.d.writeWords s.env p [(a, v)] = d.ipv6Writes t.d := by
      rw [writeWords_ipv6 _ _ _ _ _ hp, hd, ← hw.env_eq]
      rfl
    exact gives_writeWords rfl hw written

/-! ### A register read that passes every check -/

/-- The drive after a read of the one-word register at `a`: its RC fields are 0. -/
def Drive.cleared (d : Drive) (p : Path) (sp : RegSpec) (a : Nat) : Drive :=
  if sp.clears then d.setReg (regKey p a) (word (regClear (d.reg (regKey p a)).toNat sp.flds)) else d

/-- The drive after a read of the low word of the wide value at `a`: the RC fields of the value are 0. -/
def Drive.clearedWide (d : Drive) (p : Path) (sp : RegSpec) (a : Nat) : Drive :=
  if sp.clears then d.setWide (regKey p a) (regClear (d.wide (regKey p a)) sp.flds) else d

/-- The drive with the higher word of the wide value at `a` kept for path `p` (R45). -/
def Drive.snapped (d : Drive) (e : Env) (p : Path) (a : Nat) : Drive :=
  { d with snaps := FMap.insert d.snaps (pk p (a + 4)) (d.view e p (a + 4)) }

variable {sp : RegSpec} {i w : Nat} {e : Env}

theorem Drive.readWord_one (h : specOf a = some (sp, i, w)) (one : sp.words = 1) :
    d.readWord e p a = (d.view e p a, d.cleared p sp a) := by
  unfold Drive.readWord Drive.cleared
  simp only [h, one, if_true]

theorem Drive.readWord_low (h : specOf a = some (sp, i, 0)) (two : sp.words = 2) :
    d.readWord e p a = (d.view e p a, (d.snapped e p a).clearedWide p sp a) := by
  unfold Drive.readWord Drive.clearedWide
  simp only [h, two, if_true]
  rfl

theorem Drive.cleared_of_not (h : sp.clears = false) : d.cleared p sp a = d := if_neg (by rw [h]; decide)

/-- Clearing the register at `a` changes the register store alone. -/
theorem Drive.cleared_frame : d.cleared p sp a = { d with regs := (d.cleared p sp a).regs, saved := (d.cleared p sp a).saved } := by
  unfold Drive.cleared
  split_ifs <;> rfl

theorem Drive.clearedWide_frame :
    d.clearedWide p sp a = { d with regs := (d.clearedWide p sp a).regs, saved := (d.clearedWide p sp a).saved } := by
  unfold Drive.clearedWide
  split_ifs <;> rfl

theorem Drive.cleared_reg_ne (h : k ≠ regKey p a) : (d.cleared p sp a).reg k = d.reg k := by
  unfold Drive.cleared
  split_ifs
  · exact Drive.reg_setReg_ne _ _ _ _ h
  · rfl

theorem Drive.clearedWide_reg_ne (h : k ≠ regKey p a) (h4 : k ≠ regKey p a + 4) : (d.clearedWide p sp a).reg k = d.reg k := by
  unfold Drive.clearedWide
  split_ifs
  · exact Drive.reg_setWide_ne _ _ _ _ h h4
  · rfl

theorem Drive.fld_cleared {f : Fld} (apart : fieldsApart sp.flds) (hf : f ∈ sp.flds) (h32 : f.hi < 32) (hrc : f.acc = .rc) :
    (d.cleared p sp a).fld (regKey p a) f.hi f.lo = 0 := by
  unfold Drive.cleared
  rw [if_pos (RegSpec.clears_of_rc hf hrc), Drive.fld_setReg_word _ _ _ (apart.1 f hf) h32, bitsN_regClear _ apart hf hrc]

theorem Drive.wide_clearedWide {f : Fld} (apart : fieldsApart sp.flds) (hf : f ∈ sp.flds) (h64 : f.hi < 64) (hrc : f.acc = .rc) :
    bitsN ((d.clearedWide p sp a).wide (regKey p a)) f.hi f.lo = 0 := by
  unfold Drive.clearedWide
  rw [if_pos (RegSpec.clears_of_rc hf hrc), Drive.wide_setWide, bitsN_mod_two_pow _ (apart.1 f hf) h64,
    bitsN_regClear _ apart hf hrc]

/-- A read that passes every check completes with the word read and the drive that reading it leaves. -/
theorem rcRegisterRead_gives (h : fetches s p arb a t) {v : Word} (hr : t.d.readWord s.env p a = (v, d)) :
    Gives (.rcRegisterRead p a arb) s (d.done p [v]) := by
  refine gives_runOp rfl ?_
  rw [regReadOp_done h, h.env_eq, hr]

/-- Settles O14: the access is DONE with the value read and only clearing has changed the store, for a one-word register and for
the low word of a wide value. -/
theorem rcRegisterReadCompletes : Obligations.RcRegisterReadCompletes := by
  refine fun s t p arb a sp i h => ⟨fun w hspec one => ?_, fun hspec two => ?_⟩
  · refine ⟨_, rcRegisterRead_gives h (Drive.readWord_one hspec one), ?_, fun k hk => Drive.cleared_reg_ne hk,
      fun hno => ?_, fun apart h32 f hf hrc => Drive.fld_cleared apart hf (h32 f hf) hrc⟩
    · exact congrArg (Drive.done · p _) Drive.cleared_frame
    · rw [Drive.cleared_of_not hno]
      rfl
  · refine ⟨_, rcRegisterRead_gives h (Drive.readWord_low hspec two), ?_, fun k hk hk4 => Drive.clearedWide_reg_ne hk hk4,
      fun apart h64 f hf hrc => Drive.wide_clearedWide apart hf (h64 f hf) hrc⟩
    exact congrArg (Drive.done · p _) Drive.clearedWide_frame

/-! ### The step on an empty queue (R3) -/

theorem Clock.tick_optime (c : Clock) : c.tick.optime = c.optime + 1 := rfl

/-- A millisecond counts no power cycle, whether or not the stored mark advances with it. -/
theorem Clock.tick_pcycle (c : Clock) : c.tick.pcycle = c.pcycle := by
  unfold Clock.tick Clock.advance
  split_ifs <;> rfl

theorem step_of_empty (s : State) (h : s.pending = []) : step s = idle s := by
  unfold step
  rw [h]

theorem idle_of_on (s : State) (on : s.d.isOn 0 = true) : idle s = .next (({ s with clk := s.clk.tick } : State).lift idleOp) :=
  if_pos on

theorem idle_of_not_on (s : State) (off : s.d.isOn 0 = false) : idle s = .next s := if_neg (by rw [off]; decide)

/-- Settles O2: the idle step ticks the clock while AON is ON, and returns the state as it is otherwise. -/
theorem idleLetsTimePass : Obligations.IdleLetsTimePass :=
  ⟨fun s hq on => ⟨_, (step_of_empty s hq).trans (idle_of_on s on), s.clk.tick_optime, s.clk.tick_pcycle, hq, rfl⟩,
    fun s hq off => (step_of_empty s hq).trans (idle_of_not_on s off)⟩

end Sys2Proof.Machine
end

section
/-! PROOFS. Chapter 1 (01_architecture.md): the resets of the drive and what they leave (R30 to R33, R492), the reference clock
and the power-on reset (R24, R29), start-up (R34 to R37), the guard that gives a unit up (R17), a grant without MGMT (R25), and
the power domains (R21 to R28, R399 to R402). Each operation has one equation per case; the statements are put together from
them. -/

namespace Sys2Proof.Machine

variable {s t : State} {d d' : Drive} {e : Env} {p : Path} {arb : Arb} {v : Word}

/-- A row after which commands that waited may run completes with what they make of the drive its effect gives. -/
theorem gives_cmdOp {i : Instr} {f : Effect} (h : exec i s = runOp (cmdOp f) s) (hf : f s.env s.d = d) : Gives i s (d.settled s.env) :=
  gives_runOp h (by unfold cmdOp; rw [hf])

/-! ### What a full reset leaves (R30) -/

@[simp] theorem Drive.resetEnd_pwr :
    d.resetEnd.pwr = { d.pwr with fw := false, readReady := false, warm := true, fawnStep := 0, ps := .active } := by
  unfold Drive.resetEnd
  rw [Drive.setPs_pwr]
  rfl

@[simp] theorem Drive.resetEnd_recs : d.resetEnd.jrn.recs = d.jrn.recs.map fun r => { r with settled := true } := by
  unfold Drive.resetEnd
  rw [Drive.setPs_jrn]
  rfl

/-- Settles O24: the second part of the reset writes the supplies and the records, whatever the first part made of them. -/
theorem fullResetLeaves : Obligations.FullResetLeaves := by
  intro d e cause dom
  dsimp only
  unfold Drive.fullReset
  rw [Drive.resetEnd_pwr, Drive.resetEnd_recs]
  refine ⟨rfl, rfl, rfl, rfl, rfl, fun r hr => ?_⟩
  obtain ⟨x, -, rfl⟩ := List.mem_map.1 hr
  rfl

/-! ### Resets of the drive and of domains (R30 to R33, R492) -/

theorem rstCtlW_full (key : bits v 31 24 = 0xA5) (noFlush : d.jrn.flush = none) (full : bit v 16 = true) :
    rstCtlW v e d = (d.fullReset e 2 none).restart e := by
  unfold rstCtlW
  rw [if_neg (by simp [key, noFlush]), if_pos full]

theorem rstCtlW_domain (key : bits v 31 24 = 0xA5) (noFlush : d.jrn.flush = none) (notFull : bit v 16 = false) (go : bit v 15 = true)
    (taken : d.rstRefused v = false) : rstCtlW v e d = d.domainReset e (bits v 4 0) := by
  unfold rstCtlW
  rw [if_neg (by simp [key, noFlush]), if_neg (by simp [notFull]), if_pos (by simp [go, taken])]

/-- The drive takes a RESET_N that goes low: it is powered, chain-ready, and no flush runs. -/
def Drive.heedsReset (d : Drive) : Prop := d.pwr.v12 = true ∧ d.pwr.aux = true ∧ d.jrn.flush = none ∧ d.pwr.chainReady = true

variable {ns : Nat}

/-- RESET_N low for 1 µs resets the drive, which its release lets start again. -/
theorem resetNAssertOp_long (h : d.heedsReset) (long : 1000 ≤ ns) :
    resetNAssertOp ns e d =
      (({ d with pwr := { d.pwr with resetPin := false } }).fullReset e 1 none).onPwr fun p => { p with resetHold := true } := by
  obtain ⟨v12, aux, noFlush, ready⟩ := h
  unfold resetNAssertOp
  rw [if_neg (show ¬(100 ≤ ns ∧ ns < 1000) by omega)]
  simp only [long, decide_true, Bool.true_or, if_true]
  rw [if_neg (by simp [Drive.onPwr, v12, aux, noFlush, ready])]
  rfl

/-- RESET_N low for less than 100 ns does nothing. -/
theorem resetNAssertOp_short (short : ns < 100) : resetNAssertOp ns e d = d := by
  unfold resetNAssertOp
  rw [if_neg (show ¬(100 ≤ ns ∧ ns < 1000) by omega)]
  simp [show ¬1000 ≤ ns by omega, show ¬100 ≤ ns by omega]

/-- Between the two a free value says whether RESET_N is taken: not at all, or as a reset that start-up follows at once. -/
theorem resetNAssertOp_between (h : d.heedsReset) (lo : 100 ≤ ns) (hi : ns < 1000) :
    resetNAssertOp ns e d = { d with free := d.free + 1 } ∨
      resetNAssertOp ns e d = (({ d with free := d.free + 1 } : Drive).fullReset e 1 none).restart e := by
  obtain ⟨v12, aux, noFlush, ready⟩ := h
  unfold resetNAssertOp
  rw [if_pos ⟨lo, hi⟩]
  simp only [Drive.draw, show ¬1000 ≤ ns by omega, lo, v12, aux, noFlush, ready, decide_true, decide_false, Bool.false_or, Bool.true_and,
    Bool.not_true, Bool.or_false, Option.isSome_none, if_false]
  by_cases hit : (Config.randomNat d.free % 2 == 1) = true
  · exact Or.inr (if_neg (by simp [hit]))
  · exact Or.inl (if_pos (by simp [hit]))

theorem resetNReleaseOp_held (held : d.pwr.resetHold = true) :
    resetNReleaseOp e d = ({ d with pwr := { d.pwr with resetPin := true, resetHold := false } }).restart e := if_pos held

theorem resetNReleaseOp_free (free : d.pwr.resetHold = false) :
    resetNReleaseOp e d = { d with pwr := { d.pwr with resetPin := true } } := if_neg (by simp [Drive.onPwr, free])

theorem controllerFaultOp_up {k : Nat} (hk : k < 30) (up : d.isUp k = true) (v12 : d.pwr.v12 = true) (noFlush : d.jrn.flush = none)
    (free : d.pwr.resetHold = false) : controllerFaultOp k e d = (d.fullReset e 3 (some k)).restart e :=
  if_neg (by simp [hk, up, v12, noFlush, free])

/-- Settles O23: one equation per reset, on the drive that the written word, or the pin, leaves. -/
theorem resetsComplete : Obligations.ResetsComplete := by
  refine ⟨?_, ?_, ?_, ?_⟩
  · rintro s t p arb v d hw rfl key noFlush
    have noFlush' : (stored t p Reg.AON_RST_CTL v).jrn.flush = none := by rw [stored_jrn, noFlush]
    refine ⟨fun full => ?_, fun notFull go taken => ?_⟩
    · exact gives_reg rfl hw rfl (by rw [hook_AON_RST_CTL, rstCtlW_full key noFlush' full])
    · exact gives_reg rfl hw rfl (by rw [hook_AON_RST_CTL, rstCtlW_domain key noFlush' notFull go taken])
  · intro s ns v12 aux noFlush ready
    have h : s.d.heedsReset := ⟨v12, aux, noFlush, ready⟩
    refine ⟨fun long => gives_runOp rfl (resetNAssertOp_long h long), fun short => gives_runOp rfl (resetNAssertOp_short short),
      fun lo hi => ?_⟩
    exact (resetNAssertOp_between h lo hi).imp (gives_runOp rfl) (gives_runOp rfl)
  · exact fun s => ⟨fun held => gives_runOp rfl (resetNReleaseOp_held held), fun free => gives_runOp rfl (resetNReleaseOp_free free)⟩
  · exact fun s k hk up v12 noFlush free => gives_runOp rfl (controllerFaultOp_up hk up v12 noFlush free)

/-! ### The reference clock (R29, R33) -/

theorem refClockFaultOp_off (off : d.isOn 0 = false) : refClockFaultOp e d = { d with pwr := { d.pwr with refOk := false } } :=
  if_pos (by rw [off]; rfl)

theorem refClockFaultOp_kept (on : d.isOn 0 = true)
    (kept : d.pwr.clks.any (·.fast) = false ∨ d.pwr.v12 = false ∨ d.jrn.flush.isSome = true) : refClockFaultOp e d = d.refLost e := by
  unfold refClockFaultOp
  rw [if_neg (by simp [on])]
  refine if_neg ?_
  rcases kept with h | h | h
  · simp [h]
  · simp [h]
  · simp [Option.isNone_eq_false_iff.2 h]

theorem refClockFaultOp_reset (on : d.isOn 0 = true) (run : d.pwr.clks.any (·.fast) = true) (v12 : d.pwr.v12 = true)
    (noFlush : d.jrn.flush = none) : refClockFaultOp e d = ((d.refLost e).fullReset e 3 (some 0)).restart e := by
  unfold refClockFaultOp
  rw [if_neg (by simp [on])]
  exact if_pos (by simp [run, v12, noFlush])

/-! ### The power-on reset (R24, R30, R493) -/

@[simp] theorem Drive.recDrop_nor (code why now : Nat) : (d.recDrop code why now).recorder.nor = d.recorder.nor := by
  unfold Drive.recDrop
  rw [Drive.setInt_recorder, Drive.onRec_recorder]
  unfold Recorder.drop
  dsimp only
  split <;> rfl

@[simp] theorem Drive.recEnter_nor (clk : Clock) (code p0 p1 p2 p3 : Nat) : (d.recEnter clk code p0 p1 p2 p3).recorder.nor = d.recorder.nor := by
  unfold Drive.recEnter
  rw [Drive.peak_recorder]
  rfl

/-- An event of the drive's own enters the queue or is dropped: the NOR stays. -/
@[simp] theorem Drive.event_nor (code p0 p1 p2 p3 : Nat) : (d.event e code p0 p1 p2 p3).recorder.nor = d.recorder.nor := by
  unfold Drive.event Drive.offer
  dsimp only
  split_ifs <;> simp only [Drive.recDrop_nor, Drive.recEnter_nor, Drive.onRec_recorder, Recorder.setBucket]

/-- `d'` has of `d` what a power-on reset no longer touches once it has set up the supplies: of the supplies all but the clocks. -/
structure Drive.KeepsBlocks (d d' : Drive) : Prop where
  pwr : d'.pwr = { d.pwr with refOk := d'.pwr.refOk, clks := d'.pwr.clks }
  xpt : d'.xpt = d.xpt
  nss : d'.nss = d.nss
  jrn : d'.jrn = d.jrn
  cph : d'.cph = d.cph
  chn : d'.chn = d.chn
  nrg : d'.nrg = d.nrg
  nor : d'.recorder.nor = d.recorder.nor

namespace Drive.KeepsBlocks

theorem refl (d : Drive) : d.KeepsBlocks d := ⟨rfl, rfl, rfl, rfl, rfl, rfl, rfl, rfl⟩

variable (h : d.KeepsBlocks d')
include h

theorem resetDom (k : Nat) : d.KeepsBlocks (d'.resetDom k) := ⟨h.pwr, h.xpt, h.nss, h.jrn, h.cph, h.chn, h.nrg, h.nor⟩

theorem poke (a hi lo n : Nat) : d.KeepsBlocks (d'.poke a hi lo n) := ⟨h.pwr, h.xpt, h.nss, h.jrn, h.cph, h.chn, h.nrg, h.nor⟩

theorem acctRestart (e : Env) : d.KeepsBlocks (d'.acctRestart e) := ⟨h.pwr, h.xpt, h.nss, h.jrn, h.cph, h.chn, h.nrg, h.nor⟩

theorem clocks (ok : Bool) (cs : List ClkId) : d.KeepsBlocks { d' with pwr := { d'.pwr with refOk := ok, clks := cs } } where
  __ := h
  pwr := by rw [h.pwr]

theorem event (e : Env) (code p0 p1 p2 p3 : Nat) : d.KeepsBlocks (d'.event e code p0 p1 p2 p3) where
  pwr := by rw [Drive.event_pwr]; exact h.pwr
  xpt := (Drive.event_xpt ..).trans h.xpt
  nss := (Drive.event_nss ..).trans h.nss
  jrn := (Drive.event_jrn ..).trans h.jrn
  cph := (Drive.event_cph ..).trans h.cph
  chn := (Drive.event_chn ..).trans h.chn
  nrg := (Drive.event_nrg ..).trans h.nrg
  nor := (Drive.event_nor ..).trans h.nor

theorem refLost (e : Env) : d.KeepsBlocks (d'.refLost e) := by
  unfold Drive.refLost
  exact ((h.clocks false (d'.pwr.clks.filter fun c => !c.fast)).poke Reg.AON_RST_CAUSE 17 17 1).event e 0x101 0 0 0 0

end Drive.KeepsBlocks

/-- What a power-on reset does once the supplies are set up: AON's and RECORD's registers return to reset, and the reset is
recorded. -/
def Drive.rebooted (d : Drive) (e : Env) (uncl : Bool) : Drive :=
  let d := ((d.resetDom 0).resetDom 2).setUnclean uncl
  let d := (d.acctRestart e).event e 0x100 (d.reg Reg.AON_RST_CAUSE).toNat 0 0 0
  if d.pwr.refOk then d else d.refLost e

theorem Drive.keepsBlocks_rebooted (uncl : Bool) : d.KeepsBlocks (d.rebooted e uncl) := by
  have up := ((((KeepsBlocks.refl d).resetDom 0).resetDom 2).poke Reg.AON_RST_CAUSE 16 16 (b2n uncl)).acctRestart e
  unfold Drive.rebooted
  dsimp only
  split_ifs
  · exact up.event ..
  · exact (up.event ..).refLost e

/-- What a power-on reset finds: a journal that was not flushed leaves a blank image. -/
def Drive.imageFound (d : Drive) : Drive := if d.jrn.flush.isSome || !d.jrn.recs.isEmpty then d.cutImage 0 else d

/-- The drive once the power-on reset has set up its supplies: every volatile block is lost. -/
def Drive.powered (d : Drive) (now pcycle : Nat) (lead seg : Bool) : Drive :=
  (d.imageFound.medCrash.powerLose ⟨now, now, pcycle⟩).powerPins now lead seg

/-- From the supplies on, a power-on reset keeps the blocks. -/
theorem Drive.keepsBlocks_powerOn (d : Drive) (e : Env) (now pcycle : Nat) (lead seg : Bool) :
     (d.powered now pcycle lead seg).KeepsBlocks (d.powerOn e now pcycle lead seg) :=
  Drive.keepsBlocks_rebooted (e := { e with clk := ⟨now, now, pcycle⟩ }) d.imageFound.unclean

theorem State.powerOn_d {lead seg : Bool} :
    (s.powerOn lead seg).d = s.d.powerOn s.env s.clk.powerUp.optime s.clk.powerUp.pcycle lead seg := rfl

@[simp] theorem Drive.imageFound_pwr : d.imageFound.pwr = d.pwr := by
  unfold Drive.imageFound
  split_ifs
  · exact Drive.poke_pwr ..
  · rfl

@[simp] theorem Drive.imageFound_chn : d.imageFound.chn = d.chn := by
  unfold Drive.imageFound
  split_ifs
  · exact Drive.poke_chn ..
  · rfl

@[simp] theorem Drive.imageFound_recorder : d.imageFound.recorder = d.recorder := by
  unfold Drive.imageFound
  split_ifs
  · exact Drive.poke_recorder ..
  · rfl

theorem Drive.foldl_closeBand (ids : List Nat) :
    ids.foldl (fun d id => d.closeBand id) d = { d with med := (ids.foldl (fun d id => d.closeBand id) d).med } := by
  induction ids generalizing d with
  | nil => rfl
  | cons id ids ih => rw [List.foldl_cons, ih]; rfl

/-- What an unclean end leaves of the bands changes the media store alone. -/
theorem Drive.medCrash_eq : d.medCrash = { d with med := d.medCrash.med } := by
  unfold Drive.medCrash
  dsimp only
  rw [Drive.foldl_closeBand]
  rfl

@[simp] theorem Drive.medCrash_pwr : d.medCrash.pwr = d.pwr := by rw [Drive.medCrash_eq]

@[simp] theorem Drive.medCrash_chn : d.medCrash.chn = d.chn := by rw [Drive.medCrash_eq]

@[simp] theorem Drive.medCrash_recorder : d.medCrash.recorder = d.recorder := by rw [Drive.medCrash_eq]

@[simp] theorem Recorder.powerUp_nor (r : Recorder) (clk : Clock) (depth : Nat) : (r.powerUp clk depth).nor = r.nor := by
  unfold Recorder.powerUp
  dsimp only
  cases r.mark <;> rfl

/-- The supplies are set up with 12 V as it was, the stored chain settings and the NOR kept. -/
theorem Drive.powered_kept (d : Drive) (now pcycle : Nat) (lead seg : Bool) :
     (d.powered now pcycle lead seg).pwr.v12 = d.pwr.v12 ∧
    (d.powered now pcycle lead seg).chn.stored = d.chn.stored ∧ (d.powered now pcycle lead seg).recorder.nor = d.recorder.nor := by
  refine ⟨?_, ?_, ?_⟩
  · change d.imageFound.medCrash.pwr.v12 = _
    rw [Drive.medCrash_pwr, Drive.imageFound_pwr]
  · change d.imageFound.medCrash.chn.stored = _
    rw [Drive.medCrash_chn, Drive.imageFound_chn]
  · refine (Recorder.powerUp_nor ..).trans ?_
    rw [Drive.medCrash_recorder, Drive.imageFound_recorder]

/-- Settles O25: the fault keeps its mark or resets as its conditions say; after a power-on reset the blocks are as the supplies
were set up, from a drive whose supplies, chain settings and NOR were those before. -/
theorem clockAndPowerOn : Obligations.ClockAndPowerOn := by
  refine ⟨?_, fun s => gives_runOp rfl rfl, fun s lead seg => ?_⟩
  · rintro s d rfl
    exact ⟨fun on kept => gives_runOp rfl (refClockFaultOp_kept on kept),
      fun on run v12 noFlush => gives_runOp rfl (refClockFaultOp_reset on run v12 noFlush),
      fun off => gives_runOp rfl (refClockFaultOp_off off)⟩
  · obtain ⟨v12, chain, nor⟩ := s.d.powered_kept s.clk.powerUp.optime s.clk.powerUp.pcycle lead seg
    have kept := s.d.keepsBlocks_powerOn s.env s.clk.powerUp.optime s.clk.powerUp.pcycle lead seg
    refine ⟨_, rfl, ?_⟩
    rw [State.powerOn_d, kept.pwr, kept.xpt, kept.nss, kept.jrn, kept.cph, kept.chn, kept.nrg, kept.nor]
    exact ⟨rfl, rfl, rfl, v12, rfl, rfl, rfl, rfl, rfl, rfl, chain, nor, rfl, rfl⟩

/-! ### Start-up (R34 to R37, R383, R469, R492) -/

theorem chainReadyTimeoutOp_unready (on : d.isOn 0 = true) (unlocked : d.chn.lock = false) (unready : d.pwr.chainReady = false) :
    chainReadyTimeoutOp e d =
      if d.pwr.v12Waits && d.pwr.aux then ({ d with pwr := { d.pwr with chainReady := true } }).v12Up e
      else { d with pwr := { d.pwr with chainReady := true } } := by
  unfold chainReadyTimeoutOp Drive.chainIsReady
  rw [if_pos (by simp [on, unlocked]), if_neg (by simp [unready])]
  rfl

/-- With aux, chain-ready and RESET_N released, the 12 V half begins at once. -/
theorem Drive.v12Up_starts (aux : d.pwr.aux = true) (ready : d.pwr.chainReady = true) (pin : d.pwr.resetPin = true) :
    d.v12Up e = ({ d with pwr := { d.pwr with v12 := true } }).start12 e := by
  unfold Drive.v12Up Drive.onPwr
  dsimp only
  rw [if_neg (by simp [aux, ready]), if_neg (by simp [pin])]

theorem Drive.v12Up_waits (h : d.pwr.aux = false ∨ d.pwr.chainReady = false) :
    d.v12Up e = { d with pwr := { d.pwr with v12 := true, v12Waits := true } } := if_pos (by simpa [Drive.onPwr] using h)

theorem Drive.v12Up_held (aux : d.pwr.aux = true) (ready : d.pwr.chainReady = true) (pin : d.pwr.resetPin = false) :
    d.v12Up e = { d with pwr := { d.pwr with v12 := true, resetHold := true } } := by
  unfold Drive.v12Up Drive.onPwr
  dsimp only
  rw [if_neg (by simp [aux, ready]), if_pos (by simp [pin])]

theorem v12GoodOp_absent (noFlush : d.jrn.flush = none) (absent : d.pwr.v12 = false) : v12GoodOp e d = d.v12Up e := by
  unfold v12GoodOp
  rw [noFlush]
  exact if_neg (by simp [absent])

/-- FIRMWARE_RUNNING, up to the point where a demand makes the drive enter write-through. -/
def Drive.booted (d : Drive) (e : Env) (ck : BitVec 4) (failed : List (Nat × Nat)) : Drive :=
  let d := [15, 20, 21, 22, 23, 24, 25, 26, 27].foldl (fun (d : Drive) k => d.enable e k) { d with pwr := { d.pwr with fw := true } }
  let d := if d.pwr.warm then d else d.loadShadows
  let d := { d with upd := { d.upd.interrupted with
    carriers := (if d.pwr.warm then [] else failed).foldl (fun (cs : List Carrier) (x : Nat × Nat) => modAt cs x.1 fun c => c.startOther x.2)
      d.upd.interrupted.carriers } }
  let newer := ck.getLsbD 0 || ck.getLsbD 1
  let d := if d.unclean then d.replay e newer else d.loadIndex e newer
  [14, 16, 17, 18, 19, 28, 7, 8, 9].foldl (fun d k => d.enable e k) d

theorem firmwareRunningOp_begins (ck : BitVec 4) (failed : List (Nat × Nat)) (cl0 : d.isOn 6 = true) (fw : d.pwr.fw = false)
    (v12 : d.pwr.v12 = true) (noFlush : d.jrn.flush = none) :
    firmwareRunningOp ck failed e d = if (d.booted e ck failed).nrg.demand then (d.booted e ck failed).enterWt else d.booted e ck failed := by
  have doms : [15] ++ (List.range 8).map (20 + ·) = [15, 20, 21, 22, 23, 24, 25, 26, 27] := rfl
  unfold firmwareRunningOp
  rw [if_neg (by simp [cl0, fw, v12, noFlush]), doms]
  rfl

/-- The drive is read-ready, and what the replay took from DRAM is done with. -/
def Drive.nowReadReady (d : Drive) : Drive :=
  { d with pwr := { d.pwr with readReady := true, warm := false }, jrn := { d.jrn with fromDram := false } }

theorem readReadyOp_ready (fw : d.pwr.fw = true) (unready : d.pwr.readReady = false) (noFlush : d.jrn.flush = none)
    (noCkpt : d.jrn.ckptOpen = none) (idx : ∀ p ∈ d.med.idx, p.leaf = true ∨ p.here = true) :
    readReadyOp e d = Drive.tryWriteReady e (if d.flag Reg.JRN_STAT 4 then
      ((d.nowReadReady.poke Reg.JRN_STAT 4 4 0).setReg Reg.JRN_RPL_MS (word (e.clk.optime - d.jrn.replayAt))).moveFlushed
      else d.nowReadReady) := by
  have here : (d.med.idx.any fun p => !p.leaf && !p.here) = false := by
    refine List.any_eq_false.2 fun p hp => ?_
    rcases idx p hp with h | h <;> simp [h]
  unfold readReadyOp
  exact if_neg (by simp [fw, unready, noFlush, noCkpt, here])

/-- Settles O21: one equation per step of start-up, then the conditions of its cases. -/
theorem startUpCompletes : Obligations.StartUpCompletes := by
  refine fun s => ⟨?_, ?_, ?_, ?_, ?_⟩
  · rintro on unlocked unready d rfl
    have timeout := chainReadyTimeoutOp_unready (e := s.env) on unlocked unready
    refine ⟨fun h => gives_runOp rfl (timeout.trans (if_neg ?_)), fun waits aux pin => gives_runOp rfl (timeout.trans ?_)⟩
    · rcases h with h | h <;> simp [h]
    · rw [if_pos (by simp [waits, aux])]
      exact Drive.v12Up_starts aux rfl pin
  · rintro noFlush absent d rfl
    have good := v12GoodOp_absent (e := s.env) noFlush absent
    exact ⟨fun aux ready pin => gives_runOp rfl (good.trans (Drive.v12Up_starts aux ready pin)),
      fun h => gives_runOp rfl (good.trans (Drive.v12Up_waits h)),
      fun aux ready pin => gives_runOp rfl (good.trans (Drive.v12Up_held aux ready pin))⟩
  · rintro ck failed cl0 fw v12 noFlush _ _ _ _ d5 rfl rfl rfl rfl h5
    have booted : d5 = s.d.booted s.env ck failed := h5
    subst booted
    have runs := firmwareRunningOp_begins (e := s.env) ck failed cl0 fw v12 noFlush
    exact ⟨fun free => gives_runOp rfl (runs.trans (if_neg (by simp [free]))), fun demand => gives_runOp rfl (runs.trans (if_pos demand))⟩
  · rintro fw unready noFlush noCkpt idx d rfl
    have ready := readReadyOp_ready (e := s.env) fw unready noFlush noCkpt idx
    refine ⟨fun clean => gives_cmdOp rfl (ready.trans ?_), fun replayed => gives_cmdOp rfl (ready.trans ?_)⟩
    · rw [if_neg (by simp [clean])]
      rfl
    · rw [if_pos replayed]
      rfl
  · intro unready v12 ready drained level noFlush
    exact gives_runOp rfl (if_pos (by simp [unready, v12, ready, drained, level, noFlush]))

section
variable {id unit seg u : Nat} {r : JRec}

/-! ### Units given up (R17, R284) -/

/-- On the ingress leg an accepted command ends with ABORTED_FAULT. -/
theorem guardGiveupOp_ingress (hr : d.rec? id = some r) (acc : r.st = .accepted) :
    guardGiveupOp .ingress id unit e d =
      (((((d.bump Reg.FAB_GUARD_INGRESS d.resendMax).bump Reg.FAB_GUARD_GIVEUP 1).event e 0x400 0 r.flow.toNat r.tag.toNat unit).endRec e id
        ⟨0x11, 0⟩).settleRecs) := by
  have hr' : (d.bump Reg.FAB_GUARD_INGRESS d.resendMax).rec? id = some r := hr
  unfold guardGiveupOp Drive.ingressAbandon
  simp only [hr, hr', acc, ne_eq, not_true, if_false]

/-- What the guard counts and records of a unit given up on the drain leg, before its command or its pass ends. -/
def Drive.drainGone (d : Drive) (e : Env) (r : JRec) (seg u : Nat) : Drive :=
  (((d.bump Reg.FAB_GUARD_DRAIN (d.resendMax - d.counted (fun q => q.use == .drain r.rsn seg) u)).dropDrain r.rsn seg).bump
    Reg.FAB_GUARD_GIVEUP 1).event e 0x400 1 r.flow.toNat r.tag.toNat (r.unitAt seg u)

theorem giveupDrain_pending (pend : r.pending = true) :
    d.giveupDrain e r seg u = ((d.drainGone e r seg u).endRec e r.rsn ⟨0x11, 0⟩).settleRecs := by
  unfold Drive.giveupDrain Drive.drainAbandon
  exact if_pos pend

theorem giveupDrain_spill (acked : r.pending = false) (spill : 0x80000000 ≤ seg) :
    d.giveupDrain e r seg u =
      (d.drainGone e r seg u).onRec' r.rsn fun y => { y with spills := y.spills.filter fun z => !(z.1 == seg - 0x80000000) } := by
  unfold Drive.giveupDrain Drive.drainAbandon
  exact (if_neg (by simp [acked])).trans (if_pos spill)

theorem giveupDrain_segment (acked : r.pending = false) (drain : seg < 0x80000000) :
    d.giveupDrain e r seg u =
      ((d.drainGone e r seg u).onDrain r.rsn seg fun x => { x with asked := false, gone := true }).onRec' r.rsn fun y => { y with
        passes := (r.unitAt seg u, ((r.passes.find? (·.1 == r.unitAt seg u)).map (·.2)).getD 0 + 1) ::
          y.passes.filter fun p => !(p.1 == r.unitAt seg u) } := by
  unfold Drive.giveupDrain Drive.drainAbandon
  exact (if_neg (by simp [acked])).trans (if_neg (by omega))

/-- The unit lies in segment `seg` of the record's drain, at `u`: in one whose encryption is asked for, or else in a spilled
run. -/
def JRec.drains (r : JRec) (unit seg u : Nat) : Prop :=
  (seg = r.segAt unit ∧ u = unit + r.payAt / 4096 - 16 * seg ∧ ∃ x ∈ r.drain.getD [], x.index = seg ∧ x.asked = true ∧ x.done = false) ∨
    (seg = 0x80000000 + unit / 16 ∧ u = unit % 16 ∧ (∃ y ∈ r.spills, y.1 = unit / 16 ∧ y.2.2 = false) ∧
      ∀ x ∈ r.drain.getD [], x.index = r.segAt unit → x.asked = true → x.done = true)

/-- On the drain leg the guard gives up the unit of the segment that drains, or of the run that spills. -/
theorem guardGiveupOp_drain (hr : d.rec? id = some r) (h : r.drains unit seg u) :
    guardGiveupOp .drain id unit e d = d.giveupDrain e r seg u := by
  unfold guardGiveupOp
  simp only [hr]
  rcases h with ⟨rfl, rfl, x, hx, at_, asked, undone⟩ | ⟨rfl, rfl, ⟨y, hy, run, there⟩, asleep⟩
  · exact if_pos (List.any_eq_true.2 ⟨x, hx, by simp [at_, asked, undone]⟩)
  · rw [if_neg, if_pos]
    · exact List.any_eq_true.2 ⟨y, hy, by simp [run, there]⟩
    · simpa using asleep

/-- On the egress leg the read ends with MEDIA_UNREADABLE. -/
theorem guardGiveupOp_egress {j : Job} (hj : d.job? id = some j) :
    guardGiveupOp .egress id unit e d = ((d.bump Reg.FAB_GUARD_EGRESS d.resendMax).readGiveup e j unit).jobEnd e j 0xF none := by
  unfold guardGiveupOp
  simp only [hj]

/-- Eight passes given up in a row leave the segment unwritten and its unit counted as unreadable. -/
theorem drainGivenUpOp_eight (hr : d.rec? id = some r) (com : r.st = .committed) (eight : ∃ n, (unit, n) ∈ r.passes ∧ 8 ≤ n)
    (undone : ∃ x ∈ r.drain.getD [], x.index = r.segAt unit ∧ x.done = false) :
    drainGivenUpOp id unit e d =
      ((d.event e 0x400 3 r.flow.toNat r.tag.toNat unit).countUnreadable e 0 (bodyNs r.body) r.version (r.segAt unit)).loseSeg r
        (r.segAt unit) := by
  obtain ⟨n, hn, le⟩ := eight
  obtain ⟨x, hx, at_, undone⟩ := undone
  have passed : (r.passes.any fun p => p.1 == unit && decide (8 ≤ p.2)) = true := List.any_eq_true.2 ⟨_, hn, by simp [le]⟩
  have left : ((r.drain.getD []).all fun x => !(x.index == r.segAt unit) || x.done) = false :=
    List.all_eq_false.2 ⟨x, hx, by simp [at_, undone]⟩
  unfold drainGivenUpOp
  simp only [hr]
  exact if_neg (by simp [com, passed, left])

/-- Settles O28: one equation per leg, and on the drain leg one per fate of the command. -/
theorem guardGivesUp : Obligations.GuardGivesUp := by
  refine fun s id unit => ⟨fun r hr => ⟨fun acc => ?_, ?_⟩, ?_, fun r hr com eight undone => ?_⟩
  · exact gives_cmdOp rfl (guardGiveupOp_ingress hr acc)
  · rintro seg u h d rfl
    have gone := guardGiveupOp_drain (e := s.env) hr h
    exact ⟨fun pend => gives_cmdOp rfl (gone.trans (giveupDrain_pending pend)),
      fun acked drain => gives_cmdOp rfl (gone.trans (giveupDrain_segment acked drain)),
      fun acked spill => gives_cmdOp rfl (gone.trans (giveupDrain_spill acked spill))⟩
  · rintro j tag hj rfl
    exact gives_cmdOp rfl (guardGiveupOp_egress hj)
  · exact gives_cmdOp rfl (drainGivenUpOp_eight hr com eight undone)

end

/-! ### A grant over I3C while MGMT is not ON (R25, R386) -/

/-- With MGMT not ON, the AON front end serves an I3C write of NRG_ALLOT_SET itself. -/
theorem regWriteOp_allot_without_mgmt (on : d.isOn 0 = true) (off : d.isOn 3 = false) :
    regWriteOp .i3c Reg.NRG_ALLOT_SET v arb e d = (d.grant .i3c (bits v 9 0)).done .i3c [] := by
  have served : d.access e .i3c Reg.NRG_ALLOT_SET false 1 [v] arb = (⟨0, 0, []⟩, d.grant .i3c (bits v 9 0)) := by
    unfold Drive.access
    rw [off]
    rfl
  unfold regWriteOp Drive.regAccess
  rw [if_neg (by simp [on])]
  dsimp only
  rw [served]
  rfl

/-- Settles O16: the register's command is the grant of the path; without MGMT the front end makes the I3C grant. -/
theorem allotmentWriteWithoutMgmt : Obligations.AllotmentWriteWithoutMgmt := by
  refine ⟨fun s t p arb v hw => ?_, fun s v arb on off => ?_⟩
  · exact gives_reg rfl hw rfl (by rw [hook_NRG_ALLOT_SET])
  · refine gives_runOp rfl ?_
    unfold cmdOp
    rw [regWriteOp_allot_without_mgmt on off]
    rfl

section
variable {k : Nat} {r : Bool}

/-! ### Enable requests (R23, R28, R399) -/

theorem Drive.enable1_on (h : d.pdSt k = .on) : d.enable1 e k = d := by
  unfold Drive.enable1
  rw [h]

theorem Drive.enable1_draining (h : d.pdSt k = .draining) : d.enable1 e k = d.onPd k fun x => { x with pend := true } := by
  unfold Drive.enable1
  rw [h]

/-- A domain that is down comes ON, is held, or waits. -/
theorem Drive.enable1_down (h : d.pdSt k = .off ∨ d.pdSt k = .retain) :
    d.enable1 e k = if d.mayStart' k && (needsOf k).all d.isOn then d.pdOn e k
      else if d.forcedOff k || k == 0 then d else d.onPd k fun x => { x with want := true } := by
  unfold Drive.enable1
  rcases h with h | h <;> rw [h]

theorem Drive.mayStart_iff (h2 : k ≠ 2) : d.mayStart' k = true ↔
    k ≠ 0 ∧ (d.pwr.v12 = true ∧ d.pwr.aux = true ∨ d.jrn.flush.isSome ∧ k ∉ lossDoms) ∧ d.forcedOff k = false ∧ d.pwr.resetHold = false ∧
      ∀ c ∈ clocksOf k, c ∈ (d.startClocks k).pwr.clks := by
  unfold Drive.mayStart' Drive.clockable Drive.clocked
  simp [h2, and_assoc]

theorem domainEnableOp_eq (hk : k < 30) :
    domainEnableOp k e d =
      if d.forcedOff k then d else (needsOf k ++ [k] ++ besides k).foldl (fun d j => d.enable1 e j) d := if_neg (by omega)

/-- An enable of a MEDIA domain ends IDLE. -/
theorem domainEnableRowOp_eq : domainEnableRowOp k e d =
    domainEnableOp k e (if 20 ≤ k ∧ k < 28 ∧ d.pwr.ps = .idle then d.leaveIdle e else d) := by
  unfold domainEnableRowOp
  by_cases idle : d.pwr.ps = .idle
  · simp [idle]
  · have stays : d.leaveIdle e = d := if_neg idle
    simp [idle, stays]

theorem domainEnableRowOp_none (hk : 30 ≤ k) : domainEnableRowOp k e d = d := by
  rw [domainEnableRowOp_eq, if_neg (by omega)]
  exact if_pos hk

/-! ### Disable requests (R23, R24, R399, R401) -/

theorem domainDisableOp_kept (h : k = 0 ∨ k = 2 ∨ 30 ≤ k ∨ d.jrn.flush.isSome) : domainDisableOp k r e d = d := if_pos h

theorem domainDisableOp_taken (h0 : k ≠ 0) (h2 : k ≠ 2) (hk : k < 30) (noFlush : d.jrn.flush = none) :
    domainDisableOp k r e d = d.disable e k r := if_neg (by simp [h0, h2, noFlush]; omega)

theorem Drive.disable_on (h : d.pdSt k = .on) : d.disable e k r =
    if !d.needed k then d.beginDown e k (r && canRetain k)
    else if k = 11 then d.beginDown e k true
    else d.onPd k fun x => { x with held := true, target := if r && canRetain k then .retain else .off } := by
  unfold Drive.disable
  rw [h]

theorem Drive.disable_draining (h : d.pdSt k = .draining) : d.disable e k r = d.onPd k fun x => { x with pend := false } := by
  unfold Drive.disable
  rw [h]

theorem Drive.pdSt_of_isOn (h : d.isOn k = true) : d.pdSt k = .on := by simpa [Drive.isOn] using h

theorem Drive.disable_down (h : d.isUp k = false) : d.disable e k r = d := by
  unfold Drive.disable
  cases st : d.pdSt k
  case on | draining => simp [Drive.isUp, st] at h
  case off | retain => rfl

theorem Drive.needed_iff : d.needed k = true ↔
    (∃ j ∈ pdOrder, k ∈ needsOf j ∧ d.isUp j = true) ∨ k = 28 ∧ ∃ j, 16 ≤ j ∧ j ≤ 19 ∧ d.isUp j = true := by
  have mats : [16, 17, 18, 19].any d.isUp = true ↔ ∃ j, 16 ≤ j ∧ j ≤ 19 ∧ d.isUp j = true := by
    rw [List.any_eq_true]
    refine exists_congr fun j => ?_
    rw [← and_assoc]
    refine and_congr_left fun _ => ?_
    simp only [List.mem_cons, List.not_mem_nil, or_false]
    omega
  unfold Drive.needed dependents
  rw [Bool.or_eq_true, Bool.and_eq_true, mats, List.any_eq_true]
  simp [and_assoc]

/-! ### Shutdowns (R399) -/

theorem Drive.shutdownDone_other (h : d.pdSt k ≠ .draining) : d.shutdownDone e k = d := if_pos h

theorem Drive.shutdownDone_target (h : d.pdSt k = .draining) (pend : (d.pd k).pend = false) :
    d.shutdownDone e k = (((d.shutdownSave e k).pdDown k ((d.pd k).target == .retain)).runHeldDown e).runWants e := by
  unfold Drive.shutdownDone
  rw [if_neg (by simp [h])]
  simp only [pend, Bool.not_false, Bool.and_true, Bool.false_eq_true, if_false]

theorem Drive.shutdownDone_pending (h : d.pdSt k = .draining) (pend : (d.pd k).pend = true) :
    d.shutdownDone e k = ((((d.shutdownSave e k).pdDown k false).enable e k).runHeldDown e).runWants e := by
  unfold Drive.shutdownDone
  rw [if_neg (by simp [h])]
  simp only [pend, Bool.not_true, Bool.and_false, if_true]

/-- Settles O56: the equations of the requests, one per state of the domain. -/
theorem powerDomains : Obligations.PowerDomains := by
  refine ⟨fun d e k => ⟨Drive.enable1_on, Drive.enable1_draining, fun down => ⟨fun may => ?_, fun may => ?_⟩⟩,
    fun d k h2 => Drive.mayStart_iff h2, ?_, ?_, ?_, ?_, fun d k => Drive.needed_iff, ?_, ?_⟩
  · rw [Drive.enable1_down down, if_pos (by simpa using may)]
  · rw [Drive.enable1_down down, if_neg (by simpa using may)]
    simp
  · exact fun s k hk => ⟨gives_runOp rfl (domainEnableRowOp_none hk), fun r => gives_runOp rfl (domainDisableOp_kept (by omega))⟩
  · rintro s k d hk rfl
    have row : domainEnableRowOp k s.env s.d = _ := domainEnableRowOp_eq.trans (domainEnableOp_eq hk)
    refine ⟨fun held => gives_runOp rfl (row.trans (if_pos held)),
      fun free other => gives_runOp rfl (row.trans ((if_neg (by simp [free])).trans ?_)),
      fun free mat => gives_runOp rfl (row.trans ((if_neg (by simp [free])).trans ?_))⟩
    · rw [besides, if_neg other, List.append_nil]
    · rw [besides, if_pos mat, ← List.append_assoc]
  · exact fun s k r h => gives_runOp rfl (domainDisableOp_kept (by tauto))
  · intro s k r h0 h2 hk noFlush
    have taken : domainDisableOp k r s.env s.d = _ := domainDisableOp_taken h0 h2 hk noFlush
    refine ⟨fun on => ?_, fun draining => gives_runOp rfl (taken.trans (Drive.disable_draining draining)),
      fun down => gives_runOp rfl (taken.trans (Drive.disable_down down))⟩
    have off := taken.trans (Drive.disable_on (Drive.pdSt_of_isOn on))
    refine ⟨fun free => gives_runOp rfl (off.trans (if_pos (by simp [free]))), ?_, ?_⟩
    · rintro needed rfl
      exact gives_runOp rfl (off.trans ((if_neg (by simp [needed])).trans (if_pos rfl)))
    · exact fun needed other => gives_runOp rfl (off.trans ((if_neg (by simp [needed])).trans (if_neg other)))
  · refine fun s k => ⟨fun other => ?_, fun draining still => ?_, fun draining pend => ?_⟩
    · exact gives_runOp rfl (congrArg (Drive.flushBegin · s.env) (Drive.shutdownDone_other other))
    · exact gives_runOp rfl (congrArg (Drive.flushBegin · s.env) (Drive.shutdownDone_target draining still))
    · exact gives_runOp rfl (congrArg (Drive.flushBegin · s.env) (Drive.shutdownDone_pending draining pend))
  · rintro s t p arb v d hw rfl
    refine gives_reg rfl hw rfl ?_
    rw [hook_AON_PD_FORCE_OFF]
    rfl

end

end Sys2Proof.Machine
end

section
/-! PROOFS. Chapter 2 (02_register_pages.md): which paths may write a page (R47), RWL fields (R54), the checks of an access and
their order (R55, R527), wide values (R45), the delivery of page interrupts (R60, R61), and the I3C sideband (R50 to R52, R528). -/

namespace Sys2Proof.Machine

/-! ### The paths that may write a page (R47) -/

/-- The paths that may write page `n`, as a mask: bit 0 chain, bit 1 I3C, bit 2 network. -/
def pageWpath (n : Nat) : Nat := if n = 0 then 0 else if n = 3 ∨ n = 4 then 3 else if n = 16 then 2 else 7

theorem pageInfo_none {n : Nat} (h : 0x90 ≤ n) : pageInfo n = none := by
  unfold pageInfo
  repeat rw [if_neg (by omega)]

/-- The directory gives each page the mask of R47. -/
theorem pageInfo_wpath {n : Nat} {i : PageInfo} (h : pageInfo n = some i) : i.wpath = pageWpath n := by
  have directory : ∀ n < 0x90, ((pageInfo n).all fun i => i.wpath == pageWpath n) = true := by decide
  have listed : n < 0x90 := by
    by_contra beyond
    rw [pageInfo_none (by omega)] at h
    cases h
  have row := directory n listed
  rw [h] at row
  exact eq_of_beq row

theorem mayWrite_eq {p : Path} {a : Nat} (h : (pageInfo (a / 4096)).isSome) :
    mayWrite p a = bitN (pageWpath (a / 4096)) (Path.code p) := by
  obtain ⟨i, hi⟩ := Option.isSome_iff_exists.1 h
  unfold mayWrite
  rw [hi, ← pageInfo_wpath hi]

/-- Settles O8: the directory's mask of the page has the path's bit set. -/
theorem pagesTakeWritesByPath : Obligations.PagesTakeWritesByPath := by
  intro p a h
  rw [mayWrite_eq h]
  unfold pageWpath
  split_ifs with dir supply debug
  · cases p <;> simp [bitN, dir]
  · have noDebug : a / 4096 ≠ 16 := by omega
    cases p <;> simp [bitN, Path.code, dir, supply, noDebug]
  · cases p <;> simp [bitN, Path.code, debug]
  · cases p <;> simp [bitN, Path.code, dir, supply, debug]

/-! ### RWL fields (R54) -/

section
variable {d : Drive} {e : Env} {p : Path} {a i w : Nat} {v : Word} {sp : RegSpec}

/-- Beside AON_RST_CTL, a write is refused for the state exactly where the state is closed, the register takes the word, and an
RWL field that takes its part of it would change. -/
theorem Drive.stateRefused_iff (ha : a ≠ Reg.AON_RST_CTL) (hs : specOf a = some (sp, i, w)) : d.stateRefused e p a v = true ↔
    d.rwlOpen p a = false ∧ d.takesWhole e a v.toNat = true ∧
      ∃ f ∈ sp.flds, f.acc = .rwl ∧ f.takes (bitsN v.toNat f.hi f.lo) = true ∧
        bitsN v.toNat f.hi f.lo ≠ bitsN (d.rwlNow p a) f.hi f.lo := by
  unfold Drive.stateRefused
  rw [if_neg ha, hs]
  simp [and_assoc]

/-- A write that is refused for the state, beside one to AON_RST_CTL, is to a register. -/
theorem Drive.specOf_of_stateRefused (ha : a ≠ Reg.AON_RST_CTL) (refused : d.stateRefused e p a v = true) :
    ∃ sp i w, specOf a = some (sp, i, w) := by
  unfold Drive.stateRefused at refused
  rw [if_neg ha] at refused
  cases hs : specOf a with
  | none => rw [hs] at refused; cases refused
  | some x => exact ⟨x.1, x.2.1, x.2.2, rfl⟩

/-- A write that keeps every RWL field is not refused for the state. -/
theorem Drive.stateRefused_of_kept (ha : a ≠ Reg.AON_RST_CTL) (hs : specOf a = some (sp, i, w))
    (kept : ∀ f ∈ sp.flds, f.acc = .rwl → bitsN v.toNat f.hi f.lo = bitsN (d.rwlNow p a) f.hi f.lo) : d.stateRefused e p a v = false := by
  rw [Bool.eq_false_iff, Ne, Drive.stateRefused_iff ha hs]
  rintro ⟨-, -, f, hf, rwl, -, changed⟩
  exact changed (kept f hf rwl)

/-- A write meets no refusal where the path may write the page, the domain is ON and the state allows it. -/
theorem Drive.writeCheck_of (path : mayWrite p a = true) (on : d.isOn (keyDom a) = true) (state : d.stateRefused e p a v = false) :
    d.writeCheck e p a v = 0 := by
  unfold Drive.writeCheck
  simp [path, on, state]

/-- Settles O9: a refusal names the RWL field that would change; without one the checks of the register pass, and the pass over
the fields gives each RW field its part of the word. -/
theorem stateRefusedOnlyOnChange : Obligations.StateRefusedOnlyOnChange := by
  refine ⟨fun d e p a v ha refused => ?_, fun d e p a v sp i w ha hs kept => ?_, fun fs cur new f apart hf writable takes => ?_⟩
  · obtain ⟨sp, i, w, hs⟩ := Drive.specOf_of_stateRefused ha refused
    obtain ⟨closed, -, f, hf, rwl, -, changed⟩ := (Drive.stateRefused_iff ha hs).1 refused
    exact ⟨closed, sp, i, w, hs, f, hf, rwl, changed⟩
  · have allowed := Drive.stateRefused_of_kept (e := e) ha hs kept
    exact ⟨allowed, fun path on => Drive.writeCheck_of path on allowed⟩
  · rw [bitsN_regWrite cur new apart hf]
    unfold Fld.entered
    rw [writable]
    exact if_pos takes

end

/-! ### The first register that fails a check (R55) -/

theorem firstBad_none {n : Nat} {cs : List Nat} : firstBad n cs = none ↔ ∀ c ∈ cs, c = 0 := by
  induction cs generalizing n with
  | nil => simp [firstBad]
  | cons c cs ih => by_cases hc : c = 0 <;> simp [firstBad, hc, ih]

theorem ne_zero_of_firstBad {n c i : Nat} {cs : List Nat} (h : firstBad n cs = some (c, i)) : c ≠ 0 := by
  induction cs generalizing n with
  | nil => cases h
  | cons b cs ih =>
    unfold firstBad at h
    split_ifs at h with hb
    · exact ih h
    · obtain ⟨rfl, -⟩ := Prod.mk.inj (Option.some_inj.1 h)
      exact hb

/-- A code that is not 0, with none such before it, is the one that is named. -/
theorem firstBad_first {n i c : Nat} {cs : List Nat} (hi : cs[i]? = some c) (hc : c ≠ 0)
    (before : ∀ j < i, ∀ b, cs[j]? = some b → b = 0) : firstBad n cs = some (c, n + i) := by
  induction cs generalizing n i with
  | nil => simp at hi
  | cons b cs ih =>
    unfold firstBad
    cases i with
    | zero =>
      obtain rfl : b = c := by simpa using hi
      exact if_neg hc
    | succ i =>
      rw [if_pos (before 0 (Nat.succ_pos i) b rfl),
        ih (n := n + 1) (by simpa using hi) fun j hj b hb => before (j + 1) (Nat.succ_lt_succ hj) b (by simpa using hb)]
      congr 2
      omega

/-! ### An access on the fabric (R55, R527) -/

section
variable {d : Drive} {e : Env} {p : Path} {arb : Arb} {addr count i : Nat} {rd : Bool} {data : List Word} {v : Word}

/-- The addresses of the registers of an access. -/
def regAddrs (addr count : Nat) : List Nat := (List.range count).map fun i => addr + 4 * i

/-- The words that a write puts at the addresses from `addr` on. -/
def writtenWords (addr count : Nat) (data : List Word) : List (Nat × Word) := (regAddrs addr count).zip data

/-- The result codes that the registers of a write give, in order. -/
def Drive.writeCodes (d : Drive) (e : Env) (p : Path) (addr count : Nat) (data : List Word) : List Nat :=
  (writtenWords addr count data).map fun w => d.writeCheck e p w.1 w.2

/-- The result codes that the registers of a read give, in order. -/
def Drive.readCodes (d : Drive) (addr count : Nat) : List Nat := (regAddrs addr count).map d.readCheck

theorem writtenWords_get (hi : i < count) (hv : data[i]? = some v) : (writtenWords addr count data)[i]? = some (addr + 4 * i, v) := by
  unfold writtenWords regAddrs
  rw [List.getElem?_zip_eq_some]
  simp [hi, hv]

theorem Drive.writeCodes_get (hi : i < count) (hv : data[i]? = some v) :
    (d.writeCodes e p addr count data)[i]? = some (d.writeCheck e p (addr + 4 * i) v) := by
  unfold Drive.writeCodes
  rw [List.getElem?_map, writtenWords_get hi hv]
  rfl

theorem onFabric_no_page (h : (pageInfo (addr / 4096)).isNone) : d.onFabric e p addr rd count data arb = (⟨3, 0, []⟩, d) := by
  unfold Drive.onFabric
  exact if_pos h

theorem onFabric_busy (page : (pageInfo (addr / 4096)).isNone = false) (lost : arb.found p ≠ .granted) :
    d.onFabric e p addr rd count data arb = (⟨1, 0, []⟩, d.countBusy p) := by
  unfold Drive.onFabric
  rw [page]
  exact if_pos lost

variable (page : (pageInfo (addr / 4096)).isNone = false) (granted : arb.found p = .granted)
include page granted

theorem onFabric_read_bad {c : Nat} (bad : firstBad 0 (d.readCodes addr count) = some (c, i)) :
    d.onFabric e p addr true count data arb = (⟨c, i, []⟩, d) := by
  unfold Drive.readCodes regAddrs at bad
  unfold Drive.onFabric
  simp only [page, granted, bad, ne_eq, not_true, Bool.false_eq_true, if_false, if_true]

theorem onFabric_read_done (good : firstBad 0 (d.readCodes addr count) = none) :
    d.onFabric e p addr true count data arb =
      (⟨0, 0, (d.readWords e p (regAddrs addr count)).1⟩, (d.readWords e p (regAddrs addr count)).2) := by
  unfold Drive.readCodes regAddrs at good
  unfold Drive.onFabric regAddrs
  simp only [page, granted, good, ne_eq, not_true, Bool.false_eq_true, if_false, if_true]

theorem onFabric_write_bad {c : Nat} (bad : firstBad 0 (d.writeCodes e p addr count data) = some (c, i)) :
    d.onFabric e p addr false count data arb = (⟨c, i, []⟩, d) := by
  unfold Drive.writeCodes writtenWords regAddrs at bad
  unfold Drive.onFabric
  simp only [page, granted, bad, ne_eq, not_true, Bool.false_eq_true, if_false]

theorem onFabric_write_done (good : firstBad 0 (d.writeCodes e p addr count data) = none) :
    d.onFabric e p addr false count data arb = (⟨0, 0, []⟩, d.writeWords e p (writtenWords addr count data)) := by
  unfold Drive.writeCodes writtenWords regAddrs at good
  unfold Drive.onFabric writtenWords regAddrs
  simp only [page, granted, good, ne_eq, not_true, Bool.false_eq_true, if_false]

omit page granted

/-- What an access on the fabric can end with: a refusal that changes nothing but a BUSY count, or DONE, and then every register
of a write has passed its checks. -/
theorem onFabric_cases (d : Drive) (e : Env) (p : Path) (addr count : Nat) (rd : Bool) (data : List Word) (arb : Arb) :
    (∃ c i d', c ≠ 0 ∧ (d' = d ∨ d' = d.countBusy p) ∧ d.onFabric e p addr rd count data arb = (⟨c, i, []⟩, d')) ∨
      (d.onFabric e p addr rd count data arb).1.code = 0 ∧ (rd = false → ∀ c ∈ d.writeCodes e p addr count data, c = 0) := by
  cases page : (pageInfo (addr / 4096)).isNone with
  | true => exact .inl ⟨3, 0, d, by decide, .inl rfl, onFabric_no_page page⟩
  | false =>
    by_cases granted : arb.found p = .granted
    · cases rd with
      | true =>
        cases checks : firstBad 0 (d.readCodes addr count) with
        | some x => exact .inl ⟨x.1, x.2, d, ne_zero_of_firstBad checks, .inl rfl, onFabric_read_bad page granted checks⟩
        | none => exact .inr ⟨by rw [onFabric_read_done page granted checks], fun write => by cases write⟩
      | false =>
        cases checks : firstBad 0 (d.writeCodes e p addr count data) with
        | some x => exact .inl ⟨x.1, x.2, d, ne_zero_of_firstBad checks, .inl rfl, onFabric_write_bad page granted checks⟩
        | none => exact .inr ⟨by rw [onFabric_write_done page granted checks], fun _ => firstBad_none.1 checks⟩
    · exact .inl ⟨1, 0, d.countBusy p, by decide, .inr rfl, onFabric_busy page granted⟩

/-- Settles O10: the ways an access can end, and the first code of the registers that is not 0. -/
theorem accessIsAllOrNothing : Obligations.AccessIsAllOrNothing := by
  intro d e p addr count rd data arb
  dsimp only
  refine ⟨fun failed => ?_, fun done write i hi v hv => ?_, fun write page granted i hi v hv bad before => ?_⟩
  · rcases onFabric_cases d e p addr count rd data arb with ⟨c, i, d', -, frame, ends⟩ | ⟨done, -⟩
    · rw [ends]
      exact ⟨rfl, frame⟩
    · exact absurd done failed
  · rcases onFabric_cases d e p addr count rd data arb with ⟨c, i, d', bad, -, ends⟩ | ⟨-, passed⟩
    · rw [ends] at done
      exact absurd done bad
    · exact passed write _ (List.mem_of_getElem? (Drive.writeCodes_get hi hv))
  · subst write
    have named : firstBad 0 (d.writeCodes e p addr count data) = some (d.writeCheck e p (addr + 4 * i) v, i) := by
      have counted := firstBad_first (n := 0) (Drive.writeCodes_get hi hv) bad fun j hj c hc => ?_
      · rwa [Nat.zero_add] at counted
      · obtain ⟨w, hw⟩ : ∃ w, data[j]? = some w := by
          have := (List.getElem?_eq_some_iff.1 hv).1
          exact ⟨_, List.getElem?_eq_getElem (by omega)⟩
        rw [Drive.writeCodes_get (by omega) hw] at hc
        exact Option.some_inj.1 hc ▸ before j hj w hw
    exact onFabric_write_bad (Option.isNone_eq_false_iff.2 page) granted named

/-! ### The order of the checks (R527) -/

theorem gate_queueFull (full : arb.found .chain = .queueFull) :
    d.gate e .chain arb = (some ⟨1, 0, []⟩, d.bumpOpen Reg.CHN_REQ_BUSY 1) := by
  unfold Drive.gate
  exact if_pos ⟨rfl, full⟩

/-- Without MGMT an access ends at once: BUSY, or DOMAIN_OFF without 12 V. -/
theorem gate_mgmtOff (room : arb.found p ≠ .queueFull) (off : d.isOn 3 = false) :
    (d.gate e p arb).1 = some (if d.pwr.v12 then ⟨1, 0, []⟩ else ⟨6, 0, []⟩) := by
  unfold Drive.gate
  rw [if_neg (by simp [room]), if_neg (by simp [off])]
  cases d.pwr.v12 <;> rfl

theorem gate_open (room : ¬(p = .chain ∧ arb.found p = .queueFull)) (on : d.isOn 3 = true) : d.gate e p arb = (none, d) := by
  unfold Drive.gate
  rw [if_neg room, if_pos on]

/-- The access is not the one that the AON front end serves while MGMT is not ON (R25). -/
def Drive.notServed (d : Drive) (p : Path) (addr count : Nat) (rd : Bool) : Prop :=
  p = .i3c → d.isOn 3 = false → ¬(addr = Reg.NRG_ALLOT_SET ∧ rd = false ∧ count = 1)

theorem Drive.notServed_of_on (on : d.isOn 3 = true) : d.notServed p addr count rd := fun _ off => by simp [on] at off

/-- What the gate's answer makes of an access: it ends, or its shape is looked at. -/
def gated (e : Env) (p : Path) (addr : Nat) (rd : Bool) (count : Nat) (data : List Word) (arb : Arb) : Option AccRes × Drive → AccRes × Drive
  | (some r, d) => (r, d)
  | (none, d) => if shapeOk p addr count then d.onFabric e p addr rd count data arb else (⟨5, 0, []⟩, d)

theorem access_eq_gated (own : d.notServed p addr count rd) :
    d.access e p addr rd count data arb = gated e p addr rd count data arb (d.gate e p arb) := by
  unfold Drive.access
  split
  case h_1 off served => exact absurd (by simpa [and_assoc] using served) (own rfl off)
  case h_2 q _ _ _ => rcases d.gate e q arb with ⟨_ | _, _⟩ <;> rfl

variable {r : AccRes} {d' : Drive}

theorem access_stopped (own : d.notServed p addr count rd) (gate : d.gate e p arb = (some r, d')) :
    d.access e p addr rd count data arb = (r, d') := by
  rw [access_eq_gated own, gate]
  rfl

theorem access_bad_shape (own : d.notServed p addr count rd) (gate : d.gate e p arb = (none, d')) (bad : shapeOk p addr count = false) :
    d.access e p addr rd count data arb = (⟨5, 0, []⟩, d') := by
  rw [access_eq_gated own, gate]
  exact if_neg (by simp [bad])

theorem access_on_fabric (own : d.notServed p addr count rd) (gate : d.gate e p arb = (none, d')) (fits : shapeOk p addr count = true) :
    d.access e p addr rd count data arb = d'.onFabric e p addr rd count data arb := by
  rw [access_eq_gated own, gate]
  exact if_pos fits

theorem netAccess_bad_shape (gate : d.gate e .net arb = (none, d')) (bad : shapeOk .net addr 1 = false) :
    d.netAccess e addr rd data arb = Drive.keep .net (⟨5, 0, []⟩, d') := by
  unfold Drive.netAccess
  rw [gate]
  exact if_pos (by simp [bad])

theorem netAccess_denied {x : Drive} (gate : d.gate e .net arb = (none, d')) (fits : shapeOk .net addr 1 = true)
    (denied : d'.netSearch arb = (some false, x)) : d.netAccess e addr rd data arb = Drive.keep .net (⟨7, 0, []⟩, x) := by
  unfold Drive.netAccess
  rw [gate]
  dsimp only
  rw [if_neg (by simp [fits]), denied]

theorem regAccess_net (on : d.isOn 0 = true) : d.regAccess e .net addr rd data arb = d.netAccess e addr rd data arb := by
  unfold Drive.regAccess
  exact if_neg (by simp [on])

/-- Settles O11: the gate, then the shape, then for the network the search, then the fabric's page and its arbitration. -/
theorem accessCheckOrder : Obligations.AccessCheckOrder := by
  intro d e p addr count rd data arb
  refine ⟨?_, fun room off own => ?_, fun room on => ?_⟩
  · rintro rfl full
    exact access_stopped (fun h => by cases h) (gate_queueFull full)
  · have stopped : d.gate e p arb = (some (if d.pwr.v12 then ⟨1, 0, []⟩ else ⟨6, 0, []⟩), (d.gate e p arb).2) :=
      Prod.ext (gate_mgmtOff room off) rfl
    rw [access_stopped (fun hp _ => own hp) stopped]
  · have own : d.notServed p addr count rd := Drive.notServed_of_on on
    have opened : d.gate e p arb = (none, d) := gate_open (fun full => room full.2) on
    refine ⟨access_bad_shape own opened, fun fits absent => ?_, fun fits page lost => ?_,
      fun on0 => ⟨fun bad => ?_, fun x fits denied => ?_⟩⟩
    · rw [access_on_fabric own opened fits, onFabric_no_page absent]
    · rw [access_on_fabric own opened fits, onFabric_busy (Option.isNone_eq_false_iff.2 page) (by simp [lost])]
      rfl
    · rw [regAccess_net on0, netAccess_bad_shape (gate_open (by simp) on) bad]
    · rw [regAccess_net on0, netAccess_denied (gate_open (by simp) on) fits denied]

end

/-! ### Wide values (R45) -/

section
variable {s t : State} {d : Drive} {e : Env} {p : Path} {arb : Arb} {a i : Nat} {v : Word} {sp : RegSpec} {acc : List (Nat × Word)}

theorem Drive.clearedWide_of_not (h : sp.clears = false) : d.clearedWide p sp a = d := if_neg (by rw [h]; decide)

/-- The higher word that a write of the low word at `a` applies where the access itself has none: the path's buffered one, or else
the current one. -/
def Drive.highWord (d : Drive) (p : Path) (a : Nat) : Word := (FMap.find d.bufs (pk p (a + 4))).getD (d.reg (regKey p (a + 4)))

/-- A low word enters its register with the higher word, and the buffer is emptied. -/
theorem Drive.storeWord_low (hs : specOf a = some (sp, i, 0)) (two : sp.words = 2) (writable : sp.writable = true)
    (stores : d.noStore p a = false) (alone : acc.lookup (a + 4) = none) :
    d.storeWord e p acc a v = ({ d with bufs := FMap.erase d.bufs (pk p (a + 4)) } : Drive).storeFull e p sp a
      (v.toNat + (d.highWord p a).toNat * 2 ^ 32) := by
  unfold Drive.storeWord
  simp only [hs, stores, two, writable, alone]
  rfl

/-- A higher word is buffered for its path. -/
theorem Drive.storeWord_high (hs : specOf a = some (sp, i, 1)) (two : sp.words = 2) (writable : sp.writable = true)
    (stores : d.noStore p a = false) (alone : acc.lookup (a - 4) = none) :
    d.storeWord e p acc a v = { d with bufs := FMap.insert d.bufs (pk p a) v } := by
  unfold Drive.storeWord
  simp [hs, stores, two, writable, alone]

/-- The whole of a wide value is written through its fields. -/
theorem Drive.storeFull_wide {n : Nat} (two : sp.words = 2) (whole : d.takesWhole e a n = true) :
    d.storeFull e p sp a n = d.setWide (regKey p a) (regWrite (d.wide (regKey p a)) n sp.flds) := by
  unfold Drive.storeFull
  simp [two, whole]

theorem lookup_singleton_ne {b : Nat} (h : b ≠ a) : [(a, v)].lookup b = none := by
  rw [List.lookup_eq_none_iff]
  simpa using h

/-- Settles O15: reading the low word keeps the higher one; writing it sets the wide value from both words; a higher word is only
buffered. -/
theorem wideValues : Obligations.WideValues := by
  refine ⟨fun s t p arb a sp i hf hs two noClear => ?_, fun s t p arb a v sp i hw plain hs two writable stores whole quiet still => ?_,
    fun s p a v sp i ha hs two writable stores => ?_⟩
  · refine gives_runOp rfl ?_
    rw [regReadOp_done hf, hf.env_eq, Drive.readWord_low hs two, Drive.clearedWide_of_not noClear]
    rfl
  · have low : stored t p a v = ({ t.d with bufs := FMap.erase t.d.bufs (pk p (a + 4)) } : Drive).setWide (regKey p a)
        (regWrite (t.d.wide (regKey p a)) (v.toNat + (t.d.highWord p a).toNat * 2 ^ 32) sp.flds) := by
      unfold stored
      rw [Drive.storeWord_low hs two writable stores (lookup_singleton_ne (by omega)), hw.env_eq, Drive.storeFull_wide two (whole _ _)]
      rfl
    have idle : calm ((stored t p a v).done p []) = true := by rw [done_calm, stored_calm, still]
    refine ⟨_, gives_reg rfl hw plain rfl, ?_⟩
    dsimp only
    rw [quiet, Drive.accessed, Drive.settled_calm _ _ idle, low]
    exact ⟨FMap.find_erase_same .., Drive.wide_setWide .., rfl⟩
  · exact Drive.storeWord_high hs two writable stores (lookup_singleton_ne (by omega))

end

/-! ### Delivery of page interrupts (R60, R61) -/

section
variable {d : Drive} {e : Env} {page : Nat} {stat : Word}

/-- The drive with the oldest edge of the page taken. -/
def Drive.edgeTaken (d : Drive) (page : Nat) : Drive := { d with edges := d.edges.eraseP fun x => x.1 == page }

theorem pageIntOp_on (edge : d.edges.find? (fun x => x.1 == page) = some (page, stat)) (on : d.isOn 3 = true) :
    pageIntOp page e d = (d.edgeTaken page).deliver page stat := by
  unfold pageIntOp
  rw [edge]
  exact if_pos on

/-- Without MGMT an edge waits if it is still pending and does not wait already. -/
theorem pageIntOp_off (edge : d.edges.find? (fun x => x.1 == page) = some (page, stat)) (off : d.isOn 3 = false) :
    pageIntOp page e d = if !d.intPend page || d.deferred.contains page then d.edgeTaken page
      else { d.edgeTaken page with deferred := d.deferred ++ [page] } := by
  unfold pageIntOp
  rw [edge]
  have closed : ¬d.isOn 3 = true := by simp [off]
  exact if_neg closed

theorem deferredIntOp_off (off : d.isOn 3 = false) : deferredIntOp page e d = d := if_pos (by simp [off])

theorem deferredIntOp_on (on : d.isOn 3 = true) (kept : d.deferred.contains page = true) :
    deferredIntOp page e d = if d.intPend page then
        ({ d with deferred := d.deferred.filter (· != page) } : Drive).deliver page (d.reg (intStatA page))
      else { d with deferred := d.deferred.filter (· != page) } := by
  unfold deferredIntOp
  rw [if_neg (by rw [on, kept]; decide)]
  rfl

/-- Of a page whose CTL enables neither notices nor the chain, a delivery is the in-band interrupt at most. -/
theorem Drive.deliver_ibi (noNotice : d.flag (page * 4096 + 0x10) 31 = false) (noChain : d.flag (page * 4096 + 0x10) 29 = false) :
    d.deliver page stat = if d.flag (page * 4096 + 0x10) 30 && d.i3cIbi then
        { d with out := d.out ++ [.ibi [0xA0, BitVec.ofNat 8 (page / 256), BitVec.ofNat 8 page]] }
      else d := by
  unfold Drive.flag at noNotice noChain
  unfold Drive.deliver Drive.flag
  simp only [noNotice, noChain, Bool.false_eq_true, if_false]

/-- Settles O17: what each row does with MGMT ON and not ON, and the in-band interrupt of a delivery. -/
theorem interruptDelivery : Obligations.InterruptDelivery := by
  refine ⟨?_, ?_, fun s page off => gives_runOp rfl (deferredIntOp_off off), fun d page stat => Drive.deliver_ibi⟩
  · rintro s page stat edge _ rfl
    refine ⟨fun on => gives_runOp rfl (pageIntOp_on edge on), fun off pend new => gives_runOp rfl ((pageIntOp_off edge off).trans (if_neg ?_)),
      fun off h => gives_runOp rfl ((pageIntOp_off edge off).trans (if_pos ?_))⟩
    · have still : s.d.intPend page = true := pend
      have absent : s.d.deferred.contains page = false := new
      rw [still, absent]
      decide
    · have gone : s.d.intPend page = false ∨ s.d.deferred.contains page = true := h
      simpa using gone
  · rintro s page on kept _ rfl
    have taken := deferredIntOp_on (e := s.env) on kept
    exact ⟨fun pend => gives_runOp rfl (taken.trans (if_pos pend)),
      fun gone => gives_runOp rfl (taken.trans (if_neg (by rw [show s.d.intPend page = false from gone]; decide)))⟩

end

/-! ### The I3C sideband (R50 to R52) -/

section
variable {d : Drive} {e : Env}

/-- Settles O18: each code acts under its own condition and leaves the drive otherwise. -/
theorem i3cAddressing : Obligations.I3cAddressing := by
  intro s on
  refine ⟨fun a => ⟨fun free => gives_runOp rfl (if_pos (by simp [on, free])),
      fun held => gives_runOp rfl (if_neg (by simp [on, Option.isNone_iff_eq_none, held]))⟩,
    fun st a => ⟨fun own => gives_runOp rfl (if_pos (by simp [on, own])), fun other => gives_runOp rfl (if_neg (by simpa [on] using other))⟩,
    gives_runOp rfl (if_pos on), fun ev => ⟨fun set => ?_, fun clear => ?_⟩⟩
  · exact ⟨gives_runOp rfl (if_pos (by rw [on, set]; decide)), gives_runOp rfl (if_pos (by rw [on, set]; decide))⟩
  · exact ⟨gives_runOp rfl (if_neg (by rw [clear]; simp)), gives_runOp rfl (if_neg (by rw [clear]; simp))⟩

theorem i3cReadOp_answers {a : Nat} {r : AccRes} (on : d.isOn 0 = true) (addr : d.i3cAddr = some a) (last : d.results[1]? = some r) :
    i3cReadOp e d = d.i3cOut (i3cResult r) := by
  unfold i3cReadOp
  rw [if_neg (by simp [on, addr]), last]
  rfl

theorem i3cAnswerOp_answers {a : Nat} (bs : Env → List Byte) (on : d.isOn 0 = true) (addr : d.i3cAddr = some a) :
    i3cAnswerOp bs e d = d.i3cOut (bs e) := if_pos (by simp [on, addr])

theorem i3cOpenOp_answers {a : Nat} (on : d.isOn 0 = true) (addr : d.i3cAddr = some a) :
    i3cOpenOp e d = ({ d with free := d.free + 1 } : Drive).i3cOut (beBytes 2 (Config.i3cReply d.free)) := if_pos (by simp [on, addr])

section
variable (away : d.i3cAddr = none)
include away

theorem i3cReadOp_silent : i3cReadOp e d = d := if_pos (by simp [away])

theorem i3cAnswerOp_silent (bs : Env → List Byte) : i3cAnswerOp bs e d = d := if_neg (by simp [away])

theorem i3cOpenOp_silent : i3cOpenOp e d = d := if_neg (by simp [away])

end

/-- Settles O19: the bytes of each answer, and the silence of a drive without an address. -/
theorem i3cAnswers : Obligations.I3cAnswers := by
  refine ⟨fun s a on addr => ⟨fun r last => ?_, ?_, ?_, ?_, ?_⟩, fun s away => ?_⟩
  · exact gives_runOp rfl (i3cReadOp_answers on addr last)
  · refine ⟨Config.i3cPid % 2 ^ 36 * 2 ^ 12 + s.fac.serial.toNat % 2 ^ 12, by omega, ?_⟩
    exact gives_runOp rfl (i3cAnswerOp_answers i3cPid on addr)
  · exact gives_runOp rfl (i3cAnswerOp_answers _ on addr)
  · exact gives_runOp rfl (i3cAnswerOp_answers _ on addr)
  · have answered := i3cOpenOp_answers (e := s.env) on addr
    exact ⟨beBytes 2 (Config.i3cReply s.d.free), rfl, gives_runOp rfl answered, gives_runOp rfl answered⟩
  · intro i hi
    simp only [List.mem_cons, List.not_mem_nil, or_false] at hi
    rcases hi with rfl | rfl | rfl | rfl | rfl | rfl
    · exact gives_runOp rfl (i3cReadOp_silent away)
    · exact gives_runOp rfl (i3cAnswerOp_silent away _)
    · exact gives_runOp rfl (i3cAnswerOp_silent away _)
    · exact gives_runOp rfl (i3cAnswerOp_silent away _)
    · exact gives_runOp rfl (i3cOpenOp_silent away)
    · exact gives_runOp rfl (i3cOpenOp_silent away)

end

/-! ### The bytes of an I3C write (R9, R10) -/

theorem beBytes_length (n v : Nat) : (beBytes n v).length = n := by
  induction n generalizing v with
  | zero => rfl
  | succ n ih => rw [beBytes, List.length_append, ih]; rfl

theorem leBytes_length (n v : Nat) : (leBytes n v).length = n := by
  induction n generalizing v with
  | zero => rfl
  | succ n ih => rw [leBytes, List.length_cons, ih]

/-- Big-endian bytes spell the number they were made of, cut to their width. -/
theorem beNat_beBytes (n v : Nat) : beNat (beBytes n v) = v % 256 ^ n := by
  induction n generalizing v with
  | zero => simp [beBytes, beNat, Nat.mod_one]
  | succ n ih =>
    have last : beNat (beBytes n (v / 256) ++ [BitVec.ofNat 8 v]) = beNat (beBytes n (v / 256)) * 256 + v % 256 := by
      simp [beNat]
    rw [beBytes, last, ih, pow_succ', Nat.mod_mul, Nat.add_comm, Nat.mul_comm]

/-- Little-endian bytes spell the number they were made of, cut to their width. -/
theorem leNat_leBytes (n v : Nat) : leNat (leBytes n v) = v % 256 ^ n := by
  induction n generalizing v with
  | zero => simp [leBytes, leNat, Nat.mod_one]
  | succ n ih =>
    have first : leNat (BitVec.ofNat 8 v :: leBytes n (v / 256)) = leNat (leBytes n (v / 256)) * 256 + v % 256 := by simp [leNat]
    rw [leBytes, first, ih, pow_succ', Nat.mod_mul, Nat.add_comm, Nat.mul_comm]

/-- A field of a message reads as the number that its bytes spell. -/
theorem beAt_append (before field after : List Byte) :
    beAt (before ++ field ++ after) before.length field.length = beNat field := by
  have cut : slice (before ++ field ++ after) before.length field.length = field := by
    unfold slice
    rw [List.append_assoc, List.drop_left, List.take_left]
  unfold beAt
  rw [cut]
  simp

/-- The words of write data are those whose bytes they are. -/
theorem leWords_leBytes_append (w : Word) (bs : List Byte) : leWords (leBytes 4 w.toNat ++ bs) = w :: leWords bs := by
  have count : ceilDiv (leBytes 4 w.toNat ++ bs).length 4 = ceilDiv bs.length 4 + 1 := by
    rw [List.length_append, leBytes_length]
    unfold ceilDiv
    omega
  have head : slice (leBytes 4 w.toNat ++ bs) (4 * 0) 4 = leBytes 4 w.toNat := rfl
  have rest (k : Nat) : slice (leBytes 4 w.toNat ++ bs) (4 * (k + 1)) 4 = slice bs (4 * k) 4 := by
    unfold slice
    rw [Nat.mul_succ, Nat.add_comm, ← List.drop_drop]
    rfl
  unfold leWords
  rw [count, List.range_succ_eq_map, List.map_cons, List.map_map, head, leNat_leBytes]
  have whole : word (w.toNat % 256 ^ 4) = w := by
    rw [Nat.mod_eq_of_lt (show w.toNat < 256 ^ 4 from w.isLt)]
    exact BitVec.eq_of_toNat_eq (Nat.mod_eq_of_lt w.isLt)
  rw [whole]
  exact congrArg (w :: ·) (List.map_congr_left fun k _ => congrArg (fun b => word (leNat b)) (rest k))

theorem leWords_flatten (ws : List Word) : leWords (ws.map fun w => leBytes 4 w.toNat).flatten = ws := by
  induction ws with
  | nil => rfl
  | cons w ws ih => rw [List.map_cons, List.flatten_cons, leWords_leBytes_append, ih]

theorem flatten_leBytes_length (ws : List Word) : (ws.map fun w => leBytes 4 w.toNat).flatten.length = 4 * ws.length := by
  induction ws with
  | nil => rfl
  | cons w ws ih => rw [List.map_cons, List.flatten_cons, List.length_append, ih, leBytes_length, List.length_cons]; omega

/-! ### I3C writes (R51, R528) -/

section
variable {d : Drive} {e : Env} {arb : Arb} {addr count : Nat} {bs data : List Byte}

/-- The bytes of an I3C write: the command byte, the address, the count, then the data. -/
def i3cBytes (op : Byte) (addr count : Nat) (data : List Byte) : List Byte := op :: beBytes 3 addr ++ [BitVec.ofNat 8 count] ++ data

/-- The bytes have the form of a read, or of a write of as many words as its count says. -/
def i3cFits (bs : List Byte) : Prop :=
  5 ≤ bs.length ∧ (beAt bs 0 1 = 1 ∧ bs.length = 5 ∨ beAt bs 0 1 = 2 ∧ bs.length = 5 + 4 * beAt bs 4 1)

theorem i3cBytes_length (op : Byte) (addr count : Nat) (data : List Byte) : (i3cBytes op addr count data).length = 5 + data.length := by
  unfold i3cBytes
  simp only [List.length_append, List.length_cons, beBytes_length, List.length_nil]

theorem i3cBytes_op (op : Byte) (addr count : Nat) (data : List Byte) : beAt (i3cBytes op addr count data) 0 1 = op.toNat := by
  have field := beAt_append [] [op] (beBytes 3 addr ++ [BitVec.ofNat 8 count] ++ data)
  simpa [i3cBytes, beNat] using field

theorem i3cBytes_addr (op : Byte) (count : Nat) (data : List Byte) (h : addr < 2 ^ 24) :
    beAt (i3cBytes op addr count data) 1 3 = addr := by
  have field := beAt_append [op] (beBytes 3 addr) ([BitVec.ofNat 8 count] ++ data)
  rw [beNat_beBytes, beBytes_length] at field
  have same : i3cBytes op addr count data = [op] ++ beBytes 3 addr ++ ([BitVec.ofNat 8 count] ++ data) := by simp [i3cBytes]
  rw [same]
  exact field.trans (by omega)

theorem i3cBytes_count (op : Byte) (addr : Nat) (data : List Byte) (h : count < 256) :
    beAt (i3cBytes op addr count data) 4 1 = count := by
  have field := beAt_append (op :: beBytes 3 addr) [BitVec.ofNat 8 count] data
  rw [List.length_cons, beBytes_length] at field
  refine field.trans ?_
  simp [beNat]
  omega

theorem i3cBytes_data (op : Byte) (addr count : Nat) (data : List Byte) : (i3cBytes op addr count data).drop 5 = data := by
  unfold i3cBytes
  exact List.drop_left' (by rw [List.length_append, List.length_cons, beBytes_length]; rfl)

/-- An I3C write of either form is an access of the I3C path. -/
theorem i3cWriteOp_fits (on : d.isOn 0 = true) (held : d.i3cAddr.isSome) (fits : i3cFits bs) :
    i3cWriteOp bs arb e d =
      Drive.keep .i3c (d.access e .i3c (beAt bs 1 3) (beAt bs 0 1 == 1) (beAt bs 4 1) (leWords (bs.drop 5)) arb) := by
  unfold i3cWriteOp
  rw [if_neg (by simp [on, Option.isSome_iff_ne_none.1 held])]
  exact if_pos (by simpa [i3cFits] using fits)

/-- An I3C write of neither form ends with BAD_ACCESS. -/
theorem i3cWriteOp_unfit (on : d.isOn 0 = true) (held : d.i3cAddr.isSome) (mgmt : d.isOn 3 = true) (unfit : ¬i3cFits bs) :
    i3cWriteOp bs arb e d = Drive.keep .i3c (⟨5, 0, []⟩, d) := by
  unfold i3cWriteOp
  rw [if_neg (by simp [on, Option.isSome_iff_ne_none.1 held])]
  dsimp only
  rw [if_neg (by simpa [i3cFits] using unfit), gate_open (by simp) mgmt]

/-- Settles O20: the form of the bytes decides between an access and BAD_ACCESS, and the fields of the bytes are its operands. -/
theorem i3cPrivateWrites : Obligations.I3cPrivateWrites := by
  refine fun s arb on held => ⟨fun addr count ws ha hc => ⟨?_, fun len => ?_⟩, fun bs mgmt form => ?_⟩
  · have fits : i3cFits (i3cBytes 1 addr count []) := by
      refine ⟨?_, .inl ⟨i3cBytes_op .., ?_⟩⟩ <;> simp [i3cBytes_length]
    have read := i3cWriteOp_fits (e := s.env) (arb := arb) on held fits
    rw [i3cBytes_op, i3cBytes_addr _ _ _ ha, i3cBytes_count _ _ _ hc, i3cBytes_data] at read
    have bytes : 1 :: beBytes 3 addr ++ [BitVec.ofNat 8 count] = i3cBytes 1 addr count [] := (List.append_nil _).symm
    rw [bytes]
    exact gives_cmdOp rfl read
  · have fits : i3cFits (i3cBytes 2 addr count (ws.map fun w => leBytes 4 w.toNat).flatten) := by
      refine ⟨?_, .inr ⟨i3cBytes_op .., ?_⟩⟩
      · rw [i3cBytes_length]; omega
      · rw [i3cBytes_length, i3cBytes_count _ _ _ hc, flatten_leBytes_length, len]
    have write := i3cWriteOp_fits (e := s.env) (arb := arb) on held fits
    rw [i3cBytes_op, i3cBytes_addr _ _ _ ha, i3cBytes_count _ _ _ hc, i3cBytes_data, leWords_flatten] at write
    exact gives_cmdOp rfl write
  · refine gives_cmdOp rfl (i3cWriteOp_unfit on held mgmt ?_)
    rintro ⟨long, read | write⟩ <;> omega

end

end Sys2Proof.Machine
end

section
/-! PROOFS. Chapter 3 (03_network_ports.md): how a link comes up and goes down (R63 to R68, R81), the registers of a port (R73, R86,
R87, R92, R101), received frames (R69 to R76, R80, R85), pauses and transmission (R77 to R84), and the offloads and wake detectors
of a port (R66, R86 to R90). Each operation has one equation per case; the statements are put together from them. -/

namespace Sys2Proof.Machine

variable {s t : State} {d d' : Drive} {e : Env} {p : Path} {arb : Arb} {v : Word} {n m a b k : Nat}

/-! ### Where a port's registers stand -/

theorem intStatA_pgMac : intStatA (pgMac n) = 0x40018 + n * 0x8000 := by
  unfold intStatA pgMac
  omega

/-- The domain of the pages of a port. -/
theorem keyDom_pgMac (hn : n < 2) : keyDom (pgMac n * 4096) = 12 + n := by
  interval_cases n <;> rfl

theorem MAC_LINK_STAT_ne_intStatA : Reg.MAC_LINK_STAT n ≠ intStatA (pgMac n) := by
  rw [intStatA_pgMac, Reg.MAC_LINK_STAT]
  omega

theorem MAC_TX_FLUSHED_ne_intStatA : Reg.MAC_TX_FLUSHED n ≠ intStatA (pgMac n) := by
  rw [intStatA_pgMac, Reg.MAC_TX_FLUSHED]
  omega

theorem MAC_TX_FLUSHED_ne_MAC_LINK_STAT : Reg.MAC_TX_FLUSHED n ≠ Reg.MAC_LINK_STAT n := by
  rw [Reg.MAC_TX_FLUSHED, Reg.MAC_LINK_STAT]
  omega

theorem MAC_IPV6_ADDR_ne_MAC_IPV6_STAT (hk : k < 12) : Reg.MAC_IPV6_ADDR m k ≠ Reg.MAC_IPV6_STAT n := by
  rw [Reg.MAC_IPV6_ADDR, Reg.MAC_IPV6_STAT]
  omega

theorem MAC_IPV6_ADDR_page (hk : k < 12) : Reg.MAC_IPV6_ADDR n k / 4096 = 0x45 + 8 * n := by
  rw [Reg.MAC_IPV6_ADDR]
  omega

/-! ### Bringing a link up (R63 to R67, R81) -/

theorem autonegResolvedOp_trains {partner i : Nat} (on : d.macEnabled n = true) (down : d.linkUp n = false)
    (best : ([2, 1, 0].find? fun i =>
      bitN (d.fld (Reg.MAC_LINK_CTL n) 6 4) i && !bitN (d.fld (Reg.MAC_LINK_STAT n) 6 4) i && bitN partner i) = some i) :
    autonegResolvedOp n partner e d =
      d.onPort n fun x => { x with phy := some i, training := true, tries := if x.phy = some i then x.tries else 0 } := by
  unfold autonegResolvedOp
  dsimp only
  rw [if_neg (by simp [on, down]), best]

theorem trainingFailedOp_counts (trains : (d.port n).training = true) :
    trainingFailedOp n e d = d.onPort n fun x => { x with training := false, tries := x.tries + 1 } := if_pos trains

/-- A PHY other than 100GBASE-KR1, which is number 0, is withdrawn. -/
theorem phyFallbackOp_withdraws {i : Nat} (phy : (d.port n).phy = some (i + 1)) (on : d.macOn n = true)
    (tried : d.fld (Reg.MAC_LINK_CTL n) 10 8 ≤ (d.port n).tries) :
    phyFallbackOp n e d =
      (((d.onPort n fun x => { x with tries := 0 }).poke (Reg.MAC_LINK_STAT n) (5 + i) (5 + i) 1).setInt (pgMac n) 2).event e
        0x200 n (2 ^ (i + 1)) 0 0 := by
  unfold phyFallbackOp
  rw [phy]
  exact if_pos (by simp [on, tried])

theorem linkUpOp_trained {us i : Nat} (on : d.macEnabled n = true) (down : d.linkUp n = false) (trains : (d.port n).training = true)
    (phy : (d.port n).phy = some i) :
    linkUpOp n us e d =
      [0, 1, 2].foldl (fun d a => d.dadStart n a)
        ((((((d.onPort n fun x => { x with training := false, tries := 0 }).poke (Reg.MAC_LINK_STAT n) 2 0 (phySpeed i * 2 + 1)).poke
          (Reg.MAC_LINK_STAT n) 9 8 (if !d.flag (Reg.MAC_PREEMPT_CTL n) 0 then 0 else if d.flag (Reg.MAC_PREEMPT_CTL n) 1 then 1 else 2)).poke
          (Reg.MAC_LINK_STAT n) 15 12 (phyLanes i)).setReg (Reg.MAC_TRAIN_TIME n) (word us)).setInt (pgMac n) 0 |>.garp n) := by
  unfold linkUpOp
  rw [if_neg (by simp [on, down, trains]), phy]
  rfl

theorem verifyDoneOp_active (up : d.linkUp n = true) (verifying : d.fld (Reg.MAC_LINK_STAT n) 9 8 = 1) :
    verifyDoneOp n true e d = d.poke (Reg.MAC_LINK_STAT n) 9 8 2 := if_pos ⟨up, verifying⟩

theorem verifyDoneOp_failed (up : d.linkUp n = true) (verifying : d.fld (Reg.MAC_LINK_STAT n) 9 8 = 1) :
    verifyDoneOp n false e d = (d.poke (Reg.MAC_LINK_STAT n) 9 8 3).setInt (pgMac n) 7 := if_pos ⟨up, verifying⟩

/-- Settles O29: one equation per step of the bring-up, under the conditions of its case. -/
theorem linkBringUp : Obligations.LinkBringUp := by
  refine fun s port => ⟨fun partner i on down best => ?_, fun trains => ?_, fun i phy on tried => ?_, fun us i on down trains phy => ?_,
    fun up => ?_, fun up verifying => ⟨?_, ?_⟩⟩
  · exact gives_runOp rfl (autonegResolvedOp_trains on down best)
  · exact gives_runOp rfl (trainingFailedOp_counts trains)
  · exact gives_runOp rfl (phyFallbackOp_withdraws phy on tried)
  · refine gives_runOp rfl ((linkUpOp_trained on down trains phy).trans ?_)
    simp only [Bool.not_eq_true', phySpeed, phyLanes]
  · exact gives_runOp rfl (if_pos up)
  · exact gives_runOp rfl (verifyDoneOp_active up verifying)
  · exact gives_runOp rfl (verifyDoneOp_failed up verifying)

/-! ### A link that goes down (R68) -/

/-- The frames that a link going down loses. -/
def Port.lost (x : Port) : Nat := x.txq.length + (if x.suspended.isSome then 1 else 0)

/-- The drive of a link that is down, before its frames are counted: nothing waits, and the status shows no link. -/
def Drive.linkCleared (d : Drive) (n : Nat) : Drive :=
  (((d.onPort n fun x => { x with txq := [], suspended := none, pauses := [], training := false }).poke (Reg.MAC_LINK_STAT n) 2 0 0).poke
    (Reg.MAC_LINK_STAT n) 9 8 0).poke (Reg.MAC_LINK_STAT n) 15 12 0

/-- The drive of a link that is down, its lost frames counted. -/
def Drive.linkCounted (d : Drive) (n : Nat) : Drive :=
  if (d.port n).lost = 0 then d.linkCleared n else (d.linkCleared n).bumpOpen (Reg.MAC_TX_FLUSHED n) (d.port n).lost

theorem Drive.linkDrop_eq : d.linkDrop n = if d.linkUp n then (d.linkCounted n).setInt (pgMac n) 1 else d.linkCounted n := rfl

@[simp] theorem Drive.linkCounted_ports : (d.linkCounted n).ports = (d.linkCleared n).ports := by
  unfold Drive.linkCounted
  split_ifs <;> simp only [Drive.bumpOpen_ports]

@[simp] theorem Drive.linkCounted_pwr : (d.linkCounted n).pwr = d.pwr := by
  unfold Drive.linkCounted
  split_ifs
  · rfl
  · exact Drive.bumpOpen_pwr ..

@[simp] theorem Drive.linkDrop_ports : (d.linkDrop n).ports = (d.linkCleared n).ports := by
  rw [Drive.linkDrop_eq]
  split_ifs <;> simp only [Drive.setInt_ports, Drive.linkCounted_ports]

@[simp] theorem Drive.linkDrop_pwr : (d.linkDrop n).pwr = d.pwr := by
  rw [Drive.linkDrop_eq]
  split_ifs <;> simp only [Drive.setInt_pwr, Drive.linkCounted_pwr]

/-- Nothing waits on the port, and the rest of it and the other port stay. -/
theorem Drive.port_linkDrop : (d.linkDrop n).port m =
    if n = m ∧ n < d.ports.length then { d.port m with txq := [], suspended := none, pauses := [], training := false } else d.port m := by
  have same : (d.linkDrop n).port m = (d.linkCleared n).port m := by
    unfold Drive.port
    rw [Drive.linkDrop_ports]
  exact same.trans (d.port_onPort n m _)

/-- Beside INT_STAT, the registers are those of the counted drive. -/
theorem Drive.linkDrop_reg (h : k ≠ intStatA (pgMac n)) : (d.linkDrop n).reg k = (d.linkCounted n).reg k := by
  rw [Drive.linkDrop_eq]
  split_ifs
  · exact Drive.setInt_reg_ne _ _ _ _ h
  · rfl

theorem Drive.linkDrop_stat : (d.linkDrop n).reg (Reg.MAC_LINK_STAT n) = (d.linkCleared n).reg (Reg.MAC_LINK_STAT n) := by
  rw [Drive.linkDrop_reg MAC_LINK_STAT_ne_intStatA]
  unfold Drive.linkCounted
  split_ifs
  · rfl
  · exact Drive.bumpOpen_reg_ne _ _ _ _ MAC_TX_FLUSHED_ne_MAC_LINK_STAT.symm

/-- The fields of the status that a link going down clears. -/
theorem Drive.linkDrop_stat_fields :
    (d.linkDrop n).fld (Reg.MAC_LINK_STAT n) 2 0 = 0 ∧ (d.linkDrop n).fld (Reg.MAC_LINK_STAT n) 9 8 = 0 ∧
      (d.linkDrop n).fld (Reg.MAC_LINK_STAT n) 15 12 = 0 := by
  simp only [Drive.fld_of_reg _ _ _ _ _ Drive.linkDrop_stat]
  unfold Drive.linkCleared
  refine ⟨?_, ?_, ?_⟩
  · rw [Drive.fld_poke_ne, Drive.fld_poke_ne, Drive.fld_poke_same] <;> omega
  · rw [Drive.fld_poke_ne, Drive.fld_poke_same] <;> omega
  · rw [Drive.fld_poke_same] <;> omega

theorem Drive.linkDrop_linkUp : (d.linkDrop n).linkUp n = false := by
  obtain ⟨speed, -, -⟩ := Drive.linkDrop_stat_fields (d := d) (n := n)
  have down : (d.linkDrop n).flag (Reg.MAC_LINK_STAT n) 0 = false := by
    unfold Drive.fld bits bitsN at speed
    unfold Drive.flag bit bitN
    simp only [beq_eq_false_iff_ne]
    omega
  unfold Drive.linkUp
  rw [down, Bool.and_false]

theorem Drive.linkDrop_flushed (lost : (d.port n).lost ≠ 0) :
    (d.linkDrop n).reg (Reg.MAC_TX_FLUSHED n) = (d.bumpOpen (Reg.MAC_TX_FLUSHED n) (d.port n).lost).reg (Reg.MAC_TX_FLUSHED n) := by
  have kept : (d.linkCleared n).reg (Reg.MAC_TX_FLUSHED n) = d.reg (Reg.MAC_TX_FLUSHED n) := by
    unfold Drive.linkCleared
    simp only [Drive.poke_reg_ne _ _ _ _ _ _ MAC_TX_FLUSHED_ne_MAC_LINK_STAT]
    rfl
  rw [Drive.linkDrop_reg MAC_TX_FLUSHED_ne_intStatA]
  unfold Drive.linkCounted Drive.bumpOpen
  rw [if_neg lost, kept, Drive.reg_setReg_same, Drive.reg_setReg_same]

/-- The interrupt of a link that was up. -/
theorem Drive.linkDrop_int (hn : n < 2) (up : d.linkUp n = true) : (d.linkDrop n).flag (intStatA (pgMac n)) 1 = true := by
  rw [Drive.linkDrop_eq, if_pos up]
  refine Drive.setInt_flag _ _ _ (by omega) ?_
  unfold Drive.linkUp Drive.macOn Drive.isOn at up
  rw [keyDom_pgMac hn, Drive.isUp_of_pwr _ _ _ Drive.linkCounted_pwr]
  unfold Drive.isUp
  simp only [Bool.and_eq_true] at up
  rw [up.1, Bool.true_or]

/-- Settles O30: what the port, its status, the count of lost frames and the interrupt are once the link is down. -/
theorem linkDropLosesTheQueue : Obligations.LinkDropLosesTheQueue := by
  rintro d n lost hn hlen rfl
  have here : (d.linkDrop n).port n = { d.port n with txq := [], suspended := none, pauses := [], training := false } := by
    rw [Drive.port_linkDrop, if_pos ⟨rfl, hlen⟩]
  obtain ⟨speed, preempt, lanes⟩ := Drive.linkDrop_stat_fields (d := d) (n := n)
  dsimp only
  rw [here]
  refine ⟨rfl, rfl, rfl, rfl, rfl, Drive.linkDrop_linkUp, fun m ne => ?_, speed, preempt, lanes, Drive.linkDrop_flushed,
    Drive.linkDrop_int hn⟩
  rw [Drive.port_linkDrop, if_neg fun h => ne h.1.symm]

/-! ### The registers of a port (R64, R68, R73, R92, R101) -/

/-- A write of MACn_LINK_CTL: first ENABLE's edge, then RETRAIN, then CFG_SAVE. -/
theorem linkCtlW_eq {was : Bool} {d d1 d2 : Drive}
    (enable : d1 = if was = false ∧ d.flag (Reg.MAC_LINK_CTL n) 0 = true then d.portEnable n
      else if was = true ∧ d.flag (Reg.MAC_LINK_CTL n) 0 = false then d.linkDrop n else d)
    (retrain : d2 = if bit v 1 then (d1.linkDrop n).restorePhys n else d1) :
    linkCtlW n was v e d =
      if bit v 13 = true ∧ (d2.port n).saving = none then
        d2.onPort n fun y => { y with saving := some (savePages d2 fun g => decide (pgMac n ≤ g) && decide (g < pgMac n + 6)) }
      else d2 := by
  subst enable retrain
  unfold linkCtlW
  simp only [Bool.and_eq_true, Bool.not_eq_true']

theorem macSaveDoneOp_saving {sv : FMap} (saving : (d.port n).saving = some sv) :
    macSaveDoneOp n e d =
      { d.onPort n fun x => { x with saving := none } with
        saved := sv.foldl (fun (f : FMap) (x : Nat × Word) => FMap.insert f x.1 x.2) (d.saved.filter fun x => !(keyDom x.1 == 12 + n)) } := by
  unfold macSaveDoneOp
  rw [saving]

/-! ### The address registers of a port (R86, R87) -/

theorem plainPage_MAC_IPV4_ADDR (hn : n < 2) : plainPage (Reg.MAC_IPV4_ADDR n) = false := by
  interval_cases n <;> rfl

theorem plainPage_MAC_IPV6_ADDR (hn : n < 2) (hk : k < 12) : plainPage (Reg.MAC_IPV6_ADDR n k) = false := by
  have page : 0x40 ≤ 0x45 + 8 * n ∧ 0x45 + 8 * n < 0x50 ∧ (0x45 + 8 * n) % 8 = 5 := by omega
  unfold plainPage
  rw [MAC_IPV6_ADDR_page hk, decide_eq_true page]
  rfl

/-- A word of an IPv6 address commands nothing itself. -/
theorem hook_MAC_IPV6_ADDR (was : Drive) (hn : n < 2) (hk : k < 12) : hook e p (Reg.MAC_IPV6_ADDR n k) v was d = d := by
  have port : (0x45 + 8 * n - 0x40) / 8 = n := by omega
  unfold hook hookNet
  dsimp only
  rw [MAC_IPV6_ADDR_page hk, port]
  iterate 5 rw [if_neg (by omega)]
  rw [if_pos (by omega)]
  dsimp only [Reg.MAC_IPV6_ADDR, Reg.XPT_CTL, Reg.XPT_FLOW_KILL, Reg.XPT_FLOW_SEL, Reg.MAC_LINK_CTL, Reg.MAC_IPV4_ADDR, Reg.MAC_ICMP_RATE,
    Reg.MAC_DIAG_POP]
  iterate 8 rw [if_neg (by omega)]

/-- An address is the same where its four words are. -/
theorem Drive.ipv6_of_reg (ha : a < 3) (h : ∀ k < 12, d'.reg (Reg.MAC_IPV6_ADDR n k) = d.reg (Reg.MAC_IPV6_ADDR n k)) :
    d'.ipv6 n a = d.ipv6 n a := by
  unfold Drive.ipv6
  dsimp only
  rw [h _ (by omega), h _ (by omega), h _ (by omega), h _ (by omega)]

@[simp] theorem Drive.garp_regs : (d.garp n).regs = d.regs := by
  unfold Drive.garp
  dsimp only
  split_ifs <;> simp only [Drive.send_regs]

theorem Drive.ipv6_garp (ha : a < 3) : (d.garp n).ipv6 m a = d.ipv6 m a :=
  Drive.ipv6_of_reg ha fun _ _ => Drive.reg_of_regs _ _ _ Drive.garp_regs

/-- DAD changes no register but the status of the port's addresses. -/
theorem Drive.dadStart_reg_ne (h : k ≠ Reg.MAC_IPV6_STAT n) : (d.dadStart n a).reg k = d.reg k := by
  unfold Drive.dadStart
  dsimp only
  split_ifs
  · rw [Drive.reg_of_regs _ _ _ (Drive.send_regs ..)]
    simp only [Drive.poke_reg_ne _ _ _ _ _ _ h]
  · simp only [Drive.poke_reg_ne _ _ _ _ _ _ h]

/-- DAD changes no address. -/
theorem Drive.ipv6_dadStart (hb : b < 3) : (d.dadStart n a).ipv6 m b = d.ipv6 m b :=
  Drive.ipv6_of_reg hb fun _ hk => Drive.dadStart_reg_ne (MAC_IPV6_ADDR_ne_MAC_IPV6_STAT hk)

/-- The IPv6 addresses of both ports, by port and index. -/
def ipv6Slots : List (Nat × Nat) := [0, 1].flatMap fun n => [0, 1, 2].map fun a => (n, a)

theorem mem_ipv6Slots {x : Nat × Nat} : x ∈ ipv6Slots ↔ x.1 < 2 ∧ x.2 < 3 := by
  obtain ⟨n, a⟩ := x
  simp [ipv6Slots]
  omega

theorem ipv6Slots_filter_eq (hn : n < 2) (ha : a < 3) : (ipv6Slots.filter fun x => x = (n, a)) = [(n, a)] := by
  interval_cases n <;> interval_cases a <;> rfl

/-- DAD begins for the addresses that differ, as DAD itself changes none. -/
theorem Drive.ipv6Writes_eq (was : Drive) :
    d.ipv6Writes was = (ipv6Slots.filter fun x => was.ipv6 x.1 x.2 ≠ d.ipv6 x.1 x.2).foldl (fun d x => d.dadStart x.1 x.2) d := by
  have step (l : List (Nat × Nat)) (hl : ∀ x ∈ l, x.1 < 2 ∧ x.2 < 3) (d' : Drive) (h : ∀ m b, m < 2 → b < 3 → d'.ipv6 m b = d.ipv6 m b) :
      l.foldl (fun (d : Drive) x => if was.ipv6 x.1 x.2 = d.ipv6 x.1 x.2 then d else d.ipv6Changed x.1 x.2) d' =
        (l.filter fun x => was.ipv6 x.1 x.2 ≠ d.ipv6 x.1 x.2).foldl (fun d x => d.dadStart x.1 x.2) d' := by
    induction l generalizing d' with
    | nil => rfl
    | cons x l ih =>
      obtain ⟨hx, hl⟩ := List.forall_mem_cons.1 hl
      rw [List.foldl_cons, h x.1 x.2 hx.1 hx.2]
      by_cases same : was.ipv6 x.1 x.2 = d.ipv6 x.1 x.2
      · rw [if_pos same, List.filter_cons_of_neg (by simp [same])]
        exact ih hl d' h
      · rw [if_neg same, List.filter_cons_of_pos (by simp [same])]
        exact ih hl _ fun m b hm hb => (Drive.ipv6_dadStart hb).trans (h m b hm hb)
  exact step ipv6Slots (fun x hx => mem_ipv6Slots.1 hx) d fun _ _ _ _ => rfl

theorem Drive.ipv6Writes_none {was : Drive} (same : ∀ m b, m < 2 → b < 3 → was.ipv6 m b = d.ipv6 m b) : d.ipv6Writes was = d := by
  rw [Drive.ipv6Writes_eq, List.filter_eq_nil_iff.2]
  · rfl
  · intro x hx
    obtain ⟨hm, hb⟩ := mem_ipv6Slots.1 hx
    simp [same x.1 x.2 hm hb]

theorem Drive.ipv6Writes_one {was : Drive} (hn : n < 2) (ha : a < 3)
    (one : ∀ m b, m < 2 → b < 3 → (was.ipv6 m b ≠ d.ipv6 m b ↔ m = n ∧ b = a)) : d.ipv6Writes was = d.dadStart n a := by
  rw [Drive.ipv6Writes_eq, List.filter_congr (q := fun x => x = (n, a)), ipv6Slots_filter_eq hn ha]
  · rfl
  · rintro ⟨m, b⟩ hx
    obtain ⟨hm, hb⟩ := mem_ipv6Slots.1 hx
    simp only [Prod.mk.injEq, decide_eq_decide]
    exact one m b hm hb

/-- The IPv4 address entering its register changes no IPv6 address. -/
theorem ipv6_stored_MAC_IPV4_ADDR (hb : b < 3) : (stored t p (Reg.MAC_IPV4_ADDR n) v).ipv6 m b = t.d.ipv6 m b := by
  refine Drive.ipv6_of_reg hb fun k hk => Drive.storeWord_reg_ne ?_ ?_ <;>
    · unfold regKey pk
      dsimp only [Reg.MAC_IPV6_ADDR, Reg.MAC_IPV4_ADDR]
      split_ifs <;> omega

/-- The word of IPV4_ADDR enters its register, and the address is announced. -/
theorem writeWords_MAC_IPV4_ADDR (hn : n < 2) :
    t.d.writeWords t.env p [(Reg.MAC_IPV4_ADDR n, v)] = (stored t p (Reg.MAC_IPV4_ADDR n) v).garp n := by
  rw [writeWords_ipv6 _ _ _ _ _ (plainPage_MAC_IPV4_ADDR hn), hook_MAC_IPV4_ADDR _ _ _ _ _ _ hn]
  refine Drive.ipv6Writes_none fun m b _ hb => ?_
  rw [Drive.ipv6_garp hb]
  exact (ipv6_stored_MAC_IPV4_ADDR hb).symm

/-- A word of an IPv6 address enters its register, and an address that it changes begins DAD. -/
theorem writeWords_MAC_IPV6_ADDR (hn : n < 2) (hk : k < 12) :
    t.d.writeWords t.env p [(Reg.MAC_IPV6_ADDR n k, v)] = (stored t p (Reg.MAC_IPV6_ADDR n k) v).ipv6Writes t.d := by
  rw [writeWords_ipv6 _ _ _ _ _ (plainPage_MAC_IPV6_ADDR hn hk), hook_MAC_IPV6_ADDR _ hn hk]
  rfl

/-- IPV6_ADDR_WRITE is a write of the register that its operands name. -/
theorem exec_ipv6AddrWrite {port : BitVec 1} {w : Nat} (ha : a < 3) (hw : w < 4) :
    exec (.ipv6AddrWrite p port a w v arb) s = regRow p (Reg.MAC_IPV6_ADDR port.toNat (4 * a + w)) v arb s := if_pos ⟨ha, hw⟩

/-- Settles O31: the effect of each register on the drive that its word has entered, and the end of a save. -/
theorem portRegisters : Obligations.PortRegisters := by
  refine fun s p port => ⟨?_, fun sv saving => gives_runOp rfl (macSaveDoneOp_saving saving), ?_, ?_, ?_⟩
  · rintro t arb v hw x x1 x2 x3 y rfl rfl enable retrain rfl row hrow
    have acts := hook_MAC_LINK_CTL s.env p v t.d (stored t p (Reg.MAC_LINK_CTL port.toNat) v) port.toNat port.isLt
    rw [linkCtlW_eq enable retrain] at acts
    have gives {i : Instr} (h : exec i s = regRow p (Reg.MAC_LINK_CTL port.toNat) v arb s) :=
      gives_reg h hw (plainPage_MAC_LINK_CTL _ port.isLt) (congrArg (Drive.accessed · s p) acts)
    simp only [List.mem_cons, List.not_mem_nil, or_false] at hrow
    rcases hrow with rfl | rfl | rfl | rfl <;> exact gives rfl
  · rintro t arb v hw x rfl
    have acts := hook_MAC_DIAG_POP s.env p v t.d (stored t p (Reg.MAC_DIAG_POP port.toNat) v) port.toNat port.isLt
    have plain := plainPage_MAC_DIAG_POP _ port.isLt
    refine ⟨fun pop => gives_reg rfl hw plain ?_, fun keep => gives_reg rfl hw plain ?_⟩
    · rw [acts, diagPopW, if_pos pop]
    · rw [acts, diagPopW, if_neg (by simp [keep])]
  · intro t arb v hw
    exact gives_writeWords rfl hw (by rw [← hw.env_eq]; exact writeWords_MAC_IPV4_ADDR port.isLt)
  · rintro t arb v a w ha hb hw x rfl
    have written := writeWords_MAC_IPV6_ADDR (t := t) (p := p) (v := v) (k := 4 * a + w) port.isLt (by omega)
    rw [hw.env_eq] at written
    refine ⟨fun one => gives_writeWords (exec_ipv6AddrWrite ha hb) hw ?_, fun same => gives_writeWords (exec_ipv6AddrWrite ha hb) hw ?_⟩
    · rw [written, Drive.ipv6Writes_one port.isLt ha one]
    · rw [written, Drive.ipv6Writes_none same]

/-! ### Received frames (R69 to R76, R80, R85) -/

section
variable {f : RxFrame} {prio dest err len need room : Nat}

/-- A frame tagged as the port accepts goes where its headers say (R72). -/
def Drive.routed (d : Drive) (e : Env) (n : Nat) (f : RxFrame) (prio err : Nat) : Drive :=
  match d.steer n f.dst f.body with
  | .control => d.dropFrame n f prio err
  | .legacyPause => (d.bumpOpen (Reg.MAC_PAUSE_LEGACY n) 1).dropFrame n f prio (2 ^ 9 ||| err)
  | .unclaimed => d.dropFrame n f prio (2 ^ 7 ||| err)
  | .ipDrop => d.dropFrame n f prio (2 ^ 8 ||| err)
  | .xpt => d.ringPut e n f prio 0 err
  | .offload => d.ringPut e n f prio 1 err

/-- What a frame meets once FEC and reassembly have counted: the address filter, then the tags, then its headers. -/
def Drive.received (d : Drive) (e : Env) (n : Nat) (f : RxFrame) : Drive :=
  if !d.accepts e n f.dst then d.bumpOpen (Reg.MAC_RX_ADDR_FILTERED n) 1
  else if f.stag then (d.bumpOpen (Reg.MAC_RX_STAG n) 1).dropFrame n f (d.prioOf n f.tag) (2 ^ 9 ||| d.frameErr n f)
  else if !d.flag (Reg.MAC_VLAN_CTL n) (if f.tag.isSome then 0 else 1) then d.dropFrame n f (d.prioOf n f.tag) (d.frameErr n f)
  else d.routed e n f (d.prioOf n f.tag) (d.frameErr n f)

/-- RX_FRAME with the link up. Its two checks of the tags are one: bit 0 of VLAN_CTL for a tagged frame, bit 1 for another. -/
theorem rxFrameOp_up (up : d.linkUp n = true) : rxFrameOp n f e d = (d.countBelow n f).received e n f := by
  unfold rxFrameOp Drive.received Drive.routed Drive.prioOf
  rw [if_neg (by simp [up])]
  cases f.tag <;> simp <;> rfl

theorem Drive.received_filtered (foreign : d.accepts e n f.dst = false) :
    d.received e n f = d.bumpOpen (Reg.MAC_RX_ADDR_FILTERED n) 1 := if_pos (by rw [foreign]; rfl)

section
variable (taken : d.accepts e n f.dst = true)
include taken

theorem Drive.received_stag (stag : f.stag = true) :
    d.received e n f = (d.bumpOpen (Reg.MAC_RX_STAG n) 1).dropFrame n f (d.prioOf n f.tag) (2 ^ 9 ||| d.frameErr n f) := by
  unfold Drive.received
  rw [if_neg (by simp [taken]), if_pos stag]

theorem Drive.received_mistagged (noStag : f.stag = false) (barred : d.flag (Reg.MAC_VLAN_CTL n) (if f.tag.isSome then 0 else 1) = false) :
    d.received e n f = d.dropFrame n f (d.prioOf n f.tag) (d.frameErr n f) := by
  unfold Drive.received
  rw [if_neg (by simp [taken]), if_neg (by simp [noStag]), if_pos (by rw [barred]; rfl)]

theorem Drive.received_routed (noStag : f.stag = false) (accepted : d.flag (Reg.MAC_VLAN_CTL n) (if f.tag.isSome then 0 else 1) = true) :
    d.received e n f = d.routed e n f (d.prioOf n f.tag) (d.frameErr n f) := by
  unfold Drive.received
  rw [if_neg (by simp [taken]), if_neg (by simp [noStag]), if_neg (by rw [accepted]; decide)]

end

theorem Drive.routed_ring (h : d.steer n f.dst f.body = .xpt ∧ dest = 0 ∨ d.steer n f.dst f.body = .offload ∧ dest = 1) :
    d.routed e n f prio err = d.ringPut e n f prio dest err := by
  unfold Drive.routed
  rcases h with ⟨h, rfl⟩ | ⟨h, rfl⟩ <;> rw [h]

/-- The bytes of a frame that its ring stores: at most the greatest frame, without the tag (R74). -/
def Drive.ringLen (d : Drive) (n : Nat) (f : RxFrame) : Nat :=
  min f.len (d.fld (Reg.MAC_MAX_FRAME n) 13 0) - (if f.tag.isSome then 4 else 0)

section
variable (hlen : len = d.ringLen n f) (hneed : need = max 1 (ceilDiv len (d.bufSize n))) (hroom : room = d.ringBufs n prio - d.ringOcc n prio)
include hlen hneed hroom

theorem Drive.ringPut_good (fits : need ≤ room) (good : err = 0) :
    d.ringPut e n f prio dest err =
      ((((d.hand n f len need prio dest 0).occRose e n prio).countErr n 0).bumpWide (Reg.MAC_RX_FRAMES n) 1).bumpWide (Reg.MAC_RX_BYTES n)
        f.len := by
  subst hlen hneed hroom good
  unfold Drive.ringPut
  exact (if_pos fits).trans (if_pos rfl)

theorem Drive.ringPut_bad (fits : need ≤ room) (bad : err ≠ 0) :
    d.ringPut e n f prio dest err =
      (((d.hand n f len need prio dest err).occRose e n prio).countErr n err).capture n f prio dest err := by
  subst hlen hneed hroom
  unfold Drive.ringPut
  exact (if_pos fits).trans (if_neg bad)

theorem Drive.ringPut_short (short : room < need) {x : Drive}
    (hx : x = (((if room = 0 then d else (d.hand n f (room * d.bufSize n) room prio dest (2 ^ 6)).occRose e n prio).bumpOpen
      (Reg.MAC_RX_NOBUF n) 1).setInt (pgMac n) 3)) :
    d.ringPut e n f prio dest err =
      (x.event e 0x201 n prio (x.reg (Reg.MAC_RX_NOBUF n)).toNat (x.fld (Reg.MAC_RXQ_OCC n prio) 27 16)).capture n f prio dest (2 ^ 6) := by
  subst hlen hneed hroom hx
  unfold Drive.ringPut
  exact if_neg (by unfold Drive.ringLen at short; omega)

end

theorem rxBufferReleaseOp_kept {ring : Nat} (hd : d' = d.onPort n fun x => { x with rings := modAt x.rings ring (·.drop k) })
    (keep : d'.txPausing n ring = false ∨ d'.wmLow n ring < d'.ringOcc n ring) : rxBufferReleaseOp n ring k e d = d' := by
  subst hd
  refine if_neg ?_
  rintro ⟨pausing, low⟩
  rcases keep with h | h
  · rw [h] at pausing
    cases pausing
  · omega

theorem rxBufferReleaseOp_ends {ring : Nat} (hd : d' = d.onPort n fun x => { x with rings := modAt x.rings ring (·.drop k) })
    (pausing : d'.txPausing n ring = true) (low : d'.ringOcc n ring ≤ d'.wmLow n ring) :
    rxBufferReleaseOp n ring k e d = (d'.poke (Reg.MAC_PFC_STAT n) (8 + ring) (8 + ring) 0).pfcSend e n ring 0 := by
  subst hd
  exact if_pos ⟨pausing, low⟩

end

/-- Settles O32: what a frame meets in order, each with its equation, then the two ways a release of buffers ends. -/
theorem receivedFrames : Obligations.ReceivedFrames := by
  refine fun s port f => ⟨?_, ?_⟩
  · rintro up d prio err rfl hprio rfl
    have prioIs : prio = (s.d.countBelow port.toNat f).prioOf port.toNat f.tag := hprio
    subst prioIs
    have gives {d' : Drive} (h : (s.d.countBelow port.toNat f).received s.env port.toNat f = d') : Gives (.rxFrame port f) s d' :=
      gives_runOp rfl ((rxFrameOp_up up).trans h)
    refine ⟨fun foreign => gives (Drive.received_filtered foreign), fun taken => ⟨fun stag => gives (Drive.received_stag taken stag),
      fun noStag barred => gives (Drive.received_mistagged taken noStag barred), fun noStag accepted => ?_⟩⟩
    have routed := Drive.received_routed taken noStag accepted
    have steered {d' : Drive} (h : (s.d.countBelow port.toNat f).routed s.env port.toNat f _ _ = d') : Gives (.rxFrame port f) s d' :=
      gives (routed.trans h)
    refine ⟨fun h => steered ?_, fun h => steered ?_, fun h => steered ?_, fun h => steered ?_,
      fun dest len k room hdest hlen hk hroom => ?_⟩
    iterate 4
      · unfold Drive.routed
        rw [h]
    have ring {d' : Drive} (h : (s.d.countBelow port.toNat f).ringPut s.env port.toNat f _ dest _ = d') : Gives (.rxFrame port f) s d' :=
      steered ((Drive.routed_ring hdest).trans h)
    exact ⟨fun fits good => ring (Drive.ringPut_good hlen hk hroom fits good), fun fits bad => ring (Drive.ringPut_bad hlen hk hroom fits bad),
      fun short x hx => ring (Drive.ringPut_short hlen hk hroom short hx)⟩
  · exact fun ring k d hd => ⟨fun keep => gives_runOp rfl (rxBufferReleaseOp_kept hd keep),
      fun pausing low => gives_runOp rfl (rxBufferReleaseOp_ends hd pausing low)⟩

/-! ### Pauses (R77, R78) -/

/-- A PFC frame counts each priority it names, and sets or ends the pause of an honoured one. -/
theorem pfcReceivedOp_up {vec : Byte} {times : List Half} (up : d.linkUp n = true) :
    pfcReceivedOp n vec times e d =
      ([0, 1, 2, 3, 4, 5, 6, 7].filter fun p => vec.getLsbD p).foldl (fun (d : Drive) (p : Nat) =>
        if (d.bumpOpen (Reg.MAC_PFC_RX n p) 1).flag (Reg.MAC_PFC_CTL n) (8 + p) = true then
          (d.bumpOpen (Reg.MAC_PFC_RX n p) 1).onPort n fun x => { x with
            pauses := (x.pauses.filter fun e => !(e.1 == p)) ++
              (if ((times[p]?).getD 0).toNat = 0 then [] else [(p, ((times[p]?).getD 0).toNat)]) }
        else d.bumpOpen (Reg.MAC_PFC_RX n p) 1) d := by
  have timer (rest : List (Nat × Nat)) (p q : Nat) : (if q = 0 then rest else rest ++ [(p, q)]) = rest ++ (if q = 0 then [] else [(p, q)]) := by
    split_ifs
    · exact (List.append_nil rest).symm
    · rfl
  unfold pfcReceivedOp
  rw [if_neg (by simp [up])]
  simp only [timer]
  rfl

theorem pfcRefreshOp_repeats (hp : k < 8) (up : d.linkUp n = true) (pausing : d.txPausing n k = true)
    (high : d.wmLow n k < d.ringOcc n k) :
    pfcRefreshOp n k e d = (d.bumpOpen (Reg.MAC_PFC_TX n k) 1).sent e n (TxFrame.mk' (d.express n) 0x0180C2000001#48 none
      (.pfc (2 ^ k) ((List.range 8).map fun q => if q = k then d.fld (Reg.MAC_PFC_QUANTA n) 15 0 else 0))) :=
  (if_pos ⟨hp, pausing, high⟩).trans (if_pos up)

/-! ### Transmission (R79, R82 to R84) -/

section
variable {f : TxFrame} {from_ c : Nat} {cut : Option Nat}

/-- The frame goes out whole, as the last fragment where it was suspended. -/
def Drive.sentWhole (d : Drive) (e : Env) (n : Nat) (f : TxFrame) (from_ : Nat) : Drive :=
  (if from_ = 0 then d else d.bumpOpen (Reg.MAC_FRAG_TX n) 1).sent e n f

/-- The frame yields at `c`: preemption is active, the frame is not express, and `c` is a legal boundary (R82). -/
def Drive.yields (d : Drive) (n : Nat) (f : TxFrame) (from_ c : Nat) : Prop :=
  d.preempting n = true ∧ f.prio ≠ d.express n ∧ fragLegal (d.fragMin n) f.len from_ c = true

theorem Drive.transmit_yields (h : d.yields n f from_ c) :
    d.transmit e n f from_ (some c) = (d.bumpOpen (Reg.MAC_FRAG_TX n) 1).onPort n fun p => { p with suspended := some (f, c) } := by
  obtain ⟨active, prio, legal⟩ := h
  exact if_pos (by simp [active, prio, legal])

theorem Drive.transmit_whole (h : ¬d.yields n f from_ c) : d.transmit e n f from_ (some c) = d.sentWhole e n f from_ := by
  refine if_neg fun all => h ?_
  simpa [Drive.yields, and_assoc] using all

/-- `d` is the drive `s` with frame `f` taken up at byte `from_`: the next one that may start, or the suspended one where no
other may start and its priority is not paused (R84). -/
def Drive.takesUp (s : Drive) (n : Nat) (f : TxFrame) (from_ : Nat) (d : Drive) : Prop :=
  (s.nextFrame n = some f ∧ from_ = 0 ∧ d = s.onPort n fun p => p.unqueue f) ∨
    (s.nextFrame n = none ∧ (s.port n).suspended = some (f, from_) ∧ (s.port n).paused f.prio = false ∧
      d = s.onPort n fun p => { p with suspended := none })

theorem txFrameOp_takesUp (up : d.linkUp n = true) (h : d.takesUp n f from_ d') : txFrameOp n cut e d = d'.transmit e n f from_ cut := by
  unfold txFrameOp
  rw [if_neg (by simp [up])]
  rcases h with ⟨next, rfl, rfl⟩ | ⟨none_, held, free, rfl⟩
  · rw [next]
  · rw [none_, held]
    exact if_neg (by simp [free])

theorem preemptHoldOp_aborts (held : (d.port n).suspended = some (f, c)) (paused : (d.port n).paused f.prio = true) :
    preemptHoldOp n e d =
      (((d.onPort n fun p => { p with suspended := none }).bumpOpen (Reg.MAC_PREEMPT_ABORTS n) 1).setInt (pgMac n) 8).event e
        0x202 n f.prio 0 0 := by
  unfold preemptHoldOp
  rw [held]
  exact if_pos paused

end

/-- Settles O33: one equation per command; of TX_FRAME the frame taken up first, then whether it yields. -/
theorem pauseAndTransmit : Obligations.PauseAndTransmit := by
  refine fun s port => ⟨fun vec times up => gives_runOp rfl (pfcReceivedOp_up up), fun p => gives_runOp rfl rfl,
    fun p hp up pausing high => gives_runOp rfl (pfcRefreshOp_repeats hp up pausing high), ?_,
    fun f c held paused => gives_runOp rfl (preemptHoldOp_aborts held paused)⟩
  rintro f from_ d whole up takesUp rfl
  have gives {cut : Option Nat} {d' : Drive} (h : d.transmit s.env port.toNat f from_ cut = d') : Gives (.txFrame port cut) s d' :=
    gives_runOp rfl ((txFrameOp_takesUp up takesUp).trans h)
  exact ⟨gives rfl, fun c => ⟨fun h => gives (Drive.transmit_yields h), fun h => gives (Drive.transmit_whole h)⟩⟩

/-! ### Address offloads (R86 to R88) -/

section
variable {arr : Arrival} {target : BitVec 128}

/-- The drive once an ARP message has shown, or not, a duplicate of the port's address. -/
def Drive.arpHeard (d : Drive) (e : Env) (n : Nat) (ip : Word) (mac : BitVec 48) : Drive :=
  if ip = d.reg (Reg.MAC_IPV4_ADDR n) ∧ mac ≠ e.mac n then (d.setInt (pgMac n) 6).event e 0x203 n 0 0 0 else d

theorem arpRequestOp_own {ip tip own : Word} {mac : BitVec 48} {req : Bool} (up : d.linkUp arr.port.toNat = true)
    (hown : own = d.reg (Reg.MAC_IPV4_ADDR arr.port.toNat)) (ne : own ≠ 0) (hd : d' = d.arpHeard e arr.port.toNat ip mac) :
    arpRequestOp arr ip tip mac req e d =
      if req = true ∧ tip = own ∧ d'.flag (Reg.MAC_OFF_CTL arr.port.toNat) 0 = true then d'.reply arr (.arpReply own mac ip) else d' := by
  subst hown hd
  unfold arpRequestOp
  dsimp only
  rw [if_neg (by rw [up, beq_eq_false_iff_ne.2 ne]; decide)]
  simp only [Bool.and_eq_true, beq_iff_eq, and_assoc]
  rfl

theorem dadTimeoutOp_tentative (ha : a < 3) (on : d.macOn n = true) (tentative : d.ipv6Tentative n a = true) :
    dadTimeoutOp n a e d =
      ((d.poke (Reg.MAC_IPV6_STAT n) (8 + a) (8 + a) 0).poke (Reg.MAC_IPV6_STAT n) a a 1).send n
        (TxFrame.mk' 0 0x333300000001#48 none (.na allNodes (BitVec.ofNat 128 (d.ipv6 n a)) false)) := if_pos ⟨ha, on, tentative⟩

/-- The drive once its tentative address `a` has a duplicate (R87). -/
def Drive.ipv6Dup (d : Drive) (e : Env) (n a : Nat) : Drive :=
  (((d.poke (Reg.MAC_IPV6_STAT n) (8 + a) (8 + a) 0).poke (Reg.MAC_IPV6_STAT n) (4 + a) (4 + a) 1).setInt (pgMac n) 6).event e
    0x203 n (1 + a) 0 0

theorem Drive.naReply_host (host : arr.ip ≠ 0) : d.naReply arr target = d.reply arr (.na arr.ip target true) := if_neg host

theorem Drive.naReply_unspecified (unspecified : arr.ip = 0) :
    d.naReply arr target =
      d.send arr.port.toNat (TxFrame.mk' (d.prioOf arr.port.toNat arr.tag) 0x333300000001#48 arr.tag (.na allNodes target false)) :=
  if_pos unspecified

section
variable {advert : Bool} (up : d.linkUp arr.port.toNat = true) (nd : d.flag (Reg.MAC_OFF_CTL arr.port.toNat) 1 = true)
  (mine : ([0, 1, 2].find? fun a => d.ipv6 arr.port.toNat a == target.toNat &&
    (d.ipv6Valid arr.port.toNat a || d.ipv6Tentative arr.port.toNat a)) = some a)
include up nd mine

/-- A message on address `a`, which is VALID or TENTATIVE: an answer to a solicitation, a duplicate, or nothing. -/
theorem neighborSolicitationOp_mine :
    neighborSolicitationOp arr target advert e d =
      if d.ipv6Valid arr.port.toNat a then if advert then d else d.naReply arr target
      else if !advert && arr.ip != 0 then d else d.ipv6Dup e arr.port.toNat a := by
  unfold neighborSolicitationOp
  dsimp only
  rw [if_neg (by simp [up, nd]), mine]
  rfl

theorem neighborSolicitationOp_valid (valid : d.ipv6Valid arr.port.toNat a = true) :
    neighborSolicitationOp arr target advert e d = if advert then d else d.naReply arr target :=
  (neighborSolicitationOp_mine up nd mine).trans (if_pos valid)

theorem neighborSolicitationOp_duplicate (tentative : d.ipv6Valid arr.port.toNat a = false) (dup : advert = true ∨ arr.ip = 0) :
    neighborSolicitationOp arr target advert e d = d.ipv6Dup e arr.port.toNat a := by
  rw [neighborSolicitationOp_mine up nd mine, if_neg (by simp [tentative])]
  refine if_neg ?_
  rcases dup with rfl | any
  · simp
  · simp [any]

theorem neighborSolicitationOp_ignored (tentative : d.ipv6Valid arr.port.toNat a = false) (asks : advert = false) (host : arr.ip ≠ 0) :
    neighborSolicitationOp arr target advert e d = d := by
  rw [neighborSolicitationOp_mine up nd mine, if_neg (by simp [tentative]), asks, bne_iff_ne.2 host]
  rfl

end

section
variable {ident seqNo : Half} {payload : List Byte} {rate tok : Nat} (up : d.linkUp arr.port.toNat = true)
  (answers : d.flag (Reg.MAC_OFF_CTL arr.port.toNat) (if arr.ipv6 then 3 else 2) = true)
  (hrate : rate = d.fld (Reg.MAC_ICMP_RATE arr.port.toNat) 15 0)
  (htok : tok = min 16000 ((d.port arr.port.toNat).icmp.tok + rate * (e.clk.optime - (d.port arr.port.toNat).icmp.at_)))
include up answers hrate htok

theorem echoRequestOp_answered (limited : rate ≠ 0) (token : 1000 ≤ tok) :
    echoRequestOp arr ident seqNo payload e d =
      (d.onPort arr.port.toNat fun x => { x with icmp := ⟨tok - 1000, e.clk.optime⟩ }).reply arr
        (.echoReply arr.ipv6 (d.srcIp arr) arr.ip ident seqNo payload) := by
  subst hrate htok
  unfold echoRequestOp
  dsimp only
  rw [if_neg (by simp [up, answers])]
  exact if_neg (not_or.2 ⟨limited, Nat.not_lt.2 token⟩)

theorem echoRequestOp_dropped (none_ : rate = 0 ∨ tok < 1000) :
    echoRequestOp arr ident seqNo payload e d = d.bumpOpen (Reg.MAC_ICMP_DROP arr.port.toNat) 1 := by
  subst hrate htok
  unfold echoRequestOp
  dsimp only
  rw [if_neg (by simp [up, answers])]
  exact if_pos none_

end

end

/-! ### Wake detectors (R90) -/

theorem wakePatternOp_armed {both : Bool} (on : d.isOn 1 = true) (armed : d.flag Reg.WAKE_STAT n = true)
    (other : both = true → d.flag Reg.WAKE_STAT (1 - n) = true) : wakePatternOp n both e d = (d.wakeFire n both).wake e 1 := by
  refine if_pos ?_
  cases both
  case false => simp [on, armed]
  case true => simp [on, armed, other rfl]

/-- Settles O34: one equation per message and per detector command, then the conditions of its cases. -/
theorem portOffloads : Obligations.PortOffloads := by
  refine fun s arr => ⟨?_, fun a ha on tentative => gives_runOp rfl (dadTimeoutOp_tentative ha on tentative), ?_, ?_,
    fun lane eye up => gives_runOp rfl (if_pos up), fun on fawn ctl => gives_runOp rfl (if_pos ⟨on, fawn, ctl⟩),
    fun both on armed other => gives_runOp rfl (wakePatternOp_armed on armed other)⟩
  · rintro ip tip own mac req d up rfl ne hd
    have heard := arpRequestOp_own (tip := tip) (req := req) up rfl ne hd
    exact ⟨fun asks => gives_runOp rfl (heard.trans (if_pos asks)), fun not => gives_runOp rfl (heard.trans (if_neg not))⟩
  · intro target a up nd mine
    refine ⟨fun valid => ⟨fun host => ?_, fun unspecified => ?_, ?_⟩, ?_⟩
    · exact gives_runOp rfl ((neighborSolicitationOp_valid up nd mine valid).trans (Drive.naReply_host host))
    · exact gives_runOp rfl ((neighborSolicitationOp_valid up nd mine valid).trans (Drive.naReply_unspecified unspecified))
    · exact gives_runOp rfl (neighborSolicitationOp_valid up nd mine valid)
    · rintro tentative d rfl
      exact ⟨gives_runOp rfl (neighborSolicitationOp_duplicate up nd mine tentative (.inl rfl)),
        fun unspecified => gives_runOp rfl (neighborSolicitationOp_duplicate up nd mine tentative (.inr unspecified)),
        fun host => gives_runOp rfl (neighborSolicitationOp_ignored up nd mine tentative rfl host)⟩
  · intro ident seqNo payload rate tok up answers hrate htok
    exact ⟨fun limited token => gives_runOp rfl (echoRequestOp_answered up answers hrate htok limited token),
      fun none_ => gives_runOp rfl (echoRequestOp_dropped up answers hrate htok none_)⟩

end Sys2Proof.Machine
end

section
/-! PROOFS. Chapter 4 (04_drive_transport.md): how a flow opens (R109 to R113) and how it ends (R114 to R118, R141, R144), the
datagrams of a flow (R119 to R131), those that fail R104 and probes (R138), the timers of a flow (R119, R126, R129, R132) and the
registers of the transport (R143, R146). Each operation has one equation per case; the statements are put together from them. -/

namespace Sys2Proof.Machine

variable {s t : State} {d d' x : Drive} {e : Env} {p : Path} {arb : Arb} {v : Word} {r : Arrival} {h : Hdr} {f g : Flow} {slot : Nat}

/-- A row of the transport completes with what commands that waited make of the drive its effect gives. -/
theorem gives_xptOp {i : Instr} {op : Effect} (h : exec i s = xptRow op s) (fit : s.d.unitOut 2 = false) (hd : op s.env s.d = d) :
    Gives i s (d.settled s.env) := gives_xpt h fit (congrArg (Drive.settled · s.env) hd)

/-- A datagram that the transport takes passes the check with which each of its operations begins. -/
theorem Drive.xptTakes_unicast (on : d.xptTakes r = true) (unicast : r.group = false) : ¬(!d.xptTakes r || r.group) = true := by
  simp [on, unicast]

/-! ### The slots of the pool (R120) -/

/-- `f` is `g` but for its LIMIT and whether news of it is due, which are what a share of the pool changes. -/
def Flow.creditOf (f g : Flow) : Prop := f = { g with limit := f.limit, ackDue := f.ackDue }

theorem Flow.creditOf.refl (f : Flow) : f.creditOf f := rfl

theorem Flow.creditOf.trans {k : Flow} (fg : f.creditOf g) (gk : g.creditOf k) : f.creditOf k := by
  unfold Flow.creditOf at *
  rw [fg, gk]

/-- Where one flow takes slots, a flow keeps all but its share of the pool. -/
theorem Drive.takeSlots_flow (a : Nat) (hg : d.flow? slot = some g) : ∃ f, (d.takeSlots a).flow? slot = some f ∧ f.creditOf g := by
  unfold Drive.takeSlots
  split
  · exact ⟨g, hg, Flow.creditOf.refl g⟩
  · dsimp only
    split_ifs
    · exact ⟨g, hg, Flow.creditOf.refl g⟩
    · rw [Drive.flow_onFlow, hg]
      · split_ifs
        · exact ⟨_, rfl, rfl⟩
        · exact ⟨g, rfl, Flow.creditOf.refl g⟩
      · exact fun _ => rfl

theorem Drive.foldl_takeSlots_flow (order : List Nat) (hg : d.flow? slot = some g) :
    ∃ f, (order.foldl Drive.takeSlots d).flow? slot = some f ∧ f.creditOf g := by
  induction order generalizing d g with
  | nil => exact ⟨g, hg, Flow.creditOf.refl g⟩
  | cons a order ih =>
    obtain ⟨k, hk, kg⟩ := Drive.takeSlots_flow a hg
    obtain ⟨f, hf, fk⟩ := ih hk
    exact ⟨f, hf, fk.trans kg⟩

theorem Drive.flow_setInt (pg b : Nat) : (d.setInt pg b).flow? slot = d.flow? slot := by
  unfold Drive.flow?
  rw [Drive.setInt_xpt]

/-- Sharing the pool out changes of a flow its LIMIT, and that the LIMIT is news. -/
theorem Drive.credits_flow (hg : d.flow? slot = some g) : ∃ f, d.credits.flow? slot = some f ∧ f.creditOf g := by
  unfold Drive.credits
  dsimp only
  split_ifs
  · rw [Drive.flow_setInt]
    exact Drive.foldl_takeSlots_flow _ hg
  · exact Drive.foldl_takeSlots_flow _ hg

/-! ### An OPEN (R109 to R113) -/

section
variable {o : HeldOpen} (on : d.xptTakes o.arr = true) (unicast : o.arr.group = false)
include on unicast

theorem flowOpenOp_malformed (bad : o.body.length ≠ 20) : flowOpenOp o e d = d.bump Reg.XPT_RX_HDR_BAD 1 :=
  (if_neg (Drive.xptTakes_unicast on unicast)).trans (if_pos bad)

/-- A well-formed OPEN: unanswered during Fawn entry, else its version comes first. -/
theorem flowOpenOp_fits (fits : o.body.length = 20) :
    flowOpenOp o e d = if d.pwr.fawnStep != 0 then d else if o.version ≠ 1 then d.openRefuse o.arr o.body 1 else d.openIn e o :=
  (if_neg (Drive.xptTakes_unicast on unicast)).trans (if_neg (not_not.2 fits))

theorem flowOpenOp_fawn (fits : o.body.length = 20) (fawn : d.pwr.fawnStep ≠ 0) : flowOpenOp o e d = d :=
  (flowOpenOp_fits on unicast fits).trans (if_pos (bne_iff_ne.2 fawn))

section
variable (fits : o.body.length = 20) (awake : d.pwr.fawnStep = 0)
include fits awake

theorem flowOpenOp_version (other : o.version ≠ 1) : flowOpenOp o e d = d.openRefuse o.arr o.body 1 :=
  ((flowOpenOp_fits on unicast fits).trans (if_neg (by simp [awake]))).trans (if_pos other)

theorem flowOpenOp_openIn (mine : o.version = 1) : flowOpenOp o e d = d.openIn e o :=
  ((flowOpenOp_fits on unicast fits).trans (if_neg (by simp [awake]))).trans (if_neg (not_not.2 mine))

theorem flowOpenOp_again (mine : o.version = 1) (again : d.opened o.arr o.body = some f) : flowOpenOp o e d = d.openAck f := by
  rw [flowOpenOp_openIn on unicast fits awake mine]
  unfold Drive.openIn
  rw [again]

theorem flowOpenOp_new (mine : o.version = 1) (new : d.opened o.arr o.body = none) : flowOpenOp o e d = d.openSearch e o := by
  rw [flowOpenOp_openIn on unicast fits awake mine]
  unfold Drive.openIn
  rw [new]

end

end

section
variable {o : HeldOpen} {w : Verdict}

theorem Drive.openSearch_fields (bad : 4096 ≤ openTenant o.body ∨ openCmds o.body = 0 ∨ 4096 < openCmds o.body) :
    d.openSearch e o = d.openRefuse o.arr o.body 2 := if_pos bad

/-- The fields of an OPEN are in range (check 2 of R110). -/
def HeldOpen.inRange (o : HeldOpen) : Prop := openTenant o.body < 4096 ∧ 0 < openCmds o.body ∧ openCmds o.body ≤ 4096

theorem HeldOpen.inRange.not_bad (ok : o.inRange) : ¬(4096 ≤ openTenant o.body ∨ openCmds o.body = 0 ∨ 4096 < openCmds o.body) := by
  obtain ⟨tenant, some_, most⟩ := ok
  omega

theorem Drive.openSearch_mtu (ok : o.inRange) (small : d.flowMtu o.arr o.body < 4352) :
    d.openSearch e o = d.openRefuse o.arr o.body 3 := (if_neg ok.not_bad).trans (if_pos small)

theorem Drive.openSearch_held (ok : o.inRange) (mtu : 4352 ≤ d.flowMtu o.arr o.body) (rebuilds : d.tableHeld (d.classTable 0) = true) :
    d.openSearch e o = d.onMch fun m => { m with heldOpens := m.heldOpens ++ [o] } :=
  ((if_neg ok.not_bad).trans (if_neg (not_lt.2 mtu))).trans (if_pos rebuilds)

/-- The end of an OPEN that was searched with verdict `w`: denied, without a FREE slot, or taken (R110, R111). -/
def Drive.openDecided (d : Drive) (e : Env) (o : HeldOpen) (w : Verdict) : Drive :=
  if !w.allow then d.openRefuse o.arr o.body 4
  else (d.xpt.freeSlot o.slot).elim ((d.openRefuse o.arr o.body 5).setInt pgXpt 2) (d.openTake e o w)

section
variable (ok : o.inRange) (mtu : 4352 ≤ d.flowMtu o.arr o.body) (whole : d.tableHeld (d.classTable 0) = false)
  (found : d.search 0 (searchKey (openTenant o.body) 0 o.arr.port.toNat 0 (d.vidOf o.arr) []) = (w, d'))
include ok mtu whole found

theorem Drive.openSearch_searched : d.openSearch e o = d'.openDecided e o w := by
  unfold Drive.openSearch
  rw [if_neg ok.not_bad, if_neg (not_lt.2 mtu), if_neg (by rw [whole]; decide)]
  dsimp only
  rw [found]
  unfold Drive.openDecided
  dsimp only
  cases d'.xpt.freeSlot o.slot <;> rfl

theorem Drive.openSearch_denied (deny : w.allow = false) : d.openSearch e o = d'.openRefuse o.arr o.body 4 :=
  (Drive.openSearch_searched ok mtu whole found).trans (if_pos (by rw [deny]; rfl))

theorem Drive.openSearch_full (allow : w.allow = true) (full : d'.xpt.freeSlot o.slot = none) :
    d.openSearch e o = (d'.openRefuse o.arr o.body 5).setInt pgXpt 2 := by
  rw [Drive.openSearch_searched ok mtu whole found, Drive.openDecided, if_neg (by rw [allow]; decide), full, Option.elim_none]

theorem Drive.openSearch_takes (allow : w.allow = true) (free : d'.xpt.freeSlot o.slot = some slot) :
    d.openSearch e o = d'.openTake e o w slot := by
  rw [Drive.openSearch_searched ok mtu whole found, Drive.openDecided, if_neg (by rw [allow]; decide), free, Option.elim_some]

end

/-- The flow that an OPEN begins in a slot. -/
def Drive.newFlow (d : Drive) (e : Env) (o : HeldOpen) (w : Verdict) (slot : Nat) : Flow :=
  { slot := slot, inc := d.xpt.incOf slot, st := .open_, tenant := BitVec.ofNat 12 (openTenant o.body), nonce := openNonce o.body
    ipv6 := o.arr.ipv6, ip := o.arr.ip, udp := o.arr.udp, arr := o.arr, qos := w.qos, mtu := d.flowMtu o.arr o.body
    target := min (openCmds o.body) (d.fld Reg.XPT_FLOW_CTL 12 0), isnHost := openIsn o.body, isnDrive := o.isn
    rto := d.fld Reg.XPT_TIMERS 31 16, idleS := d.fld Reg.XPT_FLOW_CTL 31 16, rxNext := openIsn o.body, limit := openIsn o.body, gap := []
    cmds := [], closeSeq := none, txNext := o.isn, txAcked := o.isn, credit := o.hdr.credit.toNat, msgs := [], subs := [], notices := []
    resends := 0, lastRx := e.clk.optime, ackDue := false, closed := false }

/-- The drive once flow `g` is listed and has its share of the pool. -/
def Drive.listed (d : Drive) (g : Flow) : Drive := (d.onXpt fun x => { x with flows := x.flows ++ [g] }).credits

/-- A flow listed in a slot that was FREE stands there, with what it got from the pool. -/
theorem Drive.listed_flow (free : d.flow? g.slot = none) : ∃ f, (d.listed g).flow? g.slot = some f ∧ f.creditOf g := by
  refine Drive.credits_flow ?_
  unfold Drive.flow? Drive.onXpt at *
  dsimp only
  rw [List.find?_append, free]
  simp

theorem Drive.openTake_listed (standing : (d.listed (d.newFlow e o w slot)).flow? slot = some f) :
    d.openTake e o w slot =
      ((d.listed (d.newFlow e o w slot)).openAck f).onFlow slot fun y => { y with ackDue := false } := by
  unfold Drive.listed Drive.newFlow at standing ⊢
  unfold Drive.openTake
  dsimp only
  rw [standing]

end

/-- Settles O35: the checks of R110 in their order, each with its equation; then the flow that a FREE slot takes, which the sharing of
the pool changes in its LIMIT alone. That the version is checked before a repeated OPEN, and which FREE slot is taken, are the model's
choices (log entries 92 and 126). -/
theorem flowsOpen : Obligations.FlowsOpen := by
  refine ⟨fun s arr h b slot isn fit on unicast => ?_, fun d e o v slot free => ?_⟩
  · have gives {version : Byte} {d : Drive} (hd : flowOpenOp ⟨arr, h, version, b, slot, isn⟩ s.env s.d = d) :
        Gives (.flowOpen arr h version b slot isn) s (d.settled s.env) := gives_xptOp rfl fit hd
    refine ⟨fun version bad => gives (flowOpenOp_malformed on unicast bad),
      fun version fits fawn => gives (flowOpenOp_fawn on unicast fits fawn), fun fits awake =>
      ⟨fun version other => gives (flowOpenOp_version on unicast fits awake other),
        fun f again => gives (flowOpenOp_again on unicast fits awake rfl again), fun new => ?_⟩⟩
    have searched {d : Drive} (hd : s.d.openSearch s.env ⟨arr, h, 1, b, slot, isn⟩ = d) :
        Gives (.flowOpen arr h 1 b slot isn) s (d.settled s.env) := 
      gives ((flowOpenOp_new (o := ⟨arr, h, 1, b, slot, isn⟩) on unicast fits awake rfl new).trans hd)
    refine ⟨fun bad => searched (Drive.openSearch_fields bad), fun tenant some_ most => ?_⟩
    have ok : (⟨arr, h, 1, b, slot, isn⟩ : HeldOpen).inRange := ⟨tenant, some_, most⟩
    refine ⟨fun small => searched (Drive.openSearch_mtu ok small), fun mtu =>
      ⟨fun rebuilds => searched (Drive.openSearch_held ok mtu rebuilds), fun whole v d found => ?_⟩⟩
    exact ⟨fun deny => searched (Drive.openSearch_denied ok mtu whole found deny),
      fun allow full => searched (Drive.openSearch_full ok mtu whole found allow full),
      fun k allow free => searched (Drive.openSearch_takes ok mtu whole found allow free)⟩
  · obtain ⟨f, standing, credited⟩ := Drive.listed_flow (g := d.newFlow e o v slot) free
    exact ⟨d.newFlow e o v slot, f, _, rfl, standing, credited, Drive.openTake_listed standing, rfl, rfl, rfl, rfl, rfl, rfl, rfl, rfl,
      rfl, rfl, rfl, rfl, rfl⟩

/-! ### A datagram of a flow (R112) -/

namespace comesTo

variable (c : comesTo s r h f)
include c

theorem fit : s.d.unitOut 2 = false := c.1

/-- A datagram of a flow passes the check with which each operation on one begins. -/
theorem unicast : ¬(!s.d.xptTakes r || r.group) = true := Drive.xptTakes_unicast c.2.1 c.2.2.1

/-- It comes from the flow's own host. -/
theorem own : ¬(f.ip != r.ip || f.ipv6 != r.ipv6 || f.udp != r.udp) = true := by
  obtain ⟨-, -, -, -, -, ip, ipv6, udp⟩ := c
  simp [ip, ipv6, udp]

end comesTo

/-! ### A CLOSE (R114, R117) -/

theorem seqLt_self (a : Word) : seqLt a a = false := by simp [seqLt]

/-- The drive once message `seq` of a flow has come in sequence and was its CLOSE. -/
def Drive.closing (d : Drive) (slot : Nat) (seq : Word) : Drive :=
  (d.onFlow slot fun f => { f with rxNext := seq + 1, ackDue := true }).onFlow slot fun f =>
    { f with st := .closing, closeSeq := some seq, subs := [], notices := [] }

theorem Drive.deliver1_close {m : GapMsg} (stands : d.flow? slot = some g) (opened : g.st = .open_) (close : m.cmd = none) :
    d.deliver1 e slot m = d.closing slot m.seq := by
  unfold Drive.deliver1
  dsimp only
  rw [Drive.flow_onFlow, if_pos rfl, stands, close]
  · exact if_neg (not_not.2 opened)
  · exact fun _ => rfl

theorem closeIn_again (on : d.xptTakes r = true) (unicast : r.group = false)
    (closed : (d.xpt.flows.find? fun f => f.id == h.flow && f.st == .tomb && f.closed && f.closeSeq == some h.seq) = some f) :
    closeIn r h e d = d.flowSend f.slot 5 0 0 0 [] := by
  unfold closeIn
  rw [if_neg (Drive.xptTakes_unicast on unicast), closed]

/-- A CLOSE that repeats none is a sequenced message of its flow. -/
theorem closeIn_heard (c : comesTo s r h f)
    (fresh : (s.d.xpt.flows.find? fun f => f.id == h.flow && f.st == .tomb && f.closed && f.closeSeq == some h.seq) = none)
    (stands : (heard s r h f).flow? f.slot = some g) : closeIn r h s.env s.d = (heard s r h f).sequenced s.env g h.seq none := by
  unfold closeIn
  rw [if_neg c.unicast, fresh, comesTo_findFlow c]
  dsimp only
  rw [stands]

/-- A message that comes next, within the flow's credit and not kept already, is delivered, and those behind it. -/
theorem Drive.sequenced_next {seq : Word} {m : Option (Op × Cmd × Arb)} (next : seq = g.rxNext)
    (fresh : (g.gap.any fun x => x.seq == seq) = false) (credit : seqLt g.limit seq = false) :
    d.sequenced e g seq m = (deliverGap e g.slot g.gap.length (d.deliver1 e g.slot ⟨seq, m, 0⟩)).credits := by
  unfold Drive.sequenced
  rw [if_neg (by rw [← next, seqLt_self, fresh]; decide), if_neg (by rw [credit]; decide), if_neg (not_not.2 next)]

theorem closeAckOp_done (on : d.isOn 14 = true) (stands : d.flow? slot = some f) (closing : f.st = .closing) (cmds : f.cmds = [])
    (msgs : f.msgs = []) :
    closeAckOp slot e d = ((d.flowSend slot 5 0 0 0 []).onFlow slot fun f => f.entomb true).credits := by
  unfold closeAckOp
  rw [stands]
  exact if_pos (by simp [on, closing, cmds, msgs])

/-! ### Resets of flows (R115 to R117, R141, R144) -/

theorem hostResetOp_live {cause : Byte} (c : comesTo s r h f) (live : (s.d.xpt.flows.find? fun f => f.id == h.flow && f.live) = some f) :
    hostResetOp r h cause s.env s.d = (if cause = 1 then s.d.errCnt pgXpt else s.d).resetFlow s.env f.slot none := by
  unfold hostResetOp
  rw [if_neg c.unicast, live]
  exact if_neg c.own

theorem flowIdleOp_limited (on : d.isOn 14 = true) (limited : d.fld Reg.XPT_FLOW_CTL 31 16 ≠ 0) :
    flowIdleOp slot e d = d.resetFlow e slot (some 2) := if_pos (by simp [on, limited])

theorem tombOp_tomb (stands : d.flow? slot = some f) (tomb : f.st = .tomb) :
    tombOp slot e d = d.onXpt fun x => { x with
      flows := x.flows.filter fun g => !(g.slot == slot)
      incs := (slot, (f.inc + 1) % 65536) :: x.incs.filter fun y => !(y.1 == slot) } := by
  unfold tombOp
  rw [stands]
  exact if_neg (by simp [Flow.live, tomb])

/-! ### XPT_CTL (R141, R143) -/

/-- Beginning to save changes no register. -/
theorem xptCfgSaveW_flag (a i : Nat) : (xptCfgSaveW v e d).flag a i = d.flag a i := by
  unfold xptCfgSaveW
  split_ifs <;> rfl

theorem hook_XPT_CTL_disables (was : Drive) (on : was.flag Reg.XPT_CTL 0 = true) (off : d.flag Reg.XPT_CTL 0 = false) :
    hook e p Reg.XPT_CTL v was d = (xptCfgSaveW v e d).killAll e := by
  rw [hook_XPT_CTL, if_pos (by rw [xptCfgSaveW_flag, on, off]; rfl)]

theorem hook_XPT_CTL_keeps (was : Drive) (keeps : was.flag Reg.XPT_CTL 0 = false ∨ d.flag Reg.XPT_CTL 0 = true) :
    hook e p Reg.XPT_CTL v was d = xptCfgSaveW v e d := by
  rw [hook_XPT_CTL, if_neg]
  rw [xptCfgSaveW_flag]
  rcases keeps with h | h <;> simp [h]

/-- What CFG_SAVE does once the word has entered the register, which leaves the saving that runs as it is. -/
theorem xptCfgSaveW_stored :
    xptCfgSaveW v e (stored t p Reg.XPT_CTL v) = if bit v 4 = true ∧ t.d.xpt.saving = none then
        (stored t p Reg.XPT_CTL v).onXpt fun x => { x with saving := some (savePages (stored t p Reg.XPT_CTL v) (· == 0x50)) }
      else stored t p Reg.XPT_CTL v := by
  unfold xptCfgSaveW
  rw [stored_xpt]

/-- Settles O36: each way a flow ends with its equation; a CLOSE in sequence is delivered, and then what was kept behind it. -/
theorem flowsEnd : Obligations.FlowsEnd := by
  refine fun s => ⟨?_, fun arr h f fit on unicast closed => gives_xptOp rfl fit (closeIn_again on unicast closed),
    fun slot f fit on stands closing cmds msgs => gives_xptOp rfl fit (closeAckOp_done on stands closing cmds msgs),
    fun arr h f cause c live => gives_xptOp rfl c.fit (hostResetOp_live c live),
    fun slot fit on limited => gives_xptOp rfl fit (flowIdleOp_limited on limited),
    fun slot f fit stands tomb => gives_xptOp rfl fit (tombOp_tomb stands tomb), ?_, ?_⟩
  · rintro arr h f g c fresh stands opened here next kept credit d rfl
    refine gives_xptOp rfl c.fit ?_
    rw [closeIn_heard c fresh stands, Drive.sequenced_next next kept credit, here, Drive.deliver1_close stands opened rfl]
    rfl
  · rintro t p arb v hw d rfl
    have acts := hook_XPT_FLOW_KILL s.env p v t.d (stored t p Reg.XPT_FLOW_KILL v)
    refine ⟨fun key => gives_reg rfl hw rfl ?_, fun other => gives_reg rfl hw rfl ?_⟩
    · rw [acts, xptKillW, if_pos key]
    · rw [acts, xptKillW, if_neg other]
  · rintro t p arb v hw on off d rfl
    refine gives_reg rfl hw rfl ?_
    rw [hook_XPT_CTL_disables _ on off, xptCfgSaveW_stored]

/-! ### Datagrams without blocks (R119, R127) -/

section
variable (c : comesTo s r h f)
include c

theorem ackMessageOp_heard : ackMessageOp r h s.env s.d = heard s r h f := by
  unfold ackMessageOp
  rw [comesTo_findFlow c]

theorem bmapReqOp_inSequence {msg : Word} (passed : (((heard s r h f).flow? f.slot).bind fun f => f.gap.find? (·.seq == msg)) = none) :
    bmapReqOp r h msg s.env s.d = (heard s r h f).bitmapSend f.slot msg := by
  unfold bmapReqOp
  rw [comesTo_findFlow c]
  dsimp only
  rw [passed]

theorem bmapReqOp_gap {msg : Word} {m : GapMsg}
    (kept : (((heard s r h f).flow? f.slot).bind fun f => f.gap.find? (·.seq == msg)) = some m) :
    bmapReqOp r h msg s.env s.d = (heard s r h f).gapBitmap f.slot m := by
  unfold bmapReqOp
  rw [comesTo_findFlow c]
  dsimp only
  rw [kept]

end

/-! ### DATA (R123, R124, R129) -/

/-- A frame with REQ asks for the units that its message has been granted. -/
def Drive.asks (d : Drive) (slot : Nat) (seq : Word) (req : Bool) : Drive :=
  if req then d.onFcmd slot seq fun c => { c with reqTo := max c.reqTo c.grantEnd, reqDue := true } else d

/-- What follows the blocks of a DATA: the flow's reset where a unit's last attempt failed, else the bitmap that may be due. -/
def Drive.blocksTaken (d : Drive) (e : Env) (slot : Nat) (seq : Word) (dead bad : Bool) : Drive :=
  if dead then d.resetFlow e slot (some 1) else d.bmapEvery slot seq bad

section
variable {i a2 : Nat} {b b' : Block} {bad dead bad' dead' : Bool} (c : comesTo s r h f) (whole : b.bytes.length = 4096)
  (took : (heard s r h f).dataBlock f.slot h.seq i h.attempt.toNat b = (bad, dead, d))
include c whole took

theorem dataOp_one : dataOp r h i [b] a2 s.env s.d = (d.asks f.slot h.seq h.req).blocksTaken s.env f.slot h.seq dead bad := by
  unfold dataOp
  rw [if_neg c.unicast, if_neg (by simp [whole]), comesTo_findFlow c]
  simp only [List.zipIdx_cons, List.zipIdx_nil, List.foldl_cons, List.foldl_nil, Nat.add_zero, if_true, took, Bool.false_or]
  rfl

theorem dataOp_two (whole' : b'.bytes.length = 4096) (took' : d.dataBlock f.slot h.seq (i + 1) a2 b' = (bad', dead', d')) :
    dataOp r h i [b, b'] a2 s.env s.d =
      (d'.asks f.slot h.seq h.req).blocksTaken s.env f.slot h.seq (dead || dead') (bad || bad') := by
  unfold dataOp
  rw [if_neg c.unicast, if_neg (by simp [whole, whole']), comesTo_findFlow c]
  simp only [List.zipIdx_cons, List.zipIdx_nil, List.foldl_cons, List.foldl_nil, Nat.add_zero, Nat.zero_add, if_true, took,
    Nat.one_ne_zero, if_false, took', Bool.false_or]
  rfl

end

/-! ### One block (R124, R126, R129) -/

section
variable {seq : Word} {i att : Nat} {b : Block} {c : FlowCmd}
  (hx : x = d.pay [12 + ((d.flow? slot).map (·.arr.port.toNat)).getD 0, 14] 3 1)
include hx

theorem Drive.dataBlock_stray (none_ : (x.flow? slot).bind (·.cmd? seq) = none) :
    d.dataBlock slot seq i att b = (false, false, x.bump Reg.XPT_RX_UNGRANTED 1) := by
  subst hx
  unfold Drive.dataBlock
  dsimp only
  rw [none_]

section
variable (stands : (x.flow? slot).bind (·.cmd? seq) = some c)
include stands

theorem Drive.dataBlock_ungranted (out : c.rsp.isSome = true ∨ c.grantEnd ≤ i) :
    d.dataBlock slot seq i att b = (false, false, x.bump Reg.XPT_RX_UNGRANTED 1) := by
  subst hx
  unfold Drive.dataBlock
  dsimp only
  rw [stands]
  exact if_pos (by simpa using out)

theorem Drive.dataBlock_granted (open_ : c.rsp = none) (granted : i < c.grantEnd) :
    d.dataBlock slot seq i att b =
      ((x.takeBlock slot c i att b).1, (x.takeBlock slot c i att b).1 && att == 7, (x.takeBlock slot c i att b).2) := by
  subst hx
  unfold Drive.dataBlock
  dsimp only
  rw [stands]
  exact if_neg (by simp [open_, granted])

end

end

section
variable {seq : Word} {i att : Nat} {b : Block} {c : FlowCmd}

/-- The drive once a block within the grant has counted towards the next bitmap. -/
def Drive.blockCame (d : Drive) (slot : Nat) (seq : Word) : Drive :=
  d.onFcmd slot seq fun c => { c with sinceBmap := c.sinceBmap + 1 }

/-- The drive once the unit of a good block is marked received. -/
def Drive.blockGood (d : Drive) (slot : Nat) (seq : Word) (i att : Nat) : Drive :=
  ((d.blockCame slot seq).bumpWide Reg.XPT_RX_BLOCKS 1).onFcmd slot seq fun c => c.onUnit i fun u =>
    { u with good := true, att := max u.att att, bad := false, missing := false }

theorem Drive.takeBlock_bad (wrong : crc32c b.bytes ≠ b.crc) :
    d.takeBlock slot c i att b = (true, ((d.blockCame slot c.seq).bump Reg.XPT_RX_CRC_BAD 1).onFcmd slot c.seq fun c => c.onUnit i fun u =>
      if att < u.att || u.good then u else { u with att := att, bad := true, missing := false }) := if_neg wrong

section
variable (right : crc32c b.bytes = b.crc)
include right

theorem Drive.takeBlock_repeated (again : (c.units.any fun u => u.idx == i && u.good) = true) :
    d.takeBlock slot c i att b = (false, ((d.blockCame slot c.seq).bumpWide Reg.XPT_RX_BLOCKS 1).bump Reg.XPT_RX_DUP 1) :=
  (if_pos right).trans (if_pos again)

/-- A good block that comes for the first time is written into its unit slot, where its command has a record. -/
theorem Drive.takeBlock_new (new : (c.units.any fun u => u.idx == i && u.good) = false) :
    d.takeBlock slot c i att b = (false, c.rsn.elim (d.blockGood slot c.seq i att) fun rsn =>
      (d.blockGood slot c.seq i att).onRec' rsn fun r => { r with units := r.units.map fun u => if u.unit = i then { u with data := some (b.bytes, b.crc) } else u }) :=
  ((if_pos right).trans (if_neg (by rw [new]; decide))).trans (by cases c.rsn <;> rfl)

theorem Drive.takeBlock_unrecorded (new : (c.units.any fun u => u.idx == i && u.good) = false) (none_ : c.rsn = none) :
    d.takeBlock slot c i att b = (false, d.blockGood slot c.seq i att) := by
  rw [Drive.takeBlock_new right new, none_, Option.elim_none]

theorem Drive.takeBlock_recorded {rsn : Nat} (new : (c.units.any fun u => u.idx == i && u.good) = false) (has : c.rsn = some rsn) :
    d.takeBlock slot c i att b = (false, (d.blockGood slot c.seq i att).onRec' rsn fun r =>
      { r with units := r.units.map fun u => if u.unit = i then { u with data := some (b.bytes, b.crc) } else u }) := by
  rw [Drive.takeBlock_new right new, has, Option.elim_some]

end

end

/-! ### HOST_BITMAP (R130 to R132) -/

section
variable {base : Nat} {bm : List Byte} {m : DMsg} {us : List TxUnit} (c : comesTo s r h f) (long : 8 ≤ bm.length)
  (count : beAt bm 2 2 ≤ 4096) (fits : bm.length = 8 + ceilDiv (beAt bm 2 2) 8)
  (stands : (((heard s r h f).flow? f.slot).bind fun f => f.msgs.find? (·.seq == h.seq)) = some m)
include c long count fits stands

/-- A well-formed bitmap for a message that is not complete, once its header is taken. -/
theorem hostBitmapOp_message (hus : us = m.units.map fun u => u.reported base (beAt bm 2 2) (bm.drop 8))
    (hd : d = (heard s r h f).onFlow f.slot fun f => { f with
      msgs := modIf f.msgs (·.seq == h.seq) fun m => { m with units := us, bmapNo := beAt bm 0 2 } }) :
    hostBitmapOp r h base bm s.env s.d =
      if !serialAfter (beAt bm 0 2) m.bmapNo then heard s r h f
      else if us.any fun u => u.nacked && u.att == 7 then d.resetFlow s.env f.slot (some 1)
      else (d.finishMsgs f.slot).sendWaiting f.slot := by
  subst hus hd
  unfold hostBitmapOp
  dsimp only
  rw [if_neg c.unicast, if_neg (by omega), comesTo_findFlow c]
  dsimp only
  rw [stands]

theorem hostBitmapOp_stale (stale : serialAfter (beAt bm 0 2) m.bmapNo = false) :
    hostBitmapOp r h base bm s.env s.d = heard s r h f :=
  (hostBitmapOp_message c long count fits stands rfl rfl).trans (if_pos (by rw [stale]; rfl))

end

/-! ### Probes (R138) -/

section
variable {body : List Byte} (on : d.xptTakes r = true)
include on

theorem probeOp_malformed (bad : body.length ≠ 8) : probeOp r h body e d = d.bump Reg.XPT_RX_HDR_BAD 1 :=
  (if_neg (by simp [on])).trans (if_pos bad)

section
variable (fits : body.length = 8)
include fits

theorem probeOp_disabled (off : d.flag Reg.XPT_CTL 3 = false) : probeOp r h body e d = d :=
  ((if_neg (by simp [on])).trans (if_neg (not_not.2 fits))).trans (if_pos (by rw [off]; rfl))

/-- The PROBE_ANS to a PROBE that has `body`. -/
def Drive.probeAnswer (d : Drive) (e : Env) (r : Arrival) (body : List Byte) : List Byte :=
  body ++ beBytes 8 e.fac.serial.toNat ++ beBytes 2 d.chn.addrHalf.toNat ++ beBytes 1 r.port.toNat ++
    beBytes 1 (b2n d.pwr.readReady + 2 * b2n d.nrg.writeReady) ++ beBytes 4 (65536 - d.xpt.flows.length) ++ e.fac.part

section
variable (enabled : d.flag Reg.XPT_CTL 3 = true)
include enabled

theorem probeOp_limited (spent : ((d.xpt.probes[r.port.toNat]?).getD ⟨0, 0⟩).take (e.clk.optime / 1000) 100 = none) :
    probeOp r h body e d = d.bump Reg.XPT_PROBE_DROP 1 := by
  unfold probeOp
  rw [if_neg (by simp [on]), if_neg (not_not.2 fits), if_neg (by rw [enabled]; decide)]
  dsimp only
  rw [spent]

theorem probeOp_answered {k : Rate} (within : ((d.xpt.probes[r.port.toNat]?).getD ⟨0, 0⟩).take (e.clk.optime / 1000) 100 = some k) :
    probeOp r h body e d =
      ((d.onXpt fun t => { t with probes := t.probes.set r.port.toNat k }).bump Reg.XPT_PROBE_ANS 1).bareSend r 9 0 0
        (d.probeAnswer e r body) := by
  unfold probeOp
  rw [if_neg (by simp [on]), if_neg (not_not.2 fits), if_neg (by rw [enabled]; decide)]
  dsimp only
  rw [within]
  rfl

end

end

end

/-! ### Datagrams that fail R104 -/

theorem badTransportDatagramOp_eq {bs : List Byte} (on : d.xptTakes r = true) (unicast : r.group = false) :
    badTransportDatagramOp r bs e d = if dgramBad bs = true then d.bump Reg.XPT_RX_HDR_BAD 1 else d := by
  unfold badTransportDatagramOp groupClaimed Drive.badDgram
  simp [on, unicast]

/-- A datagram that is too short, has another MAGIC, or whose length or HCRC does not fit it, fails R104. -/
theorem dgramBad_of {bs : List Byte} (h : bs.length < 32 ∨ beAt bs 0 2 ≠ 0x4957 ∨ beAt bs 26 2 ≠ bs.length - 32 ∨
    (beAt bs 3 1 ≠ 0x20 ∧ (crc32c (bs.take 28 ++ bs.drop 32)).toNat ≠ beAt bs 28 4)) : dgramBad bs = true := by
  unfold dgramBad
  rcases h with short | magic | len | ⟨other, hcrc⟩
  · simp [short]
  · simp [magic]
  · simp [len]
  · simp [other, hcrc]

/-- Settles O37: each datagram with its equation; DATA block by block, and one block by its grant, its CRC and whether it came before.
The units that REQ asks for, repeated blocks in the count towards a bitmap, and late failures are as log entries 147, 93 and 94 say. -/
theorem datagrams : Obligations.Datagrams := by
  refine fun s arr h => ⟨fun f c => ⟨gives_xptOp rfl c.fit (ackMessageOp_heard c),
    fun msg passed => gives_xptOp rfl c.fit (bmapReqOp_inSequence c passed), fun msg m kept => gives_xptOp rfl c.fit (bmapReqOp_gap c kept),
    ?_, ?_⟩, ?_, ?_, fun bs fit on unicast => ⟨fun bad => ?_, fun good => ?_, dgramBad_of⟩⟩
  · rintro i b b' a2 bad bad' dead dead' d d' whole whole' took took' asks rfl
    exact ⟨gives_xptOp rfl c.fit (dataOp_one c whole took), gives_xptOp rfl c.fit (dataOp_two c whole took whole' took')⟩
  · intro base bm m us long count fits stands hus d hd
    have message := hostBitmapOp_message c long count fits stands hus hd
    refine ⟨fun stale => gives_xptOp rfl c.fit (hostBitmapOp_stale c long count fits stands stale),
      fun news last => gives_xptOp rfl c.fit ?_, fun news left => gives_xptOp rfl c.fit ?_⟩
    · rw [message, if_neg (by rw [news]; decide), if_pos last]
    · rw [message, if_neg (by rw [news]; decide), if_neg (by rw [left]; decide)]
  · refine fun d x slot seq i att b hx => ⟨Drive.dataBlock_stray hx, ?_⟩
    rintro c stands rfl
    refine ⟨Drive.dataBlock_ungranted hx stands, fun open_ granted y hy => ?_⟩
    have taken {a : Bool × Drive} (h : x.takeBlock slot c i att b = a) : d.dataBlock slot c.seq i att b = (a.1, a.1 && att == 7, a.2) :=
      h ▸ Drive.dataBlock_granted hx stands open_ granted
    subst hy
    refine ⟨fun right again => taken (Drive.takeBlock_repeated right again), ?_, fun wrong => taken (Drive.takeBlock_bad wrong)⟩
    rintro right new z rfl
    exact ⟨fun none_ => taken (Drive.takeBlock_unrecorded right new none_), fun rsn has => taken (Drive.takeBlock_recorded right new has)⟩
  · intro body fit on
    refine ⟨fun bad => gives_xptOp rfl fit (probeOp_malformed on bad), fun fits off => gives_xptOp rfl fit (probeOp_disabled on fits off),
      fun fits enabled => ⟨fun spent => gives_xptOp rfl fit (probeOp_limited on fits enabled spent), ?_⟩⟩
    rintro x d within rfl
    exact gives_xptOp rfl fit (probeOp_answered on fits enabled within)
  · exact gives_xptOp rfl fit ((badTransportDatagramOp_eq on unicast).trans (if_pos bad))
  · exact gives_xptOp rfl fit ((badTransportDatagramOp_eq on unicast).trans (if_neg (by rw [good]; decide)))

/-! ### Timers of a flow (R119, R129) -/

theorem ackDelayOp_due (stands : d.flow? slot = some f) (on : d.isOn 14 = true) (live : f.live = true) (due : f.ackDue = true) :
    ackDelayOp slot e d = d.flowSend slot 7 0 0 0 [] := by
  unfold ackDelayOp
  rw [stands]
  exact if_pos (by simp [on, live, due])

section
variable {m : DMsg} (stands : d.flow? slot = some f) (listed : f.msgs.find? (·.seq == m.seq) = some m) (on : d.isOn 14 = true)
  (live : f.live = true)
include stands listed on live

/-- A header that its host has not acknowledged in time. -/
theorem rtoOp_header (news : seqLt m.seq f.txAcked = false) :
    rtoOp slot m.seq none e d =
      if 7 ≤ m.att then d.resetFlow e slot (some 1)
      else ((d.onFlow slot fun f => { f with
        msgs := modIf f.msgs (·.seq == m.seq) fun _ => { m with att := m.att + 1 }, resends := f.resends + 1 }).bump Reg.XPT_TX_RESENT 1).sendHdr
          slot { m with att := m.att + 1 } := by
  unfold rtoOp
  rw [stands]
  dsimp only
  rw [listed]
  dsimp only
  rw [if_neg (by simp [on, live]), if_neg (by rw [news]; decide)]

/-- A unit that its host has not reported in time. -/
theorem rtoOp_unit {i : Nat} {u : TxUnit}
    (silent : (m.units.find? fun u => u.idx == i && decide (0 < u.att) && !u.acked && !u.nacked) = some u) :
    rtoOp slot m.seq (some i) e d =
      if 7 ≤ u.att then d.resetFlow e slot (some 1)
      else if f.credit = 0 && !u.trail then d
      else (d.onFlow slot fun f => { f with msgs := modIf f.msgs (·.seq == m.seq) fun m =>
        { m with units := modIf m.units (·.idx == i) fun _ => { u with att := u.att + 1 } } }).emit slot m.seq [{ u with att := u.att + 1 }]
          true := by
  unfold rtoOp
  rw [stands]
  dsimp only
  rw [listed]
  dsimp only
  rw [if_neg (by simp [on, live]), silent]

end

/-- The units of `missing` that are lost: granted and awaited, and come in no frame. -/
def FlowCmd.lost (c : FlowCmd) (missing : List Nat) : List Nat :=
  missing.filter fun i => decide (i < c.grantEnd) && c.awaited i && !(c.units.any fun u => u.idx == i && (u.good || u.bad))

/-- The units of a command with those of `lost` marked missing. -/
def markMissing (us : List RxUnit) (lost : List Nat) : List RxUnit :=
  lost.foldl (fun us i => if (us.any fun u => u.idx == i) then modIf us (fun u => u.idx == i) fun u => { u with missing := true }
    else us ++ [⟨i, false, false, 0, false, 0, true⟩]) us

section
variable {seq : Word} {c : FlowCmd} {missing : List Nat} (stands : (d.flow? slot).bind (·.cmd? seq) = some c) (on : d.isOn 14 = true)
include stands on

theorem reorderOp_command :
    reorderOp slot seq missing e d =
      if (c.lost missing).isEmpty && !c.reqDue then d
      else (d.onFcmd slot seq fun y => { y with units := markMissing y.units (c.lost missing), reqDue := false }).bitmapSend slot seq := by
  unfold reorderOp
  rw [stands]
  dsimp only
  rw [if_neg (by rw [on]; decide)]
  rfl

theorem reorderOp_reports (news : c.lost missing ≠ [] ∨ c.reqDue = true) :
    reorderOp slot seq missing e d =
      (d.onFcmd slot seq fun y => { y with units := markMissing y.units (c.lost missing), reqDue := false }).bitmapSend slot seq := by
  rw [reorderOp_command stands on, if_neg]
  rcases news with lost | due
  · simp [lost]
  · simp [due]

theorem reorderOp_nothing (none_ : c.lost missing = []) (notDue : c.reqDue = false) : reorderOp slot seq missing e d = d := by
  rw [reorderOp_command stands on, if_pos (by simp [none_, notDue])]

end

/-! ### The fabric's confirmation of a block (R16, R17, R126) -/

section
variable {seq : Word} {c : FlowCmd} {unit fails : Nat} (stands : (d.flow? slot).bind (·.cmd? seq) = some c) (on : d.isOn 10 = true)
  (open_ : c.rsp = none) (came : (c.units.any fun u => u.idx == unit && u.good && !u.conf) = true)
include stands on open_ came

/-- The drive once the fabric has confirmed the copy of a unit after `fails` failures, and the grant is raised. -/
def Drive.copyConfirmed (d : Drive) (e : Env) (slot : Nat) (seq : Word) (unit fails : Nat) : Drive :=
  ((d.bump Reg.FAB_GUARD_INGRESS fails).onFcmd slot seq fun c => c.onUnit unit fun u => { u with conf := true }).grantMore e slot seq true

/-- A good block that waits for the fabric: its failures count, up to the number at which it is given up. -/
theorem copyConfirmOp_waiting {n : Nat} (hn : n = min fails (d.fld Reg.FAB_GUARD_CTL 2 0)) :
    copyConfirmOp slot seq unit fails e d =
      if d.fld Reg.FAB_GUARD_CTL 2 0 ≤ fails then
        c.rsn.elim (d.bump Reg.FAB_GUARD_INGRESS n) fun rsn => (d.bump Reg.FAB_GUARD_INGRESS n).ingressAbandon e rsn unit
      else c.rsn.elim (d.copyConfirmed e slot seq unit n) fun rsn => (d.copyConfirmed e slot seq unit n).markFull rsn := by
  subst hn
  unfold copyConfirmOp
  rw [stands]
  dsimp only
  rw [if_neg (by simp [on, open_, came])]
  cases c.rsn <;> rfl

theorem copyConfirmOp_confirms (few : fails < d.fld Reg.FAB_GUARD_CTL 2 0) :
    copyConfirmOp slot seq unit fails e d =
      c.rsn.elim (d.copyConfirmed e slot seq unit fails) fun rsn => (d.copyConfirmed e slot seq unit fails).markFull rsn :=
  (copyConfirmOp_waiting stands on open_ came (min_eq_left few.le).symm).trans (if_neg (not_le.2 few))

theorem copyConfirmOp_abandons {rsn : Nat} (many : d.fld Reg.FAB_GUARD_CTL 2 0 ≤ fails) (has : c.rsn = some rsn) :
    copyConfirmOp slot seq unit fails e d =
      (d.bump Reg.FAB_GUARD_INGRESS (d.fld Reg.FAB_GUARD_CTL 2 0)).ingressAbandon e rsn unit := by
  rw [copyConfirmOp_waiting stands on open_ came (min_eq_right many).symm, if_pos many, has, Option.elim_some]

end

/-! ### Registers of the transport (R143, R146) -/

theorem xptCfgSaveDoneOp_saving {m : FMap} (saving : d.xpt.saving = some m) :
    xptCfgSaveDoneOp e d = { d.onXpt fun x => { x with saving := none } with
      saved := m.foldl (fun (f : FMap) (x : Nat × Word) => FMap.insert f x.1 x.2) (d.saved.filter fun x => !(x.1 / 4096 == 0x50)) } := by
  unfold xptCfgSaveDoneOp
  rw [saving]

theorem xptFlowSelW_free (free : d.flow? (d.fld Reg.XPT_FLOW_SEL 15 0) = none) :
    xptFlowSelW v e d = d.setRegs Reg.XPT_FLOW_ID
      (word (d.xpt.incOf (d.fld Reg.XPT_FLOW_SEL 15 0) * 65536 + d.fld Reg.XPT_FLOW_SEL 15 0) :: List.replicate 14 0) := by
  unfold xptFlowSelW
  dsimp only
  rw [free]

theorem xptFlowSelW_flow (stands : d.flow? (d.fld Reg.XPT_FLOW_SEL 15 0) = some f) :
    xptFlowSelW v e d = d.setRegs Reg.XPT_FLOW_ID
      ([f.id, word (f.tenant.toNat * 65536 + f.arr.port.toNat * 16 + b2n f.ipv6 * 8 + f.st.code), word (f.target * 65536 + f.mtu)] ++
        ((List.range 4).map fun i => word (f.ip.toNat / 2 ^ (32 * (3 - i)))) ++
        [f.udp.setWidth 32, f.rxNext, f.limit, f.txNext, f.txAcked, word f.held, word f.resends,
          word (min (e.clk.optime - f.lastRx) 0xFFFFFFFF)]) := by
  unfold xptFlowSelW
  dsimp only
  rw [stands]

/-- Settles O38: each timer with its equation and the cases of it, the fabric's confirmation, and the effect of each register on the
drive that its word has entered. The units a frame with REQ speaks for and the failures that count are as log entries 147 and 95 say. -/
theorem flowTimersAndRegisters : Obligations.FlowTimersAndRegisters := by
  refine fun s => ⟨fun slot f fit stands on live due => gives_xptOp rfl fit (ackDelayOp_due stands on live due), ?_, ?_, ?_, ?_,
    fun m saving => gives_runOp rfl (xptCfgSaveDoneOp_saving saving), ?_⟩
  · intro slot f m fit stands listed on live
    refine ⟨fun news => ?_, fun i u silent => ?_⟩
    · have header := rtoOp_header (e := s.env) stands listed on live news
      exact ⟨fun last => gives_xptOp rfl fit (header.trans (if_pos last)),
        fun left => gives_xptOp rfl fit (header.trans (if_neg (not_le.2 left)))⟩
    · have unit := rtoOp_unit (e := s.env) stands listed on live silent
      refine ⟨fun last => gives_xptOp rfl fit (unit.trans (if_pos last)), fun left window => gives_xptOp rfl fit ?_⟩
      rw [unit, if_neg (not_le.2 left), if_neg]
      rcases window with credit | trail
      · simp [credit]
      · simp [trail]
  · rintro slot seq c missing lost fit stands on rfl
    exact ⟨fun news => gives_xptOp rfl fit (reorderOp_reports stands on news),
      fun none_ notDue => gives_xptOp rfl fit (reorderOp_nothing stands on none_ notDue)⟩
  · intro slot seq c unit fails stands on open_ came
    refine ⟨?_, fun many rsn has => gives_cmdOp rfl (copyConfirmOp_abandons stands on open_ came many has)⟩
    rintro few d rfl
    have confirms := copyConfirmOp_confirms (e := s.env) stands on open_ came few
    refine ⟨fun none_ => gives_cmdOp rfl ?_, fun rsn has => gives_cmdOp rfl ?_⟩
    · rw [confirms, none_, Option.elim_none]
      rfl
    · rw [confirms, has, Option.elim_some]
      rfl
  · rintro t p arb v hw x rfl keeps
    have acts : hook s.env p Reg.XPT_CTL v t.d (stored t p Reg.XPT_CTL v) = _ := (hook_XPT_CTL_keeps t.d keeps).trans xptCfgSaveW_stored
    have gives {i : Instr} {d : Drive} (h : exec i s = regRow p Reg.XPT_CTL v arb s)
        (hd : hook s.env p Reg.XPT_CTL v t.d (stored t p Reg.XPT_CTL v) = d) : Gives i s (d.accessed s p) :=
      gives_reg h hw rfl (congrArg (Drive.accessed · s p) hd)
    refine ⟨fun save idle => gives rfl (acts.trans (if_pos ⟨save, idle⟩)), fun not => ?_⟩
    have stays := acts.trans (if_neg (by rcases not with h | h <;> simp [h, Option.isSome_iff_ne_none.1]))
    exact ⟨gives rfl stays, gives rfl stays⟩
  · rintro t p arb v hw d rfl
    have acts := hook_XPT_FLOW_SEL s.env p v t.d (stored t p Reg.XPT_FLOW_SEL v)
    exact ⟨fun free => gives_reg rfl hw rfl (congrArg (Drive.accessed · s p) (acts.trans (xptFlowSelW_free free))),
      fun f stands => gives_reg rfl hw rfl (congrArg (Drive.accessed · s p) (acts.trans (xptFlowSelW_flow stands)))⟩

end Sys2Proof.Machine
end

section
/-! PROOFS. Chapter 5 (05_command_set.md): a host's CMD from its arrival to its opcode (R119 to R121, R157, R163, R279), the writes and
the namespace and key commands (R159, R168 to R173, R188 to R194), the reads (R165, R174 to R180) and the service commands (R186, R187,
R190, R195, R196). Each step has one equation per case; the statements are put together from them. -/

namespace Sys2Proof.Machine

variable {s : State} {d d' : Drive} {e : Env} {op : Op} {c : Cmd} {arb : Arb} {f g k : Flow} {v : Verdict} {h : HeldCmd}

/-! ### From a CMD to its checks (R119 to R121, R157) -/

/-- The opcode is one of R152's, or its code is none of theirs. -/
def codeFits (op : Op) : Prop := ∀ code, op = .unknown code → knownCodes.contains code.toNat = false

/-- Only a register command's row names the arbitration that its access meets. -/
def arbFits (op : Op) (arb : Arb) : Prop := op = .mgmtRead ∨ op = .mgmtWrite ∨ arb = .alone 0

theorem unknownIn_unlisted {code : Half} (unlisted : knownCodes.contains code.toNat = false) :
    unknownIn c code = cmdIn (.unknown code) c (.alone 0) := by
  funext e d
  exact if_neg (by rw [unlisted]; decide)

/-- The row of a host command is a CMD of its opcode that arrives. -/
theorem exec_cmdRow (names : arbFits op arb) (known : codeFits op) : exec (cmdRow arb op c) s = xptRow (cmdIn op c arb) s := by
  rcases names with rfl | rfl | rfl
  · rfl
  · rfl
  · cases op
    case unknown code => exact congrArg (xptRow · s) (unknownIn_unlisted (known code rfl))
    all_goals rfl

/-- A CMD of a flow is a sequenced message of it. -/
theorem cmdIn_heard (t : comesTo s c.arr c.hdr f) (fits : c.body.length ≤ 4076)
    (stands : (heard s c.arr c.hdr f).flow? f.slot = some g) :
    cmdIn op c arb s.env s.d = (heard s c.arr c.hdr f).sequenced s.env g c.hdr.seq (some (op, c, arb)) := by
  unfold cmdIn
  rw [if_neg t.unicast, if_neg (by omega), comesTo_findFlow t]
  dsimp only
  rw [stands]

section
variable {seq : Word} {m : Option (Op × Cmd × Arb)}

/-- A header that comes again is acknowledged again. -/
theorem Drive.sequenced_again (again : seqLt seq g.rxNext = true ∨ (g.gap.any fun x => x.seq == seq) = true) :
    d.sequenced e g seq m = (d.bump Reg.XPT_RX_DUP 1).flowSend g.slot 7 0 0 0 [] := if_pos (by simpa using again)

section
variable (new : seqLt seq g.rxNext = false) (fresh : (g.gap.any fun x => x.seq == seq) = false)
include new fresh

theorem Drive.sequenced_overcredit (beyond : seqLt g.limit seq = true) : d.sequenced e g seq m = d.bump Reg.XPT_RX_OVERCREDIT 1 :=
  (if_neg (by simp [new, fresh])).trans (if_pos beyond)

theorem Drive.sequenced_gap (credit : seqLt g.limit seq = false) (gap : seq ≠ g.rxNext) :
    d.sequenced e g seq m = d.onFlow g.slot fun x => { x with gap := x.gap ++ [⟨seq, m, 0⟩] } :=
  ((if_neg (by simp [new, fresh])).trans (if_neg (by simp [credit]))).trans (if_pos gap)

end

end

theorem Drive.deliver1_cmd {slot : Nat} {m : GapMsg} (stands : d.flow? slot = some g) (opened : g.st = .open_)
    (cmd : m.cmd = some (op, c, arb)) :
    d.deliver1 e slot m = (d.onFlow slot fun f => { f with rxNext := m.seq + 1, ackDue := true }).doCmd e
      { g with rxNext := m.seq + 1, ackDue := true } op c arb m.bmapNo := by
  unfold Drive.deliver1
  dsimp only
  rw [Drive.flow_onFlow, if_pos rfl, stands, cmd]
  · exact if_neg (not_not.2 opened)
  · exact fun _ => rfl

/-- A CMD in sequence goes through the checks of R157; messages kept behind it follow. -/
theorem cmdIn_inSequence (q : inSequence s c f g) :
    cmdIn op c arb s.env s.d =
      (deliverGap s.env g.slot g.gap.length ((entered s op c f).execute s.env (asked op c arb g) g)).credits := by
  obtain ⟨t, fits, stands, slot, opened, fresh, next, credit⟩ := q
  rw [cmdIn_heard t fits stands, Drive.sequenced_next next fresh credit]
  rw [Drive.deliver1_cmd (by rw [slot]; exact stands) opened rfl]
  unfold entered
  rw [← slot]
  rfl

/-- A command in sequence completes with the drive that its checks and what follows them leave. -/
theorem gives_execute (names : arbFits op arb) (known : codeFits op) (q : inSequence s c f g)
    (hd : (entered s op c f).execute s.env (asked op c arb g) g = d) : Gives (cmdRow arb op c) s (d.afterCmd s g) := by
  subst hd
  exact gives_xptOp (exec_cmdRow names known) q.1.fit (cmdIn_inSequence q)

/-! ### Steps 1 to 4 (R157) -/

/-- The drive goes on with a command after step 2: a register command always, another while it is read-ready and not on its way
into Fawn. -/
def Drive.heeds (d : Drive) (op : Op) : Prop := op = .mgmtRead ∨ op = .mgmtWrite ∨ (d.pwr.readReady = true ∧ d.pwr.fawnStep = 0)

/-- An unknown opcode whose tag is not in use fails step 1 with 0x111. -/
theorem stepOne_unknown {code : Half} (free : (g.cmds.any fun x => x.tag == c.tag) = false) : stepOne g c (.unknown code) = 0x111 :=
  if_neg (by simp [free])

/-- A command that passes step 1 has a known opcode. -/
theorem codeFits_of_stepOne (one : stepOne g c op = 0) : codeFits op := by
  rintro code rfl
  unfold stepOne at one
  split_ifs at one

theorem Drive.execute_stepOne (bad : stepOne f h.cmd h.op ≠ 0) : d.execute e h f = d.refuse e h { status := stepOne f h.cmd h.op } :=
  if_pos bad

section
variable (one : stepOne f h.cmd h.op = 0)
include one

theorem Drive.execute_busy {n : Nat} (read : h.op ≠ .mgmtRead) (write : h.op ≠ .mgmtWrite)
    (busy : d.pwr.readReady = false ∨ d.pwr.fawnStep ≠ 0) (hint : d.busyHint = (n, d')) :
    d.execute e h f = d'.refuse e h { status := 0xE, retry := n } := by
  unfold Drive.execute
  rw [hint]
  exact (if_neg (not_not.2 one)).trans (if_pos (by simpa [read, write] using busy))

section
variable (heeds : d.heeds h.op)
include heeds

/-- A command that passes steps 1 and 2 comes to step 3. -/
theorem Drive.execute_heeded {q : Nat} (hq : q = stepThree h.op h.cmd.payload.toNat h.cmd.body) :
    d.execute e h f = if q ≠ 0 then d.refuse e h { status := q, res0 := if q = 0x105 then 5 else 0 } else d.fromFour e h := by
  subst hq
  refine (if_neg (not_not.2 one)).trans (if_neg ?_)
  rcases heeds with read | write | ⟨ready, awake⟩
  · simp [read]
  · simp [write]
  · simp [ready, awake]

theorem Drive.execute_stepThree {q : Nat} (hq : q = stepThree h.op h.cmd.payload.toNat h.cmd.body) (bad : q ≠ 0) :
    d.execute e h f = d.refuse e h { status := q, res0 := if q = 0x105 then 5 else 0 } :=
  (Drive.execute_heeded one heeds hq).trans (if_pos bad)

theorem Drive.execute_fromFour (three : stepThree h.op h.cmd.payload.toNat h.cmd.body = 0) : d.execute e h f = d.fromFour e h :=
  (Drive.execute_heeded one heeds rfl).trans (if_neg (not_not.2 three))

end

end

section
variable (stands : d.flowAt h.slot h.inc = some k)
include stands

theorem Drive.fromFour_stops (stops : d.policy e h k = (none, d')) : d.fromFour e h = d' := by
  unfold Drive.fromFour
  rw [stands]
  dsimp only
  rw [stops]

theorem Drive.fromFour_allows (allows : d.policy e h k = (some v, d')) (stays : d'.flowAt h.slot h.inc = some f) :
    d.fromFour e h = d'.afterPolicy e h f v := by
  unfold Drive.fromFour
  rw [stands]
  dsimp only
  rw [allows]
  dsimp only
  rw [stays]

end

theorem Drive.policy_held (rebuilds : d.tableHeld (d.classTable h.op.cls) = true) :
    d.policy e h f = (none, d.onMch fun m => { m with heldCmds := m.heldCmds ++ [h] }) := if_pos rebuilds

section
variable {w : Verdict} {y : Drive} (whole : d.tableHeld (d.classTable h.op.cls) = false)
  (found : d.search h.op.cls (searchKey f.tenant.toNat (searchNs h.op h.cmd.body) h.cmd.arr.port.toNat h.op.cls (d.vidOf h.cmd.arr)
    (searchPrefix h.op h.cmd.body)) = (w, y))
include whole found

theorem Drive.policy_denied (deny : w.allow = false) :
    d.policy e h f = (none, y.refuse e h { status := 0xC, res0 := if h.op = .mgmtRead ∨ h.op = .mgmtWrite then 7 else 0 }) := by
  unfold Drive.policy
  rw [if_neg (by rw [whole]; decide)]
  dsimp only
  rw [found]
  dsimp only
  rw [if_pos (by rw [deny]; rfl)]
  cases h.op <;> rfl

theorem Drive.policy_rowBad (allow : w.allow = true) (writes : h.op.cls = 2) (bad : y.rowBad w f.tenant = true) :
    d.policy e h f = (none, (y.countRowBad e w f.tenant (searchNs h.op h.cmd.body)).refuse e h { status := 0xC }) := by
  unfold Drive.policy
  rw [if_neg (by rw [whole]; decide)]
  dsimp only
  rw [found]
  exact (if_neg (by rw [allow]; decide)).trans (if_pos ⟨writes, bad⟩)

end

/-! ### From step 5 on (R157, R163, R279) -/

/-- A command that the policy allows completes with the drive that step 5 and the rest leave. -/
theorem gives_allowed (names : arbFits op arb) (a : allowed s op c arb f g k v d)
    (hd : d.afterPolicy s.env (asked op c arb g) k v = d') : Gives (cmdRow arb op c) s (d'.afterCmd s g) := by
  obtain ⟨q, one, heeds, three, ⟨k', stands, allows⟩, stays⟩ := a
  refine gives_execute names (codeFits_of_stepOne one) q ?_
  rw [Drive.execute_fromFour (h := asked op c arb g) one heeds three, Drive.fromFour_allows stands allows stays, hd]

theorem Drive.afterPolicy_waits (waits : d.mustWait h = true) (owned : d.unowned f h = false) :
    d.afterPolicy e h f v = d.onJrn fun j => { j with heldOrd := j.heldOrd ++ [{ h with v := some v }] } :=
  if_pos (by rw [waits, owned]; rfl)

/-- A command does not wait at its snapshot point, or is answered before it (log entry 102). -/
def Drive.goesOn (d : Drive) (f : Flow) (h : HeldCmd) : Prop := d.mustWait h = false ∨ d.unowned f h = true

theorem Drive.goesOn.not_waits (on : d.goesOn f h) : ¬(d.mustWait h && !d.unowned f h) = true := by
  rcases on with on | on <;> simp [on]

/-- A command with a record has no snapshot point to wait for. -/
theorem Drive.goesOn_of_journaled (rec_ : h.op.journaled = true) : d.goesOn f h := Or.inl (by simp [Drive.mustWait, rec_])

theorem Drive.afterPolicy_mgmt (on : d.goesOn f h) (mgmt : h.op = .mgmtRead ∨ h.op = .mgmtWrite) :
    d.afterPolicy e h f v = d.doMgmt e h v := (if_neg on.not_waits).trans (if_pos mgmt)

theorem Drive.afterPolicy_fromFive (on : d.goesOn f h) (other : ¬(h.op = .mgmtRead ∨ h.op = .mgmtWrite)) :
    d.afterPolicy e h f v = d.fromFive e h f v := (if_neg on.not_waits).trans (if_neg other)

/-- DRAM holds the leaf pages that the command reads of its tenant's own namespace. -/
def Drive.pagesHere (d : Drive) (f : Flow) (h : HeldCmd) : Prop :=
  d.owns f (bodyNs h.cmd.body) = true → d.med.leavesMissing h.op h.cmd.body = []

theorem Drive.pagesHere_of_unowned (un : d.owns f (bodyNs h.cmd.body) = false) : d.pagesHere f h := by
  intro own
  rw [un] at own
  contradiction

/-- A command without a key that is no LIST reads no leaf pages. -/
theorem Drive.pagesHere_of_unkeyed (key : h.op.keyed = false) (list : h.op ≠ .list) : d.pagesHere f h := by
  intro
  unfold Med.leavesMissing Med.leavesOf
  rw [if_neg (by rw [key]; decide), if_neg list]
  rfl

theorem Drive.fromFive_here (here : d.pagesHere f h) : d.fromFive e h f v = d.withPages e h f v := by
  refine if_pos ?_
  split_ifs with own
  · rw [here own]
    rfl
  · rfl

theorem Drive.fromFive_waits (own : d.owns f (bodyNs h.cmd.body) = true) (away : d.med.leavesMissing h.op h.cmd.body ≠ []) :
    d.fromFive e h f v = (d.med.leavesMissing h.op h.cmd.body).foldl (fun d p => d.loadPage e p.num)
      (d.onMed fun m => { m with heldLeaf := m.heldLeaf ++ [{ h with v := some v }] }) := by
  unfold Drive.fromFive
  rw [if_pos own]
  exact if_neg (by simpa using away)

theorem arbFits_alone : arbFits op (.alone 0) := .inr (.inr rfl)

section
variable (names : arbFits op arb) (a : allowed s op c arb f g k v d) (other : ¬(op = .mgmtRead ∨ op = .mgmtWrite))
  (on : d.goesOn k (asked op c arb g))
include names a other on

theorem gives_fromFive (hd : d.fromFive s.env (asked op c arb g) k v = d') : Gives (cmdRow arb op c) s (d'.afterCmd s g) :=
  gives_allowed names a ((Drive.afterPolicy_fromFive on other).trans hd)

/-- A command of the tenant's own namespace waits for the leaf pages that DRAM does not hold. -/
theorem gives_leavesMissing (own : d.owns k (bodyNs c.body) = true) (away : d.med.leavesMissing op c.body ≠ []) :
    Gives (cmdRow arb op c) s (((d.med.leavesMissing op c.body).foldl (fun d p => d.loadPage s.env p.num)
      (d.onMed fun m => { m with heldLeaf := m.heldLeaf ++ [{ asked op c arb g with v := some v }] })).afterCmd s g) :=
  gives_fromFive names a other on (Drive.fromFive_waits own away)

/-- A command whose leaf pages are at hand completes with what its opcode does. -/
theorem gives_withPages (here : d.pagesHere k (asked op c arb g)) (hd : d.withPages s.env (asked op c arb g) k v = d') :
    Gives (cmdRow arb op c) s (d'.afterCmd s g) := gives_fromFive names a other on ((Drive.fromFive_here here).trans hd)

end

/-! ### Step 11 and acceptance (R157, R159, R312) -/

section
variable {growth n : Nat}

theorem Drive.acceptOrHold_accepts (free : d.jrn.recs.length < pairTotal) (first : d.jrn.heldAccept = []) :
    d.acceptOrHold e h f v growth = d.accept e h f v growth := if_neg (by simp [free, first])

theorem Drive.acceptOrHold_holds (waits : pairTotal ≤ d.jrn.recs.length ∨ d.jrn.heldAccept ≠ []) {r : JRec}
    (hr : r = d.newRec e h f v growth)
    (hd : d' = d.onJrn fun j => { j with heldAccept := j.heldAccept ++ [{ h with v := some v, rsv := (r.keySlot, r.rsvLeft) }] }) :
    d.acceptOrHold e h f v growth = (if h.op.paid then d'.nearCheck e r.keySlot else d').bump Reg.JRN_ACCEPT_WAITS 1 := by
  subst hr hd
  exact if_pos (by simpa using waits)

theorem Drive.admitOrDefer_defers (hint : d.stepEleven e (ceilDiv h.cmd.payload.toNat 4096) = (some n, d')) :
    d.admitOrDefer e h f v growth = d'.defers e h n := by
  unfold Drive.admitOrDefer
  rw [hint]

theorem Drive.admitOrDefer_admits (admits : d.stepEleven e (ceilDiv h.cmd.payload.toNat 4096) = (none, d')) :
    d.admitOrDefer e h f v growth = (d'.leaveIdle e).acceptOrHold e h f v growth := by
  unfold Drive.admitOrDefer
  rw [admits]

end

/-! ### Writes (R157 steps 5 to 10) -/

/-- The growth of quota usage that a write asks for (R182). -/
def Drive.asksGrowth (d : Drive) (h : HeldCmd) : Int :=
  if h.op.paid then d.growthOf h.op (bodyNs h.cmd.body) h.cmd.payload.toNat h.cmd.body else 0

theorem Drive.doWrite_unowned (un : d.owns f (bodyNs h.cmd.body) = false) : d.doWrite e h f v = d.refuse e h { status := 0x14 } :=
  if_pos (by rw [un]; rfl)

/-- A write of the tenant's own namespace: steps 6 to 10, then step 11. -/
theorem Drive.doWrite_owned (own : d.owns f (bodyNs h.cmd.body) = true) {j : Judge} (hj : d.writeSteps e h v (d.asksGrowth h) = j) :
    d.doWrite e h f v = if j.status ≠ 0 then d.refuseIn e h { status := j.status, version := j.version }
      else d.admitOrDefer e h f v (d.asksGrowth h).toNat := by
  subst hj
  exact if_neg (by rw [own]; decide)

/-- Steps 6 to 10 in their order. -/
theorem Drive.writeSteps_eq {growth : Int} {slot : Nat} {j : Judge}
    (hslot : slot = if h.op.paid then d.judgeSlot (d.rowSlot v (bodyNs h.cmd.body))
      (segCount h.op h.cmd.payload.toNat (bodyArg0 h.cmd.body) (d.jrnMode != 0 || d.spills h.cmd.payload.toNat)) else 0)
    (hj : j = judgeWrite d.nss (bodyNs h.cmd.body) h.op h.cmd.cflags h.cmd.payload.toNat h.cmd.body) :
    d.writeSteps e h v growth =
      if (e.readOnly || d.med.readOnly) && h.op != .delete then ⟨8, 0⟩
      else if slot ≠ 0 then ⟨slot, 0⟩
      else if j.status ≠ 0 then j
      else if h.op.paid && d.quotaFull (rowQuotaNs v (bodyNs h.cmd.body)) growth then ⟨6, 0⟩
      else if h.op.paid && decide (d.userCap < d.userUsed + unitLen (bodyKeyLen h.cmd.body + h.cmd.payload.toNat)) then ⟨7, 0⟩
      else ⟨0, 0⟩ := by
  subst hslot hj
  rfl

theorem writeRow_eq {row : Cmd → Instr} (w : writeRow op = some row) :
    op.cls = 2 ∧ op.journaled = true ∧ row = cmdRow (.alone 0) op := by
  cases op
  case put | putRange | cas | delete | punch => exact ⟨rfl, rfl, (Option.some.inj w).symm⟩
  all_goals cases w

theorem adminRow_eq {row : Cmd → Instr} (w : adminRow op = some row) :
    op.journaled = true ∧ op.keyed = false ∧ row = cmdRow (.alone 0) op := by
  cases op
  case nsCreate | nsDelete | keyLoad | keyErase => exact ⟨rfl, rfl, (Option.some.inj w).symm⟩
  all_goals cases w

/-- A command with a record is no register command. -/
theorem not_mgmt_of_journaled (rec_ : op.journaled = true) : ¬(op = .mgmtRead ∨ op = .mgmtWrite) := by
  rintro (rfl | rfl) <;> cases rec_

theorem Drive.withPages_write (write : h.op.cls = 2) : d.withPages e h f v = d.doWrite e h f v := if_pos write

/-- Settles O39: a write is carried from step 5 on; steps 6 to 10 in their order, then step 11, then a record pair. -/
theorem writesAreAccepted : Obligations.WritesAreAccepted := by
  refine ⟨?_, ?_⟩
  · rintro s op row c f g k v d growth h w a rfl hgrowth
    obtain ⟨write, rec_, rfl⟩ := writeRow_eq w
    replace hgrowth : growth = d.asksGrowth (asked op c (.alone 0) g) := hgrowth
    subst hgrowth
    have other := not_mgmt_of_journaled rec_
    have on : d.goesOn k (asked op c (.alone 0) g) := Drive.goesOn_of_journaled rec_
    have gives {d' : Drive} (here : d.pagesHere k (asked op c (.alone 0) g))
        (hd : d.doWrite s.env (asked op c (.alone 0) g) k v = d') : Gives (cmdRow (.alone 0) op c) s (d'.afterCmd s g) :=
      gives_withPages arbFits_alone a other on here ((Drive.withPages_write write).trans hd)
    refine ⟨fun un => gives (Drive.pagesHere_of_unowned un) (Drive.doWrite_unowned un), gives_leavesMissing arbFits_alone a other on,
      fun own here => ⟨fun j hj bad => ?_, fun pass => ?_⟩⟩
    · exact gives (fun _ => here) ((Drive.doWrite_owned (h := asked op c (.alone 0) g) own hj).trans (if_pos bad))
    · have eleven := (Drive.doWrite_owned (h := asked op c (.alone 0) g) own pass).trans (if_neg (not_not.2 rfl))
      refine ⟨fun n d' hint => gives (fun _ => here) (eleven.trans (Drive.admitOrDefer_defers hint)), ?_⟩
      rintro d' x admits rfl
      have held := eleven.trans (Drive.admitOrDefer_admits admits)
      refine ⟨fun free first => gives (fun _ => here) (held.trans (Drive.acceptOrHold_accepts free first)), ?_⟩
      intro waits r hr y hy
      exact gives (fun _ => here) (held.trans (Drive.acceptOrHold_holds waits hr hy))
  · rintro d e h v growth b ns pay slot j rfl rfl rfl hslot hj
    have steps := Drive.writeSteps_eq (e := e) (growth := growth) hslot hj
    refine ⟨fun ⟨ro, op⟩ => steps.trans (if_pos (by simp [ro, op])), fun rw_ => ?_⟩
    replace steps := steps.trans (if_neg (by rcases rw_ with h | h <;> simp [h]))
    refine ⟨fun bad => steps.trans (if_pos bad), fun ok bad => (steps.trans (if_neg (not_not.2 ok))).trans (if_pos bad), ?_, ?_⟩
    · intro ok judged paid
      replace steps := (steps.trans (if_neg (not_not.2 ok))).trans (if_neg (not_not.2 judged))
      refine ⟨fun full => steps.trans (if_pos (by simp [paid, full])), fun within => ?_⟩
      replace steps := steps.trans (if_neg (by simp [within]))
      exact ⟨fun more => steps.trans (if_pos (by simp [paid, more])), fun fits => steps.trans (if_neg (by simp [fits]))⟩
    · intro ok judged free
      replace steps := (steps.trans (if_neg (not_not.2 ok))).trans (if_neg (not_not.2 judged))
      exact (steps.trans (if_neg (by simp [free]))).trans (if_neg (by simp [free]))

/-! ### Namespace and key commands (R188, R189, R193, R194) -/

theorem Drive.withPages_admin {row : Cmd → Instr} (w : adminRow h.op = some row) : d.withPages e h f v = d.doAdmin e h f v := by
  unfold Drive.withPages
  revert w
  cases h.op
  case nsCreate | nsDelete | keyLoad | keyErase => exact fun _ => rfl
  all_goals exact fun w => nomatch w

/-- Step 8 decides a namespace or key command, then step 11. -/
theorem Drive.doAdmin_judged {j : Judge} (hj : d.reevaluate e d.nss (d.newRec e h f v 0) = j) :
    d.doAdmin e h f v = if j.status ≠ 0 then d.refuse e h { status := j.status } else d.admitOrDefer e h f v 0 := by
  subst hj
  rfl

/-- Settles O40: a command with a record and without leaf pages; step 8, then step 11, then a record pair. -/
theorem adminCommandsAreAccepted : Obligations.AdminCommandsAreAccepted := by
  rintro s op row c f g k v d h w a rfl
  obtain ⟨rec_, unkeyed, rfl⟩ := adminRow_eq w
  have here : d.pagesHere k (asked op c (.alone 0) g) := Drive.pagesHere_of_unkeyed unkeyed (by rintro rfl; cases w)
  have gives {d' : Drive} (hd : d.doAdmin s.env (asked op c (.alone 0) g) k v = d') :
      Gives (cmdRow (.alone 0) op c) s (d'.afterCmd s g) :=
    gives_withPages arbFits_alone a (not_mgmt_of_journaled rec_) (Drive.goesOn_of_journaled rec_) here ((Drive.withPages_admin w).trans hd)
  refine ⟨fun j hj bad => gives ((Drive.doAdmin_judged hj).trans (if_pos bad)), fun pass => ?_⟩
  have eleven := (Drive.doAdmin_judged (d := d) (e := s.env) (f := k) rfl).trans (if_neg (not_not.2 pass))
  refine ⟨fun n d' hint => gives (eleven.trans (Drive.admitOrDefer_defers hint)), ?_⟩
  rintro d' x admits rfl free first
  exact gives ((eleven.trans (Drive.admitOrDefer_admits admits)).trans (Drive.acceptOrHold_accepts free first))

/-! ### Reads (R165, R174 to R180) -/

theorem Drive.withPages_read (read : h.op.cls = 1) : d.withPages e h f v = d.doRead e h f v :=
  (if_neg (by rw [read]; decide)).trans (if_pos read)

theorem Drive.doRead_unowned (un : d.owns f (bodyNs h.cmd.body) = false) : d.doRead e h f v = d.refuse e h { status := 0x14 } :=
  if_pos (by rw [un]; rfl)

/-- A read of a namespace of another tenant is answered before its snapshot point (log entry 102). -/
theorem Drive.unowned_read (read : h.op.cls = 1) (un : d.owns f (bodyNs h.cmd.body) = false) : d.unowned f h = true := by
  simp [Drive.unowned, read, un]

section
variable (own : d.owns f (bodyNs h.cmd.body) = true)
include own

theorem Drive.doRead_stat (stat : h.op = .stat) : d.doRead e h f v = d.doStat e h v := by
  unfold Drive.doRead
  rw [stat]
  exact if_neg (by rw [own]; decide)

theorem Drive.doRead_list (list : h.op = .list) : d.doRead e h f v = d.doList e h v := by
  unfold Drive.doRead
  rw [list]
  exact if_neg (by rw [own]; decide)

theorem Drive.doRead_get (get : h.op = .get ∨ h.op = .getRange) : d.doRead e h f v = d.doGet e h v := by
  unfold Drive.doRead
  rcases get with get | get <;> rw [get] <;> exact if_neg (by rw [own]; decide)

end

section
variable {x : KeyRec}

/-- The version that a keyed read finds. -/
def Drive.reads? (d : Drive) (h : HeldCmd) : Option KeyRec := (nsOf d.nss (bodyNs h.cmd.body)).bind (·.find (bodyKey h.cmd.body))

theorem Drive.doGet_absent (absent : d.reads? h = none) : d.doGet e h v = d.refuseIn e h { status := 1 } := by
  unfold Drive.doGet
  unfold Drive.reads? at absent
  dsimp only
  rw [absent]

theorem Drive.doStat_absent (absent : d.reads? h = none) : d.doStat e h v = d.refuseIn e h { status := 1 } := by
  unfold Drive.doStat
  unfold Drive.reads? at absent
  dsimp only
  rw [absent]

/-- A keyed read finds no key: NOT_FOUND. -/
theorem Drive.doRead_absent (own : d.owns f (bodyNs h.cmd.body) = true) (read : h.op.cls = 1) (keyed : h.op ≠ .list)
    (absent : d.reads? h = none) : d.doRead e h f v = d.refuseIn e h { status := 1 } := by
  cases hop : h.op
  case get => exact (Drive.doRead_get own (.inl hop)).trans (Drive.doGet_absent absent)
  case getRange => exact (Drive.doRead_get own (.inr hop)).trans (Drive.doGet_absent absent)
  case stat => exact (Drive.doRead_stat own hop).trans (Drive.doStat_absent absent)
  case list => exact absurd hop keyed
  all_goals rw [hop] at read; cases read

section
variable (found : d.reads? h = some x)
include found

theorem Drive.doGet_whole (get : h.op = .get) :
    d.doGet e h v = (d.leaveIdle e).startJob e h.slot h.inc h.cmd.hdr.seq .get (bodyNs h.cmd.body) x 0 x.len v := by
  unfold Drive.doGet
  unfold Drive.reads? at found
  dsimp only
  rw [found, get]
  exact if_neg (by simp)

/-- A GET_RANGE of a key that is there. -/
theorem Drive.doGet_range (range : h.op = .getRange) :
    d.doGet e h v = if x.len < bodyArg0 h.cmd.body + bodyArg1 h.cmd.body then d.refuseIn e h { status := 0x13 }
      else (d.leaveIdle e).startJob e h.slot h.inc h.cmd.hdr.seq .getRange (bodyNs h.cmd.body) x (bodyArg0 h.cmd.body)
        (bodyArg1 h.cmd.body) v := by
  unfold Drive.doGet
  unfold Drive.reads? at found
  dsimp only
  rw [found, range]
  rfl

theorem Drive.doStat_found :
    d.doStat e h v = (d.leaveIdle e).endOk e h v 0
      { status := 0, version := x.version, res0 := x.len, res1 := x.stored
        extra := beBytes 8 x.opq.toNat ++ beBytes 2 x.slot ++
          beBytes 2 (b2n (d.onFlashNow x) + 2 * b2n (decide (0 < holesIn x.pieces x.len))) ++ zeros 4 } := by
  unfold Drive.doStat
  unfold Drive.reads? at found
  dsimp only
  rw [found]

end

end

section
variable {b : List Byte} (hb : h.cmd.body = b)
include hb

theorem Drive.doList_outside (start : listStart b ≠ []) (outside : startsWith (listStart b) (listPrefix b) = false) :
    d.doList e h v = d.refuseIn e h { status := 0x13 } := by
  subst hb
  exact if_pos (by simp [start, outside])

/-- The keys of a LIST's namespace that begin as it asks and come after its start (R178). -/
def Drive.listed? (d : Drive) (b : List Byte) : List KeyRec :=
  (((nsOf d.nss (bodyNs b)).map (·.keys)).getD []).filter fun x => startsWith x.key (listPrefix b) &&
    ((listStart b).isEmpty || bytesLt (listStart b) x.key || (x.key == listStart b && !decide (beAt b 6 2 % 2 = 1)))

theorem Drive.doList_inside (inside : listStart b = [] ∨ startsWith (listStart b) (listPrefix b) = true) {xs ks : List KeyRec}
    (hxs : xs = d.listed? b) (hks : ks = xs.take (listLimit b)) :
    d.doList e h v =
      (((d.leaveIdle e).countEnd' .list (bodyNs b) 0 ((ks.map KeyRec.listEntry).flatten).length).countOps v.ids
        ((ks.map KeyRec.listEntry).flatten).length).payloadSend e h.slot h.inc h.cmd.hdr.seq ((ks.map KeyRec.listEntry).flatten)
          { status := 0, res0 := ks.length, res1 := b2n (decide (ks.length < xs.length)) } := by
  subst hb hks hxs
  refine if_neg ?_
  rcases inside with start | inside
  · simp [start]
  · simp [inside]

end

/-- Settles O41: one equation per read, then the conditions of its cases. That a LIST waits for all its leaf pages and that a read of an
unowned namespace is answered before its snapshot wait are the model's choices (log entries 88 and 102). -/
theorem readsAnswer : Obligations.ReadsAnswer := by
  rintro s op c f g k v d h a rfl read
  have other : ¬(op = .mgmtRead ∨ op = .mgmtWrite) := by rintro (rfl | rfl) <;> cases read
  have gives {d' : Drive} (on : d.goesOn k (asked op c (.alone 0) g)) (here : d.pagesHere k (asked op c (.alone 0) g))
      (hd : d.doRead s.env (asked op c (.alone 0) g) k v = d') : Gives (cmdRow (.alone 0) op c) s (d'.afterCmd s g) :=
    gives_withPages arbFits_alone a other on here ((Drive.withPages_read read).trans hd)
  refine ⟨fun un => gives (.inr (Drive.unowned_read read un)) (Drive.pagesHere_of_unowned un) (Drive.doRead_unowned un),
    fun own now => gives_leavesMissing arbFits_alone a other (.inl now) own, fun own now here => ?_⟩
  replace gives {d' : Drive} := gives (d' := d') (.inl now) fun _ => here
  refine ⟨fun keyed absent => gives (Drive.doRead_absent own read keyed absent), fun x found => ⟨?_, ?_, ?_⟩, ?_⟩
  · rintro rfl
    exact gives ((Drive.doRead_get (h := asked .get c (.alone 0) g) own (.inl rfl)).trans (Drive.doGet_whole found rfl))
  · rintro rfl
    have range := (Drive.doRead_get (e := s.env) (h := asked .getRange c (.alone 0) g) (v := v) own (.inr rfl)).trans
      (Drive.doGet_range found rfl)
    exact ⟨fun beyond => gives (range.trans (if_pos beyond)), fun within => gives (range.trans (if_neg (not_lt.2 within)))⟩
  · rintro rfl
    exact gives ((Drive.doRead_stat (h := asked .stat c (.alone 0) g) own rfl).trans (Drive.doStat_found found))
  · rintro rfl
    have list := Drive.doRead_list (e := s.env) (h := asked .list c (.alone 0) g) (v := v) own rfl
    refine ⟨fun start outside => gives (list.trans (Drive.doList_outside rfl start outside)), fun inside xs ks hxs hks => ?_⟩
    exact gives (list.trans (Drive.doList_inside rfl inside hxs hks))

/-! ### FLUSH (R186) -/

theorem Drive.doFlush_unowned (ns : beAt h.cmd.body 0 1 = 2) (un : d.owns f (beAt h.cmd.body 2 2) = false) :
    d.doFlush e h f v = d.refuse e h { status := 0x14 } := by
  unfold Drive.doFlush
  simp only [ns, un]
  rfl

/-- A FLUSH by `b` of flow `k` covers the records `xs`, and names `miss` commands of which none is held: the flow's earlier ones, those
named, or those of a namespace of the tenant. -/
def Drive.flushes (d : Drive) (k : Flow) (seq : Word) (b : List Byte) (xs : List JRec) (miss : Nat) : Prop :=
  (beAt b 0 1 = 0 ∧ miss = 0 ∧
    xs = (d.jrn.recs.filter JRec.covered).filter (fun r => r.slot == k.slot && r.inc == k.inc && seqLt r.cmdSeq seq)) ∨
  (beAt b 0 1 = 1 ∧ ∀ named, named = ((List.range (beAt b 4 2)).map fun i => word (beAt b (8 + 4 * i) 4)) →
    xs = (d.jrn.recs.filter JRec.covered).filter (fun r => r.slot == k.slot && r.inc == k.inc && named.contains r.cmdSeq) ∧
    miss = (named.filter fun q => !((d.jrn.recs.filter JRec.covered).any fun r =>
      r.slot == k.slot && r.inc == k.inc && r.cmdSeq == q)).length) ∨
  (beAt b 0 1 = 2 ∧ d.owns k (beAt b 2 2) = true ∧ miss = 0 ∧
    xs = (d.jrn.recs.filter JRec.covered).filter (fun r =>
      if r.op = .nsCreate then r.res0 == beAt b 2 2 else cmdNs r.op r.body == some (beAt b 2 2)))

section
variable {xs : List JRec} {miss : Nat}

/-- A FLUSH ends at once where none of what it covers is left to drain, and waits for the rest otherwise. -/
theorem Drive.doFlush_covers (cover : d.flushes f h.cmd.hdr.seq h.cmd.body xs miss) :
    d.doFlush e h f v =
      if ((xs.filter (·.st == .committed)).map (·.rsn)).isEmpty then
        (d.leaveIdle e).endOk e h v 0 { status := 0, res0 := xs.length, res1 := miss }
      else (d.leaveIdle e).onJrn fun j => { j with flushes := j.flushes ++
        [⟨h.slot, h.inc, h.cmd.hdr.seq, (xs.filter (·.st == .committed)).map (·.rsn), xs.length, miss, v.ids⟩] } := by
  unfold Drive.doFlush
  rcases cover with ⟨all_, rfl, rfl⟩ | ⟨named, cover⟩ | ⟨ns, own, rfl, rfl⟩
  · simp only [all_]
    rfl
  · obtain ⟨rfl, rfl⟩ := cover _ rfl
    simp only [named]
    rfl
  · simp only [ns, own]
    rfl

theorem Drive.doFlush_ends (cover : d.flushes f h.cmd.hdr.seq h.cmd.body xs miss) (drained : ∀ r ∈ xs, r.st ≠ .committed) :
    d.doFlush e h f v = (d.leaveIdle e).endOk e h v 0 { status := 0, res0 := xs.length, res1 := miss } :=
  (Drive.doFlush_covers cover).trans (if_pos (by simpa using drained))

theorem Drive.doFlush_waits (cover : d.flushes f h.cmd.hdr.seq h.cmd.body xs miss) (left : ∃ r ∈ xs, r.st = .committed) :
    d.doFlush e h f v = (d.leaveIdle e).onJrn fun j => { j with flushes := j.flushes ++
      [⟨h.slot, h.inc, h.cmd.hdr.seq, (xs.filter (·.st == .committed)).map (·.rsn), xs.length, miss, v.ids⟩] } :=
  (Drive.doFlush_covers cover).trans (if_neg (by simpa using left))

end

theorem flushCompleteOp_drained {slot : Nat} {seq : Word} {x : FlushWait}
    (waits : (d.jrn.flushes.find? fun x => x.slot == slot && x.cmdSeq == seq) = some x)
    (drained : ∀ r ∈ d.jrn.recs, x.rsns.contains r.rsn = true → r.st ≠ .committed) :
    flushCompleteOp slot seq e d =
      ((d.onJrn fun j => { j with flushes := j.flushes.filter fun y => !(y.slot == slot && y.cmdSeq == seq) }).countOps x.ids 0).answer e
        x.slot x.inc x.cmdSeq { status := 0, res0 := x.res0, res1 := x.res1 } := by
  unfold flushCompleteOp
  rw [waits]
  refine if_neg fun left => ?_
  obtain ⟨r, hr, named⟩ := List.any_eq_true.1 left
  obtain ⟨within, committed⟩ := Bool.and_eq_true_iff.1 named
  exact drained r hr within (beq_iff_eq.1 committed)

/-! ### REPLAY_REPORT (R187, R335) -/

/-- An entry of the report that a REPLAY_REPORT by `b` of tenant `t` may see: of the flow that it names. -/
def Entry48.seenBy (t : BitVec 12) (b : List Byte) (x : Entry48) : Bool := x.flow == word (beAt b 4 4) && x.tenant == t

/-- Such an entry from the sequence number on that it names. -/
def Entry48.seenFrom (t : BitVec 12) (b : List Byte) (x : Entry48) : Bool :=
  x.seenBy t b && decide ((x.cmdSeq - word (beAt b 8 4)).toNat < 2 ^ 31)

section
variable (tag : beAt h.cmd.body 0 1 = 0)
include tag

theorem Drive.doReport_tag {x : Entry48}
    (found : (d.jrn.report.find? fun x => x.seenBy f.tenant h.cmd.body && x.tag == word (beAt h.cmd.body 8 4)) = some x) :
    d.doReport e h f v = (d.leaveIdle e).endOk e h v 0 { status := 0, version := x.version, res0 := 1, extra := x.bytes } := by
  unfold Entry48.seenBy at found
  unfold Drive.doReport
  simp only [tag, found]

theorem Drive.doReport_noTag
    (absent : (d.jrn.report.find? fun x => x.seenBy f.tenant h.cmd.body && x.tag == word (beAt h.cmd.body 8 4)) = none) :
    d.doReport e h f v = d.refuse e h { status := 1 } := by
  unfold Entry48.seenBy at absent
  unfold Drive.doReport
  simp only [tag, absent]

end

section
variable {all_ xs : List Entry48} (list : beAt h.cmd.body 0 1 = 1)
  (hall : all_ = (d.jrn.report.filter (Entry48.seenFrom f.tenant h.cmd.body)).mergeSort fun x y =>
    decide ((x.cmdSeq - word (beAt h.cmd.body 8 4)).toNat ≤ (y.cmdSeq - word (beAt h.cmd.body 8 4)).toNat))
  (hxs : xs = all_.take (beAt h.cmd.body 2 2))
include list hall hxs

/-- A REPLAY_REPORT lists entries in sequence order, as many as it asks for. -/
theorem Drive.doReport_list :
    d.doReport e h f v =
      if xs.isEmpty then d.refuse e h { status := 1 }
      else ((d.leaveIdle e).countOps v.ids 0).payloadSend e h.slot h.inc h.cmd.hdr.seq (xs.map Entry48.bytes).flatten
        { status := 0, res0 := xs.length, res1 := b2n (decide (xs.length < all_.length)) } := by
  subst hxs hall
  unfold Drive.doReport
  simp only [list]
  rfl

theorem Drive.doReport_listsNone (none_ : xs = []) : d.doReport e h f v = d.refuse e h { status := 1 } :=
  (Drive.doReport_list list hall hxs).trans (if_pos (by rw [none_]; rfl))

theorem Drive.doReport_lists (some_ : xs ≠ []) :
    d.doReport e h f v = ((d.leaveIdle e).countOps v.ids 0).payloadSend e h.slot h.inc h.cmd.hdr.seq (xs.map Entry48.bytes).flatten
      { status := 0, res0 := xs.length, res1 := b2n (decide (xs.length < all_.length)) } :=
  (Drive.doReport_list list hall hxs).trans (if_neg (by simpa using some_))

end

section
variable {gone : Entry48 → Bool} (drop : beAt h.cmd.body 0 1 = 2) (hgone : gone = Entry48.seenFrom f.tenant h.cmd.body)
include drop hgone

/-- A REPLAY_REPORT drops entries, and answers with their number. -/
theorem Drive.doReport_drop :
    d.doReport e h f v =
      if (d.jrn.report.filter gone).length = 0 then d.refuse e h { status := 1 }
      else ((d.leaveIdle e).onJrn fun j => { j with report := j.report.filter fun x => !gone x }).endOk e h v 0
        { status := 0, res0 := (d.jrn.report.filter gone).length } := by
  subst hgone
  unfold Drive.doReport
  simp only [drop]
  rfl

theorem Drive.doReport_dropsNone (none_ : d.jrn.report.filter gone = []) : d.doReport e h f v = d.refuse e h { status := 1 } :=
  (Drive.doReport_drop drop hgone).trans (if_pos (List.length_eq_zero_iff.2 none_))

theorem Drive.doReport_drops (some_ : d.jrn.report.filter gone ≠ []) :
    d.doReport e h f v = ((d.leaveIdle e).onJrn fun j => { j with report := j.report.filter fun x => !gone x }).endOk e h v 0
      { status := 0, res0 := (d.jrn.report.filter gone).length } :=
  (Drive.doReport_drop drop hgone).trans (if_neg (mt List.length_eq_zero_iff.1 some_))

end

/-! ### NS_USAGE, NOTICE_SUBSCRIBE and the register commands (R190, R192, R195, R196) -/

theorem Drive.doUsage_unseen (unseen : nsVisible d.nss f.tenant (bodyNs h.cmd.body) = false) :
    d.doUsage e h f v = d.refuse e h { status := 0x14 } := if_pos (by rw [unseen]; rfl)

theorem Drive.doUsage_seen (seen : nsVisible d.nss f.tenant (bodyNs h.cmd.body) = true) {n : Ns}
    (hd : d' = (d.leaveIdle e).onNs (bodyNs h.cmd.body) fun n => n.settle e.clk.optime) (found : nsOf d'.nss (bodyNs h.cmd.body) = some n) :
    d.doUsage e h f v = d'.endOk e h v 0
      { status := 0, version := n.version
        extra := n.usage (d'.useOf (bodyNs h.cmd.body)) e (quotaUse d'.nss (bodyNs h.cmd.body)) } := by
  subst hd
  unfold Drive.doUsage
  rw [if_neg (by rw [seen]; decide)]
  dsimp only
  rw [found]

theorem Drive.doSubscribe_noPage (none_ : (pageInfo (beAt h.cmd.body 0 2)).isSome = false) :
    d.doSubscribe e h f v = d.refuse e h { status := 0x103 } := if_pos (by simpa using none_)

/-- Subscriptions of all flows. -/
def Drive.allSubs (d : Drive) : Nat := (d.xpt.flows.map fun x => x.subs.length).foldl (· + ·) 0

section
variable (page : (pageInfo (beAt h.cmd.body 0 2)).isSome = true)
include page

theorem Drive.doSubscribe_full (on : beAt h.cmd.body 2 1 = 1) (new : f.subs.contains (beAt h.cmd.body 0 2) = false)
    (full : 64 ≤ f.subs.length ∨ 4096 ≤ d.allSubs) : d.doSubscribe e h f v = d.refuse e h { status := 0x140 } := by
  unfold Drive.allSubs at full
  refine (if_neg (by simp [Option.isSome_iff_ne_none.1 page])).trans (if_pos ?_)
  rw [on, new]
  simpa using full

/-- The pages to which flow `f` is subscribed after a NOTICE_SUBSCRIBE by `b` that is carried out; any ON other than 1 unsubscribes
(log entry 91). -/
def Drive.subscribes (d : Drive) (f : Flow) (b : List Byte) (subs : List Nat) : Prop :=
  (beAt b 2 1 = 1 ∧ f.subs.contains (beAt b 0 2) = true ∧ subs = f.subs) ∨
    (beAt b 2 1 = 1 ∧ f.subs.contains (beAt b 0 2) = false ∧ f.subs.length < 64 ∧ d.allSubs < 4096 ∧
      subs = f.subs ++ [beAt b 0 2]) ∨
    (beAt b 2 1 ≠ 1 ∧ subs = f.subs.filter (· != beAt b 0 2))

theorem Drive.doSubscribe_takes {subs : List Nat} (takes : d.subscribes f h.cmd.body subs) :
    d.doSubscribe e h f v =
      ((d.leaveIdle e).onFlow f.slot fun f => { f with subs := subs }).endOk e h v 0 { status := 0, res0 := subs.length } := by
  unfold Drive.doSubscribe
  rw [if_neg (by simp [Option.isSome_iff_ne_none.1 page])]
  rcases takes with ⟨on, old, rfl⟩ | ⟨on, new, few, room, rfl⟩ | ⟨off, rfl⟩
  · simp only [on, old]
    rfl
  · unfold Drive.allSubs at room
    simp only [on, new, not_le.2 few, not_le.2 room]
    rfl
  · simp only [beq_eq_false_iff_ne.2 off]
    rfl

end

/-- A register command is an access of the network path, which ends with its result. -/
theorem Drive.doMgmt_access {rd : Bool} {r : AccRes} {x : Drive} (hrd : rd = (h.op == .mgmtRead))
    (access : d.access e .net (beAt h.cmd.body 1 3) rd (beAt h.cmd.body 4 2)
      (if rd then [] else (List.range (beAt h.cmd.body 4 2)).map fun i => word (beAt h.cmd.body (8 + 4 * i) 4)) h.arb = (r, x)) :
    d.doMgmt e h v =
      if r.code = 0 then (Drive.keep .net (r, x)).endOk e h v 0 { status := 0, extra := (r.data.map fun w => beBytes 4 w.toNat).flatten }
      else (Drive.keep .net (r, x)).refuse e h { status := if r.code = 1 then 0xE else 0x100 + r.code, res0 := r.code + 256 * r.fail } := by
  have data : ((List.range (if rd then 0 else beAt h.cmd.body 4 2)).map fun i => word (beAt h.cmd.body (8 + 4 * i) 4)) =
      if rd then [] else (List.range (beAt h.cmd.body 4 2)).map fun i => word (beAt h.cmd.body (8 + 4 * i) 4) := by
    cases rd <;> rfl
  unfold Drive.doMgmt
  dsimp only
  rw [← hrd, data, access]

/-- A service command that is no register command. -/
def serviceOp : Op → Bool
  | .flush | .replayReport | .nsUsage | .noticeSubscribe => true
  | _ => false

/-- A service command reads no leaf pages: it completes with what its opcode does. -/
theorem gives_service (names : arbFits op arb) (a : allowed s op c arb f g k v d) (on : d.goesOn k (asked op c arb g))
    (service : serviceOp op = true) (hd : d.withPages s.env (asked op c arb g) k v = d') : Gives (cmdRow arb op c) s (d'.afterCmd s g) := by
  have unkeyed : op.keyed = false ∧ op ≠ .list ∧ ¬(op = .mgmtRead ∨ op = .mgmtWrite) := by
    revert service
    cases op <;> simp [serviceOp, Op.keyed]
  obtain ⟨key, list, other⟩ := unkeyed
  exact gives_withPages names a other on (Drive.pagesHere_of_unkeyed key list) hd

/-- Settles O42: the checks of R157 in their order, the sequence numbers of R119 and R121, and one equation per service command. That any
ON but 1 unsubscribes, and that an unowned namespace is answered before the snapshot wait, are the model's choices (log entries 91 and
102). -/
theorem serviceCommandsAnswer : Obligations.ServiceCommandsAnswer := by
  rintro s op c arb f g k v d h rfl names
  refine ⟨fun a waits owned => gives_allowed names a (Drive.afterPolicy_waits waits owned), fun a on => ⟨?_, ?_, ?_, ?_, ?_, ?_⟩,
    ?_, ?_, fun slot seq x waits drained => gives_cmdOp rfl (flushCompleteOp_drained waits drained)⟩
  · rintro rfl xs miss cover
    have flush {d' : Drive} (hd : d.doFlush s.env (asked .flush c arb g) k v = d') : Gives (.flush c) s (d'.afterCmd s g) :=
      gives_service names a on rfl hd
    exact ⟨fun drained => flush (Drive.doFlush_ends cover drained), fun left => flush (Drive.doFlush_waits cover left)⟩
  · rintro rfl ns un
    exact gives_service names a on rfl (Drive.doFlush_unowned (h := asked .flush c arb g) ns un)
  · rintro rfl mine rfl gone hgone
    have report {d' : Drive} (hd : d.doReport s.env (asked .replayReport c arb g) k v = d') :
        Gives (.replayReport c) s (d'.afterCmd s g) := gives_service names a on rfl hd
    refine ⟨fun tag => ⟨fun x found => report (Drive.doReport_tag tag found), fun absent => report (Drive.doReport_noTag tag absent)⟩,
      ?_, fun drop => ⟨fun none_ => report (Drive.doReport_dropsNone drop hgone none_),
        fun some_ => report (Drive.doReport_drops drop hgone some_)⟩⟩
    subst hgone
    exact fun list all_ xs hall hxs => ⟨fun none_ => report (Drive.doReport_listsNone list hall hxs none_),
      fun some_ => report (Drive.doReport_lists list hall hxs some_)⟩
  · rintro rfl
    exact ⟨fun unseen => gives_service names a on rfl (Drive.doUsage_unseen (h := asked .nsUsage c arb g) unseen),
      fun seen x n hx found => gives_service names a on rfl (Drive.doUsage_seen (h := asked .nsUsage c arb g) seen hx found)⟩
  · rintro rfl
    have subscribe {d' : Drive} (hd : d.doSubscribe s.env (asked .noticeSubscribe c arb g) k v = d') :
        Gives (.noticeSubscribe c) s (d'.afterCmd s g) := gives_service names a on rfl hd
    exact ⟨fun none_ => subscribe (Drive.doSubscribe_noPage none_), fun page =>
      ⟨fun on new full => subscribe (Drive.doSubscribe_full (h := asked .noticeSubscribe c arb g) page on new full), fun subs takes =>
        subscribe (Drive.doSubscribe_takes (h := asked .noticeSubscribe c arb g) page takes)⟩⟩
  · intro mgmt rd hrd r x access
    have ends {d' : Drive} (hd : d.doMgmt s.env (asked op c arb g) v = d') : Gives (cmdRow arb op c) s (d'.afterCmd s g) :=
      gives_allowed names a ((Drive.afterPolicy_mgmt on mgmt).trans hd)
    have result := Drive.doMgmt_access (v := v) (h := asked op c arb g) hrd access
    exact ⟨fun done => ends (result.trans (if_pos done)), fun bad => ends (result.trans (if_neg bad))⟩
  · rintro q known x rfl
    have run {d' : Drive} (hd : (entered s op c f).execute s.env (asked op c arb g) g = d') : Gives (cmdRow arb op c) s (d'.afterCmd s g) :=
      gives_execute names known q hd
    refine ⟨?_, fun bad => run (Drive.execute_stepOne bad),
      fun one read write busy n y hint => run (Drive.execute_busy one read write busy hint),
      fun one heeds => ⟨fun q hq bad => run (Drive.execute_stepThree (h := asked op c arb g) one heeds hq bad),
        fun three k' stands => ?_⟩⟩
    · rintro code rfl free
      exact stepOne_unknown free
    · have stops {d' : Drive} (hd : (entered s op c f).policy s.env (asked op c arb g) k' = (none, d')) :
          Gives (cmdRow arb op c) s (d'.afterCmd s g) :=
        run ((Drive.execute_fromFour (h := asked op c arb g) one heeds three).trans (Drive.fromFour_stops stands hd))
      exact ⟨fun rebuilds => stops (Drive.policy_held rebuilds), fun whole w y found =>
        ⟨fun deny => stops (Drive.policy_denied whole found deny),
          fun allow writes bad => stops (Drive.policy_rowBad whole found allow writes bad)⟩⟩
  · intro t fits stands slot known
    have comes {d' : Drive} (hd : (heard s c.arr c.hdr f).sequenced s.env g c.hdr.seq (some (op, c, arb)) = d') :
        Gives (cmdRow arb op c) s (d'.settled s.env) := gives_xptOp (exec_cmdRow names known) t.fit ((cmdIn_heard t fits stands).trans hd)
    exact ⟨fun again => comes (Drive.sequenced_again again), fun new fresh =>
      ⟨fun beyond => comes (Drive.sequenced_overcredit new fresh beyond),
        fun credit gap => comes (Drive.sequenced_gap new fresh credit gap)⟩⟩

end Sys2Proof.Machine
end

section
/-! PROOFS. Chapters 5 and 9 (05_command_set.md, 09_journal_replay.md): a record of the journal from its acceptance to its release
(R161 to R163, R312 to R319), and the segments of an abandoned unit (R17). Each operation has one equation per case; the statement is put
together from them. -/

namespace Sys2Proof.Machine

variable {d d' : Drive} {e : Env} {r : JRec} {rsn : Nat}

/-! ### COMMIT (R161 to R163, R315) -/

/-- A record may commit, or end: its whole payload is in the journal, nothing bars it, and it is its turn. -/
def Drive.readyToCommit (d : Drive) (r : JRec) : Prop :=
  r.st = .accepted ∧ d.complete r = true ∧ d.jrn.flush = none ∧ d.pwr.readReady = true ∧ d.earlierFull r = false ∧
    (r.ordered = true → d.orderOk r.slot r.inc r.cmdSeq r.op (cmdNs r.op r.body) = true)

section
variable (listed : d.rec? rsn = some r)
include listed

theorem Drive.commit_ready (ready : d.readyToCommit r) : d.commit e rsn = d.commitNow e r := by
  obtain ⟨acc, whole, noFlush, readReady, turn, order⟩ := ready
  unfold Drive.commit
  rw [listed]
  exact if_neg (by simpa [acc, whole, noFlush, readReady, turn] using order)

theorem Drive.commit_waits (waits : r.st ≠ .accepted ∨ d.complete r = false ∨ d.earlierFull r = true ∨
    (r.ordered = true ∧ d.orderOk r.slot r.inc r.cmdSeq r.op (cmdNs r.op r.body) = false)) : d.commit e rsn = d := by
  unfold Drive.commit
  rw [listed]
  refine if_pos ?_
  rcases waits with st | part | turn | ⟨ordered, order⟩
  · simp [st]
  · simp [part]
  · simp [turn]
  · simp [ordered, order]

end

theorem Drive.commitNow_ends {j : Judge} (hj : d.reevaluate e (d.projected e.clk.optime) r = j) (bad : j.status ≠ 0) :
    d.commitNow e r = ((d.bump Reg.JRN_ENDED 1).endRec e r.rsn j).settleRecs := by
  subst hj
  exact if_pos bad

theorem Drive.commitNow_commits (ok : (d.reevaluate e (d.projected e.clk.optime) r).status = 0) {x : Done}
    (hx : d.effectOn (d.projected e.clk.optime) r e.clk.optime none = x) :
    d.commitNow e r =
      (((d.onJrn fun j => { j with csnLast := j.csnLast + 1 }).bumpWide Reg.JRN_COMMITS 1).onRec' r.rsn fun r => { r with
        st := .committed, csn := d.jrn.csnLast + 1, version := x.version, commitMs := e.clk.optime, vmap := x.vmap }).effects e := by
  subst hx
  exact if_neg (not_not.2 ok)

/-! ### Acceptance and grants (R312, R313) -/

theorem acceptHeldOp_accepts {h : HeldCmd} {rest : List HeldCmd} {f : Flow} {v : Verdict} (held : d.jrn.heldAccept = h :: rest)
    (free : d.jrn.recs.length < pairTotal) (noFlush : d.jrn.flush = none) (stands : d.flowAt h.slot h.inc = some f) (hv : h.v = some v) :
    acceptHeldOp e d = (d.onJrn fun j => { j with heldAccept := rest }).accept e h f v (d.asksGrowth h).toNat := by
  have stands' : (d.onJrn fun j => { j with heldAccept := rest }).flowAt h.slot h.inc = some f := stands
  unfold acceptHeldOp
  rw [held]
  dsimp only
  rw [if_neg (by simp [free, noFlush]), stands', hv]
  rfl

/-- The greatest number up to `m` that fits, where one does. -/
theorem find_greatest {p : Nat → Bool} {m n : Nat} (le : n ≤ m) (fits : p n = true) (most : ∀ k, n < k → k ≤ m → p k = false) :
    (List.range (m + 1)).reverse.find? p = some n := by
  induction m with
  | zero =>
    obtain rfl : n = 0 := by omega
    simp [fits]
  | succ m ih =>
    rw [List.range_succ, List.reverse_append, List.reverse_singleton, List.singleton_append, List.find?_cons]
    by_cases top : n = m + 1
    · rw [← top, fits]
    · rw [most (m + 1) (by omega) le_rfl]
      exact ih (by omega) fun k lt le => most k lt (by omega)

section
variable {slot n : Nat} {seq : Word} {f : Flow} {c : FlowCmd}

/-- How many more blocks of a command's payload its window lets be granted (R126). -/
def Drive.wantsBlocks (d : Drive) (c : FlowCmd) : Nat :=
  min c.blocks ((c.units.filter (·.conf)).length + d.fld Reg.XPT_WINDOW 31 16) - c.grantEnd

/-- The most blocks that the window and the free unit slots allow to be granted. -/
def Drive.mayGrant (d : Drive) (c : FlowCmd) : Nat := min (d.wantsBlocks c) (slotTotal - d.jrn.unitsUsed)

/-- `n` blocks, at least one, are the most that the window, the free unit slots and the ledger allow. -/
def Drive.grants (d : Drive) (e : Env) (c : FlowCmd) (r : JRec) (n : Nat) : Prop :=
  0 < n ∧ n ≤ d.mayGrant c ∧ (r.wt || d.admits e 0 n) = true ∧
    ∀ m, n < m → m ≤ d.mayGrant c → (r.wt || d.admits e 0 m) = false

/-- Command `c` of flow `f` waits for blocks of the payload of its accepted record `r`. -/
def Drive.awaitsGrant (d : Drive) (slot : Nat) (seq : Word) (f : Flow) (c : FlowCmd) (r : JRec) : Prop :=
  d.flow? slot = some f ∧ f.cmd? seq = some c ∧ c.rsn.bind d.rec? = some r ∧ c.rsp = none ∧ r.st = .accepted

theorem Drive.grantMore_grants (awaits : d.awaitsGrant slot seq f c r) (balance : d.grantsWait f.arr.port.toNat = false)
    (most : d.grants e c r n)
    (hd : d' = d.onRec' r.rsn fun r => { r with
      units := r.units ++ (freeNums d.jrn.slotNums slotTotal n).zipIdx.map fun x => (⟨x.1, c.grantEnd + x.2, none⟩ : USlot) }) :
    d.grantMore e slot seq false =
      (if d'.jrn.unitsUsed = slotTotal then d'.setInt pgJrn 6 else d').grantTo slot seq (c.grantEnd + n) := by
  obtain ⟨stands, has, listed, open_, acc⟩ := awaits
  obtain ⟨pos, le, fits, most⟩ := most
  have found := find_greatest (p := fun n => r.wt || d.admits e 0 n) le fits most
  unfold Drive.mayGrant Drive.wantsBlocks at found
  subst hd
  unfold Drive.grantMore
  rw [stands, Option.bind_some, has]
  dsimp only
  rw [listed]
  dsimp only
  rw [if_neg (by simp [acc, open_]), Option.map_some, Option.getD_some]
  simp only [balance, found, Option.getD_some, Bool.and_false, Bool.false_eq_true, if_false]
  exact if_neg (by omega)

end

/-! ### Spills and drains (R17, R316, R318, R319) -/

/-- Run `run` of a record that spills may be encrypted: it lies in the payload, is not asked for yet, and the record, accepted or
committed, is neither erased nor draining. -/
def JRec.maySpill (r : JRec) (run : Nat) : Prop :=
  r.spill = true ∧ 16 * run < ceilDiv r.payload 4096 ∧ (r.spills.any fun x => x.1 == run) = false ∧ r.erased = false ∧ r.drain = none ∧
    (r.st = .accepted ∨ r.st = .committed)

theorem spillSegmentOp_asks {run n : Nat} (listed : d.rec? rsn = some r) (may : r.maySpill run) (on : d.isOn 10 = true)
    (hn : n = min 16 (ceilDiv r.payload 4096 - 16 * run))
    (come : ∀ i, i < n → ∃ u ∈ r.units, u.unit = 16 * run + i ∧ u.data.isSome) :
    spillSegmentOp rsn run e d =
      ((d.takeXlist r).onRec' rsn fun r => { r with spills := r.spills ++ [(run, 0, false)] }).askEnc r r.qos 0 (0x80000000 + run)
        (.drain rsn (0x80000000 + run)) (r.payUnits (16 * run) n) := by
  obtain ⟨spill, inside, fresh, kept, idle, st⟩ := may
  subst hn
  have all_ : ((List.range (min 16 (ceilDiv r.payload 4096 - 16 * run))).all fun i =>
      r.units.any fun u => u.unit == 16 * run + i && u.data.isSome) = true := by
    refine List.all_eq_true.2 fun i hi => ?_
    obtain ⟨u, hu, at_, data⟩ := come i (List.mem_range.1 hi)
    exact List.any_eq_true.2 ⟨u, hu, by simp [at_, data]⟩
  unfold spillSegmentOp
  rw [listed]
  refine if_neg ?_
  rw [all_]
  rcases st with st | st <;> simp [spill, inside, fresh, kept, idle, st, on]

section
variable (listed : d.rec? rsn = some r) (com : r.st = .committed) (on : d.isOn 10 = true) (credit : d.affords [15] d.drainCost = true)
include listed com on credit

theorem journalDrainOp_begins (may : d.mayDrain r = true) (turn : d.drainRound = true ∨ d.drainsOf r.qos < r.qos + 1) :
    journalDrainOp rsn e d =
      ((r.drainSegs.map r.drainSeg).foldl (Drive.fetchOld rsn)
        (((d.serveDrain r.qos).takeXlist r).onRec' rsn fun x => { x with drain := some (r.drainSegs.map r.drainSeg) })).drainGo e rsn := by
  have idle : r.drain = none := by
    unfold Drive.mayDrain at may
    simp only [Bool.and_eq_true, Option.isNone_iff_eq_none] at may
    exact may.1.2
  unfold journalDrainOp
  rw [listed]
  dsimp only
  rw [if_neg (by simp [com, on, credit]), idle]
  exact if_neg (by rcases turn with turn | turn <;> simp [may, turn])

theorem journalDrainOp_again {ds : List DrainSeg} (begun : r.drain = some ds) : journalDrainOp rsn e d = d.drainAgain e r ds := by
  unfold journalDrainOp
  rw [listed]
  dsimp only
  rw [if_neg (by simp [com, on, credit]), begun]

end

section
variable (listed : d.rec? rsn = some r) (com : r.st = .committed) (effect : r.effect = true)
include listed com effect

theorem recordDrainedOp_value {ds : List DrainSeg} (value : r.op.cls ≠ 5) (begun : r.drain = some ds)
    (done : ∀ x ∈ ds, x.done = true) :
    recordDrainedOp rsn e d = (d.markDrained rsn).settleRecs.ckptGo e := by
  unfold recordDrainedOp
  rw [listed]
  dsimp only
  rw [begun]
  dsimp only
  rw [if_pos (by simp [com, effect, List.all_eq_true.2 done]), if_neg value]

theorem recordDrainedOp_key (key : r.op.cls = 5) (idle : r.drain = none) (done : r.keyDone = true) :
    recordDrainedOp rsn e d = ((d.eraseImage e).markDrained rsn).settleRecs.ckptGo e := by
  unfold recordDrainedOp
  rw [listed]
  dsimp only
  rw [idle, if_pos (by simp [com, effect, key, done]), if_pos key]

end

/-- Settles O43: one equation per operation on a record; COMMIT by whether the record is ready and whether it still passes, a drain by
whether it begins or goes on. -/
theorem recordsCommitAndDrain : Obligations.RecordsCommitAndDrain := by
  refine fun s => ⟨fun rsn r listed => ⟨?_, fun waits => gives_cmdOp rfl (Drive.commit_waits listed waits), ?_, ?_, ?_⟩, ?_, ?_⟩
  · intro acc whole noFlush readReady turn order
    have commits := Drive.commit_ready (e := s.env) listed ⟨acc, whole, noFlush, readReady, turn, order⟩
    exact ⟨fun j hj bad => gives_cmdOp rfl (commits.trans (Drive.commitNow_ends hj bad)),
      fun ok x hx => gives_cmdOp rfl (commits.trans (Drive.commitNow_commits ok hx))⟩
  · intro run spill inside fresh kept idle st on come
    exact gives_cmdOp rfl (spillSegmentOp_asks listed ⟨spill, inside, fresh, kept, idle, st⟩ on rfl come)
  · intro com on credit
    refine ⟨fun may turn => gives_cmdOp rfl (journalDrainOp_begins listed com on credit may turn), ?_⟩
    rintro ds xs begun rfl
    exact gives_cmdOp rfl (journalDrainOp_again listed com on credit begun)
  · intro com effect
    exact ⟨fun ds value begun done => gives_cmdOp rfl (recordDrainedOp_value listed com effect value begun done),
      fun key idle done => gives_cmdOp rfl (recordDrainedOp_key listed com effect key idle done)⟩
  · intro h rest f v held free noFlush stands hv
    exact gives_cmdOp rfl (acceptHeldOp_accepts held free noFlush stands hv)
  · rintro slot seq f c rsn r n want on stands has ofCmd open_ listed acc balance rfl pos le fits most d hd
    have awaits : s.d.awaitsGrant slot seq f c r := ⟨stands, has, by rw [ofCmd, Option.bind_some, listed], open_, acc⟩
    have grants : s.d.grants s.env c r n := ⟨pos, le, fits, most⟩
    exact gives_cmdOp rfl ((if_pos on).trans (Drive.grantMore_grants awaits balance grants hd))

end Sys2Proof.Machine
end

section
/-! PROOFS. Chapters 6 and 9 (06_policy_match.md, 09_journal_replay.md): uncorrectable DRAM errors (R226, R308, R321). One equation
for what each finder of an error does with its address, and one for each area of the journal region. -/

namespace Sys2Proof.Machine

variable {d : Drive} {e : Env} {addr : BitVec 36} {both : Bool} {a ce n : Nat} {r : JRec} {u : USlot}

/-! ### Who finds an error (R226, R321, R345) -/

/-- An access has found an uncorrectable error at `a`: it is counted, and latched with its address. -/
def Drive.accessFoundUe (d : Drive) (a ce : Nat) : Drive :=
  ((((d.bumpOpen Reg.DRM_CE ce).bumpOpen Reg.DRM_UE 1).setWide Reg.DRM_UE_ADDR a).errCnt pgDrm).setInt pgDrm 0

/-- The patrol has found one at `a`: it is counted, latched with its address and written as an event. -/
def Drive.patrolFoundUe (d : Drive) (e : Env) (a ce : Nat) : Drive :=
  (((((d.bumpOpen Reg.SCB_DRM_CE ce).bumpOpen Reg.SCB_DRM_UE 1).setWide Reg.SCB_DRM_UE_ADDR a).setInt pgScb 2).errCnt pgScb).event
    e 0x503 (a / 2 ^ 32) (a % 2 ^ 32) 0 0

/-- Line `x` of a match shadow is bad from now on, once the scrubber reaches it. -/
def Mch.lineBad (m : Mch) (x : Nat × Nat) : Mch := { m with shadowUe := m.shadowUe.filter (· != x) ++ [x] }

theorem journalDramUeOp_journal (on : d.isOn 10 = true) (low : addr.toNat < 2 ^ 33) :
    journalDramUeOp addr both ce e d = (d.accessFoundUe addr.toNat ce).journalUe e addr.toNat both :=
  (if_neg (by simp [on])).trans (if_pos low)

theorem journalDramUeOp_elsewhere (on : d.isOn 10 = true) (high : 2 ^ 33 ≤ addr.toNat) :
    journalDramUeOp addr both ce e d = d.accessFoundUe addr.toNat ce :=
  (if_neg (by simp [on])).trans (if_neg (not_lt.2 high))

section
variable (on : d.isOn 28 = true)
include on

theorem dramPatrolUeOp_journal {line : Option (BitVec 2 × Nat)} (low : addr.toNat < 2 ^ 33) :
    dramPatrolUeOp addr both line ce e d = (d.patrolFoundUe e addr.toNat ce).journalUe e addr.toNat both :=
  (if_neg (by simp [on])).trans (if_pos low)

theorem dramPatrolUeOp_elsewhere (high : 2 ^ 33 ≤ addr.toNat) :
    dramPatrolUeOp addr both none ce e d = d.patrolFoundUe e addr.toNat ce :=
  (if_neg (by simp [on])).trans (if_neg (not_lt.2 high))

theorem dramPatrolUeOp_shadow {g : BitVec 2} {i : Nat} (high : 2 ^ 33 ≤ addr.toNat) :
    dramPatrolUeOp addr both (some (g, i)) ce e d = (d.patrolFoundUe e addr.toNat ce).onMch (·.lineBad (g.toNat, i)) :=
  (if_neg (by simp [on])).trans (if_neg (not_lt.2 high))

end

/-! ### Errors in the journal region, by their area (R308, R321) -/

/-- The offsets of R308 in bytes. -/
theorem areaOf_bytes (a : Nat) : areaOf a =
    if a < 65536 then .control
    else if a < 6356992 then .report ((a - 65536) / 48)
    else if a < 67108864 then .control
    else if a < 603979776 then .record ((a - 67108864) / 2048)
    else if a < 1140850688 then .record ((a - 603979776) / 2048)
    else .unit ((a - 1140850688) / 4096) := rfl

/-- An error at byte `a` of the journal region is counted there and written as an event with its area. -/
def Drive.journalNotesUe (d : Drive) (e : Env) (a : Nat) : Drive :=
  (((d.bumpOpen Reg.JRN_DRAM_UE 1).errCnt pgJrn).setInt pgJrn 4).event e 0x800 (a / 2 ^ 32) (a % 2 ^ 32) (areaOf a).code 0

theorem Drive.journalUe_control (area : areaOf a = .control) : d.journalUe e a both = d.journalNotesUe e a := by
  unfold Drive.journalUe Drive.journalNotesUe
  rw [area]

theorem Drive.journalUe_report {i : Nat} (area : areaOf a = .report i) (listed : i < (d.journalNotesUe e a).jrn.report.length) :
    d.journalUe e a both =
      (((d.journalNotesUe e a).onJrn fun j => { j with report := j.report.eraseIdx i }).bump Reg.JRN_RPT_DROPPED 1).setInt pgJrn 5 := by
  unfold Drive.journalNotesUe at listed ⊢
  unfold Drive.journalUe
  rw [area] at listed ⊢
  exact if_pos listed

theorem Drive.journalUe_unit (area : areaOf a = .unit n) : d.journalUe e a both = (d.journalNotesUe e a).unitUe e n := by
  unfold Drive.journalUe Drive.journalNotesUe
  rw [area]

section
variable (area : areaOf a = .record n) (listed : ((d.journalNotesUe e a).jrn.recs.find? fun r => r.pair == n) = some r)
include area

/-- The other copy of the record is good. -/
theorem Drive.journalUe_oneCopy : d.journalUe e a false = d.journalNotesUe e a := by
  unfold Drive.journalUe Drive.journalNotesUe
  rw [area]

include listed

/-- What an error in both copies of record `r` does. -/
theorem Drive.journalUe_bothCopies : d.journalUe e a true =
    if r.pending then
      ((((d.journalNotesUe e a).bump Reg.FAB_GUARD_GIVEUP 1).event e 0x400 0 r.flow.toNat r.tag.toNat 0).endRec
        e r.rsn ⟨0x11, 0⟩).settleRecs
    else if r.st = .ended then d.journalNotesUe e a
    else ((d.journalNotesUe e a).recLost e r).settleRecs := by
  unfold Drive.journalNotesUe at listed ⊢
  unfold Drive.journalUe
  rw [area] at listed ⊢
  dsimp only
  rw [listed]

end

/-! ### An error in a unit slot (R167, R284, R321) -/

section
variable (listed : (d.jrn.recs.find? fun r => r.units.any fun u => u.num == n) = some r)
  (holds : (r.units.find? fun u => u.num == n) = some u)
include listed holds

theorem Drive.unitUe_pending (pending : r.pending = true) : d.unitUe e n =
    (((d.bump Reg.FAB_GUARD_GIVEUP 1).event e 0x400 0 r.flow.toNat r.tag.toNat u.unit).endRec e r.rsn ⟨0x11, 0⟩).settleRecs := by
  unfold Drive.unitUe
  rw [listed]
  dsimp only
  rw [pending, holds]

theorem Drive.unitUe_committed (acknowledged : r.pending = false) (committed : r.st = .committed) : d.unitUe e n =
    ((List.range ((r.payAt + 4096 * u.unit + 4095) / 65536 - (r.payAt + 4096 * u.unit) / 65536 + 1)).map
      fun i => (r.payAt + 4096 * u.unit) / 65536 + i).foldl
        (fun d k => (d.countUnreadable e 0 (bodyNs r.body) r.version k).loseSeg r k) d := by
  unfold Drive.unitUe
  rw [listed]
  dsimp only
  rw [acknowledged, holds, committed]

end

/-- Settles O45: the effect of each finder, then of an error in each area of the journal region. That the unit slot tags are of the
control area is log entry 133; a segment lost so counts on engine 0, as log entry 160 says, and a write-through record with a CSN whose
effect has not come counts as not acknowledged, as log entry 158 says. -/
theorem dramErrors : Obligations.DramErrors := by
  refine ⟨?_, ?_, ?_, ?_, areaOf_bytes⟩
  · rintro s a both ce x on rfl
    exact ⟨fun low => gives_cmdOp rfl (journalDramUeOp_journal on low), fun high => gives_cmdOp rfl (journalDramUeOp_elsewhere on high)⟩
  · rintro s a both ce x on rfl
    exact ⟨fun low _ => gives_cmdOp rfl (dramPatrolUeOp_journal on low), fun high =>
      ⟨gives_cmdOp rfl (dramPatrolUeOp_elsewhere on high), fun _ _ => gives_cmdOp rfl (dramPatrolUeOp_shadow on high)⟩⟩
  · rintro d e a both x rfl
    refine ⟨Drive.journalUe_control, fun _ => Drive.journalUe_report, fun _ => Drive.journalUe_unit,
      fun n r area listed => ⟨?_, ?_, ?_⟩⟩
    · rintro rfl
      exact Drive.journalUe_oneCopy area
    · rintro rfl pending
      exact (Drive.journalUe_bothCopies area listed).trans (if_pos pending)
    · rintro rfl acknowledged kept
      have stands : r.st ≠ .ended := by rcases kept with st | st <;> simp [st]
      exact (Drive.journalUe_bothCopies area listed).trans ((if_neg (by simp [acknowledged])).trans (if_neg stands))
  · exact fun d e n r u listed holds => ⟨Drive.unitUe_pending listed holds, Drive.unitUe_committed listed holds⟩

end Sys2Proof.Machine
end

section
/-! PROOFS. Chapter 6 (06_policy_match.md): the order of the matches (R208), the steps of an entry (R213), diagnostic searches (R221),
the accounting window (R224), the tables with their shadows (R207, R216 to R219, R226) and the junction sensors (R220). -/

namespace Sys2Proof.Machine

variable {d : Drive} {e : Env} {s t : State} {p : Path} {arb : Arb} {v : Word} {n i : Nat}

/-- A register row that passes every check completes with what its register's command makes of the drive the word has entered. -/
theorem gives_hook {row : Instr} {a : Nat} (h : exec row s = regRow p a v arb s) (hw : takes s p arb a v t) (hp : plainPage a = true)
    (hd : hook s.env p a v t.d (stored t p a v) = d) : Gives row s (d.accessed s p) :=
  gives_reg h hw hp (congrArg (Drive.accessed · s p) hd)

/-! ### The order of the matches (R208) -/

theorem Hit.before_eq_false {a b : Hit} : a.before b = false ↔ a.prio < b.prio ∨ a.prio = b.prio ∧ b.index ≤ a.index := by
  unfold Hit.before
  simp only [Bool.or_eq_false_iff, Bool.and_eq_false_iff, decide_eq_false_iff_not, beq_eq_false_iff_ne]
  omega

theorem Hit.before_asymm {a b : Hit} (h : a.before b = true) : b.before a = false := by
  rw [← Bool.not_eq_false, Hit.before_eq_false] at h
  rw [Hit.before_eq_false]
  omega

/-- What stands no later than something that stands no later is no later. -/
theorem Hit.not_before_trans {a b c : Hit} (hab : b.before a = false) (hbc : c.before b = false) : c.before a = false := by
  rw [Hit.before_eq_false] at *
  omega

theorem Hit.mem_insert {a x : Hit} {l : List Hit} : x ∈ a.insert l ↔ x = a ∨ x ∈ l := by
  induction l with
  | nil => simp [Hit.insert]
  | cons b l ih =>
    unfold Hit.insert
    split_ifs
    · exact List.mem_cons
    · rw [List.mem_cons, ih, List.mem_cons, or_left_comm]

/-- Inserting into a list in R208's order keeps the order. -/
theorem Hit.insert_pairwise (a : Hit) {l : List Hit} (h : l.Pairwise fun a b => b.before a = false) :
    (a.insert l).Pairwise fun a b => b.before a = false := by
  induction l with
  | nil => exact List.pairwise_singleton _ _
  | cons b l ih =>
    obtain ⟨first, rest⟩ := List.pairwise_cons.1 h
    unfold Hit.insert
    split_ifs with ahead
    · have behind := Hit.before_asymm ahead
      refine List.pairwise_cons.2 ⟨fun x hx => ?_, h⟩
      rcases List.mem_cons.1 hx with rfl | hx
      · exact behind
      · exact Hit.not_before_trans behind (first x hx)
    · refine List.pairwise_cons.2 ⟨fun x hx => ?_, ih rest⟩
      rcases Hit.mem_insert.1 hx with rfl | hx
      · exact Bool.eq_false_iff.2 ahead
      · exact first x hx

theorem Hit.foldl_insert_pairwise (found : List Hit) {l : List Hit} (h : l.Pairwise fun a b => b.before a = false) :
    (found.foldl (fun l h => h.insert l) l).Pairwise fun a b => b.before a = false := by
  induction found generalizing l with
  | nil => exact h
  | cons a found ih => exact ih (a.insert_pairwise h)

theorem Mch.matches_pairwise (m : Mch) (wide : Bool) (segs : List Nat) (key : SKey) :
    (m.matches wide segs key).Pairwise fun a b => b.before a = false :=
  Hit.foldl_insert_pairwise _ .nil

/-! ### Entries (R200, R213) -/

@[simp] theorem entryOf_idx (l : List Entry) (i : Nat) : (entryOf l i).idx = i := by
  unfold entryOf
  cases found : l.find? (·.idx == i) with
  | none => rfl
  | some x => simpa using List.find?_some found

/-- Reading an entry after one is put. -/
theorem entryOf_putEntry (l : List Entry) (x : Entry) (j : Nat) :
    entryOf (putEntry l x) j = if j = x.idx then x else entryOf l j := by
  unfold entryOf putEntry
  rw [List.find?_cons]
  split_ifs with h
  · simp [h]
  · have other : (x.idx == j) = false := by simpa using Ne.symm h
    have same : (fun y : Entry => !(y.idx == x.idx) && y.idx == j) = fun y => y.idx == j := by
      funext y
      by_cases at_ : y.idx = j
      · simp [at_, h]
      · simp [at_]
    rw [other, List.find?_filter]
    simp only [Bool.decide_and, Bool.decide_eq_true, same]

/-- Reading an entry after entry `i` of list `n` is changed. -/
theorem entryOf_modAt {ls : List (List Entry)} {f : Entry → Entry} (hn : n < ls.length) (keeps : ∀ x, (f x).idx = x.idx) (j : Nat) :
    entryOf (((modAt ls n fun l => putEntry l (f (entryOf l i)))[n]?).getD []) j =
      if j = i then f (entryOf ((ls[n]?).getD []) i) else entryOf ((ls[n]?).getD []) j := by
  rw [modAt_getD, if_pos ⟨rfl, hn⟩, entryOf_putEntry, keeps, entryOf_idx]

/-! ### The steps of an entry (R213) -/

/-- The entry rows are writes of the segment's command register; the word says which step it is. -/
theorem exec_entRow {g : BitVec 2} : ∀ row ∈ [Instr.entRead, .entInvalidate, .entWrite, .entValidate],
    exec (row p g v arb) s = regRow p (Reg.MCH_ENT_CMD g.toNat) v arb s := by
  simp only [List.forall_mem_cons, List.not_mem_nil, false_imp_iff, implies_true, and_true]
  exact ⟨rfl, rfl, rfl, rfl⟩

/-- The index staged for segment `n` on path `p`. -/
def Drive.entIdx (d : Drive) (p : Path) (n : Nat) : Nat := d.fld (pk p (Reg.MCH_ENT_IDX n)) 13 0

/-- The staged entry is written, not yet valid; its shadow line is good again. -/
def Mch.entWritten (m : Mch) (n i : Nat) (x : Entry) : Mch :=
  { m.entStep n i fun _ => x with badShadow := m.badShadow.filter (· != (n, i)), shadowUe := m.shadowUe.filter (· != (n, i)) }

theorem entCmdW_read (op : bits v 1 0 = 0) {x : Entry} (hx : x = entryOf (d.mch.seg n) (d.entIdx p n)) : entCmdW n p v e d =
    (((((d.setReg (pk p (Reg.MCH_ENT_PRIO n)) (word x.prio.toNat)).setWide (pk p (Reg.MCH_ENT_RES n)) x.row.toNat).setRegs
      (pk p (Reg.MCH_ENT_VAL n 0)) (leWords (leBytes 40 x.value.toNat))).setRegs (pk p (Reg.MCH_ENT_MASK n 0))
        (leWords (leBytes 40 x.mask.toNat))).entStat p n (d.entIdx p n) 0) := by
  subst hx
  unfold entCmdW
  rw [op]
  rfl

theorem entCmdW_saving (op : bits v 1 0 ≠ 0) (saving : d.mch.saving.isSome = true) :
    entCmdW n p v e d = d.entStat p n (d.entIdx p n) 2 := by
  obtain ⟨k, hk⟩ := Nat.exists_eq_succ_of_ne_zero op
  unfold entCmdW
  rw [hk]
  exact if_pos saving

section
variable (idle : d.mch.saving = none)
include idle

theorem entCmdW_invalidate (op : bits v 1 0 = 1) : entCmdW n p v e d =
    (d.onMch fun m => m.entStep n (d.entIdx p n) fun x => { x with valid := false }).entStat p n (d.entIdx p n) 0 := by
  unfold entCmdW
  rw [op]
  exact (if_neg (by simp [idle])).trans (if_pos rfl)

theorem entCmdW_write (op : bits v 1 0 = 2) : entCmdW n p v e d =
    if (entryOf (d.mch.seg n) (d.entIdx p n)).valid then d.entStat p n (d.entIdx p n) 1
    else (d.onMch fun m => m.entWritten n (d.entIdx p n) (d.stagedEntry p n (d.entIdx p n))).entStat p n (d.entIdx p n) 0 := by
  unfold entCmdW
  rw [op]
  exact (if_neg (by simp [idle])).trans ((if_neg (by decide)).trans (if_pos rfl))

theorem entCmdW_validate (op : bits v 1 0 = 3) : entCmdW n p v e d =
    (d.onMch fun m => m.entStep n (d.entIdx p n) fun x => { x with valid := true }).entStat p n (d.entIdx p n) 0 := by
  unfold entCmdW
  rw [op]
  exact (if_neg (by simp [idle])).trans ((if_neg (by decide)).trans (if_neg (by decide)))

end

/-! ### Diagnostic searches (R221) -/

theorem exec_diagRow : ∀ row ∈ [Instr.diagSearchGo, .diagSearchNext],
    exec (row p v arb) s = regRow p Reg.MCH_SRCH_CTL v arb s := by
  simp only [List.forall_mem_cons, List.not_mem_nil, false_imp_iff, implies_true, and_true]
  exact ⟨rfl, rfl⟩

theorem srchCtlW_neither (go : bit v 8 = false) (next : bit v 9 = false) : srchCtlW p v e d = d := if_pos (by simp [go, next])

theorem srchCtlW_either (either : bit v 8 = true ∨ bit v 9 = true) : srchCtlW p v e d =
    if d.tableHeld (bits v 1 0) then d.onMch fun m => { m with heldDiag := m.heldDiag ++ [(p, !bit v 8)] }
    else d.diagSearch p (!bit v 8) :=
  if_neg (by rcases either with h | h <;> simp [h])

/-- The drive with a diagnostic search counted. -/
def Drive.searchCounted (d : Drive) : Drive := d.bumpWide Reg.MCH_SEARCHES 1

/-- The page that announces a tie: that of the first of the table's segments. -/
def tiePage (table : Option (Bool × List Nat)) : Nat := pgMch (match table with | some (_, n :: _) => n | _ => 0)

section
variable {all : List Hit} (found : d.diagMatches p = all)
include found

theorem Drive.diagSearch_few (few : all.length < 2) : d.diagSearch p false = d.searchCounted.report p all all.head? := by
  unfold Drive.diagSearch
  rw [found]
  match all, few with
  | [], _ => rfl
  | [_], _ => rfl

variable {a b : Hit} {l : List Hit} (several : all = a :: b :: l)
include several

theorem Drive.diagSearch_multi (apart : a.prio ≠ b.prio) :
    d.diagSearch p false = (d.searchCounted.bumpOpen Reg.MCH_MULTI 1).report p all (some a) := by
  subst several
  unfold Drive.diagSearch
  rw [found]
  simp [apart, Drive.searchCounted]

theorem Drive.diagSearch_tie (tie : a.prio = b.prio) {table : Option (Bool × List Nat)}
    (names : tableSegs d.searchCounted.geom (d.fld (pk p Reg.MCH_SRCH_CTL) 1 0) = table) : d.diagSearch p false =
    (((d.searchCounted.bumpOpen Reg.MCH_MULTI 1).bumpOpen Reg.MCH_TIES 1).setInt (tiePage table) 2).report p all (some a) := by
  subst several
  unfold Drive.searchCounted at names ⊢
  unfold Drive.diagSearch
  rw [found]
  simp only [names, tie, beq_self_eq_true, Bool.false_eq_true, if_true, if_false, List.length_cons, List.head?_cons]
  rw [if_pos (by omega)]
  rfl

end

theorem Drive.diagSearch_next : d.diagSearch p true =
    if d.searchCounted.flag (pk p Reg.MCH_SRCH_RES) 31 then
      d.searchCounted.report p (d.diagMatches p) ((d.diagMatches p).find? fun h =>
        Hit.before ⟨d.searchCounted.fld (pk p Reg.MCH_SRCH_RES) 11 0, d.searchCounted.fld (pk p Reg.MCH_SRCH_IDX) 15 0, 0⟩ h)
    else d.searchCounted.report p (d.diagMatches p) none := by
  unfold Drive.diagSearch Drive.searchCounted
  exact if_pos rfl

/-- Settles O46: the order by induction on the matches found, the entry steps and the searches by one equation per case of the register's
command. That a READ is not refused during a save, and that MULTI counts once a search, is log entry 106. -/
theorem searchesAndEntrySteps : Obligations.SearchesAndEntrySteps := by
  refine ⟨Mch.matches_pairwise, ?_, ?_, ?_, ?_, ?_⟩
  · exact fun m n i j f seg shadow keeps => ⟨entryOf_modAt seg keeps j, entryOf_modAt shadow keeps j⟩
  · rintro s t p arb g v n i x d rfl hw rfl rfl rfl row hrow
    have acts {d} (hd : entCmdW g.toNat p v s.env (stored t p (Reg.MCH_ENT_CMD g.toNat) v) = d) :
        Gives (row p g v arb) s (d.accessed s p) :=
      gives_hook (exec_entRow row hrow) hw (plainPage_MCH_ENT_CMD _ g.isLt) ((hook_MCH_ENT_CMD _ _ _ _ _ _ g.isLt).trans hd)
    refine ⟨fun op => acts (entCmdW_read op rfl), fun idle => ⟨fun op => acts (entCmdW_invalidate idle op), fun op => ?_,
      fun op => acts (entCmdW_validate idle op)⟩, fun saving op => acts (entCmdW_saving op saving)⟩
    have writes := entCmdW_write (n := g.toNat) (p := p) (e := s.env) idle op
    exact ⟨fun valid => acts (writes.trans (if_pos valid)), fun invalid => acts (writes.trans (if_neg (ne_true_of_eq_false invalid)))⟩
  · rintro s t p arb v d hw rfl row hrow
    have acts {d} (hd : srchCtlW p v s.env (stored t p Reg.MCH_SRCH_CTL v) = d) : Gives (row p v arb) s (d.accessed s p) :=
      gives_hook (exec_diagRow row hrow) hw rfl ((hook_MCH_SRCH_CTL ..).trans hd)
    exact ⟨fun go next => acts (srchCtlW_neither go next), fun either =>
      ⟨fun held => acts ((srchCtlW_either either).trans (if_pos held)),
        fun free => acts ((srchCtlW_either either).trans (if_neg (by simp [free])))⟩⟩
  · rintro d x p all rfl rfl
    refine ⟨Drive.diagSearch_few rfl, fun a b l => Drive.diagSearch_multi rfl, fun a b l several tie => ?_,
      fun last => Drive.diagSearch_next.trans (if_pos last),
      fun none_ => Drive.diagSearch_next.trans (if_neg (ne_true_of_eq_false none_))⟩
    generalize names : tableSegs (d.bumpWide Reg.MCH_SEARCHES 1).geom _ = table
    rw [Drive.diagSearch_tie rfl several tie names]
    rcases table with _ | ⟨_, _ | ⟨_, _⟩⟩ <;> rfl
  · rintro s t p arb v d a hw rfl rfl
    exact gives_hook rfl hw rfl (hook_MCH_ACCT_SEL ..)

/-! ### Geometry and saving (R207, R218) -/

theorem exec_engRow : ∀ row ∈ [Instr.mchSave, .mchGeomWrite], exec (row p v arb) s = regRow p Reg.MCH_ENG_CTL v arb s := by
  simp only [List.forall_mem_cons, List.not_mem_nil, false_imp_iff, implies_true, and_true]
  exact ⟨rfl, rfl⟩

theorem mchSaveW_begins (save : bit v 1 = true) (idle : d.mch.saving = none) : mchSaveW v e d =
    d.onMch fun m => { m with saving := some (m.shadows, d.reg Reg.MCH_ENG_CTL, d.reg Reg.MCH_CLASS_MAP) } :=
  if_pos ⟨save, idle⟩

theorem mchSaveW_nothing (not : bit v 1 = false ∨ d.mch.saving.isSome = true) : mchSaveW v e d = d :=
  if_neg (by rcases not with h | h <;> simp [h, Option.isSome_iff_ne_none.1])

theorem geomChanged_valid {l : List Entry} (hl : l ∈ (geomChanged d).mch.segs ++ (geomChanged d).mch.shadows) {x : Entry}
    (hx : x ∈ l) : x.valid = false := by
  have cleared : ∃ l' : List Entry, l'.map (fun x => { x with valid := false }) = l := by
    rcases List.mem_append.1 hl with h | h <;> exact (List.mem_map.1 h).imp fun _ => And.right
  obtain ⟨l', rfl⟩ := cleared
  obtain ⟨y, -, rfl⟩ := List.mem_map.1 hx
  rfl

theorem mchSaveDoneOp_idle (idle : d.mch.saving = none) : mchSaveDoneOp e d = d := by
  unfold mchSaveDoneOp
  rw [idle]

theorem mchSaveDoneOp_saving {tables : List (List Entry)} {ctl map : Word} (saving : d.mch.saving = some (tables, ctl, map)) :
    mchSaveDoneOp e d = { d with
      mch := { d.mch with saved := some (tables, ctl, map), saving := none }
      saved := FMap.set rstVal (FMap.set rstVal d.saved Reg.MCH_ENG_CTL ctl) Reg.MCH_CLASS_MAP map } := by
  unfold mchSaveDoneOp
  rw [saving]
  rfl

/-! ### Rebuilding (R219) -/

theorem mchCtlW_begins (rebuild : bit v 0 = true) (idle : d.mch.rebuilding.contains n = false) :
    mchCtlW n v e d = d.onMch fun m => { m with rebuilding := m.rebuilding ++ [n] } :=
  (if_pos rebuild).trans (if_neg (ne_true_of_eq_false idle))

theorem mchCtlW_nothing (not : bit v 0 = false ∨ d.mch.rebuilding.contains n = true) : mchCtlW n v e d = d := by
  rcases not with still | running
  · exact if_neg (ne_true_of_eq_false still)
  · unfold mchCtlW Drive.rebuildSeg
    rw [if_pos running, ite_self]

theorem segmentRebuiltOp_idle (idle : d.mch.rebuilding.contains n = false) : segmentRebuiltOp n e d = d :=
  if_pos (by simp only [idle, Bool.not_false])

/-- Segment `n` holds its shadow again, and announces it. -/
def Drive.shadowCopied (d : Drive) (n : Nat) : Drive :=
  (d.onMch fun m => { m with
    rebuilding := m.rebuilding.filter (· != n), segs := m.segs.set n ((m.shadows[n]?).getD []) }).setInt (pgMch n) 4

section
variable (rebuilds : d.mch.rebuilding.contains n = true)
include rebuilds

theorem Drive.segRebuilt_rebuilding : d.segRebuilt n = d.shadowCopied n := if_pos rebuilds

/-- The OPENs that waited run first, then the commands, then the diagnostic searches. -/
theorem segmentRebuiltOp_rebuilding : segmentRebuiltOp n e d =
    (d.mch.heldCmds.foldl (fun d h => d.fromFour e h)
      (d.mch.heldOpens.foldl (fun d o => d.openIn e o)
        ((d.shadowCopied n).onMch fun m => { m with heldOpens := [], heldCmds := [] }))).runHeldDiag := by
  have held : (d.shadowCopied n).mch.heldOpens = d.mch.heldOpens ∧ (d.shadowCopied n).mch.heldCmds = d.mch.heldCmds := by
    unfold Drive.shadowCopied
    rw [Drive.setInt_mch]
    exact ⟨rfl, rfl⟩
  unfold segmentRebuiltOp
  rw [rebuilds, Drive.segRebuilt_rebuilding rebuilds]
  dsimp only
  rw [held.1, held.2]
  rfl

end

/-! ### Scrubbing (R216, R217, R226) -/

/-- A pass ends with the last entry of the last segment. -/
def Drive.scrubPass (d : Drive) (n i : Nat) : Drive := if n = 3 ∧ i = 16383 then d.bumpOpen Reg.SCB_MCH_PASSES 1 else d

/-- The entry is repaired from its shadow. -/
def Drive.scrubRepaired (d : Drive) (e : Env) (n i : Nat) : Drive :=
  (d.onMch fun m => { m with segs := modAt m.segs n fun l => putEntry l (entryOf ((d.mch.shadows[n]?).getD []) i) }).scrubNote
    e n i 0 0 Reg.SCB_MCH_FIXED 0x501

/-- The entry, whose shadow line is bad, is invalidated. -/
def Drive.scrubLost (d : Drive) (e : Env) (n i : Nat) : Drive :=
  (d.onMch fun m => { m.entStep n i fun x => { x with valid := false } with
    badShadow := m.badShadow ++ [(n, i)], shadowUe := m.shadowUe.filter (· != (n, i)) }).scrubNote e n i 1 1 Reg.SCB_MCH_LOST 0x502

/-- What a compare of an entry in service does, by what it finds of the shadow line. -/
theorem scrubCompareOp_inService {bad : Bool} (on : d.isOn 28 = true) (up : d.isOn (16 + n) = true) (inside : i < 16384) :
    scrubCompareOp n i bad e d =
      (if d.mch.badShadow.contains (n, i) then d
      else if bad || d.mch.shadowUe.contains (n, i) then d.scrubLost e n i
      else if entryOf (d.mch.seg n) i = entryOf ((d.mch.shadows[n]?).getD []) i then d
      else d.scrubRepaired e n i).scrubPass n i :=
  if_neg (by simp [on, up, inside])

/-! ### The junction sensors (R220) -/

/-- The MATCH domains that are up. -/
def Drive.matchLive (d : Drive) : List Nat := (List.range 4).filter fun n => d.isUp (16 + n)

theorem matchTempSampleOp_off {ts : List Nat} (off : d.matchLive = []) : matchTempSampleOp ts e d = d :=
  if_pos (List.isEmpty_iff.2 off)

theorem matchTempSampleOp_live {ts : List Nat} {k : Nat} {cool : Option Nat} (live : d.matchLive ≠ [])
    (step : throttle d.mch.step d.mch.coolSince ((d.matchLive.map fun n => (ts[n]?).getD 0).foldl max 0) e.clk.optime = (k, cool))
    {x : Drive} (hx : x = d.onMch fun m => { m with
      temps := (List.range 4).map fun n => if d.matchLive.contains n then (ts[n]?).getD 0 else (d.mch.temps[n]?).getD 0
      step := k, coolSince := cool }) :
    matchTempSampleOp ts e d = if k = d.mch.step then x else x.setInt (pgMch 0) 3 := by
  subst hx
  unfold Drive.matchLive at live step ⊢
  unfold matchTempSampleOp
  dsimp only
  rw [if_neg (by simpa using live), step]

/-- Settles O47: one equation per case of each register's command and of each operation; the scrubber's four cases come from what its
compare finds of the shadow line. That a bad shadow counts once until it is written again, and where a pass ends, is log entry 106; that the
scrubber's next compare takes up what the patrol found is log entry 167. -/
theorem matchTablesAndSensors : Obligations.MatchTablesAndSensors := by
  refine ⟨?_, fun d l hl x hx => geomChanged_valid hl hx, fun s => ⟨fun idle => gives_runOp rfl (mchSaveDoneOp_idle idle),
    fun _ _ _ saving => gives_runOp rfl (mchSaveDoneOp_saving saving)⟩, ?_, ?_, ?_, ?_⟩
  · rintro s t p arb v d x hw rfl rfl row hrow
    have acts {d} (hd : mchSaveW v s.env (if t.d.geom = (stored t p Reg.MCH_ENG_CTL v).geom then stored t p Reg.MCH_ENG_CTL v
        else geomChanged (stored t p Reg.MCH_ENG_CTL v)) = d) : Gives (row p v arb) s (d.accessed s p) :=
      gives_hook (exec_engRow row hrow) hw rfl ((hook_MCH_ENG_CTL ..).trans hd)
    exact ⟨fun save idle => acts (mchSaveW_begins save idle), fun not => acts (mchSaveW_nothing not)⟩
  · rintro s t p arb g v a d rfl hw rfl
    have acts {d} (hd : mchCtlW g.toNat v s.env (stored t p (0x60010 + g.toNat * 0x1000) v) = d) :
        Gives (.segmentRebuild p g v arb) s (d.accessed s p) :=
      gives_hook rfl hw (plainPage_MCH_CTL _ g.isLt) ((hook_MCH_CTL _ _ _ _ _ _ g.isLt).trans hd)
    exact ⟨fun rebuild idle => acts (mchCtlW_begins rebuild idle), fun not => acts (mchCtlW_nothing not)⟩
  · refine fun s g => ⟨fun idle => gives_cmdOp rfl (segmentRebuiltOp_idle idle), ?_⟩
    rintro rebuilds x y z rfl rfl rfl
    exact gives_cmdOp rfl (segmentRebuiltOp_rebuilding rebuilds)
  · rintro s g i bad ue x y pass on up inside rfl rfl rfl rfl
    have finds := scrubCompareOp_inService (bad := bad) (e := s.env) on up inside
    have passes (d : Drive) : d.scrubPass g.toNat i = if g = 3 ∧ i = 16383 then d.bumpOpen Reg.SCB_MCH_PASSES 1 else d := by
      simp only [Drive.scrubPass, ← BitVec.toNat_inj]
      rfl
    simp only [← passes]
    have acts {d} (hd : scrubCompareOp g.toNat i bad s.env s.d = d) : Gives (.scrubCompare g i bad) s d := gives_runOp rfl hd
    refine ⟨fun known => acts ?_, fun fresh => ⟨fun good read same => acts ?_, fun good read differs => acts ?_,
      fun bad_ => acts ?_⟩⟩
    · rw [finds, if_pos known]
    · rw [finds, if_neg (ne_true_of_eq_false fresh), if_neg (by simp only [good, read]; decide), if_pos same]
    · rw [finds, if_neg (ne_true_of_eq_false fresh), if_neg (by simp only [good, read]; decide), if_neg differs]
      rfl
    · rw [finds, if_neg (ne_true_of_eq_false fresh), if_pos (by simpa using bad_)]
      rfl
  · rintro s t0 t1 t2 t3 k cool live temps hot rfl rfl rfl step
    refine ⟨fun off => gives_runOp rfl (matchTempSampleOp_off off), ?_⟩
    rintro live d rfl
    exact gives_runOp rfl (matchTempSampleOp_live live step rfl)

end Sys2Proof.Machine
end

section
/-! PROOFS. Chapter 7 (07_value_crypto.md): the record of a key slot (R227), ceilings (R263), direct slots (R241, R264), an erased slot
(R240) and the register window (R258, R263). The record of a slot is followed through the updates first; then one equation per case of
each register's command. -/

namespace Sys2Proof.Machine

variable {d d' : Drive} {e : Env} {s t : State} {p : Path} {arb : Arb} {v : Word} {n : Nat} {k : KeySlot} {w : KeyWait}

/-! ### The record of a slot (R227) -/

@[simp] theorem KeySlot.factory_num : (KeySlot.factory n).num = n := by
  unfold KeySlot.factory
  split_ifs <;> rfl

@[simp] theorem Drive.kslot_num : (d.kslot n).num = n := by
  unfold Drive.kslot
  cases found : d.cph.slots.find? (·.num == n) with
  | none => exact KeySlot.factory_num
  | some k => simpa using List.find?_some found

/-- Drives that list the same slots have the same records. -/
theorem Drive.kslot_of_slots (h : d'.cph.slots = d.cph.slots) (n : Nat) : d'.kslot n = d.kslot n := by
  unfold Drive.kslot
  rw [h]

/-- A written record stands at the head of the list; the image beside it is the only other thing that changes. -/
theorem Drive.setSlot_cph : (d.setSlot k).cph = { d.cph with
    slots := k :: d.cph.slots.filter (fun x => !(x.num == k.num)), image := (d.setSlot k).cph.image } := by
  unfold Drive.setSlot
  dsimp only
  split_ifs <;> rfl

@[simp] theorem Drive.setSlot_running : (d.setSlot k).cph.running = d.cph.running := by rw [setSlot_cph]

@[simp] theorem Drive.setSlot_aside : (d.setSlot k).cph.aside = d.cph.aside := by rw [setSlot_cph]

/-- A slot's record reads back after it is written. -/
theorem Drive.kslot_setSlot (h : k.num = n) : (d.setSlot k).kslot n = k := by
  unfold Drive.kslot
  rw [setSlot_cph, List.find?_cons_of_pos (by simpa using h)]
  rfl

/-! ### Loads (R237, R239, R241) -/

theorem Drive.loadSlot_empty (empty : (d.kslot n).st = .empty) (rsn : w.rsn = none) : d.loadSlot n w = (true, d.install n w) := by
  unfold Drive.loadSlot
  dsimp only
  rw [empty, rsn]
  rfl

/-- The record of a slot with one more load that waits to rewrite it. -/
def KeySlot.awaiting (k : KeySlot) (w : KeyWait) : KeySlot := { k with st := .rekeyWait, waits := k.waits ++ [w] }

theorem Drive.loadSlot_rewrite (held : (d.kslot n).st ≠ .empty) : d.loadSlot n w = (false, d.setSlot ((d.kslot n).awaiting w)) := by
  unfold Drive.loadSlot
  dsimp only
  split
  next st => exact absurd st held
  next => rfl

/-! ### Erases (R240) -/

/-- The record of an erased slot: the loads that waited have come into force, and every generation is destroyed. -/
def KeySlot.erased (k : KeySlot) : KeySlot :=
  { k with
    st := .empty, owner := 0, gen := k.gen + k.waits.length, ctr := if k.waits.isEmpty then k.ctr else 0, gens := [], waits := []
    nearDone := false, blob := 0 }

theorem Drive.eraseSlot_cph : (d.eraseSlot e n).2.2.cph = { (d.setSlot (d.kslot n).erased).cph with
    queues := (d.setSlot (d.kslot n).erased).cph.queues.map fun q => q.map fun r => if r.slot == n then { r with stale := true } else r
    aside := d.cph.aside.filter fun r => !(r.slot == n), running := d.cph.running.filter fun r => !(r.slot == n) } := by
  rw [← setSlot_aside (k := (d.kslot n).erased), ← setSlot_running (k := (d.kslot n).erased)]
  exact (event_cph ..).trans (setInt_cph ..)

theorem Drive.eraseSlot_kslot : (d.eraseSlot e n).2.2.kslot n = (d.kslot n).erased :=
  (kslot_of_slots (by rw [eraseSlot_cph]) n).trans (kslot_setSlot (d := d) kslot_num)

theorem Drive.eraseSlot_requests {r : CphReq} (h : r ∈ (d.eraseSlot e n).2.2.cph.running ++ (d.eraseSlot e n).2.2.cph.aside) :
    r.slot ≠ n := by
  rw [eraseSlot_cph] at h
  rcases List.mem_append.1 h with h | h <;> simpa using (List.mem_filter.1 h).2

/-! ### Ceilings (R263) -/

/-- The record of a slot under a new ceiling, which is not below what is used and reserved. -/
def KeySlot.ceiled (k : KeySlot) (new rsv : Nat) : KeySlot :=
  { k with
    ceil := max new (k.ctr + rsv), st := if k.st = .exhausted ∧ k.ctr < max new (k.ctr + rsv) then .loaded else k.st }

theorem ceilSetW_sets (hn : d.fld Reg.CPH_SLOT_SEL 12 0 = n) {new : Nat} (hnew : d.wide Reg.CPH_CEIL_NEW = new)
    (key : bits v 31 24 = 0xA5) (go : bit v 0 = true) (held : (d.kslot n).st ≠ .empty) (notStore : slotClass n ≠ 2) (some_ : 0 < new)
    (most : new ≤ 2 ^ 64 - 2 ^ 21) :
    ceilSetW v e d = ((d.setSlot ((d.kslot n).ceiled new (d.rsvOf n))).nearCheck e n).exhaustCheck e n := by
  subst hn hnew
  exact if_neg (by simp [key, go, held, notStore, some_.ne', most.not_gt, -Nat.reducePow, -Nat.reduceSub])

theorem ceilSetW_nothing (hn : d.fld Reg.CPH_SLOT_SEL 12 0 = n) {new : Nat} (hnew : d.wide Reg.CPH_CEIL_NEW = new)
    (not : bits v 31 24 ≠ 0xA5 ∨ bit v 0 = false ∨ (d.kslot n).st = .empty ∨ slotClass n = 2 ∨ new = 0 ∨ 2 ^ 64 - 2 ^ 21 < new) :
    ceilSetW v e d = d := by
  subst hn hnew
  exact if_pos (by simpa using not)

/-! ### Direct slots (R241, R264) -/

/-- The direct slot that a word names. -/
def dslotOf (v : Word) : Nat := 4096 + bits v 3 0

/-- The staged key of path `p`, as a load that nobody waits for. -/
def Drive.stagedLoad (d : Drive) (p : Path) : KeyWait := ⟨d.regBytes (pk p (Reg.CPH_DKEY 0)) 16, 0, 0, none, 0⟩

/-- The staged key is zeroed. -/
def Drive.unstaged (d : Drive) (p : Path) : Drive := d.setRegs (pk p (Reg.CPH_DKEY 0)) (List.replicate 16 0)

theorem exec_dslotRow : ∀ row ∈ [Instr.dslotLoad, .dslotErase], exec (row p v arb) s = regRow p Reg.CPH_DSLOT_CMD v arb s := by
  simp only [List.forall_mem_cons, List.not_mem_nil, false_imp_iff, implies_true, and_true]
  exact ⟨rfl, rfl⟩

@[simp] theorem Drive.cphEnds_nil : d.cphEnds e [] = d := rfl

/-- The requests that a command of a direct slot ends take effect after it. -/
theorem dslotW_of {ends : List CphEnd} (h : dslotCmdW p v e d = (ends, d')) : dslotW p v e d = d'.cphEnds e ends := by
  unfold dslotW
  rw [h]

theorem dslotW_nothing (not : bits v 31 24 ≠ 0xA5 ∨ bits v 9 8 = 0 ∨ bits v 9 8 = 3) : dslotW p v e d = d :=
  (dslotW_of (if_pos (by rcases not with h | h | h <;> simp [h]))).trans Drive.cphEnds_nil

section
variable (key : bits v 31 24 = 0xA5)
include key

theorem dslotW_load (op : bits v 9 8 = 1) : dslotW p v e d =
    if 65536 ≤ ((d.unstaged p).kslot (dslotOf v)).held then d.unstaged p
    else ((d.unstaged p).loadSlot (dslotOf v) (d.stagedLoad p)).2 :=
  (dslotW_of ((if_neg (by simp [key, op])).trans (if_pos op))).trans Drive.cphEnds_nil

variable (op : bits v 9 8 = 2)
include op

theorem dslotCmdW_erase : dslotCmdW p v e d =
    if ((d.unstaged p).kslot (dslotOf v)).st = .empty then ([], d.unstaged p) else ((d.unstaged p).eraseSlot e (dslotOf v)).2 :=
  (if_neg (by simp [key, op])).trans (if_neg (by simp [op]))

theorem dslotW_eraseEmpty (empty : ((d.unstaged p).kslot (dslotOf v)).st = .empty) : dslotW p v e d = d.unstaged p :=
  (dslotW_of ((dslotCmdW_erase key op).trans (if_pos empty))).trans Drive.cphEnds_nil

theorem dslotW_erase (held : ((d.unstaged p).kslot (dslotOf v)).st ≠ .empty) {loads : List (Option Nat × Nat)} {ends : List CphEnd}
    (erases : (d.unstaged p).eraseSlot e (dslotOf v) = (loads, ends, d')) : dslotW p v e d = d'.cphEnds e ends :=
  dslotW_of ((dslotCmdW_erase key op).trans ((if_neg held).trans (congrArg Prod.snd erases)))

end

/-! ### The register window (R258) -/

/-- The request staged in the window of path `p`. -/
def Drive.windowReq (d : Drive) (p : Path) : CphReq :=
  let c := d.reg (pk p Reg.CPH_MQ_CMD)
  { CphReq.blank (cphOpOf (bits c 31 24)) (4096 + bits c 16 13) (bits c 10 0) (.window p) with
    src := (d.regBytes (pk p (Reg.CPH_MQ_IN 0)) 256).take (bits c 10 0), tag := d.regBytes (pk p (Reg.CPH_MQ_TAG 0)) 4
    iv := leNat (d.regBytes (pk p (Reg.CPH_MQ_TWEAK 0)) 4), gen := (d.kslot (4096 + bits c 16 13)).gen }

theorem mqGoW_goes (go : bit v 0 = true) (free : d.flag (pk p Reg.CPH_MQ_STAT) 31 = false) : mqGoW p v e d =
    ((d.setRegs (pk p (Reg.CPH_MQ_OUT 0)) (List.replicate 256 0)).poke (pk p Reg.CPH_MQ_STAT) 31 31 1).enqueue 31 (d.windowReq p) :=
  if_neg (by simp [go, free])

theorem mqGoW_nothing (not : bit v 0 = false ∨ d.flag (pk p Reg.CPH_MQ_STAT) 31 = true) : mqGoW p v e d = d :=
  if_pos (by rcases not with h | h <;> simp [h])

/-- Settles O49: one equation per case of each register's command, and the record and the requests that an erase leaves. -/
theorem keySlots : Obligations.KeySlots := by
  refine ⟨?_, ?_, ?_, ?_, ?_⟩
  · rintro s t p arb v d n new k hw rfl rfl rfl rfl
    have acts {d} (hd : ceilSetW v s.env (stored t p Reg.CPH_CEIL_SET v) = d) : Gives (.ceilSet p v arb) s (d.accessed s p) :=
      gives_hook rfl hw rfl ((hook_CPH_CEIL_SET ..).trans hd)
    exact ⟨fun key go held notStore some_ most => acts (ceilSetW_sets rfl rfl key go held notStore some_ most),
      fun not => acts (ceilSetW_nothing rfl rfl not)⟩
  · rintro s t p arb v d x n key hw rfl rfl rfl rfl row hrow
    have acts {d} (hd : dslotW p v s.env (stored t p Reg.CPH_DSLOT_CMD v) = d) : Gives (row p v arb) s (d.accessed s p) :=
      gives_hook (exec_dslotRow row hrow) hw rfl ((hook_CPH_DSLOT_CMD ..).trans hd)
    refine ⟨fun not => acts (dslotW_nothing not), fun key op => ?_, fun key op =>
      ⟨fun empty => acts (dslotW_eraseEmpty key op empty), fun held _ _ _ erases => acts (dslotW_erase key op held erases)⟩⟩
    have loads := dslotW_load (d := stored t p Reg.CPH_DSLOT_CMD v) (p := p) (e := s.env) key op
    refine ⟨fun full => acts (loads.trans (if_pos full)), fun room => ⟨fun empty => acts ?_, fun held => acts ?_⟩⟩
    · exact loads.trans ((if_neg room.not_ge).trans (congrArg Prod.snd (Drive.loadSlot_empty empty rfl)))
    · exact loads.trans ((if_neg room.not_ge).trans (congrArg Prod.snd (Drive.loadSlot_rewrite held)))
  · intro d e n
    rw [Drive.eraseSlot_kslot]
    exact ⟨rfl, rfl, rfl, fun r => Drive.eraseSlot_requests⟩
  · rintro s t p arb v c d slot hw rfl rfl rfl
    have acts {d} (hd : mqGoW p v s.env (stored t p Reg.CPH_MQ_GO v) = d) : Gives (.mqGo p v arb) s (d.accessed s p) :=
      gives_hook rfl hw rfl ((hook_CPH_MQ_GO ..).trans hd)
    exact ⟨fun go free => acts (mqGoW_goes go free), fun not => acts (mqGoW_nothing not)⟩
  · rintro s t p arb v d n k hw rfl rfl rfl
    exact ⟨fun beyond => gives_hook rfl hw rfl ((hook_CPH_SLOT_SEL ..).trans (if_pos beyond)),
      fun inside => gives_hook rfl hw rfl ((hook_CPH_SLOT_SEL ..).trans (if_neg inside.not_gt))⟩

end Sys2Proof.Machine
end

section
/-! PROOFS. Chapters 1 and 7 (01_architecture.md, 07_value_crypto.md): the requests of the cipher engine, from the head of a queue (R245,
R247) over the binding of a generation and a counter value (R231) to the end (R248, R254, R256), units that fail on the way (R16, R17),
the release of a read's segments (R253), and a rewrite that comes into force (R239). -/

namespace Sys2Proof.Machine

variable {d d' : Drive} {e : Env} {q n u id : Nat} {r : CphReq} {w : KeyWait} {ends : List CphEnd}

/-! ### The ledger's gate (R388) -/

/-- Queue `q` holds requests of the drive's own, which wait for credit. -/
def Drive.ownQueue (d : Drive) (q : Nat) : Prop := q < 8 ∨ d.pwr.readReady = true ∧ 16 ≤ q ∧ q < 27

/-- What a request of queue `q` costs. -/
def dequeueCost (q : Nat) : Nat := if 16 ≤ q ∧ q < 24 then cost 6 else cost 5

/-- A request that `d'` runs and `d` did not is paid for. -/
def Drive.startPaid (d d' : Drive) (q : Nat) : Drive :=
  if d'.cph.running.length ≤ d.cph.running.length then d'
  else if q < 16 ∨ q = 24 ∨ q = 25 then d'.pay [15] 5 1 else if q < 28 then d'.pay [15] 6 1 else d'

theorem cphDequeueOp_short (own : d.ownQueue q) (short : d.affords [15] (dequeueCost q) = false) : cphDequeueOp q e d = d :=
  if_pos (by
    unfold Drive.ownQueue at own
    unfold dequeueCost at short
    simpa [short, and_assoc] using own)

theorem cphDequeueOp_covered (covered : d.ownQueue q → d.affords [15] (dequeueCost q) = true) (takes : d.dequeue e q = (ends, d')) :
    cphDequeueOp q e d = (d.startPaid d' q).cphEnds e ends := by
  unfold dequeueCost Drive.ownQueue at covered
  unfold cphDequeueOp Drive.startPaid
  dsimp only
  rw [if_neg (by simpa [and_assoc] using covered), takes]
  dsimp only
  by_cases none_ : d'.cph.running.length ≤ d.cph.running.length
  · rw [if_pos none_, if_neg none_.not_gt]
  · rw [if_neg none_, if_pos (not_le.1 none_)]

/-! ### The head of a queue (R245, R247, R253) -/

/-- The head of queue `q` is taken in the queue's turn, and `rest` stays. -/
def Drive.headTaken (d : Drive) (q : Nat) (rest : List CphReq) : Drive :=
  (d.serve q).onCph fun c => { c with queues := c.queues.set q rest }

theorem Drive.headTaken_kslot {rest : List CphReq} : (d.headTaken q rest).kslot n = d.kslot n := by
  refine kslot_of_slots ?_ n
  unfold Drive.headTaken Drive.serve
  split_ifs <;> rfl

section
variable {rest : List CphReq} (on : d.isOn 15 = true) (may : d.mayStart q = true) (head : d.cph.queue q = r :: rest)
include on may head

theorem Drive.dequeue_fails {code : Nat} (fails : d.dequeueCheck q r = some code) :
    d.dequeue e q = ([r.ends code], (d.headTaken q rest).useRsv r) := by
  unfold Drive.dequeue
  rw [if_neg (by simp [on, may]), head]
  dsimp only
  rw [fails]
  rfl

variable (passes : d.dequeueCheck q r = none)
include passes

theorem Drive.dequeue_passes : d.dequeue e q =
    if r.release ∧ d.cph.relFree = 0 ∧ !d.cph.relHeld r then
      ([], if r.waited then d
        else (d.bump Reg.CPH_RELBUF_WAITS 1).onCph fun c => { c with queues := c.queues.set q ({ r with waited := true } :: rest) })
    else if r.op.encrypts ∧ (d.kslot r.slot).st = .rekeyWait then
      ([], (d.headTaken q rest).onCph fun c => { c with aside := c.aside ++ [r] })
    else (if r.release then (d.headTaken q rest).takeRel r else d.headTaken q rest).bind e r := by
  have kept : (d.headTaken q rest).kslot r.slot = d.kslot r.slot := headTaken_kslot
  unfold Drive.dequeue
  rw [if_neg (by simp [on, may]), head]
  dsimp only
  rw [passes, apply_ite (Prod.mk []), ← kept]
  rfl

end

/-! ### Binding (R231, R235, R236) -/

@[simp] theorem Drive.useRsv_cph : (d.useRsv r).cph = d.cph := by
  unfold Drive.useRsv
  split <;> rfl

/-- `d'` has the running requests of `d`, and of slot `n` the generation and the counter. -/
structure Drive.CountKept (n : Nat) (d d' : Drive) : Prop where
  running : d'.cph.running = d.cph.running
  gen : (d'.kslot n).gen = (d.kslot n).gen
  ctr : (d'.kslot n).ctr = (d.kslot n).ctr

theorem Drive.CountKept.refl : Drive.CountKept n d d := ⟨rfl, rfl, rfl⟩

theorem Drive.CountKept.trans {x : Drive} (h : Drive.CountKept n d d') (h' : Drive.CountKept n d' x) : Drive.CountKept n d x :=
  ⟨h'.running.trans h.running, h'.gen.trans h.gen, h'.ctr.trans h.ctr⟩

/-- A drive in which slot `n` has another record of the same generation and counter. -/
theorem Drive.CountKept.of_setSlot {k : KeySlot} (h : d'.cph = (d.setSlot k).cph) (num : k.num = n) (gen : k.gen = (d.kslot n).gen)
    (ctr : k.ctr = (d.kslot n).ctr) : Drive.CountKept n d d' := by
  have record : d'.kslot n = k := (kslot_of_slots (by rw [h]) n).trans (kslot_setSlot (d := d) num)
  exact ⟨by rw [h, setSlot_running], by rw [record, gen], by rw [record, ctr]⟩

theorem Drive.nearCheck_countKept : Drive.CountKept n d (d.nearCheck e n) := by
  unfold Drive.nearCheck
  dsimp only
  split_ifs
  · exact .of_setSlot ((event_cph ..).trans (setInt_cph ..)) kslot_num rfl rfl
  · exact .refl

theorem Drive.exhaustCheck_countKept : Drive.CountKept n d (d.exhaustCheck e n) := by
  unfold Drive.exhaustCheck
  dsimp only
  split_ifs
  · exact .of_setSlot ((event_cph ..).trans (setInt_cph ..)) kslot_num rfl rfl
  · exact .refl

theorem Drive.storeRekey_countKept : Drive.CountKept n d (d.storeRekey n) := by
  unfold Drive.storeRekey
  dsimp only
  split_ifs with due
  · obtain ⟨-, -, loaded⟩ := due
    have held : (d.draw.2.kslot n).st ≠ .empty := by
      rw [show d.draw.2.kslot n = d.kslot n from rfl, loaded]
      decide
    have drawn : Drive.CountKept n d d.draw.2 := ⟨rfl, rfl, rfl⟩
    rw [loadSlot_rewrite held]
    exact drawn.trans (.of_setSlot rfl kslot_num rfl rfl)
  · exact .refl

theorem Drive.bind_exhausted (enc : r.op.encrypts = true) (notStore : slotClass r.slot ≠ 2)
    (atCeil : (d.kslot r.slot).ceil + (if r.rsv then 2 ^ 20 else 0) ≤ (d.kslot r.slot).ctr) :
    d.bind e r = ([r.ends 0x0B], d.useRsv r) := by
  unfold Drive.bind
  dsimp only
  rw [if_pos enc, if_pos ⟨notStore, atCeil⟩]

/-- An encryption runs under the slot's generation and the value of its counter, which then counts one more. -/
def Drive.counting (d : Drive) (r : CphReq) : Drive :=
  ((d.useRsv r).setSlot { d.kslot r.slot with ctr := (d.kslot r.slot).ctr + 1 }).onCph fun c => { c with
    running := c.running ++ [{ r with bound := (d.kslot r.slot).gen, ctr := (d.kslot r.slot).ctr }] }

theorem Drive.counting_running : (d.counting r).cph.running =
    d.cph.running ++ [{ r with bound := (d.kslot r.slot).gen, ctr := (d.kslot r.slot).ctr }] := by
  unfold Drive.counting Drive.onCph
  dsimp only
  rw [setSlot_running, useRsv_cph]

theorem Drive.counting_kslot : (d.counting r).kslot r.slot = { d.kslot r.slot with ctr := (d.kslot r.slot).ctr + 1 } :=
  kslot_setSlot (d := d.useRsv r) kslot_num

/-- An encryption below the ceiling takes one value of the counter, whatever the warnings and a store slot's rekey add. -/
theorem Drive.bind_encrypts (enc : r.op.encrypts = true)
    (room : slotClass r.slot = 2 ∨ (d.kslot r.slot).ctr < (d.kslot r.slot).ceil + (if r.rsv then 2 ^ 20 else 0)) :
    ∃ x, d.bind e r = ([], x) ∧ Drive.CountKept r.slot (d.counting r) x := by
  refine ⟨(((d.counting r).nearCheck e r.slot).exhaustCheck e r.slot).storeRekey r.slot, ?_,
    nearCheck_countKept.trans (exhaustCheck_countKept.trans storeRekey_countKept)⟩
  unfold Drive.bind
  dsimp only
  rw [if_pos enc, if_neg (by rintro ⟨notStore, atCeil⟩; omega)]
  rfl

theorem Drive.bind_other (other : r.op.encrypts = false) : d.bind e r = ([], d.onCph fun c => { c with
    running := c.running ++ [{ r with bound := if r.op = .cmacVerify then (d.kslot r.slot).gen else r.gen }] }) :=
  if_neg (by simp [other])

/-! ### Units that fail on the leg to or from the media engine (R16, R17) -/

/-- A unit that is not abandoned is counted at most. -/
theorem Drive.mediaLeg_alive (leg : d.mediaLeg e r u n = (false, d')) : d' = d ∨ ∃ a k, d' = d.bump a k := by
  unfold Drive.mediaLeg at leg
  dsimp only at leg
  split at leg
  case h_4 =>
    obtain ⟨-, rfl⟩ := Prod.mk.inj leg
    exact .inl rfl
  all_goals
    obtain ⟨alive, rfl⟩ := Prod.mk.inj leg
    rw [alive]
    exact .inr ⟨_, _, rfl⟩

section
variable {g k : Nat} {dead : Bool} (hk : k = min n d.resendMax) (hdead : dead = decide (d.resendMax ≤ n))
include hk hdead

/-- The leg of a drain's segment, and of the old segment that a PUT_RANGE merges: counter `a` counts, and the drain is abandoned. -/
theorem Drive.mediaLeg_record {rsn a : Nat} {x : JRec} (listed : d.rec? rsn = some x)
    (use : r.use = .drain rsn g ∧ a = Reg.FAB_GUARD_DRAIN ∨ r.use = .merge rsn g ∧ a = Reg.FAB_GUARD_EGRESS) : d.mediaLeg e r u n =
    (dead, if dead then ((d.bump a k).unrun r.id).2.drainAbandon e x g u else d.bump a k) := by
  have still : (d.bump a k).rec? rsn = some x := listed
  subst hk
  unfold Drive.mediaLeg
  rcases use with ⟨use, rfl⟩ | ⟨use, rfl⟩
  all_goals
    rw [use]
    dsimp only
    rw [still, ← hdead]
    cases dead <;> rfl

theorem Drive.mediaLeg_read {job : Nat} (use : r.use = .read job g) : d.mediaLeg e r u n =
    (dead, if dead then ((d.bump Reg.FAB_GUARD_EGRESS k).unrun r.id).2.readAbandon e job g u else d.bump Reg.FAB_GUARD_EGRESS k) := by
  subst hk hdead
  unfold Drive.mediaLeg
  rw [use]

end

/-! ### The end of a running request (R248, R254, R256) -/

/-- What the leg to or from the media engine does to a request that completes: what the engine refuses to encrypt has none. -/
def Drive.legOf (d : Drive) (e : Env) (r : CphReq) (fault : Option Nat) (media : Option (Nat × Nat)) : Bool × Drive :=
  match if r.op.encrypts && fault.isSome then none else media with
  | some (u, n) => d.mediaLeg e r u n
  | none => (false, d)

/-- A request that is not abandoned on the leg still runs there. -/
theorem Drive.legOf_alive {fault : Option Nat} {media : Option (Nat × Nat)} (leg : d.legOf e r fault media = (false, d')) :
    d'.cph = d.cph ∧ d'.pwr = d.pwr := by
  unfold Drive.legOf at leg
  split at leg
  next => rcases Drive.mediaLeg_alive leg with rfl | ⟨a, k, rfl⟩ <;> exact ⟨rfl, rfl⟩
  next =>
    obtain ⟨-, rfl⟩ := Prod.mk.inj leg
    exact ⟨rfl, rfl⟩

theorem Drive.complete'_running {code : Option Nat} (on : d.isOn 15 = true) (runs : (d.cph.running.find? fun r => r.id == id) = some r) :
    d.complete' e id code = (d.unrun id).2.cphEnds e [(d.unrun id).2.endOf r code] := by
  unfold Drive.complete' Drive.unrun
  rw [if_neg (by simp [on]), runs]

/-- A request that is not abandoned ends with the fault of the engine's check, or with what it computes. -/
def Drive.endsRun (d : Drive) (e : Env) (id : Nat) (r : CphReq) : Option Nat → Drive
  | some u => (d.unrun id).2.cphEnds e [(r.failed u).ends 0x41]
  | none => d.complete' e id none

section
variable {fault : Option Nat} {media : Option (Nat × Nat)} (on : d.isOn 15 = true)
  (runs : (d.cph.running.find? fun r => r.id == id) = some r)
include on runs

theorem cphCompletionOp_running : cphCompletionOp id fault media e d =
    if (d.legOf e r fault media).1 then (d.legOf e r fault media).2 else (d.legOf e r fault media).2.endsRun e id r fault := by
  unfold cphCompletionOp
  rw [runs, on]
  cases fault <;> rfl

theorem cphCompletionOp_abandons (leg : d.legOf e r fault media = (true, d')) : cphCompletionOp id fault media e d = d' := by
  rw [cphCompletionOp_running on runs, leg]
  rfl

theorem cphCompletionOp_fails (leg : d.legOf e r (some u) media = (false, d')) :
    cphCompletionOp id (some u) media e d = (d'.unrun id).2.cphEnds e [(r.failed u).ends 0x41] := by
  rw [cphCompletionOp_running on runs, leg]
  rfl

theorem cphCompletionOp_computes (leg : d.legOf e r none media = (false, d')) :
    cphCompletionOp id none media e d = (d'.unrun id).2.cphEnds e [(d'.unrun id).2.endOf r none] := by
  obtain ⟨cph, pwr⟩ := Drive.legOf_alive leg
  rw [cphCompletionOp_running on runs, leg]
  exact Drive.complete'_running ((Drive.isOn_of_pwr _ _ _ pwr).trans on) (by rw [cph, runs])

end

theorem tagFailureOp_running (on : d.isOn 15 = true) (runs : (d.cph.running.find? fun r => r.id == id) = some r) :
    tagFailureOp id e d = if r.op = .gcmDec then (d.unrun id).2.cphEnds e [r.ends 9] else d := by
  unfold tagFailureOp
  rw [runs]
  dsimp only
  rw [Drive.complete'_running on runs]
  rfl

/-! ### Segments of a read leave (R16, R17, R253) -/

section
variable {j : Job} {x : JobSeg} {rest : List JobSeg} {again : Option (Nat × Nat)} (listed : d.job? id = some j) (first : j.segs = x :: rest)
include listed first

theorem segmentReleaseOp_waits (waits : x.need ≠ [] ∨ x.fault ≠ 0) : segmentReleaseOp id again e d = d := by
  unfold segmentReleaseOp
  rw [listed]
  dsimp only
  rw [first]
  exact if_pos (by simpa using waits)

/-- The bytes that a job's first segment brings, behind those left over. -/
def Job.outgoing (j : Job) (x : JobSeg) : List Frag := j.tail ++ x.pieces.flatMap fun p => p.frags x.have_

theorem segmentReleaseOp_whole {fails : Nat} (whole : x.need = []) (good : x.fault = 0)
    (hfails : fails = if fragsOk (j.outgoing x) then (again.map (·.2)).getD 0 else d.resendMax)
    (hd : d' = d.bump Reg.FAB_GUARD_EGRESS (min fails d.resendMax)) : segmentReleaseOp id again e d =
    if d.resendMax ≤ fails then (d'.readGiveup e j ((again.map (·.1)).getD j.done)).jobEnd e j 0xF none
    else d'.sendSeg e j x rest (j.outgoing x) := by
  subst hd hfails
  unfold segmentReleaseOp
  rw [listed]
  dsimp only
  rw [first]
  exact if_neg (by simp [whole, good])

end

/-! ### A rewrite comes into force (R239) -/

theorem Drive.rekeyed_idle (idle : (d.kslot n).st ≠ .rekeyWait ∨ (d.kslot n).waits = [] ∨ d.boundTo n ≠ 0) :
    d.rekeyed e n = (none, [], d) := by
  unfold Drive.rekeyed
  dsimp only
  split
  next w rest st waits => exact if_pos (by simpa [st, waits] using idle)
  next => rfl

/-- The load that waits alone is in force. -/
def Drive.inForce (d : Drive) (n : Nat) (w : KeyWait) : Drive :=
  let d := (d.setSlot { d.kslot n with waits := [] }).install n w
  if w.rsn.isSome then d.markCommit n w.csn else d

theorem Drive.inForce_aside : (d.inForce n w).cph.aside = d.cph.aside := by
  have installed : ((d.setSlot { d.kslot n with waits := [] }).install n w).cph.aside = d.cph.aside := by
    unfold Drive.install
    rw [setSlot_aside, setSlot_aside]
  unfold Drive.inForce
  dsimp only
  split_ifs
  · exact installed
  · exact installed

/-- The record of a slot under a new generation. -/
def KeySlot.renewed (k : KeySlot) (w : KeyWait) (ceil : Nat) : KeySlot :=
  { k with
    st := .loaded, owner := w.owner, gen := k.gen + 1, ctr := 0, ceil := ceil, gens := (k.gen + 1, w.key) :: k.gens
    nearDone := false, blob := w.blob }

theorem Drive.install_kslot : (d.install n w).kslot n = (d.kslot n).renewed w (d.ceilDflt n) :=
  kslot_setSlot (d := d) kslot_num

theorem Drive.inForce_kslot : ∃ ceil, (d.inForce n w).kslot n = { d.kslot n with waits := [] : KeySlot }.renewed w ceil := by
  have installed := install_kslot (d := d.setSlot { d.kslot n with waits := [] }) (n := n) (w := w)
  rw [kslot_setSlot (k := { d.kslot n with waits := [] }) kslot_num] at installed
  refine ⟨_, Eq.trans ?_ installed⟩
  unfold Drive.inForce
  dsimp only
  split_ifs
  · rfl
  · rfl

/-- The only load that waits comes into force once nothing is bound to the retiring generation. -/
theorem Drive.rekeyed_alone (wait : (d.kslot n).st = .rekeyWait) (alone : (d.kslot n).waits = [w]) (unbound : d.boundTo n = 0)
    (noAside : ∀ r ∈ d.cph.aside, r.slot ≠ n) : d.rekeyed e n = (some (w.rsn, (d.kslot n).gen + 1), [],
      ((d.inForce n w).onCph fun c => { c with aside := c.aside.filter fun r => !(r.slot == n) }).setInt pgCph 3) := by
  have none_ : (d.inForce n w).cph.aside.filter (·.slot == n) = [] := by
    rw [inForce_aside, List.filter_eq_nil_iff]
    simpa using noAside
  obtain ⟨ceil, record⟩ := inForce_kslot (d := d) (n := n) (w := w)
  have gen : ((d.inForce n w).kslot n).gen = (d.kslot n).gen + 1 := by
    rw [record]
    rfl
  unfold Drive.inForce at none_ gen ⊢
  unfold Drive.rekeyed
  dsimp only at none_ gen ⊢
  rw [wait] at none_ gen ⊢
  rw [alone]
  dsimp only
  rw [if_neg (by simp [unbound]), none_, ← gen]
  rfl

theorem rekeyInForceOp_some {x : Option Nat × Nat} (inForce : d.rekeyed e n = (some x, ends, d')) :
    rekeyInForceOp n e d = (d'.loadsDone e [x]).cphEnds e ends := by
  unfold rekeyInForceOp
  rw [inForce]

theorem rekeyInForceOp_none (idle : d.rekeyed e n = (none, ends, d')) : rekeyInForceOp n e d = d'.cphEnds e ends := by
  unfold rekeyInForceOp
  rw [idle]

/-- Settles O48: one equation per case of each operation; an encryption's counter is followed through the warnings that it may
raise, and a store slot's rekey. That the drive's own requests wait for credit is log entry 63. -/
theorem cipherRequests : Obligations.CipherRequests := by
  refine ⟨?_, ?_, ?_, ?_, ?_, ?_, ?_, ?_, ?_, ?_, ?_⟩
  · intro s q c ends x y
    refine ⟨fun out => gives_runOp rfl (if_pos out), ?_⟩
    rintro fit rfl
    have acts {d} (hd : cphDequeueOp q s.env s.d = d) : Gives (.cphDequeue q) s (d.settled s.env) :=
      gives_runOp rfl ((if_neg (by simp [fit])).trans (congrArg (Drive.settled · s.env) hd))
    refine ⟨fun own short => acts (cphDequeueOp_short own short), ?_⟩
    rintro covered takes rfl
    exact acts (cphDequeueOp_covered covered takes)
  · rintro d x e q r rest on may head rfl
    refine ⟨fun code fails => Drive.dequeue_fails on may head fails, fun passes => ?_⟩
    have goes := Drive.dequeue_passes (e := e) on may head passes
    refine ⟨fun rel full new => goes.trans (if_pos (by simp [rel, full, new])), fun room => ?_⟩
    have goes := goes.trans (if_neg (by rcases room with h | h | h <;> simp [h]))
    exact ⟨fun enc wait => goes.trans (if_pos ⟨enc, wait⟩),
      fun not => goes.trans (if_neg (by rcases not with h | h <;> simp [h]))⟩
  · rintro d e r k rfl
    refine ⟨Drive.bind_exhausted, fun enc room => ?_, Drive.bind_other⟩
    obtain ⟨x, binds, kept⟩ := Drive.bind_encrypts (e := e) enc room
    refine ⟨x, binds, kept.running.trans Drive.counting_running, kept.gen.trans ?_, kept.ctr.trans ?_⟩
    · rw [Drive.counting_kslot]
    · rw [Drive.counting_kslot]
  · intro s id fault media r dead d on runs leg
    have leg : s.d.legOf s.env r fault media = (dead, d) := leg.symm
    refine ⟨?_, ?_⟩
    · rintro rfl
      exact gives_cmdOp rfl (cphCompletionOp_abandons on runs leg)
    · rintro rfl y rfl
      refine ⟨?_, ?_⟩
      · rintro u rfl
        exact gives_cmdOp rfl (cphCompletionOp_fails on runs leg)
      · rintro rfl
        exact gives_cmdOp rfl (cphCompletionOp_computes on runs leg)
  · intro d e r u n k dead hk hdead
    refine ⟨?_, ?_, ?_⟩
    · rintro rsn g x y use listed rfl
      exact Drive.mediaLeg_record hk hdead listed (.inl ⟨use, rfl⟩)
    · rintro rsn g x y use listed rfl
      exact Drive.mediaLeg_record hk hdead listed (.inr ⟨use, rfl⟩)
    · rintro job g y use rfl
      exact Drive.mediaLeg_read hk hdead use
  · intro s id r on runs
    have ends := tagFailureOp_running (e := s.env) on runs
    exact ⟨fun dec => gives_cmdOp rfl (ends.trans (if_pos dec)), fun other => gives_cmdOp rfl (ends.trans (if_neg other))⟩
  · exact fun s job seg => gives_cmdOp rfl rfl
  · rintro s job fails again j x rest fs d listed first rfl hfails hd
    refine ⟨fun waits => gives_cmdOp rfl (segmentReleaseOp_waits listed first waits), fun whole good => ?_⟩
    have leaves := segmentReleaseOp_whole (e := s.env) listed first whole good hfails hd
    exact ⟨fun below => gives_cmdOp rfl (leaves.trans (if_neg below.not_ge)),
      fun most => gives_cmdOp rfl (leaves.trans (if_pos most))⟩
  · rintro d x y e j j' g rest fs n seq rsp rfl rfl rfl
    unfold Drive.sendSeg
    rw [← rsp]
    cases rest <;> rfl
  · exact fun s n ends d => ⟨fun x inForce => gives_cmdOp rfl (rekeyInForceOp_some inForce),
      fun idle => gives_cmdOp rfl (rekeyInForceOp_none idle)⟩
  · rintro d e n k rfl
    refine ⟨Drive.rekeyed_idle, fun w wait alone unbound noAside => ⟨_, Drive.rekeyed_alone wait alone unbound noAside, ?_⟩⟩
    obtain ⟨ceil, record⟩ := Drive.inForce_kslot (d := d) (n := n) (w := w)
    rw [Drive.kslot_of_slots (d := d.inForce n w) (by rw [Drive.setInt_cph]; rfl), record]
    exact ⟨rfl, rfl, rfl, rfl, rfl⟩

end Sys2Proof.Machine
end

section
/-! PROOFS. Chapter 1 (01_architecture.md, 08_media_store.md R299): what the run of any command leaves as it was. One lemma for the
ways a command can run, one for what each way keeps. -/

namespace Sys2Proof.Machine

/-- What every command does with the rest of the state: the queue and the factory data stay, READ_ONLY does not fall (R299), and
the media store's READ_ONLY stays latched. -/
structure State.Carries (s t : State) : Prop where
  pending : t.pending = s.pending
  fac : t.fac = s.fac
  readOnly : s.perm.readOnly = true → t.perm.readOnly = true
  latched : s.latched → t.latched

theorem State.carries_clock (s : State) (c : Clock) : s.Carries { s with clk := c } := ⟨rfl, rfl, id, id⟩

/-- An effect of the drive, with whatever the clock becomes: the latch takes up what the media store says. -/
theorem State.carries_lift (s : State) (f : Effect) (c : Clock) : s.Carries { s.lift f with clk := c } where
  pending := rfl
  fac := rfl
  readOnly latch := by simp [latch]
  latched _ readOnly := by
    rw [State.lift_d] at readOnly
    simp [readOnly]

/-- A power-on reset lifts an effect and sets the clock. -/
theorem State.powerOn_eq_lift (s : State) (lead seg : Bool) : ∃ f, s.powerOn lead seg = { s.lift f with clk := s.clk.powerUp } :=
  ⟨_, rfl⟩

theorem State.carries_powerOn (s : State) (lead seg : Bool) : s.Carries (s.powerOn lead seg) := by
  obtain ⟨f, eq⟩ := s.powerOn_eq_lift lead seg
  rw [eq]
  exact s.carries_lift f s.clk.powerUp

/-- A command beside the two that move the clock runs an effect of the drive; one whose operand names no register does nothing. -/
theorem exec_runOp_or_same {c : Instr} (noReset : ∀ lead seg, c ≠ .powerOnReset lead seg) (noMark : c ≠ .optHwAdvance) (s : State) :
    (∃ f, exec c s = runOp f s) ∨ exec c s = .next s := by
  cases c
  case powerOnReset lead seg => exact absurd rfl (noReset lead seg)
  case optHwAdvance => exact absurd rfl noMark
  case ipv6AddrWrite p port addr wd v arb =>
    by_cases word : addr < 3 ∧ wd < 4
    · exact .inl ⟨_, if_pos word⟩
    · exact .inr (if_neg word)
  all_goals exact .inl ⟨_, rfl⟩

theorem exec_powerOnReset (lead seg : Bool) (s : State) : exec (.powerOnReset lead seg) s = .next (s.powerOn lead seg) := rfl

theorem exec_optHwAdvance (s : State) :
    exec .optHwAdvance s = .next { s with clk := if s.d.isOn 0 then s.clk.advance else s.clk } := rfl

/-- Every command completes and carries the rest of the state; one that moves no clock leaves it. -/
theorem exec_carries (c : Instr) (s : State) : ∃ t, exec c s = .next t ∧ s.Carries t ∧
    ((∀ lead seg, c ≠ .powerOnReset lead seg) → c ≠ .optHwAdvance → t.clk = s.clk) := by
  by_cases reset : ∃ lead seg, c = .powerOnReset lead seg
  · obtain ⟨lead, seg, rfl⟩ := reset
    exact ⟨_, exec_powerOnReset lead seg s, s.carries_powerOn lead seg, fun no => absurd rfl (no lead seg)⟩
  · by_cases mark : c = .optHwAdvance
    · subst mark
      exact ⟨_, exec_optHwAdvance s, s.carries_clock _, fun _ no => absurd rfl no⟩
    · obtain ⟨f, run⟩ | same := exec_runOp_or_same (fun lead seg h => reset ⟨lead, seg, h⟩) mark s
      · exact ⟨s.lift f, run, s.carries_lift f s.clk, fun _ _ => s.lift_clk f⟩
      · exact ⟨s, same, s.carries_clock s.clk, fun _ _ => rfl⟩

/-- Settles O3: each of the ways a command can run keeps what the statement lists. -/
theorem everyCommandCompletes : Obligations.EveryCommandCompletes := by
  intro c s
  obtain ⟨t, run, carries, clk⟩ := exec_carries c s
  exact ⟨t, run, carries.pending, carries.fac, carries.readOnly, carries.latched, clk⟩

end Sys2Proof.Machine
end

section
/-! PROOFS. Chapters 8 and 9 (08_media_store.md, 09_journal_replay.md): checkpoints, write-through, the replay report and the
record window (R279, R334, R338 to R340, R344). One equation for each case of an operation. -/

namespace Sys2Proof.Machine

variable {s t : State} {d x : Drive} {e : Env} {p : Path} {v : Word} {nss : List Ns} {idx : List IdxPage} {next : Nat}

/-! ### A checkpoint begins (R279) -/

theorem checkpointOp_eq : checkpointOp e d = if d.isOn 10 = true ∧ d.pwr.readReady = true then d.startCkpt e else d := by
  unfold checkpointOp
  cases d.isOn 10 <;> cases d.pwr.readReady <;> rfl

/-- The page copies `xs`, a page's number and which copy, are sent out: their identifiers, and the drive behind them. -/
def Drive.writeCopies (d : Drive) (ids : List Nat) (xs : List (Nat × Nat)) : List Nat × Drive :=
  xs.foldl (fun acc x =>
    let (id, d) := acc.2.writePage (.index x.1) x.2
    (acc.1 ++ [id], d)) (ids, d)

/-- Each copy has an identifier, and sending it out touches neither the namespaces nor the journal. -/
theorem Drive.writeCopies_keeps (d : Drive) (ids : List Nat) (xs : List (Nat × Nat)) :
    (d.writeCopies ids xs).1.length = ids.length + xs.length ∧ (d.writeCopies ids xs).2.nss = d.nss ∧
      (d.writeCopies ids xs).2.jrn = d.jrn := by
  induction xs generalizing d ids with
  | nil => exact ⟨rfl, rfl, rfl⟩
  | cons x xs ih =>
    obtain ⟨number, nss, jrn⟩ := ih (d.writePage (.index x.1) x.2).2 (ids ++ [(d.writePage (.index x.1) x.2).1])
    refine ⟨number.trans ?_, nss, jrn⟩
    simp only [List.length_append, List.length_cons, List.length_nil]
    omega

/-- The commit position that a checkpoint covers is the journal's. -/
theorem Drive.ckptTop_of_jrn (h : x.jrn = d.jrn) : x.ckptTop = d.ckptTop := by
  unfold Drive.ckptTop
  rw [h]

/-- The drive with the trees of a checkpoint as its index. -/
def Drive.withTrees (d : Drive) (nss : List Ns) (idx : List IdxPage) (next : Nat) : Drive :=
  { d with nss := nss }.onMed fun m => { m with idx := idx, nextIdx := next }

/-- The copies of the pages that are new in the trees. -/
def Med.newCopies (m : Med) (idx : List IdxPage) : List (Nat × Nat) :=
  ((idx.filter fun p => decide (m.nextIdx ≤ p.num)).map (·.num)).flatMap fun n => [(n, 0), (n, 1)]

theorem Med.newCopies_length (m : Med) (idx : List IdxPage) :
    (m.newCopies idx).length = 2 * (idx.filter fun p => decide (m.nextIdx ≤ p.num)).length := by
  simp [Med.newCopies, List.length_flatMap, Function.comp_def, Nat.mul_comm]

section
variable (closed : d.jrn.ckptOpen = none) (settled : nss = d.nss.map fun n => n.settle e.clk.optime)
  (trees : d.med.trees nss = (idx, next))
include closed settled trees

/-- A checkpoint begins with its trees, and the new pages' copies go out. -/
theorem Drive.startCkpt_writes : d.startCkpt e =
    (fun w : List Nat × Drive =>
      if w.1.isEmpty then w.2.closeCkpt ⟨w.2.ckptTop, e.clk.optime, nss, idx⟩
      else w.2.onJrn fun j => { j with ckptOpen := some ⟨⟨w.2.ckptTop, e.clk.optime, nss, idx⟩, w.1⟩ })
    ((d.withTrees nss idx next).writeCopies [] (d.med.newCopies idx)) := by
  subst settled
  unfold Drive.startCkpt
  rw [if_neg (by simp [closed])]
  dsimp only
  rw [trees]
  rfl

theorem Drive.startCkpt_stands (none_ : ∀ p ∈ idx, p.num < d.med.nextIdx) :
    d.startCkpt e = (d.withTrees nss idx next).closeCkpt ⟨d.ckptTop, e.clk.optime, nss, idx⟩ := by
  have noCopies : d.med.newCopies idx = [] := List.eq_nil_of_length_eq_zero <| by
    rw [Med.newCopies_length, List.filter_eq_nil_iff.2 fun p hp => by simpa using none_ p hp]
    rfl
  rw [Drive.startCkpt_writes closed settled trees, noCopies]
  rfl

theorem Drive.startCkpt_waits (new : ∃ p ∈ idx, d.med.nextIdx ≤ p.num) : ∃ ids x,
    d.startCkpt e = Drive.onJrn x (fun j => { j with ckptOpen := some ⟨⟨d.ckptTop, e.clk.optime, nss, idx⟩, ids⟩ }) ∧
      ids.length = 2 * (idx.filter fun p => decide (d.med.nextIdx ≤ p.num)).length ∧ x.nss = nss ∧ x.jrn = d.jrn := by
  obtain ⟨number, keepsNss, keepsJrn⟩ := (d.withTrees nss idx next).writeCopies_keeps [] (d.med.newCopies idx)
  rw [List.length_nil, Nat.zero_add, Med.newCopies_length] at number
  obtain ⟨p, hp, isNew⟩ := new
  have some_ : 0 < (idx.filter fun p => decide (d.med.nextIdx ≤ p.num)).length :=
    List.length_pos_of_mem (List.mem_filter.2 ⟨hp, decide_eq_true isNew⟩)
  refine ⟨_, _, ?_, number, keepsNss, keepsJrn⟩
  rw [Drive.startCkpt_writes closed settled trees, ← Drive.ckptTop_of_jrn (d := d) keepsJrn]
  exact if_neg fun none_ => by
    rw [List.isEmpty_iff_length_eq_zero] at none_
    omega

end

/-! ### A page copy of a checkpoint is on flash -/

section
variable {c : CkptOpen} {id n : Nat} {pg : Page} (opened : d.jrn.ckptOpen = some c) (page : d.med.page id = some pg)
  (index : pg.kind = .index n)
include opened page index

theorem Drive.pageOnFlash_index : d.pageOnFlash e id =
    if (c.wait.filter (· != id)).isEmpty && !c.wait.isEmpty then (d.closeCkpt c.ckpt).ckptGo e
    else d.onJrn fun j => { j with ckptOpen := some { c with wait := c.wait.filter (· != id) } } := by
  unfold Drive.pageOnFlash
  rw [page, Option.map_some, index]
  dsimp only
  rw [opened]

theorem Drive.pageOnFlash_last (last : c.wait = [id]) : d.pageOnFlash e id = (d.closeCkpt c.ckpt).ckptGo e :=
  (Drive.pageOnFlash_index opened page index).trans (if_pos (by simp [last]))

theorem Drive.pageOnFlash_more (more : ∃ k ∈ c.wait, k ≠ id) :
    d.pageOnFlash e id = d.onJrn fun j => { j with ckptOpen := some { c with wait := c.wait.filter (· != id) } } := by
  obtain ⟨k, hk, ne⟩ := more
  have stays : k ∈ c.wait.filter (· != id) := List.mem_filter.2 ⟨hk, by simpa using ne⟩
  exact (Drive.pageOnFlash_index opened page index).trans (if_neg (by simp [List.ne_nil_of_mem stays]))

end

/-! ### Write-through (R338 to R340) -/

theorem wtSafeOp_entered (entering : d.jrnMode = 1) (none_ : ∀ r ∈ d.jrn.recs, r.wt = true) :
    wtSafeOp e d = (((d.setMode 2).poke Reg.JRN_STAT 3 3 1).setInt pgJrn 1).swapIsolate := by
  have noEarlier : (d.jrn.recs.any fun r => !r.wt) = false := List.any_eq_false.2 fun r hr => by simp [none_ r hr]
  exact if_pos (by simp [entering, noEarlier])

theorem wtCommitPageOp_sends {xs : List JRec} {top : Nat}
    (waiting : xs = d.jrn.recs.filter fun r => r.wt && r.st == .committed && !r.effect && !r.commitPage) (some_ : xs ≠ [])
    (last : top = (xs.map (·.csn)).foldl max 0) (new : ∀ p ∈ d.med.pages, p.kind ≠ .commit top) :
    wtCommitPageOp e d = (d.writePage (.commit top) 0).2 := by
  subst waiting last
  have notSent := List.any_eq_false.2 fun p hp => mt eq_of_beq (new p hp)
  exact if_neg (by rw [notSent]; simpa using some_)

theorem Drive.enterWt_eq : d.enterWt = if d.jrnMode = 0 then (d.poke Reg.JRN_STAT 1 0 1).setInt pgJrn 0 else d := by
  unfold Drive.enterWt Drive.setMode
  split_ifs with protected_ one
  · rw [protected_] at one
    cases one
  · rfl
  · rfl

/-- WT_SAFE stands beside MODE. -/
theorem Drive.jrnMode_poke_wtSafe (n : Nat) : (d.poke Reg.JRN_STAT 3 3 n).jrnMode = d.jrnMode :=
  Drive.fld_poke_ne _ _ _ _ _ 1 0 (by decide) (by decide) (by decide) (by decide)

theorem Drive.wtExit_eq : d.wtExit e =
    if d.jrnMode ≠ 0 ∧ d.nrg.demand = false ∧ d.flag Reg.JRN_CTL 0 = false ∧ nrgLevel ≤ d.reserve e then
      ((d.poke Reg.JRN_STAT 3 3 0).poke Reg.JRN_STAT 1 0 0).setInt pgJrn 0
    else d := by
  unfold Drive.wtExit Drive.setMode
  rw [Drive.jrnMode_poke_wtSafe]
  simp only [Bool.not_eq_true']
  split_ifs with leaves protected_
  · exact absurd protected_ leaves.1
  · rfl
  · rfl

/-- A write of JRN_CTL: CKPT_NOW first, then WT_REQ as it was and as it is. -/
theorem jrnCtlW_eq {was : Bool} (ckpt : x = if bit v 1 = true ∧ d.isOn 10 = true ∧ d.pwr.readReady = true then d.startCkpt e else d) :
    jrnCtlW was v e d =
      if was = false ∧ x.flag Reg.JRN_CTL 0 = true ∧ x.jrnMode = 0 then (x.poke Reg.JRN_STAT 1 0 1).setInt pgJrn 0
      else if was = true ∧ x.flag Reg.JRN_CTL 0 = false ∧ x.jrnMode ≠ 0 ∧ x.nrg.demand = false ∧ nrgLevel ≤ x.reserve e then
        ((x.poke Reg.JRN_STAT 3 3 0).poke Reg.JRN_STAT 1 0 0).setInt pgJrn 0
      else x := by
  have begun : (if bit v 1 then checkpointOp e d else d) = x := by
    rw [ckpt, checkpointOp_eq]
    cases bit v 1 <;> simp
  unfold jrnCtlW
  rw [begun]
  dsimp only
  rw [Drive.enterWt_eq, Drive.wtExit_eq]
  cases was <;> cases x.flag Reg.JRN_CTL 0 <;> simp

/-- Settles O44: a checkpoint by whether its trees have a new page, a page copy by whether it is the last one waited for, and one
equation for each of the other commands. -/
theorem checkpointsAndWriteThrough : Obligations.CheckpointsAndWriteThrough := by
  refine ⟨fun s => ⟨?_, ?_, ?_, gives_cmdOp rfl rfl, gives_runOp rfl rfl⟩, ?_, ?_, ?_, ?_⟩
  · exact fun on ready => gives_cmdOp rfl (checkpointOp_eq.trans (if_pos ⟨on, ready⟩))
  · exact fun entering none_ => gives_cmdOp rfl (wtSafeOp_entered entering none_)
  · exact fun xs top waiting some_ last new => gives_cmdOp rfl (wtCommitPageOp_sends waiting some_ last new)
  · rintro d e nss idx next c closed settled trees rfl
    exact ⟨Drive.startCkpt_stands closed settled trees, Drive.startCkpt_waits closed settled trees⟩
  · exact fun d e c id n pg opened page index =>
      ⟨Drive.pageOnFlash_last opened page index, Drive.pageOnFlash_more opened page index⟩
  · rintro s t p arb v d x y hw rfl ckpt rfl row hrow
    have effect := (hook_JRN_CTL s.env p v t.d (stored t p Reg.JRN_CTL v)).trans (jrnCtlW_eq ckpt)
    simp only [List.mem_cons, List.not_mem_nil, or_false] at hrow
    rcases hrow with rfl | rfl | rfl <;> exact gives_reg rfl hw rfl (by rw [effect])
  · rintro s t p arb v d hw rfl
    exact gives_reg rfl hw rfl (by rw [hook_JRN_REC_SEL]; rfl)

end Sys2Proof.Machine
end

section
/-! PROOFS. Chapters 7 and 8 (07_value_crypto.md, 08_media_store.md): unit reads and the ladder (R281, R284, R286), index pages that
are read or lost (R280), stripes (R270, R275, R292) and where their items go (R257, R269). One equation for each case of an
operation; what a stripe holds by induction on the items that wait. -/

namespace Sys2Proof.Machine

variable {s : State} {d x : Drive} {e : Env} {m : Med}

/-! ### Unit reads (R281, R284, R286) -/

/-- Unit `j` of a read is now as `u` says. -/
def Drive.putUnit (d : Drive) (rd : Rd) (j : Nat) (u : UnitRd) : Drive :=
  d.onRd rd.id fun y => { y with units := y.units.set j u }

/-- A re-read for a CRC that does not hold is counted. -/
def Drive.countReread (d : Drive) (k : Nat) : Drive :=
  (d.bump (Reg.MED_REREAD_CRC k) 1).onLog fun h => { h with rereadCrc := h.rereadCrc + 1 }

section
variable {id j r ch p b n : Nat} {rd : Rd} {c : Int} {res : ReadRes} {peers : List Nat} {next : UnitRd}

theorem Drive.readUnit_at (listed : (d.med.reads.find? fun y => y.id == id) = some rd) (rung : rd.units[j]? = some (.rung r))
    (die : d.med.unitDie rd.loc j = some (ch, p, b)) (on : d.medOn (engineOf ch) = true)
    (credit : rd.credited = true → d.affords [20 + engineOf ch] (if r = d.parityRung (engineOf ch) then cost 10 else cost 8) = true) :
    d.readUnit e id j r res peers = d.unitRead e rd j r (ch, p, b) res peers := by
  unfold Drive.readUnit
  rw [listed]
  dsimp only
  rw [rung, die]
  refine if_pos ⟨rfl, on, ?_⟩
  cases h : rd.credited
  · rfl
  · simp [credit h]

theorem Drive.readUnit_unlisted (unlisted : d.med.reads.any (fun y => y.id == id) = false) :
    d.readUnit e id j r res peers = d := by
  have none_ : (d.med.reads.find? fun y => y.id == id) = none :=
    List.find?_eq_none.2 fun y hy => by simpa using List.any_eq_false.1 unlisted y hy
  unfold Drive.readUnit
  rw [none_]

theorem Drive.unitRead_good (hd : x = (d.readCounted rd r (ch, p, b) (.good c) peers).resolved ch p r c.natAbs) :
    d.unitRead e rd j r (ch, p, b) (.good c) peers =
      (if x.fld (Reg.MED_RECLAIM (engineOf ch)) 11 8 ≤ r then x.reclaim rd.loc.1 (engineOf ch) 1 none else x).putUnit rd j .good := by
  subst hd
  rfl

theorem Drive.unitRead_decodeFail (hd : x = d.readCounted rd r (ch, p, b) .decodeFail peers)
    (hn : next = if rd.second then .bad else x.nextRung (engineOf ch) r) :
    d.unitRead e rd j r (ch, p, b) .decodeFail peers =
      if next = .bad then (x.putUnit rd j next).unreadable e rd.obj ch else x.putUnit rd j next := by
  subst hd hn
  rfl

theorem Drive.unitRead_crcFail (hd : x = d.readCounted rd r (ch, p, b) (.crcFail c) peers)
    (hn : next = if rd.second then .bad else x.nextRung (engineOf ch) r) :
    d.unitRead e rd j r (ch, p, b) (.crcFail c) peers =
      if next = .bad then (x.putUnit rd j next).unreadable e rd.obj ch else (x.countReread (engineOf ch)).putUnit rd j next := by
  subst hd
  unfold Drive.unitRead
  dsimp only
  rw [← hn]
  by_cases last : next = .bad
  · rw [if_pos last, if_pos last, if_neg (by simp [last])]
    rfl
  · rw [if_neg last, if_neg last, if_pos (by simp [last])]
    rfl

/-- MEDIA_READ is the read at rung 0, READ_RETRY_RUNG the read at a higher one: the unit is read, and what the read gives goes on. -/
theorem gives_readRow (hd : s.d.readUnit s.env id j r res (if r = 0 then [] else peers) = d) :
    Gives (if r = 0 then Instr.mediaRead ⟨id, j⟩ res else Instr.readRetryRung ⟨id, j⟩ r ⟨res, peers⟩) s
      ((d.readsDone s.env).settled s.env) := by
  by_cases zero : r = 0
  · subst zero hd
    exact gives_cmdOp rfl rfl
  · subst hd
    rw [if_neg zero, if_neg zero]
    exact gives_cmdOp rfl (if_neg zero)

end

/-! ### Index pages (R280) -/

section
variable {num : Nat} {pg : IdxPage}

/-- An index page that DRAM does not hold and that nothing reads is needed. -/
theorem Drive.loadPage_missing (listed : (d.med.idx.find? fun y => y.num == num) = some pg) (away : pg.here = false)
    (unread : (d.med.reads.any fun r => r.use == .load num) = false)
    (undecrypted : ((d.cph.queues.flatten ++ d.cph.running).any fun r => match r.use with | .load n _ => n == num | _ => false) = false) :
    d.loadPage e num = match d.med.pages.find? fun p => p.kind == .index num && p.loc.isSome with
      | some p => d.startRead (.load num) (.page p.id) false
      | none => if pg.leaf then d.leafLost e pg else d.pageHere num := by
  unfold Drive.loadPage
  rw [listed]
  dsimp only
  rw [away, unread]
  exact if_neg (by rw [Bool.false_or, Bool.false_or]; exact Bool.eq_false_iff.1 undecrypted)

theorem Med.noCopy (none_ : ∀ p ∈ m.pages, p.kind = .index num → p.loc = none) :
    (m.pages.find? fun p => p.kind == .index num && p.loc.isSome) = none :=
  List.find?_eq_none.2 fun p hp => by
    rw [Bool.and_eq_true, beq_iff_eq]
    rintro ⟨kind, placed⟩
    rw [none_ p hp kind] at placed
    cases placed

/-- A key that a leaf page holds, in the version it holds. -/
def IdxPage.holds (p : IdxPage) (k : KeyRec) : Bool := p.keys.any fun x => x.key == k.key && x.version == k.version

/-- No command waits for a leaf page; the lost one goes with the keys it holds, under one version of its namespace. -/
theorem Drive.leafLost_keys {n n' : Ns} {gone : List KeyRec} {next : Nat} (none_ : d.med.heldLeaf = [])
    (ns : nsOf d.nss pg.ns = some n) (proj : nsOf (d.projected e.clk.optime) pg.ns = some n') (version : next = n'.nextVersion)
    (keys : gone = n.keys.filter pg.holds) (some_ : gone ≠ [])
    (hx : x = { d with
      nss := onNsOf d.nss pg.ns fun _ => { n.settle e.clk.optime with keys := n.keys.filter (fun k => !pg.holds k), version := next }
      med := { d.med with idx := d.med.idx.filter fun q => !(q.num == pg.num) } }) :
    d.leafLost e pg = (((x.issued pg.ns next).event e 0x705 pg.ns gone.length ((gone.map KeyRec.version).foldl min
      ((gone.map KeyRec.version).headD 0)) ((gone.map KeyRec.version).foldl max 0)).onLog fun h =>
        { h with lostKeys := h.lostKeys + gone.length }) := by
  subst version keys hx
  have proj' (g : Med → Med) : nsOf ((d.onMed g).projected e.clk.optime) pg.ns = some n' := proj
  have stays : ({ d.med with idx := d.med.idx.filter (fun q => !(q.num == pg.num)), heldLeaf := [] } : Med) =
      { d.med with idx := d.med.idx.filter fun q => !(q.num == pg.num) } := by rw [← none_]
  unfold Drive.leafLost
  dsimp only
  rw [proj']
  dsimp only [Drive.onMed]
  rw [none_]
  dsimp only [List.filter_nil, List.foldl_nil]
  rw [ns, stays]
  exact if_neg (Bool.eq_false_iff.1 (List.isEmpty_eq_false_iff.2 some_))

end

/-! ### The next stripe of a band (R270, R275, R292) -/

/-- Band `b` takes the next stripe: its half may be accessed, its stream may write and its turn has come, wear levelling keeps within
its rate, and the ledger covers the stripe. -/
structure Drive.programs (d : Drive) (e : Env) (band : Nat) (b : Band) : Prop where
  half : d.halfOn b.group = true
  may : d.mayProgram e b.stream = true
  turn : d.turn e b.stream = some band
  rate : b.stream = .wl → d.wlAllowed e b.group = true
  afforded : d.stripeAfforded b = true

section
variable {band ch : Nat} {b : Band} {failed : Option Nat}

theorem stripeProgramDoneOp_waits (listed : d.med.band band = some b) (not : ¬d.programs e band b) :
    stripeProgramDoneOp band failed e d = d := by
  unfold stripeProgramDoneOp
  rw [listed]
  refine if_pos (by_contra fun go => not ?_)
  simp only [Bool.or_eq_true, Bool.not_eq_true', Bool.and_eq_true, beq_iff_eq, bne_iff_ne, not_or, not_and, ne_eq, Decidable.not_not,
    Bool.not_eq_false] at go
  obtain ⟨⟨⟨⟨half, may⟩, turn⟩, rate⟩, afforded⟩ := go
  exact ⟨half, may, turn, rate, afforded⟩

theorem stripeProgramDoneOp_programs (listed : d.med.band band = some b) (go : d.programs e band b) :
    stripeProgramDoneOp band failed e d = match failed with
      | none => (d.stripeDone e b).2.onFlash e (d.stripeDone e b).1
      | some ch => if b.blocks.any (·.1 == ch) then d.stripeFailed e b ch else d := by
  unfold stripeProgramDoneOp
  rw [listed]
  obtain ⟨half, may, turn, rate, afforded⟩ := go
  refine (if_neg ?_).trans (by cases failed <;> rfl)
  simpa [half, may, turn, afforded] using rate

theorem Drive.stripeDone_none (none_ : (d.med.nextStripe b).1 = []) : d.stripeDone e b = ([], d) := by
  unfold Drive.stripeDone
  dsimp only
  rw [if_pos (by rw [none_]; rfl)]

theorem Drive.stripeDone_items (some_ : (d.med.nextStripe b).1 ≠ []) : (d.stripeDone e b).1 = (d.med.nextStripe b).1.map (·.1) := by
  unfold Drive.stripeDone
  dsimp only
  rw [if_neg (by simpa using some_)]

end

/-! ### Items one behind the other (R269) -/

section
variable {g cap off : Nat} {i : Item} {l : List Item}

theorem Med.fill_other (other : m.itemIn i g = false) :
    m.fill g cap off (i :: l) = ((m.fill g cap off l).1, i :: (m.fill g cap off l).2) :=
  if_pos (by rw [other]; rfl)

theorem Med.fill_fits (here : m.itemIn i g = true) (fits : off + m.objSize i.obj ≤ cap) :
    m.fill g cap off (i :: l) = ((i, off) :: (m.fill g cap (off + m.objSize i.obj) l).1, (m.fill g cap (off + m.objSize i.obj) l).2) :=
  (if_neg (by rw [here]; decide)).trans (if_pos fits)

theorem Med.fill_full (here : m.itemIn i g = true) (full : ¬off + m.objSize i.obj ≤ cap) :
    m.fill g cap off (i :: l) = ([], i :: l) :=
  (if_neg (by rw [here]; decide)).trans (if_neg full)

/-- What taking items from a list into a stripe of group `g`, from byte `off` to byte `cap`, may give: those taken with their
offsets, and the rest. -/
structure Med.Filled (m : Med) (g cap off : Nat) (l : List Item) (r : List (Item × Nat) × List Item) : Prop where
  perm : (r.1.map (·.1) ++ r.2).Perm l
  taken : (r.1.map (·.1)).Sublist l
  rest : r.2.Sublist l
  inside : ∀ x ∈ r.1, m.itemIn x.1 g = true ∧ off ≤ x.2 ∧ x.2 + m.objSize x.1.obj ≤ cap
  apart : r.1.Pairwise fun x y => x.2 + m.objSize x.1.obj ≤ y.2

theorem Med.filled_none (l : List Item) : m.Filled g cap off l ([], l) where
  perm := .refl l
  taken := l.nil_sublist
  rest := .refl l
  inside _ h := absurd h List.not_mem_nil
  apart := .nil

theorem Med.Filled.skip {r : List (Item × Nat) × List Item} (h : m.Filled g cap off l r) :
    m.Filled g cap off (i :: l) (r.1, i :: r.2) where
  perm := List.perm_middle.trans (h.perm.cons i)
  taken := h.taken.cons i
  rest := h.rest.cons_cons i
  inside := h.inside
  apart := h.apart

theorem Med.Filled.take {r : List (Item × Nat) × List Item} (here : m.itemIn i g = true) (fits : off + m.objSize i.obj ≤ cap)
    (h : m.Filled g cap (off + m.objSize i.obj) l r) : m.Filled g cap off (i :: l) ((i, off) :: r.1, r.2) where
  perm := h.perm.cons i
  taken := h.taken.cons_cons i
  rest := h.rest.cons i
  inside x hx := by
    rcases List.mem_cons.1 hx with rfl | hx
    · exact ⟨here, le_refl off, fits⟩
    · obtain ⟨hereX, low, high⟩ := h.inside x hx
      exact ⟨hereX, (Nat.le_add_right off _).trans low, high⟩
  apart := List.pairwise_cons.2 ⟨fun x hx => (h.inside x hx).2.1, h.apart⟩

theorem Med.fill_filled (m : Med) (g cap off : Nat) (l : List Item) : m.Filled g cap off l (m.fill g cap off l) := by
  induction l generalizing off with
  | nil => exact Med.filled_none []
  | cons i l ih =>
    cases here : m.itemIn i g with
    | false =>
      rw [Med.fill_other here]
      exact (ih off).skip
    | true =>
      by_cases fits : off + m.objSize i.obj ≤ cap
      · rw [Med.fill_fits here fits]
        exact (ih _).take here fits
      · rw [Med.fill_full here fits]
        exact Med.filled_none (i :: l)

end

/-! ### New pages, each on a die-page of its engine (R257) -/

section
variable {dies : List (Nat × Nat × Nat)} {g j : Nat} {used : List Nat} {i : Item} {l : List Item}

/-- The first data die-page of an item's engine that still has room for it. -/
def Med.pageFor (m : Med) (dies : List (Nat × Nat × Nat)) (used : List Nat) (i : Item) : Option Nat :=
  (List.range dies.length).find? fun j =>
    engineOf ((dies[j]?.map (·.1)).getD 0) == m.itemEngine i && decide ((used[j]?).getD 0 + m.objSize i.obj ≤ diePage)

theorem Med.pageFor_some (h : m.pageFor dies used i = some j) :
    ∃ y, dies[j]? = some y ∧ engineOf y.1 = m.itemEngine i ∧ (used[j]?).getD 0 + m.objSize i.obj ≤ diePage := by
  have lt : j < dies.length := List.mem_range.1 (List.mem_of_find?_eq_some h)
  have page := List.find?_some h
  rw [Bool.and_eq_true, beq_iff_eq, decide_eq_true_iff, List.getElem?_eq_getElem lt] at page
  exact ⟨dies[j], List.getElem?_eq_getElem lt, page⟩

theorem Med.fillPages_waits (waits : m.itemIn i g = false ∨ m.pageFor dies used i = none) :
    m.fillPages dies g used (i :: l) = ((m.fillPages dies g used l).1, i :: (m.fillPages dies g used l).2) := by
  unfold Med.pageFor at waits
  rw [Med.fillPages]
  dsimp only
  rcases waits with other | none_
  · rw [other]
  · rw [none_]
    cases m.itemIn i g <;> rfl

theorem Med.fillPages_goes (here : m.itemIn i g = true) (page : m.pageFor dies used i = some j) :
    m.fillPages dies g used (i :: l) =
      ((i, diePage * j + (used[j]?).getD 0) :: (m.fillPages dies g (used.set j ((used[j]?).getD 0 + m.objSize i.obj)) l).1,
        (m.fillPages dies g (used.set j ((used[j]?).getD 0 + m.objSize i.obj)) l).2) := by
  unfold Med.pageFor at page
  rw [Med.fillPages]
  dsimp only
  rw [here, page]

/-- An item lies in group `g` and at `off`, behind the bytes `used` of a data die-page of the engine that writes it. -/
def Med.onDiePage (m : Med) (dies : List (Nat × Nat × Nat)) (g : Nat) (used : List Nat) (x : Item × Nat) : Prop :=
  m.itemIn x.1 g = true ∧ ∃ j u y, dies[j]? = some y ∧ x.2 = diePage * j + u ∧ (used[j]?).getD 0 ≤ u ∧
    u + m.objSize x.1.obj ≤ diePage ∧ engineOf y.1 = m.itemEngine x.1

/-- What taking pages from a list into a stripe of group `g` may give, of whose data die-pages the bytes `used` are taken. -/
structure Med.Paged (m : Med) (dies : List (Nat × Nat × Nat)) (g : Nat) (used : List Nat) (l : List Item)
    (r : List (Item × Nat) × List Item) : Prop where
  perm : (r.1.map (·.1) ++ r.2).Perm l
  inside : ∀ x ∈ r.1, m.onDiePage dies g used x
  apart : r.1.Pairwise fun x y => x.2 + m.objSize x.1.obj ≤ y.2 ∨ y.2 + m.objSize y.1.obj ≤ x.2

/-- Bytes taken of a die-page after `n` are taken of die-page `j`. -/
theorem usedBytes_set {n k : Nat} (lt : j < used.length) : ((used.set j n)[k]?).getD 0 = if j = k then n else (used[k]?).getD 0 := by
  rw [List.getElem?_set]
  by_cases same : j = k
  · subst same
    simp [lt]
  · simp [same]

/-- Of two items the later one lies behind the bytes that the earlier one took of its die-page, or on another die-page. -/
theorem Med.onDiePage_apart {n : Nat} {x : Item × Nat} (lt : j < used.length) (fits : (used[j]?).getD 0 + n ≤ diePage)
    (hx : m.onDiePage dies g (used.set j ((used[j]?).getD 0 + n)) x) :
    diePage * j + (used[j]?).getD 0 + n ≤ x.2 ∨ x.2 + m.objSize x.1.obj ≤ diePage * j + (used[j]?).getD 0 := by
  obtain ⟨-, k, u, -, -, at_, behind, room, -⟩ := hx
  rw [usedBytes_set lt] at behind
  unfold diePage at *
  split_ifs at behind with same <;> omega

theorem Med.onDiePage_mono {n : Nat} {x : Item × Nat} (lt : j < used.length)
    (hx : m.onDiePage dies g (used.set j ((used[j]?).getD 0 + n)) x) : m.onDiePage dies g used x := by
  obtain ⟨here, k, u, y, die, at_, behind, room, engine⟩ := hx
  refine ⟨here, k, u, y, die, at_, ?_, room, engine⟩
  rw [usedBytes_set lt] at behind
  split_ifs at behind with same
  · subst same
    omega
  · exact behind

theorem Med.Paged.skip {r : List (Item × Nat) × List Item} (h : m.Paged dies g used l r) : m.Paged dies g used (i :: l) (r.1, i :: r.2) :=
  ⟨List.perm_middle.trans (h.perm.cons i), h.inside, h.apart⟩

theorem Med.Paged.take {r : List (Item × Nat) × List Item} (lens : used.length = dies.length) (here : m.itemIn i g = true)
    (page : m.pageFor dies used i = some j) (h : m.Paged dies g (used.set j ((used[j]?).getD 0 + m.objSize i.obj)) l r) :
    m.Paged dies g used (i :: l) ((i, diePage * j + (used[j]?).getD 0) :: r.1, r.2) := by
  obtain ⟨y, die, engine, fits⟩ := Med.pageFor_some page
  have lt : j < used.length := lens ▸ (List.getElem?_eq_some_iff.1 die).1
  refine ⟨h.perm.cons i, fun x hx => ?_, List.pairwise_cons.2 ⟨fun x hx => Med.onDiePage_apart lt fits (h.inside x hx), h.apart⟩⟩
  rcases List.mem_cons.1 hx with rfl | hx
  · exact ⟨here, j, _, y, die, rfl, le_refl _, fits, engine⟩
  · exact Med.onDiePage_mono lt (h.inside x hx)

theorem Med.fillPages_paged (l : List Item) (lens : used.length = dies.length) :
    m.Paged dies g used l (m.fillPages dies g used l) := by
  induction l generalizing used with
  | nil => exact ⟨.refl _, fun _ h => absurd h List.not_mem_nil, .nil⟩
  | cons i l ih =>
    cases here : m.itemIn i g with
    | false =>
      rw [Med.fillPages_waits (.inl here)]
      exact (ih lens).skip
    | true =>
      cases page : m.pageFor dies used i with
      | none =>
        rw [Med.fillPages_waits (.inr page)]
        exact (ih lens).skip
      | some j =>
        rw [Med.fillPages_goes here page]
        exact (ih (by rw [List.length_set, lens])).take lens here page

end

/-- Settles O50: one equation for each outcome of a unit's read, for an index page with and without a copy, and for a stripe; what a
stripe holds from the inductions over the waiting items. Which keys go with a lost leaf page is log entry 157, that an interior page
without a copy counts as rebuilt at once log entry 179. -/
theorem mediaReadsAndPrograms : Obligations.MediaReadsAndPrograms := by
  refine ⟨?_, ?_, ?_, ?_, ?_, ?_, ?_, ?_⟩
  · rintro s id j r ch p b k rd peers q row rfl rfl rfl listed rung die on credit
    have reads (res : ReadRes) :=
      Drive.readUnit_at (e := s.env) (res := res) (peers := if r = 0 then [] else peers) listed rung die on credit
    refine ⟨fun n d hd => ?_, fun d next hd hn x hx => ⟨fun more => ?_, fun last => ?_⟩,
      fun n d next hd hn => ⟨fun more => ?_, fun last => ?_⟩⟩
    · exact gives_readRow ((reads _).trans (Drive.unitRead_good hd))
    · exact gives_readRow ((reads _).trans ((Drive.unitRead_decodeFail hd hn).trans ((if_neg more).trans hx.symm)))
    · exact gives_readRow ((reads _).trans ((Drive.unitRead_decodeFail hd hn).trans ((if_pos last).trans (by rw [hx]; rfl))))
    · exact gives_readRow ((reads _).trans ((Drive.unitRead_crcFail hd hn).trans (if_neg more)))
    · exact gives_readRow ((reads _).trans ((Drive.unitRead_crcFail hd hn).trans ((if_pos last).trans (by rw [last]; rfl))))
  · intro s t res peers
    refine ⟨gives_cmdOp rfl rfl, fun r unlisted => ⟨?_, fun higher => ?_⟩⟩
    · exact gives_readRow (r := 0) (peers := peers) (Drive.readUnit_unlisted unlisted)
    · have row := gives_readRow (j := t.unit) (res := res) (r := r) (peers := peers) (Drive.readUnit_unlisted unlisted)
      rwa [if_neg higher] at row
  · intro d e num x listed away unread undecrypted
    have missing := Drive.loadPage_missing (e := e) listed away unread undecrypted
    refine ⟨fun p copy => ?_, fun none_ => ?_⟩
    · rw [missing, copy]
    · rw [Med.noCopy none_] at missing
      exact ⟨fun leaf => missing.trans (if_pos leaf), fun interior => missing.trans (if_neg (by simp [interior]))⟩
  · rintro d e p n n' gone next vs x none_ ns proj version keys some_ rfl hx
    exact Drive.leafLost_keys none_ ns proj version keys some_ hx
  · intro s band b listed
    refine ⟨fun half may turn rate afforded => ?_, fun waits failed => ?_⟩
    · have acts (failed : Option Nat) := stripeProgramDoneOp_programs (failed := failed) listed ⟨half, may, turn, rate, afforded⟩
      refine ⟨fun is d done => ?_, fun ch inBand => ?_, fun ch notInBand => ?_⟩
      · exact gives_cmdOp rfl ((acts none).trans (by rw [done]))
      · exact gives_cmdOp rfl ((acts (some ch)).trans (if_pos inBand))
      · exact gives_cmdOp rfl ((acts (some ch)).trans (if_neg (Bool.eq_false_iff.1 notInBand)))
    · refine gives_cmdOp rfl (stripeProgramDoneOp_waits listed fun go => ?_)
      obtain ⟨half, may, turn, rate, afforded⟩ := go
      rcases waits with off | off | off | ⟨wl, off⟩ | off
      · simp [half] at off
      · simp [may] at off
      · exact off turn
      · simp [rate wl] at off
      · simp [afforded] at off
  · intro d e b put rest next
    have first : put = (d.med.nextStripe b).1 := by rw [next]
    subst first
    exact ⟨Drive.stripeDone_none, Drive.stripeDone_items⟩
  · intro m g cap off l
    obtain ⟨perm, taken, rest, inside, apart⟩ := m.fill_filled g cap off l
    exact ⟨perm, taken, rest, inside, apart⟩
  · intro m dies g used l lens
    obtain ⟨perm, inside, apart⟩ := Med.fillPages_paged (m := m) (g := g) l lens
    refine ⟨perm, fun x hx => ?_, apart⟩
    obtain ⟨here, j, u, y, die, at_, -, room, engine⟩ := inside x hx
    exact ⟨here, j, u, y, die, at_, room, engine⟩

end Sys2Proof.Machine
end

section
/-! PROOFS. Chapter 8 (08_media_store.md): keeping the flash. What stands in the records of the dies after each operation on them, then
one equation per case for erases (R290 to R292), garbage collection and wear levelling (R288, R289, R291), failing dies (R293,
R294, R304), rebuilds (R294, R295) and the windows (R301, R306). -/

namespace Sys2Proof.Machine

variable {s : State} {d d' x y : Drive} {e : Env} {m : Med} {ch p b g : Nat}

/-! ### The records of the dies (R266) -/

theorem Med.die_at (m : Med) (ch p : Nat) : (m.die ch p).ch = ch ∧ (m.die ch p).p = p := by
  unfold Med.die
  split
  next x found =>
    have here := List.find?_some found
    rwa [Bool.and_eq_true, beq_iff_eq, beq_iff_eq] at here
  next => exact ⟨rfl, rfl⟩

theorem Med.die_setDie_same (m : Med) (x : Die) : (m.setDie x).die x.ch x.p = x := by
  simp [Med.die, Med.setDie]

theorem Med.die_setDie_ne {x : Die} (ne : ¬(x.ch = ch ∧ x.p = p)) : (m.setDie x).die ch p = m.die ch p := by
  have other : (x.ch == ch && x.p == p) = false := by simpa using ne
  have others : (fun y : Die => decide ((!(y.ch == x.ch && y.p == x.p)) = true ∧ (y.ch == ch && y.p == p) = true)) =
      fun y => y.ch == ch && y.p == p := by
    funext y
    by_cases mine : y.ch = ch ∧ y.p = p
    · have another : ¬(ch = x.ch ∧ p = x.p) := fun ⟨hc, hp⟩ => ne ⟨hc.symm, hp.symm⟩
      simpa [mine] using not_and_or.1 another
    · have : (y.ch == ch && y.p == p) = false := by simpa using mine
      simp [this]
  unfold Med.die Med.setDie
  dsimp only
  rw [List.find?_cons, other, List.find?_filter, others]

/-- A die whose record is written back changed. -/
theorem Med.die_setDie_of {x : Die} (hc : x.ch = ch) (hp : x.p = p) : (m.setDie x).die ch p = x := by
  subst hc hp
  exact m.die_setDie_same x

theorem Med.die_of_dies {m' : Med} (h : m'.dies = m.dies) : m'.die ch p = m.die ch p := by
  unfold Med.die
  rw [h]

/-- `d'` has the dies of `d`, and no other position is retired. -/
structure Drive.KeepsDies (d d' : Drive) : Prop where
  dies : d'.med.dies = d.med.dies
  gone : d'.med.gone = d.med.gone

namespace Drive.KeepsDies

theorem refl (d : Drive) : d.KeepsDies d := ⟨rfl, rfl⟩

theorem trans {d'' : Drive} (h : d.KeepsDies d') (h' : d'.KeepsDies d'') : d.KeepsDies d'' :=
  ⟨h'.dies.trans h.dies, h'.gone.trans h.gone⟩

theorem of_med (h : d'.med = d.med) : d.KeepsDies d' := ⟨by rw [h], by rw [h]⟩

theorem foldl {α : Type} {f : Drive → α → Drive} (h : ∀ d a, Drive.KeepsDies d (f d a)) (l : List α) (d : Drive) :
    d.KeepsDies (l.foldl f d) := by
  induction l generalizing d with
  | nil => exact .refl d
  | cons a l ih => exact (h d a).trans (ih (f d a))

theorem die (h : d.KeepsDies d') (ch p : Nat) : d'.med.die ch p = d.med.die ch p := Med.die_of_dies h.dies

theorem onMed (h : d.KeepsDies d') {f : Med → Med} (hf : ∀ m, (f m).dies = m.dies ∧ (f m).gone = m.gone) :
    d.KeepsDies (d'.onMed f) := h.trans ⟨(hf _).1, (hf _).2⟩

theorem onLog (h : d.KeepsDies d') (f : Hlog → Hlog) : d.KeepsDies (d'.onLog f) := h.trans ⟨rfl, rfl⟩

theorem event (h : d.KeepsDies d') (e : Env) (code p0 p1 p2 p3 : Nat) : d.KeepsDies (d'.event e code p0 p1 p2 p3) :=
  h.trans (.of_med (Drive.event_med ..))

theorem setInt (h : d.KeepsDies d') (page n : Nat) : d.KeepsDies (d'.setInt page n) := h.trans (.of_med (Drive.setInt_med ..))

end Drive.KeepsDies

@[simp] theorem Drive.alarm_med (code level n : Nat) : (d.alarm e code level n).med = d.med := by
  unfold Drive.alarm
  dsimp only
  split_ifs <;> rfl

/-! ### Erases (R290 to R292) -/

/-- The block erased has one P/E cycle more and is clean; wear levelling may start or stop for the die. -/
theorem Drive.erased_die (d : Drive) (e : Env) (ch p b : Nat) :
    ((d.erased e ch p b).med.die ch p).pe = (b, (d.med.die ch p).peOf b + 1) :: (d.med.die ch p).pe.filter (fun e => !(e.1 == b)) ∧
      ((d.erased e ch p b).med.die ch p).clean = b :: (d.med.die ch p).clean.filter (· != b) := by
  obtain ⟨hc, hp⟩ := d.med.die_at ch p
  unfold Drive.erased Drive.wlCheck
  dsimp only
  split_ifs
  all_goals
    dsimp only [Drive.onMed]
    simp only [Med.die_setDie_of, hc, hp, and_self]

theorem Drive.erased_peOf (d : Drive) (e : Env) (ch p b : Nat) :
    ((d.erased e ch p b).med.die ch p).peOf b = (d.med.die ch p).peOf b + 1 := by
  rw [Die.peOf, (d.erased_die e ch p b).1]
  simp

theorem Drive.erased_clean (d : Drive) (e : Env) (ch p b : Nat) : b ∈ ((d.erased e ch p b).med.die ch p).clean := by
  rw [(d.erased_die e ch p b).2]
  exact List.mem_cons_self

/-- Band `bd` may be erased on channel `ch`: its engine is ON, its stream may still write, and the ledger covers an erase. -/
structure Drive.mayErase (d : Drive) (e : Env) (bd : Band) (ch : Nat) : Prop where
  on : d.medOn (engineOf ch) = true
  may : d.mayProgram e bd.stream = true
  afforded : d.affords [20 + engineOf ch] (cost 9) = true

/-- What is left of an erase of block `b` that failed on die `(ch, p)`: GC's destination is noted (R290). -/
def Drive.noteGcBlock (d : Drive) (e : Env) (bd : Band) (p b : Nat) : Drive :=
  if bd.stream = .gc then d.event e 0x704 bd.group p b 0 else d

/-- Band `id` has block `nb` of die `(ch, p)` in the place of the one it had there. -/
def Drive.swapBlock (d : Drive) (id ch p nb : Nat) : Drive :=
  d.onBand id fun b => { b with blocks := b.blocks.map fun x => if x.1 = ch then (ch, p, nb) else x }

/-- Another block of die `(ch, p)` is taken for a band that is being opened; where the die has none the band is free again. -/
def Drive.takeAnother (d : Drive) (e : Env) (bd : Band) (id ch p : Nat) : Drive :=
  match d.med.band id, d.med.pickBlock e.fac bd.stream (d.med.die ch p) with
  | some _, some nb =>
    let d := d.swapBlock id ch p nb
    if d.med.isClean (ch, p, nb) then d.eraseLeft e id ch else d
  | _, _ => d.onMed fun m => { m with bands := m.bands.filter fun x => !(x.id == id) }

section
variable {id nb : Nat} {bd : Band} {ok : Bool}

theorem Drive.takeAnother_some (stands : (d.med.band id).isSome = true)
    (pick : d.med.pickBlock e.fac bd.stream (d.med.die ch p) = some nb) (hx : x = d.swapBlock id ch p nb) :
    d.takeAnother e bd id ch p = if x.med.isClean (ch, p, nb) then x.eraseLeft e id ch else x := by
  obtain ⟨_, band⟩ := Option.isSome_iff_exists.1 stands
  subst hx
  unfold Drive.takeAnother
  rw [band, pick]

theorem Drive.takeAnother_none (pick : d.med.pickBlock e.fac bd.stream (d.med.die ch p) = none) :
    d.takeAnother e bd id ch p = d.onMed fun m => { m with bands := m.bands.filter fun x => !(x.id == id) } := by
  unfold Drive.takeAnother
  rw [pick]
  cases d.med.band id <;> rfl

variable (listed : d.med.band id = some bd) (block : (bd.blocks.find? fun y => y.1 == ch) = some (ch, p, b))
  (left : bd.left.contains ch = true)
include listed block left

theorem eraseDoneOp_waits (not : ¬d.mayErase e bd ch) : eraseDoneOp id ch ok e d = d := by
  unfold eraseDoneOp
  rw [listed]
  dsimp only
  rw [left, block]
  refine if_pos (by_contra fun go => not ?_)
  simp only [Bool.or_eq_true, Bool.not_eq_true', not_or, Bool.not_eq_false] at go
  obtain ⟨⟨on, may⟩, afforded⟩ := go
  exact ⟨on, may, afforded⟩

variable (go : d.mayErase e bd ch)
include go

theorem eraseDoneOp_erases : eraseDoneOp id ch ok e d =
    if ok then ((d.issueErase ch).erased e ch p b).eraseLeft e id ch
    else if bd.st = .opening then (((d.issueErase ch).eraseFails e ch p b).noteGcBlock e bd p b).takeAnother e bd id ch p
    else ((d.issueErase ch).eraseFails e ch p b).eraseLeft e id ch := by
  obtain ⟨on, may, afforded⟩ := go
  unfold eraseDoneOp
  rw [listed]
  dsimp only
  rw [left, block]
  exact if_neg (by simp [on, may, afforded])

theorem eraseDoneOp_passes : eraseDoneOp id ch true e d = ((d.issueErase ch).erased e ch p b).eraseLeft e id ch :=
  (eraseDoneOp_erases listed block left go).trans (if_pos rfl)

theorem eraseDoneOp_retires (erasing : bd.st ≠ .opening) :
    eraseDoneOp id ch false e d = ((d.issueErase ch).eraseFails e ch p b).eraseLeft e id ch :=
  (eraseDoneOp_erases listed block left go).trans ((if_neg Bool.false_ne_true).trans (if_neg erasing))

theorem eraseDoneOp_another (opening : bd.st = .opening) : eraseDoneOp id ch false e d =
    (((d.issueErase ch).eraseFails e ch p b).noteGcBlock e bd p b).takeAnother e bd id ch p :=
  (eraseDoneOp_erases listed block left go).trans ((if_neg Bool.false_ne_true).trans (if_pos opening))

end

/-! ### Garbage collection and wear levelling (R288, R289, R291) -/

section
variable {level id : Nat} {bd : Band}

theorem gcCopyOp_victim (hl : level = d.gcLevel e g) (hx : x = d.finishMoves e) (hg : g < 32) (on : x.halfOn g = true)
    (runs : x.pwr.fawnStep ≠ 3)
    (afforded : x.affords (halfDoms g) (cost 8 + if level < 2 ∧ d.drainDue = true then cost 5 else 0) = true)
    (writes : x.sealedOff e = false) (victim : x.victim g = some id) (band : x.med.band id = some bd) :
    gcCopyOp g e d = if level = 0 ∧ bd.queued = 0 then x else x.moveBand e id .gc := by
  subst hl hx
  unfold gcCopyOp
  dsimp only
  rw [if_neg, victim]
  · dsimp only
    rw [band]
    rfl
  · simpa [hg, on, runs, writes] using afforded

theorem gcCopyOp_rests (hx : x = d.finishMoves e) (not : 32 ≤ g ∨ x.halfOn g = false ∨ x.sealedOff e = true ∨ x.victim g = none) :
    gcCopyOp g e d = x := by
  subst hx
  unfold gcCopyOp
  dsimp only
  rcases not with out | off | shut | none_
  · rw [if_pos (by simp [out])]
  · rw [if_pos (by simp [off])]
  · rw [if_pos (by simp [shut])]
  · rw [none_, ite_self]

variable {die : Die} (hd : die = d.med.die ch p) (hg : g = groupOf ch die.pos)
include hd hg

theorem wearLevelMoveOp_moves (hch : ch < 32) (hp : p < 17) (levels : die.levelling = true) (runs : d.pwr.fawnStep ≠ 3)
    (whole : d.med.rebuilding g = false) (afforded : d.affords (halfDoms g) (cost 8) = true) (writes : d.sealedOff e = false)
    (least : (d.med.bands.find? fun b => b.st == .closed && b.blocks.any fun y => y.1 == ch && y.2.1 == p &&
      die.peOf y.2.2 == (die.peStats e.fac).2.1) = some bd) :
    wearLevelMoveOp ch p e d = d.moveBand e bd.id .wl := by
  subst hd hg
  unfold wearLevelMoveOp
  dsimp only
  rw [if_neg, least]
  simp [hch, hp, levels, runs, whole, afforded, writes]

theorem wearLevelMoveOp_rests
    (not : 32 ≤ ch ∨ 17 ≤ p ∨ die.levelling = false ∨ d.med.rebuilding g = true ∨ d.sealedOff e = true) :
    wearLevelMoveOp ch p e d = d := by
  subst hd hg
  refine if_pos ?_
  rcases not with out | out | level | rebuilds | shut
  · simp [out]
  · simp [out]
  · simp [level]
  · simp [rebuilds]
  · simp [shut]

end

/-! ### Failing dies (R293, R294, R304) -/

theorem Drive.keepsDies_unreadable (d : Drive) (e : Env) (o : Obj) (ch : Nat) : d.KeepsDies (d.unreadable e o ch) := by
  have counted (k ns v s : Nat) : d.KeepsDies (d.countUnreadable e k ns v s) := by
    have noted : d.KeepsDies (((d.bump (Reg.MED_UNREADABLE k) 1).errCnt (pgMed k)).setInt (pgMed k) 3) := .of_med (by
      rw [Drive.setInt_med, Drive.errCnt_med, Drive.bump_med])
    exact (noted.onLog fun h => { h with unreadable := h.unreadable + 1 }).event e 0x703 ns v s 0
  unfold Drive.unreadable
  cases o with
  | page id => exact ⟨rfl, rfl⟩
  | seg id =>
    dsimp only
    cases d.med.seg id with
    | none => exact .refl d
    | some s => exact (counted ..).trans ⟨rfl, rfl⟩

theorem Drive.keepsDies_bandLoss (d : Drive) (e : Env) (r : Rebuild) (ch p : Nat) : d.KeepsDies (d.bandLoss e r ch p) := by
  unfold Drive.bandLoss
  refine Drive.KeepsDies.foldl (fun d b => ?_) r.left d
  exact (Drive.KeepsDies.foldl (fun d (u : Obj × Nat) => d.keepsDies_unreadable e u.1 ch) _ d).event e 0x706 r.group b _ 0

theorem Drive.keepsDies_closeBand (d : Drive) (id : Nat) : d.KeepsDies (d.closeBand id) := ⟨rfl, rfl⟩

theorem Drive.keepsDies_divertReads (d : Drive) (ch p : Nat) : d.KeepsDies (d.divertReads ch p) := ⟨rfl, rfl⟩

theorem Drive.keepsDies_stopGroup (d : Drive) (e : Env) (g ch : Nat) : d.KeepsDies (d.stopGroup e g ch) := by
  unfold Drive.stopGroup
  refine (Drive.KeepsDies.foldl (fun d b => ?_) _ d).onMed fun m => ⟨rfl, rfl⟩
  dsimp only
  split
  · exact (d.keepsDies_closeBand b.id).event ..
  · exact d.keepsDies_closeBand b.id

theorem Drive.keepsDies_urgentCheck (d : Drive) (e : Env) (g : Nat) : d.KeepsDies (d.urgentCheck e g) := by
  unfold Drive.urgentCheck
  split_ifs
  · exact .refl d
  · refine Drive.KeepsDies.setInt ?_ _ _
    exact ⟨rfl, rfl⟩
  · exact (Drive.KeepsDies.refl d).onMed fun m => ⟨rfl, rfl⟩

theorem Drive.keepsDies_spareCheck (d : Drive) (e : Env) : d.KeepsDies (d.spareCheck e) := by
  unfold Drive.spareCheck Drive.saveLog Drive.onMed
  dsimp only
  split_ifs <;> constructor <;> simp

/-- What a failing die's interrupt, event and alarm leave (R293). -/
def Drive.noteDie (d : Drive) (e : Env) (ch p c : Nat) : Drive :=
  ((d.setInt (pgMed (engineOf ch)) 1).event e 0x701 ch p (d.med.die ch p).pos c).alarm e 5 1 (ch * 32 + p)

@[simp] theorem Drive.noteDie_med (c : Nat) : (d.noteDie e ch p c).med = d.med := by simp [Drive.noteDie]

/-- The bands lost where another channel of the failing die's group rebuilds already (R295). -/
def Drive.groupLoss (d : Drive) (e : Env) (g ch p : Nat) : Drive :=
  match d.med.rebuilds.find? (fun (r : Rebuild) => r.group == g && r.ch != ch) with
  | some r => d.bandLoss e r ch p
  | none => d

theorem Drive.keepsDies_groupLoss (d : Drive) (e : Env) (g ch p : Nat) : d.KeepsDies (d.groupLoss e g ch p) := by
  unfold Drive.groupLoss
  split
  next r _ => exact d.keepsDies_bandLoss e r ch p
  next => exact .refl d

/-- What the failure of a serving die stops: bands are lost, reads of it go on by reconstruction, and writing in its group ends. -/
def Drive.dieStops (d : Drive) (e : Env) (ch p c : Nat) : Drive :=
  (((d.noteDie e ch p c).groupLoss e (groupOf ch (d.med.die ch p).pos) ch p).divertReads ch p).stopGroup e
    (groupOf ch (d.med.die ch p).pos) ch

theorem Drive.keepsDies_dieStops (c : Nat) : d.KeepsDies (d.dieStops e ch p c) :=
  have noted : d.KeepsDies (d.noteDie e ch p c) := .of_med (Drive.noteDie_med c)
  ((noted.trans (Drive.keepsDies_groupLoss _ e _ ch p)).trans (Drive.keepsDies_divertReads _ ch p)).trans
    (Drive.keepsDies_stopGroup _ e _ ch)

/-- The drive with the die FAILING. -/
def Drive.withFailing (d : Drive) (e : Env) (ch p c : Nat) : Drive :=
  (d.dieStops e ch p c).onMed fun m => m.setDie { d.med.die ch p with st := .failing, pos := 31 }

/-- The first die of a channel that is an unused spare. -/
def Med.spareDie (m : Med) (ch : Nat) : Option Die := ((List.range 17).map (m.die ch)).find? fun y => y.st == .spare

theorem Med.spareDie_some {z : Die} (h : m.spareDie ch = some z) : m.die ch z.p = z ∧ z.ch = ch ∧ z.st = .spare := by
  obtain ⟨q, -, rfl⟩ := List.mem_map.1 (List.mem_of_find?_eq_some h)
  obtain ⟨hc, hp⟩ := m.die_at ch q
  exact ⟨by rw [hp], hc, by simpa using List.find?_some h⟩

theorem Drive.KeepsDies.spareDie (h : d.KeepsDies d') : d'.med.spareDie ch = d.med.spareDie ch := by
  unfold Med.spareDie
  rw [funext (h.die ch)]

theorem Med.spareDie_none (h : ∀ q, q < 17 → (m.die ch q).st ≠ .spare) : m.spareDie ch = none :=
  List.find?_eq_none.2 fun y hy => by
    obtain ⟨q, hq, rfl⟩ := List.mem_map.1 hy
    simpa using h q (List.mem_range.1 hq)

/-- The dies that have failed at a position that moves already. -/
def Med.diesLost (m : Med) (g ch : Nat) : List Nat := (m.rebuilds.filter fun r => r.group == g && r.ch == ch).flatMap (·.dies)

/-- The position of a serving die goes over to the spare `z` (R294). -/
def Drive.spareTakes (d : Drive) (e : Env) (ch p g pos : Nat) (z : Die) : Drive :=
  ((d.onMed fun m => { m with
      rebuilds := m.rebuilds ++ [⟨g, ch, some z.p, [p], d.rebuildOrder g, d.med.freeBands e.fac g, []⟩] }).onMed fun m =>
    m.setDie { z with st := .rebuild, pos := pos }).saveLog

section
variable {c : Nat} {die z : Die} (hd : die = d.med.die ch p)
include hd

theorem Drive.dieFailing_again (already : die.st = .failing ∨ die.st = .failed) : d.dieFailing e ch p c = d := by
  subst hd
  exact if_pos already

theorem Drive.dieFailing_unused (unused : die.st = .spare) : d.dieFailing e ch p c =
    (((((d.setInt (pgMed (engineOf ch)) 1).event e 0x701 ch p die.pos c).alarm e 5 1 (ch * 32 + p)).onMed fun m =>
      m.setDie { die with st := .failed, pos := 31 }).saveLog) := by
  subst hd
  unfold Drive.dieFailing
  dsimp only
  rw [if_neg (by simp [unused]), if_pos unused]

/-- A serving die fails: its position goes to a spare, or is retired. -/
theorem Drive.dieFailing_serves (serves : die.st = .active ∨ die.st = .rebuild) : d.dieFailing e ch p c =
    match die.st, (d.dieStops e ch p c).med.spareDie ch with
    | .active, some z => (d.withFailing e ch p c).spareTakes e ch p (groupOf ch die.pos) die.pos z
    | _, _ => (d.withFailing e ch p c).retirePos e (groupOf ch die.pos) ch
        ((d.withFailing e ch p c).med.diesLost (groupOf ch die.pos) ch ++ [p]) := by
  subst hd
  unfold Drive.dieFailing
  dsimp only
  rw [if_neg (by rcases serves with st | st <;> simp [st]), if_neg (by rcases serves with st | st <;> simp [st])]
  rfl

theorem Drive.dieFailing_spared (active : die.st = .active) (spare : d.med.spareDie ch = some z) :
    d.dieFailing e ch p c = (d.withFailing e ch p c).spareTakes e ch p (groupOf ch die.pos) die.pos z := by
  rw [Drive.dieFailing_serves hd (.inl active), active, (d.keepsDies_dieStops c).spareDie, spare]

theorem Drive.dieFailing_retired (serves : die.st = .active ∨ die.st = .rebuild)
    (none_ : d.med.spareDie ch = none ∨ die.st = .rebuild) :
    d.dieFailing e ch p c = (d.withFailing e ch p c).retirePos e (groupOf ch die.pos) ch
      ((d.withFailing e ch p c).med.diesLost (groupOf ch die.pos) ch ++ [p]) := by
  rw [Drive.dieFailing_serves hd serves, (d.keepsDies_dieStops c).spareDie]
  rcases none_ with none_ | rebuild
  · rw [none_]
    rcases serves with st | st <;> rw [st]
  · rw [rebuild]

end

theorem Drive.withFailing_die (c : Nat) :
    (d.withFailing e ch p c).med.die ch p = { d.med.die ch p with st := .failing, pos := 31 } := by
  obtain ⟨hc, hp⟩ := d.med.die_at ch p
  exact Med.die_setDie_of hc hp

theorem Drive.spareTakes_die {q pos : Nat} {z : Die} : (d.spareTakes e ch p g pos z).med.die ch q =
    (d.med.setDie { z with st := .rebuild, pos := pos }).die ch q := Med.die_of_dies rfl

theorem Drive.retirePos_keeps (d : Drive) (e : Env) (g ch : Nat) (dies : List Nat) :
    (d.retirePos e g ch dies).med.dies = d.med.dies ∧ (g, ch) ∈ (d.retirePos e g ch dies).med.gone := by
  unfold Drive.retirePos
  dsimp only
  constructor
  · rw [(Drive.keepsDies_urgentCheck _ e g).dies, (Drive.keepsDies_spareCheck _ e).dies]
    rfl
  · rw [(Drive.keepsDies_urgentCheck _ e g).gone, (Drive.keepsDies_spareCheck _ e).gone]
    exact List.mem_append_right _ List.mem_cons_self

section
variable {c : Nat} {die z : Die} (hd : die = d.med.die ch p)
include hd

/-- The spare takes the position over. -/
theorem Drive.dieFailing_spare_die (active : die.st = .active) (spare : d.med.spareDie ch = some z) :
    (d.dieFailing e ch p c).med.die ch z.p = { z with st := .rebuild, pos := die.pos } := by
  obtain ⟨-, hc, -⟩ := Med.spareDie_some spare
  rw [Drive.dieFailing_spared hd active spare, Drive.spareTakes_die]
  exact Med.die_setDie_of hc rfl

/-- Without a spare, or while a rebuild of it runs, the position is retired. -/
theorem Drive.dieFailing_gone (serves : die.st = .active ∨ die.st = .rebuild)
    (none_ : d.med.spareDie ch = none ∨ die.st = .rebuild) : (groupOf ch die.pos, ch) ∈ (d.dieFailing e ch p c).med.gone := by
  rw [Drive.dieFailing_retired hd serves none_]
  exact (Drive.retirePos_keeps ..).2

/-- The die itself is FAILING and serves no position. -/
theorem Drive.dieFailing_die (serves : die.st = .active ∨ die.st = .rebuild) :
    (d.dieFailing e ch p c).med.die ch p = { die with st := .failing, pos := 31 } := by
  have retired (none_ : d.med.spareDie ch = none ∨ die.st = .rebuild) :
      (d.dieFailing e ch p c).med.die ch p = { die with st := .failing, pos := 31 } := by
    rw [Drive.dieFailing_retired hd serves none_, Med.die_of_dies (Drive.retirePos_keeps ..).1, Drive.withFailing_die, hd]
  rcases serves with active | rebuild
  · cases spare : d.med.spareDie ch with
    | none => exact retired (.inl spare)
    | some z =>
      obtain ⟨own, -, unused⟩ := Med.spareDie_some spare
      have other : z.p ≠ p := by
        rintro rfl
        rw [hd, own, unused] at active
        cases active
      rw [Drive.dieFailing_spared hd active spare, Drive.spareTakes_die,
        Med.die_setDie_ne (x := { z with st := .rebuild, pos := die.pos }) fun same => other same.2, Drive.withFailing_die, hd]
  · exact retired (.inr rebuild)

end

section
variable {k : Nat} {v : Word} {die : Die}

theorem spareCmdW_serves (key : bits v 31 24 = 0xA5) (pos : bits v 4 0 ≤ 15)
    (serves : d.med.serving (4 * k + bits v 9 8) (bits v 4 0) = some die) :
    spareCmdW k v e d = d.dieFailing e (4 * k + bits v 9 8) die.p 2 := by
  unfold spareCmdW
  dsimp only
  rw [if_neg (by omega), serves]

theorem spareCmdW_nothing
    (not : bits v 31 24 ≠ 0xA5 ∨ 15 < bits v 4 0 ∨ d.med.serving (4 * k + bits v 9 8) (bits v 4 0) = none) :
    spareCmdW k v e d = d := by
  unfold spareCmdW
  dsimp only
  rcases not with key | pos | none_
  · exact if_pos (.inl key)
  · exact if_pos (.inr pos)
  · rw [none_, ite_self]

theorem dieOpTimeoutOp_out (out : 32 ≤ ch ∨ 17 ≤ p ∨ d.medOn (engineOf ch) = false) : dieOpTimeoutOp ch p e d = d := by
  refine if_neg fun ⟨hch, hp, on⟩ => ?_
  rcases out with out | out | off
  · omega
  · omega
  · simp [off] at on

end

/-! ### Rebuilds (R294, R295) -/

/-- The group's rebuild goes on: its half may be accessed, Fawn entry does not stop it, and the ledger covers its next step. -/
structure Drive.mayRebuild (d : Drive) (g : Nat) (r : Rebuild) : Prop where
  on : d.halfOn g = true
  runs : d.pwr.fawnStep ≠ 3
  afforded : d.affords (halfDoms g) (if r.spare.isSome then cost 7 else cost 8) = true

/-- Band `id`, the first one left, is written to block `nb` of the spare, or its block has failed there. -/
def Drive.rebuildBlock (d : Drive) (e : Env) (r : Rebuild) (bd : Band) (rest : List Nat) (p nb : Nat) : Option BlkFail → Drive
  | some .erase => (d.issueErase r.ch).eraseFails e r.ch p nb
  | some .program =>
    ((((d.issueErase r.ch).erased e r.ch p nb).bumpWide (Reg.MED_PROGS (engineOf r.ch)) 1).pay [20 + engineOf r.ch] 7 1).programFails
      e r.ch p nb
  | none => (d.rebuildOnto e r bd p nb).rebuildNext e r fun x => { x with left := rest }

/-- One step of a rebuild that may go on: a free band has a block assigned, or the first band left is dealt with. -/
def Drive.rebuildStep (d : Drive) (e : Env) (r : Rebuild) (failed : Option BlkFail) : Drive :=
  match r.left with
  | [] => if 0 < r.free then d.rebuildNext e r fun x => { x with free := x.free - 1 } else d.rebuildNext e r id
  | n :: rest =>
    match d.med.band n, r.spare with
    | none, _ => d.rebuildNext e r fun x => { x with left := rest }
    | some bd, some p =>
      match d.med.pickBlock e.fac .host (d.med.die r.ch p) with
      | none => d
      | some nb => d.rebuildBlock e r bd rest p nb failed
    | some bd, none => (if bd.st = .closed then d.moveBand e n .gc else d).rebuildNext e r fun x => { x with
        left := rest, moved := x.moved ++ [n] }

section
variable {r : Rebuild} {failed : Option BlkFail} {n nb : Nat} {rest : List Nat} {bd : Band}

section
variable (listed : (d.med.rebuilds.find? fun x => x.group == g) = some r)
include listed

theorem rebuildBandOp_waits (not : ¬d.mayRebuild g r) : rebuildBandOp g failed e d = d := by
  unfold rebuildBandOp
  rw [listed]
  refine if_pos (by_contra fun go => not ?_)
  simp only [Bool.or_eq_true, Bool.not_eq_true', beq_iff_eq, not_or, Bool.not_eq_false] at go
  obtain ⟨⟨on, runs⟩, afforded⟩ := go
  exact ⟨on, runs, afforded⟩

theorem rebuildBandOp_goes (go : d.mayRebuild g r) : rebuildBandOp g failed e d = d.rebuildStep e r failed := by
  obtain ⟨on, runs, afforded⟩ := go
  unfold rebuildBandOp Drive.rebuildStep
  rw [listed]
  refine (if_neg (by simp [on, runs, afforded])).trans ?_
  cases r.left with
  | nil => rfl
  | cons n rest =>
    dsimp only
    cases d.med.band n with
    | none => rfl
    | some bd =>
      cases r.spare with
      | none => rfl
      | some p =>
        dsimp only
        cases d.med.pickBlock e.fac .host (d.med.die r.ch p) with
        | none => rfl
        | some nb =>
          cases failed with
          | none => rfl
          | some how => cases how <;> rfl

end

theorem Drive.rebuildStep_free (left : r.left = []) : d.rebuildStep e r failed =
    if 0 < r.free then d.rebuildNext e r fun x => { x with free := x.free - 1 } else d.rebuildNext e r id := by
  unfold Drive.rebuildStep
  rw [left]

variable (left : r.left = n :: rest)
include left

theorem Drive.rebuildStep_no_band (none_ : d.med.band n = none) :
    d.rebuildStep e r failed = d.rebuildNext e r fun x => { x with left := rest } := by
  unfold Drive.rebuildStep
  rw [left]
  dsimp only
  rw [none_]

variable (band : d.med.band n = some bd)
include band

theorem Drive.rebuildStep_moves (position : r.spare = none) : d.rebuildStep e r failed =
    (if bd.st = .closed then d.moveBand e n .gc else d).rebuildNext e r fun x => { x with left := rest, moved := x.moved ++ [n] } := by
  unfold Drive.rebuildStep
  rw [left]
  dsimp only
  rw [band, position]

theorem Drive.rebuildStep_onto (spare : r.spare = some p) : d.rebuildStep e r failed =
    match d.med.pickBlock e.fac .host (d.med.die r.ch p) with
    | none => d
    | some nb => d.rebuildBlock e r bd rest p nb failed := by
  unfold Drive.rebuildStep
  rw [left]
  dsimp only
  rw [band, spare]

theorem Drive.rebuildStep_no_block (spare : r.spare = some p) (none_ : d.med.pickBlock e.fac .host (d.med.die r.ch p) = none) :
    d.rebuildStep e r failed = d := by
  rw [Drive.rebuildStep_onto left band spare, none_]

theorem Drive.rebuildStep_block (spare : r.spare = some p) (pick : d.med.pickBlock e.fac .host (d.med.die r.ch p) = some nb) :
    d.rebuildStep e r failed = d.rebuildBlock e r bd rest p nb failed := by
  rw [Drive.rebuildStep_onto left band spare, pick]

end

section
variable {r r' : Rebuild} {f : Rebuild → Rebuild}
  (hx : x = d.onMed fun m => { m with rebuilds := modIf m.rebuilds (fun y => y.group == r.group && y.ch == r.ch) f })
  (listed : (x.med.rebuilds.find? fun y => y.group == r.group && y.ch == r.ch) = some r')
include hx listed

theorem Drive.rebuildNext_eq : d.rebuildNext e r f =
    if r'.spare.isSome && r'.left.isEmpty && r'.free == 0 then x.rebuildDone e r' else x.movesDone e := by
  subst hx
  unfold Drive.rebuildNext
  dsimp only
  rw [listed]

theorem Drive.rebuildNext_last (spare : r'.spare.isSome = true) (left : r'.left = []) (free : r'.free = 0) :
    d.rebuildNext e r f = x.rebuildDone e r' :=
  (Drive.rebuildNext_eq hx listed).trans (if_pos (by simp [spare, left, free]))

theorem Drive.rebuildNext_more (more : r'.spare = none ∨ r'.left ≠ [] ∨ r'.free ≠ 0) : d.rebuildNext e r f = x.movesDone e := by
  refine (Drive.rebuildNext_eq hx listed).trans (if_neg ?_)
  rcases more with position | left | free
  · simp [position]
  · simp [left]
  · simp [free]

end

/-- Settles O51: one equation per case of each operation, and the records of the dies after an erase and after a failure. That an
unused spare which fails becomes FAILED is log entry 118, as the model has it. -/
theorem flashUpkeep : Obligations.FlashUpkeep := by
  refine ⟨?_, ?_, ?_, ?_, ?_, ?_, ?_, ?_, ?_, ?_, ?_, ?_, ?_⟩
  · rintro s band ch p b k bd listed block rfl left
    refine ⟨?_, fun waits ok => ?_⟩
    · rintro on may afforded d y z rfl rfl rfl
      have go : s.d.mayErase s.env bd ch := ⟨on, may, afforded⟩
      refine ⟨gives_cmdOp rfl (eraseDoneOp_passes listed block left go),
        fun erasing => gives_cmdOp rfl (eraseDoneOp_retires listed block left go erasing), fun opening => ⟨?_, fun none_ => ?_⟩⟩
      · intro nb w stands pick hw
        exact gives_cmdOp rfl ((eraseDoneOp_another listed block left go opening).trans (Drive.takeAnother_some stands pick hw))
      · exact gives_cmdOp rfl ((eraseDoneOp_another listed block left go opening).trans (Drive.takeAnother_none none_))
    · refine gives_cmdOp rfl (eraseDoneOp_waits listed block left fun go => ?_)
      rcases waits with off | off | off
      · simp [go.on] at off
      · simp [go.may] at off
      · simp [go.afforded] at off
  · exact fun d e ch p b => ⟨d.erased_peOf e ch p b, d.erased_clean e ch p b⟩
  · intro s g level x hl hx
    refine ⟨fun id bd hg on runs afforded writes victim band => ?_, fun not => gives_cmdOp rfl (gcCopyOp_rests hx not)⟩
    have acts := gcCopyOp_victim hl hx hg on runs afforded writes victim band
    exact ⟨fun due => gives_cmdOp rfl (acts.trans (if_neg (by omega))),
      fun low unqueued => gives_cmdOp rfl (acts.trans (if_pos ⟨low, unqueued⟩))⟩
  · intro s ch p g die hd hg
    exact ⟨fun bd hch hp levels runs whole afforded writes least =>
        gives_cmdOp rfl (wearLevelMoveOp_moves hd hg hch hp levels runs whole afforded writes least),
      fun not => gives_cmdOp rfl (wearLevelMoveOp_rests hd hg not)⟩
  · exact fun s ch p => ⟨fun hch hp on => gives_cmdOp rfl (if_pos ⟨hch, hp, on⟩),
      fun out => gives_cmdOp rfl (dieOpTimeoutOp_out out)⟩
  · rintro s t q arb k v d hw rfl
    have hk : k.toNat < 8 := k.isLt
    have plain := plainPage_MED_SPARE_CMD k.toNat hk
    exact ⟨fun die key pos serves => gives_reg rfl hw plain (by rw [hook_MED_SPARE_CMD _ _ _ _ _ _ hk, spareCmdW_serves key pos serves]),
      fun not => gives_reg rfl hw plain (by rw [hook_MED_SPARE_CMD _ _ _ _ _ _ hk, spareCmdW_nothing not])⟩
  · intro d e ch p c die hd
    refine ⟨Drive.dieFailing_again hd, Drive.dieFailing_unused hd, fun serves => ?_⟩
    rw [Drive.dieFailing_die hd serves]
    refine ⟨rfl, rfl, fun y active spare => Drive.dieFailing_spare_die hd active spare, fun none_ => ?_⟩
    exact Drive.dieFailing_gone hd serves (none_.imp_left Med.spareDie_none)
  · intro s g r listed
    refine ⟨fun on runs afforded => ?_, fun waits failed => ?_⟩
    · have goes (failed : Option BlkFail) := rebuildBandOp_goes (e := s.env) (failed := failed) listed ⟨on, runs, afforded⟩
      refine ⟨fun failed left => ?_, fun n rest left => ⟨fun failed none_ => ?_, fun bd band => ⟨fun p spare =>
        ⟨fun failed none_ => ?_, fun nb pick => ?_⟩, fun failed position => ?_⟩⟩⟩
      · exact gives_cmdOp rfl ((goes failed).trans (Drive.rebuildStep_free left))
      · exact gives_cmdOp rfl ((goes failed).trans (Drive.rebuildStep_no_band left none_))
      · exact gives_cmdOp rfl ((goes failed).trans (Drive.rebuildStep_no_block left band spare none_))
      · have block (failed : Option BlkFail) := (goes failed).trans (Drive.rebuildStep_block left band spare pick)
        exact ⟨gives_cmdOp rfl (block (some .erase)), gives_cmdOp rfl (block (some .program)), gives_cmdOp rfl (block none)⟩
      · exact gives_cmdOp rfl ((goes failed).trans (Drive.rebuildStep_moves left band position))
    · refine gives_cmdOp rfl (rebuildBandOp_waits listed fun go => ?_)
      rcases waits with off | fawn | short
      · simp [go.on] at off
      · exact go.runs fawn
      · simp [go.afforded] at short
  · exact fun d x e r r' f hx listed => ⟨Drive.rebuildNext_last hx listed, Drive.rebuildNext_more hx listed⟩
  · exact fun s => gives_runOp rfl rfl
  · rintro s t q arb v d hw rfl
    exact gives_reg rfl hw rfl (by rw [hook_MED_HLOG_SNAP]; rfl)
  · rintro s t q arb g v d k ch die now top x rfl hw rfl rfl rfl rfl rfl rfl y rfl
    exact gives_reg rfl hw (plainPage_MED_DIE_SEL _ g.isLt) (by rw [hook_MED_DIE_SEL _ _ _ _ _ _ g.isLt]; rfl)
  · exact fun s t q arb v hw => gives_reg rfl hw rfl (by rw [hook_MED_USER_BANDS])

end Sys2Proof.Machine
end

section
/-! PROOFS. Chapter 9 (09_journal_replay.md): the losses and returns of the supplies, what a sealed flush keeps, and the end of
the drain after a replay (R322, R323, R326, R331, R391, R397, R526). One equation for each case of an operation. -/

namespace Sys2Proof.Machine

variable {s : State} {d : Drive} {e : Env} {w : Supply} {f : Flush}

/-! ### The order of a flush (R323) -/

/-- The flush writes each committed, drained and accepted record once, and no ended one. -/
theorem Jrn.flushOrder_length (j : Jrn) :
    j.flushOrder.length = (j.recs.filter fun r => r.st == .committed || r.st == .drained || r.st == .accepted).length := by
  unfold Jrn.flushOrder
  simp only [List.length_append, List.length_mergeSort]
  induction j.recs with
  | nil => rfl
  | cons r rs ih => cases st : r.st <;> simp [st] <;> omega

theorem JRec.flushed_rsn (r : JRec) : r.flushed.rsn = r.rsn := rfl

/-- Settles O27: the sealed image holds the records in the order of the flush, and the journal none. -/
theorem sealKeepsTheJournal : Obligations.SealKeepsTheJournal := by
  refine fun d => ⟨rfl, rfl, _, rfl, rfl, rfl, rfl, ?_, ?_⟩
  · exact (List.length_map ..).trans d.jrn.flushOrder_length
  · exact (List.map_map ..).trans (List.map_congr_left fun r _ => r.flushed_rsn)

/-! ### The end of the drain after a replay (R331) -/

/-- Every replayed record is drained, and nothing live is left in the flush bands. -/
def Drive.replayDrained (d : Drive) : Prop :=
  (∀ r ∈ d.jrn.recs, r.replayed = true → r.st ≠ .committed) ∧ ∀ b ∈ d.med.bands, b.st = .flush → d.liveIn b.id = []

/-- The flush bands are erased and the image is dropped: nothing of the replay is left to do. -/
def Drive.releaseFlush (d : Drive) (e : Env) : Drive :=
  ((((d.eraseFlushed e).onJrn fun j => { j with image := none }).poke Reg.JRN_STAT 5 5 0).setUnclean false).setInt pgJrn 2

/-- With the replay drained a checkpoint is written; the flush bands are released once it stands and the credits allow it. -/
theorem replayDrainDoneOp_drained (ready : d.pwr.readReady = true) (due : d.flag Reg.JRN_STAT 5 = true) (closed : d.jrn.ckptOpen = none)
    (drained : d.replayDrained) : replayDrainDoneOp e d =
      if (d.startCkpt e).jrn.ckptOpen.isSome || !(d.startCkpt e).affords [20, 21, 22, 23, 24, 25, 26, 27] (cost 9) then d.startCkpt e
      else ((d.startCkpt e).releaseFlush e).tryWriteReady e := by
  obtain ⟨records, bands⟩ := drained
  have noRecord : (d.jrn.recs.any fun r => r.replayed && r.st == .committed) = false :=
    List.any_eq_false.2 fun r hr => by simpa using records r hr
  have noBand : (d.med.bands.any fun b => b.st == .flush && !(d.liveIn b.id).isEmpty) = false :=
    List.any_eq_false.2 fun b hb => by simpa using bands b hb
  unfold replayDrainDoneOp
  rw [if_neg (by simp [ready, due, closed]), if_neg (by simp [noRecord, noBand])]
  rfl

/-- Settles O22: the checkpoint alone while it is open or the credits are short, and else the release of the bands. -/
theorem replayDrainDoneCompletes : Obligations.ReplayDrainDoneCompletes := by
  rintro s ready due closed records bands d rfl
  have ends := replayDrainDoneOp_drained (e := s.env) ready due closed ⟨records, bands⟩
  refine ⟨fun waits => gives_cmdOp rfl (ends.trans (if_pos ?_)),
    fun stands afforded => gives_cmdOp rfl (ends.trans (if_neg ?_))⟩
  · rcases waits with opened | short
    · simp [opened]
    · simp [short]
  · simp [stands, afforded]

/-! ### A loss of a supply (R322, R391, R397, R526) -/

/-- The event of a loss, with the reserve and what the flush needs. -/
def Drive.lossEvent (d : Drive) (e : Env) : Drive :=
  d.event e 0x104 (d.reserve e) (ceilDiv d.need (10 ^ 6)) d.jrn.recs.length d.jrn.unitsUsed

theorem Drive.warmOnly_iff : d.warmOnly = true ↔ d.pwr.warm = true ∧ d.pwr.readReady = false := by simp [Drive.warmOnly]

section
variable (v12 : d.pwr.v12 = true) (noFlush : d.jrn.flush = none)
include v12 noFlush

/-- A loss is declared where 12 V was good and no flush runs; only a journal that runs is flushed. -/
theorem supplyLossOp_declared : supplyLossOp w e d =
    if d.pwr.ps = .fawn ∨ d.pwr.fw = false ∧ d.warmOnly = false then (d.lossEvent e).lossOff e w (decide (d.pwr.ps = .fawn))
    else (((d.lossEvent e).alarm e 1 2 (d.reserve e)).lossDown e w (d.reserve e)).flushBegin e := by
  unfold supplyLossOp
  rw [if_neg (by simp [v12, noFlush])]
  simp only [Bool.or_eq_true, Bool.and_eq_true, decide_eq_true_eq, Bool.not_eq_true']
  rfl

theorem supplyLossOp_fawn (fawn : d.pwr.ps = .fawn) : supplyLossOp w e d = (d.lossEvent e).lossOff e w true := by
  rw [supplyLossOp_declared v12 noFlush, if_pos (Or.inl fawn), decide_eq_true fawn]

theorem supplyLossOp_noJournal (awake : d.pwr.ps ≠ .fawn) (fw : d.pwr.fw = false) (cold : d.pwr.warm = false) :
    supplyLossOp w e d = (d.lossEvent e).lossOff e w false := by
  rw [supplyLossOp_declared v12 noFlush, if_pos (Or.inr ⟨fw, by simp [Drive.warmOnly, cold]⟩), decide_eq_false awake]

theorem supplyLossOp_flushes (awake : d.pwr.ps ≠ .fawn)
    (runs : d.pwr.fw = true ∨ d.pwr.warm = true ∧ d.pwr.readReady = false) : supplyLossOp w e d =
      (((d.lossEvent e).alarm e 1 2 (d.reserve e)).lossDown e w (d.reserve e)).flushBegin e := by
  rw [supplyLossOp_declared v12 noFlush, if_neg]
  rintro (fawn | ⟨fw, notWarm⟩)
  · exact awake fawn
  · rcases runs with running | warm
    · simp [fw] at running
    · simp [Drive.warmOnly_iff.2 warm] at notWarm

end

/-- A loss without a flush leaves the drive OFF, with neither firmware nor index. -/
theorem Drive.lossOff_pwr (fawn : Bool) :
    (d.lossOff e w fawn).pwr.fw = false ∧ (d.lossOff e w fawn).pwr.readReady = false ∧ (d.lossOff e w fawn).pwr.warm = false ∧
      (d.lossOff e w fawn).pwr.resetHold = false ∧ (d.lossOff e w fawn).pwr.ps = .off := by
  unfold Drive.lossOff
  rw [Drive.setPs_pwr]
  exact ⟨rfl, rfl, rfl, rfl, rfl⟩

/-- In Fawn the journal is empty. -/
theorem Drive.lossOff_fawn_recs : (d.lossOff e w true).jrn.recs = [] := by
  unfold Drive.lossOff
  rw [Drive.setPs_jrn]
  rfl

/-! ### A flush that ends, and supplies that go or return (R325, R326, R488) -/

section
variable (flush : d.jrn.flush = some f)
include flush

theorem flushSealOp_begun (begun : f.begun = true) :
    flushSealOp e d = (((d.storePage e 0).flushReport e f).sealImage).flushOver e f.returned := by
  unfold flushSealOp
  rw [flush]
  exact if_pos begun

theorem flushReserveOutOp_flush (n : Nat) : flushReserveOutOp n e d =
    (fun x : Drive => if x.pwr.aux then x else x.aonDown e)
      (((d.flushReport e f).cutImage (if f.begun then n else 0)).flushOver e f.returned) := by
  unfold flushReserveOutOp
  rw [flush]

theorem supplyReturnOp_flush : supplyReturnOp e d = { d with jrn := { d.jrn with flush := some { f with returned := true } } } := by
  unfold supplyReturnOp v12GoodOp
  rw [flush]
  rfl

theorem auxLossOp_flush : auxLossOp e d = { d with pwr := { d.pwr with aux := false } } := by
  unfold auxLossOp
  rw [flush]
  rfl

end

theorem auxReturnOp_on (on : d.isOn 0 = true) : auxReturnOp e d = { d with pwr := { d.pwr with aux := true } } := if_pos on

theorem auxLossOp_absent (noFlush : d.jrn.flush = none) (absent : d.pwr.v12 = false) : auxLossOp e d = d.aonDown e := by
  unfold auxLossOp
  simp [noFlush, absent]

/-- With 12 V good, the loss of aux is a main-supply loss first, and AON stays while a flush it begins runs. -/
theorem auxLossOp_good (noFlush : d.jrn.flush = none) (v12 : d.pwr.v12 = true) : auxLossOp e d =
    if (supplyLossOp .aux e d).jrn.flush.isSome then supplyLossOp .aux e d else (supplyLossOp .aux e d).aonDown e := by
  unfold auxLossOp
  rw [if_neg (by simp [noFlush]), if_pos v12]

theorem Drive.isOn_onPd_off (d : Drive) (k : Nat) : (d.onPd k fun _ => Pd.at .off).isOn k = false := by
  have off : (d.onPd k fun _ => Pd.at .off).pd k = Pd.at .off := by
    refine (modAt_getD ..).trans ?_
    split_ifs with inside
    · rfl
    · have beyond : d.pwr.pds.length ≤ k := by omega
      rw [List.getElem?_eq_none beyond]
      rfl
  exact congrArg (fun x : Pd => x.st == .on) off

/-- Stopping the clocks and the chain leaves a domain that went OFF so. -/
theorem Drive.isOn_stopped (d : Drive) (k : Nat) (c : Chn) :
    ({ (d.onPd k fun _ => Pd.at .off).stopClocks with chn := c } : Drive).isOn k = false := d.isOn_onPd_off k

/-- Without its supply AON is OFF. -/
theorem Drive.aonDown_isOn : (d.aonDown e).isOn 0 = false := by
  unfold Drive.aonDown
  exact Drive.isOn_stopped _ 0 _

/-- The loss of aux in a drive without 12 V takes AON and the chain down. -/
theorem auxLoss_absent (noFlush : s.d.jrn.flush = none) (absent : s.d.pwr.v12 = false) :
    ∃ t, exec .auxLoss s = .next t ∧ t.d = s.d.aonDown s.env ∧ t.d.chn.active = false ∧ t.d.chn.lock = false ∧ t.d.isOn 0 = false := by
  have down : Gives .auxLoss s (s.d.aonDown s.env) := gives_runOp rfl (auxLossOp_absent noFlush absent)
  exact ⟨_, down, rfl, rfl, rfl, Drive.aonDown_isOn⟩

theorem supplyLoss_next {t : State} (h : exec (.supplyLoss w) s = .next t) : t.d = supplyLossOp w s.env s.d := by
  cases h
  rfl

/-- Settles O26: one equation per loss or return, and what the drive is left as where no flush runs. -/
theorem supplyLossesComplete : Obligations.SupplyLossesComplete := by
  refine fun s => ⟨?_, ?_, fun f flush => ⟨fun begun => ?_, ?_, ?_, ?_⟩, fun on => ?_, fun noFlush => ⟨fun absent => ?_, ?_⟩⟩
  · rintro w r d v12 noFlush rfl rfl
    exact ⟨fun fawn => gives_runOp rfl (supplyLossOp_fawn v12 noFlush fawn),
      fun awake fw cold => gives_runOp rfl (supplyLossOp_noJournal v12 noFlush awake fw cold),
      fun awake runs => gives_runOp rfl (supplyLossOp_flushes v12 noFlush awake runs)⟩
  · rintro d w fawn rfl
    obtain ⟨fw, ready, warm, hold, off⟩ := Drive.lossOff_pwr (d := s.d) (e := s.env) (w := w) fawn
    exact ⟨fw, ready, warm, hold, off, fun inFawn => inFawn ▸ Drive.lossOff_fawn_recs⟩
  · exact gives_runOp rfl (flushSealOp_begun flush begun)
  · rintro n d rfl
    have out := flushReserveOutOp_flush (e := s.env) flush n
    exact ⟨fun aux => gives_runOp rfl (out.trans (if_pos aux)), fun gone => gives_runOp rfl (out.trans (if_neg (by simp [gone])))⟩
  · exact gives_runOp rfl (supplyReturnOp_flush flush)
  · exact gives_runOp rfl (auxLossOp_flush flush)
  · exact gives_runOp rfl (auxReturnOp_on on)
  · exact auxLoss_absent noFlush absent
  · intro v12 t loss
    rw [supplyLoss_next loss]
    exact gives_runOp rfl (auxLossOp_good noFlush v12)

end Sys2Proof.Machine
end

section
/-! PROOFS. Chapter 10 (10_control_loops.md): the tick of a plant loop (R349, R350, R364, R365), the commands to a loop (R359, R361,
R367), the writes of SP_TARGET and MAN (R358, R389), the period of a threshold loop (R348), and what the control engine saves (R368, R372,
R373) and latches (R375). -/

namespace Sys2Proof.Machine

variable {s t : State} {d : Drive} {e : Env} {p : Path} {arb : Arb} {v : Word} {n k c peops : Nat}

/-! ### A unit that is out for an activation (R461) -/

/-- A row of a unit that is out does nothing. -/
theorem gives_unitOut {i : Instr} {f : Effect} (h : exec i s = runOp (unitRow c f) s) (out : s.d.unitOut c = true) : Gives i s s.d :=
  gives_runOp h (if_pos out)

/-- A row of a unit that is not out runs its effect. -/
theorem gives_unitIn {i : Instr} {f : Effect} (h : exec i s = runOp (unitRow c f) s) (fit : s.d.unitOut c = false)
    (hd : f s.env s.d = d) : Gives i s d :=
  gives_runOp h ((if_neg (by simp [fit])).trans hd)

/-! ### The state of a plant loop, and what stays of it -/

theorem lmodeOf_code (m : LMode) : lmodeOf m.code = m := by cases m <;> rfl

theorem LMode.code_lt (m : LMode) : m.code < 8 := by cases m <;> decide

@[simp] theorem Drive.onRun_reg (f : LRun → LRun) (a : Nat) : (d.onRun n f).reg a = d.reg a := rfl

theorem Drive.onRun_ctl {d' : Drive} (f : LRun → LRun) (h : d'.ctl = d.ctl) : (d'.onRun n f).ctl = (d.onRun n f).ctl := by
  unfold Drive.onRun
  rw [h]

theorem Drive.lrun_of_ctl {d' : Drive} (h : d'.ctl = d.ctl) : d'.lrun n = d.lrun n := by unfold Drive.lrun; rw [h]

theorem Drive.lmode_of_reg {d' : Drive} (h : d'.reg (Reg.CTL_L_STAT n) = d.reg (Reg.CTL_L_STAT n)) : d'.lmode n = d.lmode n :=
  congrArg lmodeOf (Drive.fld_of_reg d _ _ _ d' h)

/-- What a loop carries, once it is changed. -/
theorem Drive.lrun_onRun_same (f : LRun → LRun) (h : n < d.ctl.runs.length) : (d.onRun n f).lrun n = f (d.lrun n) :=
  (modAt_getD ..).trans (if_pos ⟨rfl, h⟩)

/-- Setting a mode writes the register that shows it, and no other. -/
theorem Drive.setLmode_regs (m : LMode) : (d.setLmode n m).regs = (d.poke (Reg.CTL_L_STAT n) 2 0 m.code).regs := by
  unfold Drive.setLmode
  dsimp only
  split_ifs <;> rfl

theorem Drive.setLmode_reg_ne (m : LMode) (h : k ≠ Reg.CTL_L_STAT n) : (d.setLmode n m).reg k = d.reg k :=
  (Drive.reg_of_regs _ _ _ (Drive.setLmode_regs m)).trans (Drive.poke_reg_ne _ _ _ _ _ _ h)

@[simp] theorem Drive.lmode_setLmode (m : LMode) : (d.setLmode n m).lmode n = m := by
  have shown : (d.setLmode n m).lmode n = (d.poke (Reg.CTL_L_STAT n) 2 0 m.code).lmode n :=
    Drive.lmode_of_reg (Drive.reg_of_regs _ _ _ (Drive.setLmode_regs m))
  rw [shown]
  unfold Drive.lmode
  rw [Drive.fld_poke_same _ _ _ _ _ (by decide) (by decide)]
  exact (congrArg lmodeOf (Nat.mod_eq_of_lt m.code_lt)).trans (lmodeOf_code m)

/-- A limit of the ledger shows in no register but the energy page's INT_STAT. -/
theorem Drive.limitLoop_reg_ne (h : k ≠ intStatA pgNrg) : (d.limitLoop n).reg k = d.reg k := by
  unfold Drive.limitLoop
  split_ifs
  · rfl
  · exact (Drive.setInt_reg_ne _ _ _ _ h).trans (Drive.onRun_reg ..)

theorem Drive.limitLoop_lmode : (d.limitLoop n).lmode n = d.lmode n :=
  Drive.lmode_of_reg (Drive.limitLoop_reg_ne (by unfold Reg.CTL_L_STAT intStatA pgNrg; omega))

@[simp] theorem Drive.setLstates_ctl (ss : List (Int × Int)) : (d.setLstates n ss).ctl = d.ctl := by
  unfold Drive.setLstates
  generalize (List.range 4).zip ss = l
  induction l generalizing d with
  | nil => rfl
  | cons x l ih => exact ih.trans rfl

/-! ### The output that a tick applies (R349, R350) -/

theorem Drive.applyOut_manual (manual : d.lmode n = .manual) (noMan : (d.lrun n).manNext = none) :
    d.applyOut n = d.setReg (Reg.CTL_L_OUT n) (d.reg (Reg.CTL_L_MAN n)) := by
  unfold Drive.applyOut
  simp only [manual, noMan]

theorem Drive.applyOut_tripped (tripped : d.lmode n = .tripped) :
    d.applyOut n = d.setReg (Reg.CTL_L_OUT n) (d.reg (Reg.CTL_L_SAFE n)) := by
  unfold Drive.applyOut
  simp only [tripped]

theorem Drive.applyOut_computed {u : Int} (live : d.lmode n = .auto ∨ d.lmode n = .ramping) (next : (d.lrun n).next = some u) :
    d.applyOut n = d.setReg (Reg.CTL_L_OUT n) (mantBits u) := by
  unfold Drive.applyOut
  rcases live with mode | mode <;> simp only [mode, next]

theorem Drive.applyOut_kept (live : d.lmode n = .auto ∨ d.lmode n = .ramping) (next : (d.lrun n).next = none) :
    d.applyOut n = d := by
  unfold Drive.applyOut
  rcases live with mode | mode <;> simp only [mode, next]

/-! ### A tick of a plant loop (R349, R364, R365) -/

/-- The first half of a tick: the announced operations are shown and the loop's output applied. -/
def Drive.tickBegin (d : Drive) (n k : Nat) : Drive := ((d.setReg Reg.CTL_PEOPS (word k)).peak Reg.CTL_PEOPS_PEAK 9 0 k).applyOut n

/-- The output in force is kept for the plant model of the next tick. -/
def Drive.keepOut (d : Drive) (n : Nat) (u : Int) : Drive := { d with ctl := { d.ctl with prevU := d.ctl.prevU.set n u } }

/-- An overrun is counted, and no output waits for the next tick. -/
def Drive.tickMissed (d : Drive) (n : Nat) : Drive := (d.overrun n).onRun n fun r => { r with next := none }

theorem loopTickOp_off {x : Sample} (off : d.isOn 5 = false ∨ 12 ≤ n) : loopTickOp n x peops e d = d :=
  if_pos (by simpa using off)

section
variable (on : d.isOn 5 = true) (plant : n < 12)
include on plant

theorem loopTickOp_valid {fb : Int} : loopTickOp n ⟨some fb, false⟩ peops e d =
    ((d.tickBegin n (min peops 544)).loopSample e n (sat24 fb).1 (min peops 544)).keepOut n
      (mant ((d.tickBegin n (min peops 544)).reg (Reg.CTL_L_OUT n))) :=
  if_neg (by simp [on, plant])

theorem loopTickOp_invalid : loopTickOp n ⟨none, false⟩ peops e d =
    ((d.tickBegin n (min peops 544)).loopInvalid e n (min peops 544)).keepOut n
      (mant ((d.tickBegin n (min peops 544)).reg (Reg.CTL_L_OUT n))) :=
  if_neg (by simp [on, plant])

/-- A tick without a sample forces a running loop out at the third overrun. -/
theorem loopTickOp_overrun {fb : Option Int} {b x : Drive} (begins : d.tickBegin n (min peops 544) = b) (missed : b.tickMissed n = x) :
    loopTickOp n ⟨fb, true⟩ peops e d =
      (if (b.lmode n = .auto ∨ b.lmode n = .ramping) ∧ 3 ≤ (x.lrun n).ovr then x.forcedExit e n 1 else x).keepOut n
        (mant (b.reg (Reg.CTL_L_OUT n))) := by
  subst begins missed
  exact if_neg (by simp [on, plant])

end

/-! ### A computed output (R350, R353) -/

theorem clampI_bounds {lo hi : Int} (h : lo ≤ hi) (x : Int) : lo ≤ clampI lo hi x ∧ clampI lo hi x ≤ hi :=
  ⟨le_max_left .., max_le h (min_le_left ..)⟩

/-- The output of the law before its limits: the feed-forward and what the sections make of the error, saturated (R350, R356). -/
def Drive.loopOutput (d : Drive) (n : Nat) (fb : Int) (peops : Nat) : Int :=
  (sat24 (d.ff n peops + ((d.loopCfg n).law (sat24 (mant (d.reg (Reg.CTL_L_SP_NOW n)) - fb)).1 (d.lstates n)).1)).1

/-- Of what loops carry, a computation changes the output for the next tick and ends the run of overruns. -/
theorem Drive.loopLaw_ctl {fb : Int} : (d.loopLaw n fb peops).ctl = (d.onRun n fun r =>
    { r with next := some (clampI (d.loopCfg n).umin (d.loopCfg n).umax (d.loopOutput n fb peops)), ovr := 0 }).ctl := by
  unfold Drive.loopLaw
  dsimp only
  split_ifs
  · exact Drive.onRun_ctl _ (Drive.setLstates_ctl _)
  · rw [Drive.setInt_ctl, Drive.bumpOpen_ctl]
    exact Drive.onRun_ctl _ (Drive.setLstates_ctl _)

/-- The output that the law computes is limited to UMIN and UMAX. -/
theorem Drive.loopLaw_next {fb : Int} (h : n < d.ctl.runs.length) : ((d.loopLaw n fb peops).lrun n).next =
    some (clampI (d.loopCfg n).umin (d.loopCfg n).umax (d.loopOutput n fb peops)) := by
  rw [Drive.lrun_of_ctl Drive.loopLaw_ctl, Drive.lrun_onRun_same _ h]

/-! ### The commands to a plant loop (R354, R359) -/

theorem Drive.loopCmd_goAuto {fb : Int} (manual : d.lmode n = .manual) : d.loopCmd n .goAuto (some fb) peops = d.loopGoAuto n fb peops := by
  unfold Drive.loopCmd
  simp only [manual]

theorem Drive.loopCmd_goManual {fb : Option Int} (live : d.lmode n = .auto ∨ d.lmode n = .ramping) :
    d.loopCmd n .goManual fb peops = d.loopGoManual n := by
  unfold Drive.loopCmd
  rcases live with mode | mode <;> simp only [mode]

theorem Drive.loopCmd_clearTrip {fb : Option Int} (tripped : d.lmode n = .tripped) :
    d.loopCmd n .clearTrip fb peops = d.loopClearTrip n := by
  unfold Drive.loopCmd
  simp only [tripped]

theorem Drive.loopGoAuto_refused {fb : Int} (bad : (d.loopCfg n).valid = false) :
    d.loopGoAuto n fb peops = (d.poke (Reg.CTL_L_STAT n) 3 3 1).setInt pgCtl 5 :=
  if_neg (by simp [bad])

/-- With a valid configuration the loop ramps from its feedback. -/
theorem Drive.loopGoAuto_ramps {fb : Int} (valid : (d.loopCfg n).valid = true) :
    (d.loopGoAuto n fb peops).lmode n = .ramping ∧ (d.loopGoAuto n fb peops).reg (Reg.CTL_L_SP_NOW n) = mantBits fb := by
  unfold Drive.loopGoAuto
  dsimp only
  rw [if_pos valid]
  refine ⟨Drive.lmode_setLmode _, ?_⟩
  rw [Drive.setLmode_reg_ne _ (by unfold Reg.CTL_L_SP_NOW Reg.CTL_L_STAT; omega), Drive.onRun_reg,
    Drive.reg_setReg_ne _ _ _ _ (by unfold Reg.CTL_L_SP_NOW Reg.CTL_L_MODEL_Y; omega), Drive.reg_setReg_same]

/-- GO_MANUAL leaves the loop in MANUAL at the output in force. -/
theorem Drive.loopGoManual_leaves :
    (d.loopGoManual n).lmode n = .manual ∧ (d.loopGoManual n).reg (Reg.CTL_L_MAN n) = d.reg (Reg.CTL_L_OUT n) := by
  unfold Drive.loopGoManual
  refine ⟨Drive.limitLoop_lmode.trans (Drive.lmode_setLmode _), ?_⟩
  rw [Drive.limitLoop_reg_ne (by unfold Reg.CTL_L_MAN intStatA pgNrg; omega),
    Drive.setLmode_reg_ne _ (by unfold Reg.CTL_L_MAN Reg.CTL_L_STAT; omega), Drive.onRun_reg, Drive.reg_setReg_same]

/-- CLEAR_TRIP leaves the loop in MANUAL at SAFE. -/
theorem Drive.loopClearTrip_leaves :
    (d.loopClearTrip n).lmode n = .manual ∧ (d.loopClearTrip n).reg (Reg.CTL_L_MAN n) = d.reg (Reg.CTL_L_SAFE n) := by
  unfold Drive.loopClearTrip
  refine ⟨Drive.lmode_setLmode _, ?_⟩
  rw [Drive.setLmode_reg_ne _ (by unfold Reg.CTL_L_MAN Reg.CTL_L_STAT; omega), Drive.reg_setReg_same]

/-! ### The writes of a loop's command register (R361, R367, R375) -/

/-- The written word gives no command: it lacks the key, or its code is 0. -/
def commandless (v : Word) : Prop := bits v 31 24 ≠ 0xA5 ∨ bits v 1 0 = 0

theorem lcmdOf_of_commandless (no : commandless v) (key : bits v 31 24 = 0xA5) : lcmdOf (bits v 1 0) = none := by
  rw [no.resolve_left (not_not_intro key)]
  rfl

theorem loopCmdW_none (no : commandless v ∨ 12 ≤ n) : loopCmdW n v e d = d := by
  unfold loopCmdW
  by_cases ignored : bits v 31 24 ≠ 0xA5 ∨ 12 ≤ n
  · exact if_pos ignored
  · obtain ⟨key, plant⟩ := not_or.1 ignored
    have code := lcmdOf_of_commandless (no.resolve_right plant) (not_not.1 key)
    unfold lcmdOf at code
    rw [if_neg ignored]
    simp only [code]

theorem thCmdW_none (no : commandless v) : thCmdW p v e d = d := by
  unfold thCmdW
  split_ifs with key
  · rfl
  · rw [lcmdOf_of_commandless no (not_not.1 key)]

theorem thBulkW_none (no : commandless v) : thBulkW v e d = d := by
  unfold thBulkW
  split_ifs with key
  · rfl
  · rw [lcmdOf_of_commandless no (not_not.1 key)]

section
variable {cmd : LCmd} (key : bits v 31 24 = 0xA5) (code : lcmdOf (bits v 1 0) = some cmd)
include key code

theorem loopCmdW_waits (plant : n < 12) : loopCmdW n v e d = d.onRun n fun r => { r with cmd := some cmd } := by
  unfold loopCmdW
  rw [if_neg (by simp [key, plant])]
  unfold lcmdOf at code
  simp only [code]

theorem thCmdW_gives : thCmdW p v e d = d.thGive (d.fld (pk p Reg.CTL_TH_SEL) 9 0) cmd := by
  unfold thCmdW
  rw [if_neg (not_not_intro key), code]

theorem thBulkW_gives : thBulkW v e d =
    (allTh.filter fun t => (d.th t).profile == bits v 5 4 && !d.thHeld t).foldl (fun d t => d.thGive t cmd) d := by
  unfold thBulkW
  rw [if_neg (not_not_intro key), code]

end

theorem plainPage_loopCmdA (loop : Nat) : plainPage (loopCmdA loop) = true := by
  unfold loopCmdA
  split_ifs with plant window
  · exact plainPage_CTL_L_CMD loop plant
  · rfl
  · rfl

/-- A write of a loop's command register: a plant loop's own, or one of the two of the threshold window. -/
theorem hook_loopCmdA (loop : Nat) (was : Drive) : hook e p (loopCmdA loop) v was d =
    if loop < 16 then loopCmdW loop v e d else if loop = 16 then thCmdW p v e d else thBulkW v e d := by
  unfold loopCmdA
  split_ifs with plant window
  · exact hook_CTL_L_CMD _ _ _ _ _ loop plant
  · exact hook_CTL_TH_CMD ..
  · exact hook_CTL_TH_BULK ..

/-- A word without a command, and a loop number between the plant loops and the threshold window, change nothing. -/
theorem hook_loopCmdA_none {loop : Nat} (was : Drive) (no : commandless v ∨ 12 ≤ loop ∧ loop < 16) :
    hook e p (loopCmdA loop) v was d = d := by
  rw [hook_loopCmdA]
  split_ifs with plant window
  · exact loopCmdW_none (no.imp_right And.left)
  · exact thCmdW_none (no.resolve_right fun between => plant between.2)
  · exact thBulkW_none (no.resolve_right fun between => plant between.2)

/-- The rows GO_AUTO, GO_MANUAL and CLEAR_TRIP are writes of the loop's command register. -/
theorem exec_loopCmd {row : Path → Nat → Word → Arb → Instr} (h : row ∈ [Instr.goAuto, .goManual, .clearTrip]) (loop : Nat) :
    exec (row p loop v arb) s = regRow p (loopCmdA loop) v arb s := by
  simp only [List.mem_cons, List.not_mem_nil, or_false] at h
  rcases h with rfl | rfl | rfl <;> rfl

/-! ### The writes of SP_TARGET and MAN (R358, R359, R389) -/

theorem spTargetW_live (live : d.lmode n = .auto ∨ d.lmode n = .ramping) :
    spTargetW n e d = d.onRun n fun r => { r with spWritten := true } := if_pos live

theorem spTargetW_idle (idle : ¬(d.lmode n = .auto ∨ d.lmode n = .ramping)) : spTargetW n e d = d := if_neg idle

theorem manW_manual (manual : d.lmode n = .manual) : manW n v e d = d := if_pos manual

theorem manW_waits (other : d.lmode n ≠ .manual) : manW n v e d = d.onRun n fun r => { r with manNext := some (mant v) } :=
  if_neg other

/-- MAN_WRITE of a plant loop. -/
theorem exec_manWrite_plant (h : n < 16) : exec (.manWrite p n v arb) s = regRow p (Reg.CTL_L_MAN n) v arb s :=
  congrArg (regRow p · v arb s) (if_pos h)

/-- MAN_WRITE of the threshold window. -/
theorem exec_manWrite_th (h : 16 ≤ n) : exec (.manWrite p n v arb) s = regRow p Reg.CTL_TH_MAN v arb s :=
  congrArg (regRow p · v arb s) (if_neg h.not_gt)

section
variable {l : ThLoop} (hl : l = d.th (d.fld (pk p Reg.CTL_TH_SEL) 9 0))
include hl

theorem thManW_manual (manual : l.mode = .manual) : thManW p v e d = d.setTh { l with man := mant v } := by
  subst hl
  exact congrArg d.setTh (if_pos manual)

theorem thManW_waits (other : l.mode ≠ .manual) :
    thManW p v e d = d.setTh { l with run := { l.run with manNext := some (mant v) } } := by
  subst hl
  exact congrArg d.setTh (if_neg other)

end

/-- Settles O52: one equation for each case of a tick, a command and a written register. -/
theorem plantLoops : Obligations.PlantLoops := by
  refine ⟨?_, ?_, ?_, ?_, ?_, ?_, ?_, ?_, ?_⟩
  · rintro s g n peops k d u rfl
    refine ⟨fun x rest => ?_, ?_⟩
    · cases out : s.d.unitOut 4
      · exact gives_unitIn rfl out (loopTickOp_off (rest.resolve_left (by simp [out])))
      · exact gives_unitOut rfl out
    · rintro plant fit on rfl rfl rfl put rfl
      refine ⟨fun fb => gives_unitIn rfl fit (loopTickOp_valid on plant), gives_unitIn rfl fit (loopTickOp_invalid on plant), ?_⟩
      rintro fb x hx
      have missed := loopTickOp_overrun (e := s.env) (peops := peops) (fb := fb) on plant rfl hx.symm
      exact ⟨fun third => gives_unitIn rfl fit (missed.trans (congrArg (Drive.keepOut · _ _) (if_pos third))),
        fun fewer => gives_unitIn rfl fit (missed.trans (congrArg (Drive.keepOut · _ _) (if_neg fewer)))⟩
  · intro d n _
    refine ⟨fun manual noMan => ?_, fun tripped => ?_, fun live => ⟨fun u next => ?_, Drive.applyOut_kept live⟩⟩
    · rw [Drive.applyOut_manual manual noMan, Drive.reg_setReg_same]
    · rw [Drive.applyOut_tripped tripped, Drive.reg_setReg_same]
    · rw [Drive.applyOut_computed live next, Drive.reg_setReg_same]
  · intro d n peops fb inside limits
    exact ⟨_, Drive.loopLaw_next inside, clampI_bounds limits _⟩
  · intro d n peops fb _
    refine ⟨?_, ?_, fun live => ?_, fun tripped => ?_⟩
    · rintro manual bad x rfl
      exact (Drive.loopCmd_goAuto manual).trans (Drive.loopGoAuto_refused bad)
    · rintro manual valid x rfl
      rw [Drive.loopCmd_goAuto manual]
      exact Drive.loopGoAuto_ramps valid
    · rw [Drive.loopCmd_goManual live]
      exact Drive.loopGoManual_leaves
    · rw [Drive.loopCmd_clearTrip tripped]
      exact Drive.loopClearTrip_leaves
  · rintro s t p arb loop v d hw rfl row hrow
    have acts {x : Drive} := gives_hook (d := x) (exec_loopCmd hrow loop) hw (plainPage_loopCmdA loop)
    refine ⟨fun no => acts (hook_loopCmdA_none _ (or_assoc.2 no)), fun c key code => ⟨fun plant => acts ?_, ?_, ?_⟩⟩
    · rw [hook_loopCmdA, if_pos (by omega), loopCmdW_waits key code plant]
    · rintro rfl
      exact acts ((hook_loopCmdA 16 t.d).trans (thCmdW_gives (e := s.env) key code))
    · rintro rfl
      exact acts ((hook_loopCmdA 17 t.d).trans (thBulkW_gives (e := s.env) key code))
  · exact fun d t c => ⟨fun failing => if_pos failing, fun sound => if_neg sound⟩
  · rintro s t p arb g v n d rfl hw rfl
    have acts {x : Drive} := gives_hook (row := .spTargetWrite p g v arb) (d := x) rfl hw (plainPage_CTL_L_SP_TARGET _ g.isLt)
    have written := hook_CTL_L_SP_TARGET s.env p v t.d (stored t p (Reg.CTL_L_SP_TARGET g.toNat) v) g.toNat g.isLt
    refine ⟨fun other live => acts (written.trans ?_), fun ignored => acts (written.trans ?_)⟩
    · rw [if_neg other, spTargetW_live live]
    · split_ifs with ledger
      · rfl
      · exact spTargetW_idle (ignored.resolve_left ledger)
  · rintro s t p arb n v d hn hw rfl
    have acts {x : Drive} := gives_hook (d := x) (exec_manWrite_plant hn) hw (plainPage_CTL_L_MAN _ hn)
    exact ⟨fun manual => acts ((hook_CTL_L_MAN _ _ _ _ _ _ hn).trans (manW_manual manual)),
      fun other => acts ((hook_CTL_L_MAN _ _ _ _ _ _ hn).trans (manW_waits other))⟩
  · rintro s t p arb loop v d l hloop hw rfl hl
    have acts {x : Drive} := gives_hook (d := x) (exec_manWrite_th hloop) hw rfl
    exact ⟨fun manual => acts ((hook_CTL_TH_MAN ..).trans (thManW_manual hl manual)),
      fun other => acts ((hook_CTL_TH_MAN ..).trans (thManW_waits hl other))⟩

/-! ### The period of a threshold loop (R348, R365, R367) -/

/-- The loop without the command that waited. -/
def ThLoop.uncommanded (l : ThLoop) : ThLoop := { l with run := { l.run with cmd := none } }

/-- The period's samples are dropped and an overrun is counted. -/
def ThLoop.missed (l : ThLoop) : ThLoop := { l with sum := 0, n := 0, run := { l.run with ovr := l.run.ovr + 1 } }

theorem thLoopPeriodOp_idle {i : Nat} {ov : Bool} (idle : d.isOn 5 = false ∨ 544 ≤ i ∨ d.thHeld i = true) :
    thLoopPeriodOp i ov e d = d :=
  if_pos (by simpa [or_assoc] using idle)

section
variable {i : Nat} {l : ThLoop} (on : d.isOn 5 = true) (inside : i < 544) (unheld : d.thHeld i = false)
  (hl : l = (d.th i).apply (d.loopCfg (profPage (d.th i).profile)))
include on inside unheld hl

theorem thLoopPeriodOp_samples (sampled : 0 < l.n) : thLoopPeriodOp i false e d = d.thSamples e l.uncommanded l.run.cmd := by
  subst hl
  unfold thLoopPeriodOp
  rw [if_neg (by simp [on, inside, unheld]), if_neg (by decide)]
  exact if_neg sampled.ne'

theorem thLoopPeriodOp_quiet (empty : l.n = 0) (noCmd : l.run.cmd = none) : thLoopPeriodOp i false e d = d.setTh l.uncommanded := by
  subst hl
  unfold thLoopPeriodOp
  rw [if_neg (by simp [on, inside, unheld]), if_neg (by decide)]
  exact (if_pos empty).trans (by rw [noCmd]; rfl)

theorem thLoopPeriodOp_command {cmd : LCmd} (empty : l.n = 0) (waits : l.run.cmd = some cmd) :
    thLoopPeriodOp i false e d = d.thCmd l.uncommanded cmd := by
  subst hl
  unfold thLoopPeriodOp
  rw [if_neg (by simp [on, inside, unheld]), if_neg (by decide)]
  exact (if_pos empty).trans (by rw [waits]; rfl)

/-- A period that overruns forces a running loop out at the third in a row. -/
theorem thLoopPeriodOp_overrun {m : ThLoop} {x : Drive} (hm : m = l.missed)
    (hx : x = ((d.setTh m).bumpOpen Reg.CTL_OVERRUNS 1).setInt pgCtl 2) :
    thLoopPeriodOp i true e d = if m.live = true ∧ 3 ≤ m.run.ovr then x.thForced e m 1 else x := by
  subst hl hm hx
  unfold thLoopPeriodOp
  rw [if_neg (by simp [on, inside, unheld])]
  exact if_pos rfl

end

/-! ### The output that a period applies (R349, R350) -/

section
variable {l : ThLoop} {cfg : LoopCfg}

theorem ThLoop.apply_manual (manual : l.mode = .manual) (noMan : l.run.manNext = none) : (l.apply cfg).v = l.man := by
  unfold ThLoop.apply
  simp only [manual, noMan, Option.getD_none]

theorem ThLoop.apply_tripped (tripped : l.mode = .tripped) : (l.apply cfg).v = cfg.safe := by
  unfold ThLoop.apply
  simp only [tripped]

theorem ThLoop.apply_live (live : l.live = true) : (l.apply cfg).v = l.run.next.getD l.v := by
  have mode : l.mode = .auto ∨ l.mode = .ramping := by simpa [ThLoop.live] using live
  unfold ThLoop.apply
  rcases mode with mode | mode <;> simp only [mode]

end

/-! ### What the control engine saves and latches (R368, R372, R373, R375) -/

theorem ctlSaveW_starts (save : bit v 0 = true) (idle : d.ctl.saving = none) : ctlSaveW v e d =
    ({ d with ctl := { d.ctl with
      saving := some (savePages d fun p => decide (0x21 ≤ p) && decide (p < 0x36) && p != 0x31) } }).poke Reg.CTL_SAVE 31 31 1 :=
  if_pos ⟨save, idle⟩

theorem ctlSaveW_ignored (no : bit v 0 = false ∨ d.ctl.saving.isSome) : ctlSaveW v e d = d := by
  refine if_neg fun ⟨save, idle⟩ => ?_
  rcases no with noSave | busy
  · simp [save] at noSave
  · simp [idle] at busy

theorem ctlSaveDoneOp_idle (idle : d.ctl.saving = none) : ctlSaveDoneOp e d = d := by
  unfold ctlSaveDoneOp
  rw [idle]

theorem ctlSaveDoneOp_saving {m : FMap} (saving : d.ctl.saving = some m) : ctlSaveDoneOp e d =
    { d with
      saved := m.foldl (fun (s : FMap) (e : Nat × Word) => FMap.insert s e.1 e.2) (d.saved.filter fun e => !(keyDom e.1 == 5))
      ctl := { d.ctl with saving := none } }.poke Reg.CTL_SAVE 31 31 0 := by
  unfold ctlSaveDoneOp
  rw [saving]

/-- Settles O53: one equation for each case of a period, a store and a selection. -/
theorem thresholdLoops : Obligations.ThresholdLoops := by
  refine ⟨?_, ?_, ?_, ?_, ?_, ?_, ?_⟩
  · intro s i ov rest
    cases out : s.d.unitOut 4
    · exact gives_unitIn rfl out (thLoopPeriodOp_idle (rest.resolve_left (by simp [out])))
    · exact gives_unitOut rfl out
  · intro s i l fit on inside unheld hl
    refine ⟨fun sampled => gives_unitIn rfl fit (thLoopPeriodOp_samples on inside unheld hl sampled),
      fun empty => ⟨fun noCmd => gives_unitIn rfl fit (thLoopPeriodOp_quiet on inside unheld hl empty noCmd),
        fun cmd waits => gives_unitIn rfl fit (thLoopPeriodOp_command on inside unheld hl empty waits)⟩, fun m d hm hd => ?_⟩
    have missed := thLoopPeriodOp_overrun (e := s.env) on inside unheld hl hm hd
    exact ⟨fun third => gives_unitIn rfl fit (missed.trans (if_pos third)),
      fun fewer => gives_unitIn rfl fit (missed.trans (if_neg fewer))⟩
  · exact fun l c noMan => ⟨fun manual => ThLoop.apply_manual manual noMan, ThLoop.apply_tripped, ThLoop.apply_live⟩
  · exact fun s => ⟨fun down => gives_runOp rfl (if_neg (by simp [down])), fun up => gives_runOp rfl (if_pos up)⟩
  · rintro s t p arb v d hw rfl
    have acts {x : Drive} := gives_hook (row := .ctlSave p v arb) (d := x) rfl hw rfl
    exact ⟨fun save idle => acts ((hook_CTL_SAVE ..).trans (ctlSaveW_starts save idle)),
      fun no => acts ((hook_CTL_SAVE ..).trans (ctlSaveW_ignored no))⟩
  · exact fun s => ⟨fun idle => gives_runOp rfl (ctlSaveDoneOp_idle idle),
      fun m saving => gives_runOp rfl (ctlSaveDoneOp_saving saving)⟩
  · rintro s t p arb v d l hw rfl rfl
    have acts {x : Drive} := gives_hook (row := .ctlThSel p v arb) (d := x) rfl hw rfl
    exact ⟨fun beyond => acts ((hook_CTL_TH_SEL ..).trans (if_pos (by omega))),
      fun inside => acts ((hook_CTL_TH_SEL ..).trans (if_neg (by omega)))⟩

end Sys2Proof.Machine
end

section
/-! PROOFS. The block (01_architecture.md) and operating time across power (13_event_recorder.md R438, 08_media_store.md R299): the
clock is moved in three ways only, each of which keeps the mark above the counter and never takes the time back. -/

namespace Sys2Proof.Machine

/-! ### The clock (R438) -/

theorem Clock.before_trans {a b c : Clock} (ab : a.before b) (bc : b.before c) : a.before c := by
  unfold Clock.before at *
  omega

/-- `k` is a clock that may follow `c`: the mark still stands above the counter, and the time has not gone back. -/
structure Clock.Follows (c k : Clock) : Prop where
  ok : c.ok → k.ok
  before : c.ok → c.before k

theorem Clock.follows_refl (c : Clock) : c.Follows c := ⟨id, fun _ => .inr ⟨rfl, le_rfl⟩⟩

theorem Clock.Follows.trans {a b c : Clock} (ab : a.Follows b) (bc : b.Follows c) : a.Follows c :=
  ⟨fun ok => bc.ok (ab.ok ok), fun ok => Clock.before_trans (ab.before ok) (bc.before (ab.ok ok))⟩

theorem Clock.advance_optime (c : Clock) : c.advance.optime = c.optime := by
  unfold Clock.advance
  split_ifs <;> rfl

theorem Clock.advance_pcycle (c : Clock) : c.advance.pcycle = c.pcycle := by
  unfold Clock.advance
  split_ifs <;> rfl

theorem Clock.advance_optHw (c : Clock) :
    c.advance.optHw = if c.optHw ≤ c.optime + 1 then (c.optime + 1) / 65536 * 65536 + 65536 else c.optHw := by
  unfold Clock.advance
  split_ifs <;> rfl

/-- The mark that `advance` leaves is above even the next count. -/
theorem Clock.advance_above (c : Clock) (ok : c.ok) : c.optime + 1 < c.advance.optHw ∧ c.advance.optHw % 65536 = 0 := by
  obtain ⟨below, multiple⟩ := ok
  rw [c.advance_optHw]
  split_ifs <;> omega

theorem Clock.follows_advance (c : Clock) : c.Follows c.advance where
  ok ok := by
    obtain ⟨above, multiple⟩ := c.advance_above ok
    exact ⟨by rw [c.advance_optime]; omega, multiple⟩
  before _ := .inr ⟨c.advance_pcycle.symm, c.advance_optime.ge⟩

theorem Clock.follows_tick (c : Clock) : c.Follows c.tick where
  ok := c.advance_above
  before _ := .inr ⟨c.tick_pcycle.symm, c.tick_optime ▸ Nat.le_succ _⟩

theorem Clock.follows_powerUp (c : Clock) : c.Follows c.powerUp where
  ok := fun ⟨_, multiple⟩ => by
    unfold Clock.ok Clock.powerUp
    dsimp only
    omega
  before := fun ⟨below, _⟩ => .inl ⟨Nat.lt_succ_self _, below⟩

/-! ### Commands and steps -/

/-- A command leaves the clock, advances the mark, or powers up. -/
theorem exec_clk {c : Instr} {s t : State} (run : exec c s = .next t) : s.clk.Follows t.clk := by
  by_cases reset : ∃ lead seg, c = .powerOnReset lead seg
  · obtain ⟨lead, seg, rfl⟩ := reset
    cases (exec_powerOnReset lead seg s).symm.trans run
    exact s.clk.follows_powerUp
  · by_cases mark : c = .optHwAdvance
    · subst mark
      cases (exec_optHwAdvance s).symm.trans run
      dsimp only
      split_ifs
      · exact s.clk.follows_advance
      · exact s.clk.follows_refl
    · obtain ⟨u, run', -, clk⟩ := exec_carries c s
      cases run'.symm.trans run
      rw [clk (fun lead seg h => reset ⟨lead, seg, h⟩) mark]
      exact s.clk.follows_refl

/-- What the block keeps as it runs: the clock goes on (R438), the factory data stay, and READ_ONLY is never withdrawn and stays
latched (R299). -/
structure State.GoesOnTo (s t : State) : Prop where
  clk : s.clk.Follows t.clk
  fac : t.fac = s.fac
  readOnly : s.perm.readOnly = true → t.perm.readOnly = true
  latched : s.latched → t.latched

theorem State.GoesOnTo.trans {s t u : State} (st : s.GoesOnTo t) (tu : t.GoesOnTo u) : s.GoesOnTo u :=
  ⟨st.clk.trans tu.clk, tu.fac.trans st.fac, tu.readOnly ∘ st.readOnly, tu.latched ∘ st.latched⟩

theorem State.Carries.goesOnTo {s t : State} (h : s.Carries t) (clk : s.clk.Follows t.clk) : s.GoesOnTo t :=
  ⟨clk, h.fac, h.readOnly, h.latched⟩

theorem step_of_cons {s : State} {c : Instr} {rest : List Instr} (h : s.pending = c :: rest) :
    step s = exec c { s with pending := rest } := by
  unfold step
  rw [h]

/-- Settles O1: the step's case of a queue with a command at its front. -/
theorem stepRunsFront : Obligations.StepRunsFront := fun _ _ _ => step_of_cons

theorem idle_goesOnTo {s t : State} (run : idle s = .next t) : s.GoesOnTo t := by
  cases on : s.d.isOn 0 with
  | true =>
    cases (idle_of_on s on).symm.trans run
    -- the effect sees the clock that has ticked, so the latch is that of the lifted state
    have carries := ({ s with clk := s.clk.tick } : State).carries_lift idleOp s.clk.tick
    exact ⟨s.clk.follows_tick, carries.fac, carries.readOnly, carries.latched⟩
  | false =>
    cases (idle_of_not_on s on).symm.trans run
    exact (s.carries_clock s.clk).goesOnTo s.clk.follows_refl

theorem step_goesOnTo {s t : State} (run : step s = .next t) : s.GoesOnTo t := by
  cases queue : s.pending with
  | nil =>
    rw [step_of_empty s queue] at run
    exact idle_goesOnTo run
  | cons c rest =>
    rw [step_of_cons queue] at run
    obtain ⟨u, run', carries, -⟩ := exec_carries c { s with pending := rest }
    cases run'.symm.trans run
    have clk := exec_clk run
    exact ⟨clk, carries.fac, carries.readOnly, carries.latched⟩

theorem Reaches.goesOnTo {s t : State} (run : Reaches s t) : s.GoesOnTo t := by
  induction run with
  | refl => exact (s.carries_clock s.clk).goesOnTo s.clk.follows_refl
  | arrive t c _ ih => exact ⟨ih.clk, ih.fac, ih.readOnly, ih.latched⟩
  | step t u _ run ih => exact ih.trans (step_goesOnTo run)

/-! ### The obligations on the block's invariant -/

/-- Settles O4: the reset state's mark is one multiple of 65,536 above its counter, and its media store is writable. -/
theorem invariantHoldsAtReset : Obligations.InvariantHoldsAtReset := by
  have counter : State.reset.clk.optime = (Config.factoryMark + 1) * 65536 := rfl
  have mark : State.reset.clk.optHw = (Config.factoryMark + 2) * 65536 := rfl
  refine ⟨?_, fun readOnly => ?_⟩
  · unfold Clock.ok
    omega
  · have writable : State.reset.d.med.readOnly = false := rfl
    exact absurd readOnly (by simp [writable])

/-- Settles O5: a step's clock may follow the one before it, and the latch stays. -/
theorem invariantKept : Obligations.InvariantKept := by
  rintro s t ⟨ok, latched⟩ run
  have goes := step_goesOnTo run
  exact ⟨goes.clk.ok ok, goes.latched latched⟩

/-- Settles O6: an induction on the run carries the clock's order, the latch and the factory data from state to state. -/
theorem timeAndReadOnlyOnlyGrow : Obligations.TimeAndReadOnlyOnlyGrow := by
  rintro s t ⟨ok, -⟩ run
  have goes := run.goesOnTo
  exact ⟨goes.clk.before ok, goes.readOnly, goes.fac⟩

/-- Settles O7: what `advance` writes with AON ON, and the clock that a power-on reset sets. -/
theorem operatingTimeAcrossPower : Obligations.OperatingTimeAcrossPower := by
  refine ⟨fun s on => ?_, fun s lead seg => ?_⟩
  · refine ⟨_, exec_optHwAdvance s, rfl, ?_⟩
    rw [if_pos on]
    exact ⟨s.clk.advance_optime, s.clk.advance_pcycle, s.clk.advance_optHw⟩
  · refine ⟨_, exec_powerOnReset lead seg s, rfl, rfl, rfl, fun own => ?_⟩
    have resumes : (s.powerOn lead seg).clk.optime = s.clk.optHw := rfl
    omega

end Sys2Proof.Machine
end

section
/-! PROOFS. Chapters 11 and 15 (11_energy_power.md, 15_module_connector.md): the hold-up pack, its measurements, tests, faults and swap
(R377 to R380, R393, R500, R501). One equation for each case of an operation. -/

namespace Sys2Proof.Machine

variable {d x : Drive} {e : Env} {v : Word} {c mv capMf esr : Nat}

/-! ### Measurements and tests (R377, R378) -/

theorem Drive.startTest_connected (on : d.isOn 4 = true) (connected : d.pack.closed = true) (noFlush : d.jrn.flush = none)
    (still : ∀ r, d.pack.test ≠ .running r) : d.startTest e = { d with pack := { d.pack with test := .running (d.reserve e) } } := by
  unfold Drive.startTest
  rw [if_pos (by simp [on, connected, noFlush])]
  cases test : d.pack.test with
  | running r => exact absurd test (still r)
  | none | due => rfl

theorem Drive.startTest_other (h : d.jrn.flush.isSome ∨ ∃ r, d.pack.test = .running r) : d.startTest e = d := by
  unfold Drive.startTest
  rcases h with flush | ⟨r, running⟩
  · exact if_neg (by simp [Option.isSome_iff_ne_none.1 flush])
  · simp only [running, ite_self]

theorem Drive.dueTest_disconnected (h : d.isOn 4 = false ∨ d.pack.closed = false) : d.dueTest e = d := if_pos (by simpa using h)

theorem Drive.dueTest_free (on : d.isOn 4 = true) (connected : d.pack.closed = true) (free : d.nrg.demand = false) :
    d.dueTest e = d.startTest e := by
  unfold Drive.dueTest
  rw [if_neg (by simp [on, connected]), if_neg (by simp [free])]

theorem Drive.dueTest_waits (on : d.isOn 4 = true) (connected : d.pack.closed = true) (demand : d.nrg.demand = true)
    (untested : d.pack.test = .none) : d.dueTest e = { d with pack := { d.pack with test := .due } } := by
  unfold Drive.dueTest
  rw [if_neg (by simp [on, connected]), if_pos demand, untested]

theorem Drive.dueTest_kept (on : d.isOn 4 = true) (connected : d.pack.closed = true) (demand : d.nrg.demand = true)
    (tested : d.pack.test ≠ .none) : d.dueTest e = d := by
  unfold Drive.dueTest
  rw [if_neg (by simp [on, connected]), if_pos demand]
  cases test : d.pack.test with
  | none => exact absurd test tested
  | due | running => rfl

/-- The pack's voltage is taken. -/
def Drive.measured (d : Drive) (mv : Nat) : Drive := { d with pack := { d.pack with mv := mv % 65536, seen := true } }

/-- The test at 8.0 V starts where it is owed. -/
def Drive.testAt8 (d : Drive) (e : Env) (mv : Nat) : Drive :=
  if d.pack.test8 = true ∧ 8000 ≤ mv then ({ d with pack := { d.pack with test8 := false } }).startTest e else d

/-- Cause 4 arises where the reserve is below the need. -/
def Drive.judgeReserve (d : Drive) (e : Env) : Drive :=
  if d.nrg.causes.contains 4 = false ∧ d.reserve e * 10 ^ 6 < d.need then d.wtCause e 4 else d

theorem reserveMeasureOp_disconnected (h : d.isOn 4 = false ∨ d.pack.closed = false) : reserveMeasureOp mv e d = d :=
  if_pos (by simpa using h)

theorem reserveMeasureOp_connected (on : d.isOn 4 = true) (connected : d.pack.closed = true) : reserveMeasureOp mv e d =
    (((((d.measured mv).testAt8 e mv).judgeReserve e).wtEnd e).tryWriteReady e).runDueTest e := by
  unfold reserveMeasureOp Drive.judgeReserve Drive.testAt8
  rw [if_neg (by simp [on, connected])]
  simp only [Bool.and_eq_true, decide_eq_true_eq, Bool.not_eq_true']
  rfl

theorem packTestDoneOp_idle (still : ∀ r, d.pack.test ≠ .running r) : packTestDoneOp capMf esr e d = d := by
  unfold packTestDoneOp
  cases test : d.pack.test with
  | running r => exact absurd test (still r)
  | none | due => rfl

theorem packTestDoneOp_running {r : Nat} (running : d.pack.test = .running r)
    (hx : x = (({ d with pack := { d.pack with test := .none, capMf := capMf % 65536, esr := esr % 65536, measured := true } }).setInt
      pgHup 3).judgeWorn e) :
    packTestDoneOp capMf esr e d = ((if 600 < esr % 65536 then packFaultOp 3 e x else x).wtEnd e).tryWriteReady e := by
  subst hx
  unfold packTestDoneOp
  rw [running]

/-! ### Faults (R380) -/

theorem packFaultOp_ignored (h : c = 0 ∨ 6 < c ∨ d.isOn 4 = false) : packFaultOp c e d = d := if_pos (by simpa using h)

/-- The cause is latched, with its interrupt. -/
def Drive.faultLatched (d : Drive) (c : Nat) : Drive :=
  ({ d with pack := { d.pack with
    faults := (if d.pack.faults.contains c then d.pack.faults else d.pack.faults ++ [c]), hot := d.pack.hot || c == 4 } }).setInt pgHup 1

theorem packFaultOp_latches (lo : 1 ≤ c) (hi : c ≤ 6) (on : d.isOn 4 = true)
    (hx : x = ((d.faultLatched c).errCnt pgHup).event e 0xA00 (d.faultLatched c).pack.faultCause (d.faultLatched c).pack.mv 0 0) :
    packFaultOp c e d = if d.pack.fault then x else (x.alarm e 3 1 x.pack.faultCause).wtCause e 2 := by
  subst hx
  unfold packFaultOp
  rw [if_neg (by simp [on]; omega)]
  rfl

theorem Pack.fault_iff {k : Pack} : k.fault = true ↔ k.faults ≠ [] := by simp [Pack.fault]

/-! ### The swap (R393) -/

theorem Drive.swapRequest_starts (v12 : d.pwr.v12 = true) (on : d.isOn 4 = true) (not1 : d.pack.swap ≠ 1) (not2 : d.pack.swap ≠ 2) :
    d.swapRequest e = (({ d with pack := { d.pack with swap := 1 } }).wtCause e 3).swapIsolate := if_neg (by simp [*])

theorem Drive.swapRequest_ignored (h : d.pwr.v12 = false ∨ d.isOn 4 = false ∨ d.pack.swap = 1 ∨ d.pack.swap = 2) :
    d.swapRequest e = d := if_pos (by simpa [or_assoc] using h)

theorem Drive.swapCancel_ends (h : d.pack.swap = 1 ∨ d.pack.swap = 2) :
    d.swapCancel e = (({ d with pack := { d.pack with swap := 0 } }).tryClose).wtEnd e := if_pos h

theorem Drive.swapCancel_ignored (not1 : d.pack.swap ≠ 1) (not2 : d.pack.swap ≠ 2) : d.swapCancel e = d := if_neg (by simp [*])

theorem Drive.swapIsolate_pack (step1 : d.pack.swap = 1) (safe : d.flag Reg.JRN_STAT 3 = true) :
    d.swapIsolate.pack = { d.pack with closed := false, swap := 2, test := .none } := by
  unfold Drive.swapIsolate
  rw [if_pos ⟨step1, safe⟩]
  simp only [Drive.setInt_pack]
  split_ifs
  · rw [Drive.setInt_pack]
  · rfl

theorem hupSwapW_other (one : bits v 1 0 ≠ 1) (two : bits v 1 0 ≠ 2) : hupSwapW v e d = d := by
  unfold hupSwapW
  rw [if_neg one, if_neg two, ite_self]

theorem hupSwapW_ignored (h : bits v 31 24 ≠ 0xA5 ∨ bits v 1 0 = 0 ∨ bits v 1 0 = 3) : hupSwapW v e d = d := by
  rcases h with key | zero | three
  · exact if_pos key
  · exact hupSwapW_other (by omega) (by omega)
  · exact hupSwapW_other (by omega) (by omega)

theorem hupSwapW_request (key : bits v 31 24 = 0xA5) (op : bits v 1 0 = 1) : hupSwapW v e d = d.swapRequest e := by
  unfold hupSwapW
  rw [if_neg (by simp [key]), if_pos op]

theorem hupSwapW_cancel (key : bits v 31 24 = 0xA5) (op : bits v 1 0 = 2) : hupSwapW v e d = d.swapCancel e := by
  unfold hupSwapW
  rw [if_neg (by simp [key]), if_neg (by omega), if_pos op]

/-! ### The bay and the switch (R500, R501) -/

theorem packLatchCloseOp_closed (latched : d.pack.latched = true) : packLatchCloseOp e d = d := if_pos latched

theorem packLatchCloseOp_open (unlatched : d.pack.latched = false) (hx : x = { d with pack := { d.pack with latched := true } }) :
    packLatchCloseOp e d = if d.pack.det = false then x else if d.pack.refit then (x.tryClose).wtEnd e else (x.swapCancel e).tryClose := by
  subst hx
  unfold packLatchCloseOp
  rw [if_neg (by simp [unlatched])]
  simp only [Bool.not_eq_true']

theorem packLatchOpenOp_open (unlatched : d.pack.latched = false) : packLatchOpenOp e d = d := if_neg (by simp [unlatched])

/-- The conditions of R500 for the switch to close. -/
def Drive.mayClose (d : Drive) : Prop :=
  d.isOn 4 = true ∧ d.pack.det = true ∧ d.pack.recOk = true ∧ d.pack.latched = true ∧
    (d.pack.fault = false ∨ d.pack.faultCause = 4) ∧ (d.pack.swap ≠ 2 ∨ d.pack.refit = true)

theorem Drive.tryClose_closed_iff (isOpen : d.pack.closed = false) : d.tryClose.pack.closed = true ↔ d.mayClose := by
  have guard : (d.isOn 4 && !d.pack.closed && d.pack.det && d.pack.recOk && d.pack.latched && (!d.pack.fault || d.pack.faultCause == 4) &&
      (d.pack.swap != 2 || d.pack.refit)) = true ↔ d.mayClose := by
    simp [Drive.mayClose, isOpen, and_assoc]
  unfold Drive.tryClose
  by_cases may : d.mayClose
  · rw [if_pos (guard.2 may), Drive.setInt_pack]
    simp only [may, iff_true]
    split_ifs <;> rfl
  · rw [if_neg (mt guard.1 may)]
    simp [may, isOpen]

theorem Drive.expose_pack : (d.expose e c).pack = d.pack := by
  unfold Drive.expose
  dsimp only
  split
  · rfl
  · rw [Drive.event_pack, Drive.setInt_pack, Drive.poke_pack]

theorem Drive.enterWt_pack : d.enterWt.pack = d.pack := by
  rw [Drive.enterWt_eq]
  split_ifs
  · rw [Drive.setInt_pack, Drive.poke_pack]
  · rfl

theorem Drive.wtCause_pack : (d.wtCause e c).pack = d.pack := by
  unfold Drive.wtCause
  dsimp only
  split_ifs <;> simp only [Drive.expose_pack, Drive.enterWt_pack, Drive.errCnt_pack, Drive.setInt_pack]

theorem Drive.openSwitch_closed : (d.openSwitch e).pack.closed = false := by
  unfold Drive.openSwitch
  split_ifs with connected
  · simp [Drive.wtCause_pack]
  · simpa using connected

/-- Settles O54: one equation per case of each operation on the pack. -/
theorem holdUpPack : Obligations.HoldUpPack := by
  refine ⟨?_, ?_, fun s => gives_runOp rfl rfl, ?_, ?_, ?_, fun s => gives_runOp rfl rfl, ?_, ?_, ?_, ?_, ?_⟩
  · refine fun s mv => ⟨fun off => gives_runOp rfl (congrArg (ledgerSp s.env) (reserveMeasureOp_disconnected off)), ?_⟩
    rintro d1 d2 d3 on connected rfl rfl rfl
    exact gives_runOp rfl (congrArg (ledgerSp s.env) (reserveMeasureOp_connected on connected))
  · refine fun d e => ⟨Drive.dueTest_disconnected, fun on connected => ⟨fun demand => ?_, fun free => ⟨fun noFlush still => ?_, fun other => ?_⟩⟩⟩
    · exact ⟨Drive.dueTest_waits on connected demand, Drive.dueTest_kept on connected demand⟩
    · exact (Drive.dueTest_free on connected free).trans (Drive.startTest_connected on connected noFlush still)
    · exact (Drive.dueTest_free on connected free).trans (Drive.startTest_other other)
  · rintro s t p arb v d hw rfl
    exact gives_hook rfl hw rfl (hook_HUP_MEAS_CTL ..)
  · refine fun s c r => ⟨fun still => gives_runOp rfl (packTestDoneOp_idle still), fun k d running hd => ?_⟩
    exact gives_runOp rfl (packTestDoneOp_running running hd)
  · refine fun s c => ⟨fun h => gives_runOp rfl (packFaultOp_ignored h), ?_⟩
    rintro d x lo hi on rfl hx
    have latches := packFaultOp_latches lo hi on hx
    exact ⟨fun stood => gives_runOp rfl (latches.trans (if_pos (Pack.fault_iff.2 stood))),
      fun none => gives_runOp rfl (latches.trans (if_neg (by simp [Pack.fault_iff, none])))⟩
  · rintro s t p arb v d hw rfl row hrow
    have acts {x : Drive} (hd : hupSwapW v s.env (stored t p Reg.HUP_SWAP v) = x) : Gives (row p v arb) s (x.accessed s p) := by
      simp only [List.mem_cons, List.not_mem_nil, or_false] at hrow
      obtain rfl | rfl := hrow <;> exact gives_hook rfl hw rfl ((hook_HUP_SWAP ..).trans hd)
    refine ⟨fun none => acts (hupSwapW_ignored none), fun key op => ⟨fun v12 on not1 not2 => ?_, fun h => ?_⟩,
      fun key op => ⟨fun h => ?_, fun not1 not2 => ?_⟩⟩
    · exact acts ((hupSwapW_request key op).trans (Drive.swapRequest_starts v12 on not1 not2))
    · exact acts ((hupSwapW_request key op).trans (Drive.swapRequest_ignored h))
    · exact acts ((hupSwapW_cancel key op).trans (Drive.swapCancel_ends h))
    · exact acts ((hupSwapW_cancel key op).trans (Drive.swapCancel_ignored not1 not2))
  · exact fun d => ⟨fun ⟨step1, safe⟩ => Drive.swapIsolate_pack step1 safe, fun other => if_neg other⟩
  · exact fun s rec mv => ⟨fun det => gives_runOp rfl (if_pos det), fun empty => gives_runOp rfl (if_neg (by simp [empty]))⟩
  · refine fun s => ⟨fun empty => gives_runOp rfl (if_neg (by simp [empty])), fun det => gives_runOp rfl (if_pos det),
      fun isOpen => gives_runOp rfl (packLatchOpenOp_open isOpen), ?_, fun latched => gives_runOp rfl (packLatchCloseOp_closed latched), ?_⟩
    · rintro d rfl latched
      exact gives_runOp rfl (if_pos latched)
    · intro d hd unlatched
      have closes := packLatchCloseOp_open (e := s.env) unlatched hd
      refine ⟨fun empty => gives_runOp rfl (closes.trans (if_pos empty)), fun det refit => ?_, fun det same => ?_⟩
      · exact gives_runOp rfl (closes.trans ((if_neg (by simp [det])).trans (if_pos refit)))
      · exact gives_runOp rfl (closes.trans ((if_neg (by simp [det])).trans (if_neg (by simp [same]))))
  · exact fun d e => ⟨Drive.tryClose_closed_iff, Drive.openSwitch_closed⟩

end Sys2Proof.Machine
end

section
/-! PROOFS. Chapter 11 (11_energy_power.md): credit, grants, and the power states IDLE and Fawn (R386, R388, R395 to R398). One equation
for each case of an operation. -/

namespace Sys2Proof.Machine

variable {d : Drive} {e : Env} {v : Word} {src : Nat}

/-! ### Credit and grants (R386, R388) -/

theorem Drive.debit_credit_ge (c : Nat) : -(d.creditCap : Int) ≤ (d.debit c).nrg.credit := le_max_right _ _

theorem Drive.refill_credit_le (ms : Nat) : (d.refill ms).nrg.credit ≤ (d.creditCap : Int) := min_le_right _ _

theorem chainLeaseExpiryOp_kept (h : d.nrg.chainGrant = 0 ∨ d.fld Reg.NRG_ALLOT_CTL 7 0 = 0) : chainLeaseExpiryOp e d = d := if_pos h

theorem chainLeaseExpiryOp_lapses (granted : d.nrg.chainGrant ≠ 0) (leased : d.fld Reg.NRG_ALLOT_CTL 7 0 ≠ 0) :
    chainLeaseExpiryOp e d = (d.setGrants fun n => { n with chainGrant := 0 }).setInt pgNrg 4 := if_neg (by simp [granted, leased])

/-! ### IDLE (R395) -/

/-- R395's conditions for the entry to IDLE. -/
def Drive.mayIdle (d : Drive) (e : Env) : Prop :=
  d.pwr.ps = .active ∧ d.pwr.readReady = true ∧ d.jrn.flush = none ∧ d.fld Reg.NRG_PS_CTL 15 0 ≠ 0 ∧
    d.quiet = true ∧ d.drainsLeft = false ∧ (∀ g, g < 32 → d.gcLevel e g = 0) ∧ d.med.rebuilds = [] ∧
    (∀ x ∈ d.med.dies, x.levelling = false) ∧ d.ckptDue = false

theorem idleEntryOp_guard : (!(d.pwr.ps == .active && d.pwr.readReady && d.jrn.flush.isNone && d.fld Reg.NRG_PS_CTL 15 0 != 0 && d.quiet &&
    !d.drainsLeft && (List.range 32).all (fun g => d.gcLevel e g == 0) && d.med.rebuilds.isEmpty &&
    d.med.dies.all (fun x => !x.levelling) && !d.ckptDue)) = true ↔ ¬d.mayIdle e := by
  rw [Bool.not_eq_true', Bool.eq_false_iff, not_iff_not]
  simp only [Drive.mayIdle, Bool.and_eq_true, and_assoc, beq_iff_eq, bne_iff_ne, Option.isNone_iff_eq_none, Bool.not_eq_true',
    List.all_eq_true, List.mem_range, List.isEmpty_iff]

theorem idleEntryOp_kept (no : ¬d.mayIdle e) : idleEntryOp e d = d := if_pos (idleEntryOp_guard.2 no)

theorem idleEntryOp_enters (may : d.mayIdle e) : idleEntryOp e d =
    ((List.range 8).map (20 + ·)).foldl (fun (d : Drive) k => d.disable e k false)
      ([7, 8, 9].foldl (fun d k => d.disable e k true) (d.setPs .idle)) := if_neg (mt idleEntryOp_guard.1 (not_not_intro may))

/-! ### Fawn entry (R396) -/

/-- R396's conditions for Fawn entry. -/
def Drive.mayEnterFawn (d : Drive) : Prop :=
  (d.pwr.ps = .active ∨ d.pwr.ps = .idle) ∧ d.pwr.readReady = true ∧ d.pwr.v12 = true ∧ d.jrn.flush = none

theorem Drive.enterFawn_eq [Decidable d.mayEnterFawn] :
    d.enterFawn = if d.mayEnterFawn then ({ d with pwr := { d.pwr with fawnStep := 2 } }).setPs .fawnEntry else d := by
  unfold Drive.enterFawn Drive.mayEnterFawn
  simp only [Bool.and_eq_true, Bool.or_eq_true, beq_iff_eq, Option.isNone_iff_eq_none, and_assoc]
  congr

theorem Drive.cancelFawn_other (h : d.pwr.ps ≠ .fawnEntry) : d.cancelFawn e = d := if_neg h

theorem Drive.cancelFawn_entering (h : d.pwr.ps = .fawnEntry) : d.cancelFawn e =
    activeDomains.foldl (fun (d : Drive) k => d.enable e k) (({ d with pwr := { d.pwr with fawnStep := 0 } }).setPs .active) := if_pos h

theorem Drive.wake_fawnEntry (h : d.pwr.ps = .fawnEntry) : d.wake e src = d.cancelFawn e := by
  unfold Drive.wake
  rw [h]

theorem psCmdW_other (one : bits v 1 0 ≠ 1) (two : bits v 1 0 ≠ 2) : psCmdW v e d = d := by
  unfold psCmdW
  rw [if_neg one, if_neg two, ite_self]

theorem psCmdW_ignored (h : bits v 31 24 ≠ 0xA5 ∨ bits v 1 0 = 0 ∨ bits v 1 0 = 3) : psCmdW v e d = d := by
  rcases h with key | zero | three
  · exact if_pos key
  · exact psCmdW_other (by omega) (by omega)
  · exact psCmdW_other (by omega) (by omega)

theorem psCmdW_enter (key : bits v 31 24 = 0xA5) (op : bits v 1 0 = 1) : psCmdW v e d =
    if d.upd.st = .activating ∧ d.upd.out.isSome then { d with upd := { d.upd with fawnAsked := true } } else d.enterFawn := by
  unfold psCmdW
  rw [if_neg (by simp [key]), if_pos op]
  simp only [Bool.and_eq_true, decide_eq_true_eq]

theorem psCmdW_cancel (key : bits v 31 24 = 0xA5) (op : bits v 1 0 = 2) :
    psCmdW v e d = ({ d with upd := { d.upd with fawnAsked := false } }).cancelFawn e := by
  unfold psCmdW
  rw [if_neg (by simp [key]), if_neg (by omega), if_pos op]

theorem fawnIdleTimeoutOp_idle (idle : d.pwr.ps = .idle) (set : d.fld Reg.NRG_PS_CTL 31 16 ≠ 0) : fawnIdleTimeoutOp e d = d.enterFawn :=
  if_pos (by simp [idle, set])

theorem fawnIdleTimeoutOp_kept (h : d.pwr.ps ≠ .idle ∨ d.fld Reg.NRG_PS_CTL 31 16 = 0) : fawnIdleTimeoutOp e d = d :=
  if_neg (by rcases h with h | h <;> simp [h])

/-! ### Fawn reached (R396) -/

/-- Fawn entry has more to do first: its grace, a drain, a checkpoint or a band half moved. -/
def Drive.fawnWaits (d : Drive) : Prop :=
  d.pwr.fawnStep ≠ 3 ∨ d.drainsLeft = true ∨ d.jrn.ckptOpen.isSome ∨ ∃ b ∈ d.med.bands, b.st = .moving

theorem fawnReachedOp_guard : (d.pwr.fawnStep ≠ 3 || d.drainsLeft || d.jrn.ckptOpen.isSome || d.med.bands.any (fun b => b.st == .moving)) = true ↔
    d.fawnWaits := by
  simp only [Drive.fawnWaits, Bool.or_eq_true, decide_eq_true_eq, List.any_eq_true, beq_iff_eq, or_assoc]

theorem fawnReachedOp_waits (waits : d.fawnWaits) : fawnReachedOp e d = d := if_pos (fawnReachedOp_guard.2 waits)

theorem fawnReachedOp_goes (free : ¬d.fawnWaits) :
    fawnReachedOp e d = if (d.startCkpt e).jrn.ckptOpen.isSome then d.startCkpt e else (d.startCkpt e).fawnDown e :=
  if_neg (mt fawnReachedOp_guard.1 free)

/-- A domain's step into its Fawn state: AON, WAKE and RECORD and what is down already stay. -/
def Drive.fawnStepDown (e : Env) (k : Nat) (d : Drive) : Drive :=
  if k = 0 ∨ k = 1 ∨ k = 2 ∨ d.pdSt k = .off ∨ d.pdSt k = .retain then d
  else ((if d.isOn k then d.leaveOn e k else d).shutdownSave e k).pdDown k (k == 6 || k == 11)

theorem Drive.fawnDown_eq : d.fawnDown e =
    ((pdOrder.foldr (Drive.fawnStepDown e) { d.saveLog with nrg := { d.saveLog.nrg with writeReady := false } }).enable e 1).onPwr
      fun p => { p with fawnStep := 0, ps := .fawn } := by
  unfold Drive.fawnDown Drive.fawnStepDown
  simp only [Bool.or_eq_true, decide_eq_true_eq, beq_iff_eq, or_assoc]

/-! ### The wake timer (R398) -/

theorem wakeTimerExpiryOp_kept (h : d.pwr.ps ≠ .fawn ∨ d.reg Reg.AON_WAKE_TIMER = 0) : wakeTimerExpiryOp e d = d :=
  if_neg (by rcases h with h | h <;> simp [h])

theorem Drive.wake_fawn (h : d.pwr.ps = .fawn) : d.wake e src =
    (activeDomains.foldl (fun (d : Drive) k => d.enable e k)
      { (((d.setReg Reg.AON_WAKE_STAT (word src)).bumpOpen Reg.AON_WAKES 1).setInt pgAon 0).disarm.setPs .waking with
        upd := d.upd.interrupted }).finishWake := by
  unfold Drive.wake
  simp only [h, Drive.setInt_upd, Drive.bumpOpen_upd, Drive.setReg_upd]

theorem wakeTimerExpiryOp_wakes (h : d.pwr.ps = .fawn) (runs : d.reg Reg.AON_WAKE_TIMER ≠ 0) : wakeTimerExpiryOp e d = d.wake e 4 :=
  if_pos (Bool.and_eq_true_iff.2 ⟨decide_eq_true h, bne_iff_ne.2 runs⟩)

/-- Settles O55: the bounds of the credit, and one equation per case of each operation. That Fawn entry needs read-ready is the model's
reading (log entry 57), and that work waits for credit (log entry 63). -/
theorem powerStates : Obligations.PowerStates := by
  refine ⟨fun d c ms => ⟨Drive.debit_credit_ge c, Drive.refill_credit_le ms⟩, ?_, fun s w => gives_runOp rfl rfl, ?_, ?_, ?_, ?_, ?_⟩
  · exact fun s => ⟨fun h => gives_runOp rfl (chainLeaseExpiryOp_kept h),
      fun granted leased => gives_runOp rfl (chainLeaseExpiryOp_lapses granted leased)⟩
  · rintro s ok rfl
    exact ⟨fun no => gives_runOp rfl (idleEntryOp_kept no), fun may => gives_runOp rfl (idleEntryOp_enters may)⟩
  · rintro d ok rfl
    classical
    exact ⟨fun may => Drive.enterFawn_eq.trans (if_pos may), fun no => Drive.enterFawn_eq.trans (if_neg no)⟩
  · exact fun d e src => ⟨Drive.cancelFawn_other, fun entering => ⟨Drive.wake_fawnEntry entering, Drive.cancelFawn_entering entering⟩⟩
  · rintro s t p arb v d hw rfl row hrow
    have acts {x : Drive} (hd : psCmdW v s.env (stored t p Reg.NRG_PS_CMD v) = x) : Gives (row p v arb) s (x.accessed s p) := by
      simp only [List.mem_cons, List.not_mem_nil, or_false] at hrow
      obtain rfl | rfl := hrow <;> exact gives_hook rfl hw rfl ((hook_NRG_PS_CMD ..).trans hd)
    exact ⟨fun none => acts (psCmdW_ignored none), fun key op out => acts ((psCmdW_enter key op).trans (if_pos out)),
      fun key op fit => acts ((psCmdW_enter key op).trans (if_neg fit)), fun key op => acts (psCmdW_cancel key op)⟩
  · intro s
    refine ⟨fun idle set => gives_runOp rfl (fawnIdleTimeoutOp_idle idle set), fun h => gives_runOp rfl (fawnIdleTimeoutOp_kept h),
      fun step2 => gives_runOp rfl (if_pos step2), fun other => gives_runOp rfl (if_neg other), ?_,
      fun h => gives_runOp rfl (wakeTimerExpiryOp_kept h), ?_⟩
    · rintro wait d rfl rfl
      refine ⟨fun waits => gives_runOp rfl (fawnReachedOp_waits waits), fun free isOpen => ?_, fun free stands => ?_⟩
      · exact gives_runOp rfl ((fawnReachedOp_goes free).trans (if_pos isOpen))
      · exact gives_runOp rfl ((fawnReachedOp_goes free).trans ((if_neg (by simp [stands])).trans Drive.fawnDown_eq))
    · rintro d fawn runs rfl
      exact gives_runOp rfl ((wakeTimerExpiryOp_wakes fawn runs).trans (Drive.wake_fawn fawn))

end Sys2Proof.Machine
end

section
/-! PROOFS. Chapter 12 (12_herd_chain.md R406 to R422): the ring and its slots, the Lead Doe and its herd, enumerations and ticks. One
equation for each case of an operation. -/

namespace Sys2Proof.Machine

variable {d x : Drive} {e : Env} {v : Word} {f g : Frame} {good : Bool}

/-! ### Frames on the ring (R411, R412) -/

/-- The frame `g` goes out on the ring. -/
def Drive.ringOut (d : Drive) (g : Frame) : Drive := { d with out := d.out ++ [.chain g.bytes true] }

theorem Drive.chainOut_good (ring : d.inRing = true) : d.chainOut g true = d.ringOut g := if_pos ring

@[simp] theorem Drive.chainOut_chn : (d.chainOut g good).chn = d.chn := by
  unfold Drive.chainOut
  split_ifs <;> rfl

/-- A change of the chain interface that leaves CHN_ACTIVE leaves the drive where it is. -/
theorem Drive.inRing_onChn {c : Chn → Chn} (same : (c d.chn).active = d.chn.active) : (d.onChn c).inRing = d.inRing :=
  congrArg (d.isOn 0 && ·) same

theorem Drive.forward_inRing (ring : d.inRing = true) :
    d.forward f = d.ringOut (if d.chn.role = .lead then (if f.lap then emptyFrame else { f.hop with lap := true }) else f.hop) := by
  unfold Drive.forward
  split_ifs <;> exact Drive.chainOut_good ring

@[simp] theorem Drive.forward_chn : (d.forward f).chn = d.chn := by
  unfold Drive.forward
  split_ifs <;> exact Drive.chainOut_chn

theorem Drive.takeOwn_inRing (ring : d.inRing = true) :
    d.takeOwn = ({ d with chn := { d.chn with onRing := d.chn.onRing - 1 } } : Drive).ringOut emptyFrame := if_pos ring

theorem Drive.ownFrame_iff : d.ownFrame f = true ↔ f.src = d.chn.addrHalf ∧ d.chn.onRing ≠ 0 := by
  unfold Drive.ownFrame
  rw [Bool.and_eq_true, beq_iff_eq, bne_iff_ne]

theorem Drive.relay_bypassed (out : d.inRing = false) : d.relay f = d := if_pos (by simp [out])

theorem Drive.relay_own (ring : d.inRing = true) (own : d.ownFrame f = true) : d.relay f = d.takeOwn := by
  unfold Drive.relay
  rw [if_neg (by simp [ring]), if_pos own]

theorem Drive.relay_other (ring : d.inRing = true) (other : d.ownFrame f = false) :
    d.relay f = if f.bcast = false ∧ d.chn.addr.isSome ∧ f.dst = d.chn.addrHalf then d.ringOut emptyFrame else d.forward f := by
  unfold Drive.relay
  rw [if_neg (by simp [ring]), if_neg (by simp [other]), Drive.chainOut_good ring]
  simp only [Bool.and_eq_true, Bool.not_eq_true', beq_iff_eq, and_assoc]

/-! ### Joining and leaving the ring (R407) -/

theorem Drive.goActive_kept (h : d.chn.active = true ∨ d.chn.lock = false ∨ d.flag Reg.CHN_CTL 0 = false) : d.goActive e = d :=
  if_pos (by simpa [or_assoc] using h)

theorem Drive.goActive_joins (out : d.chn.active = false) (lock : d.chn.lock = true) (enabled : d.flag Reg.CHN_CTL 0 = true) :
    d.goActive e =
      (d.onChn fun c => { c with active := true, tickFrom := if c.lastTick.isNone then e.clk.optime else c.tickFrom }).chainIsReady e :=
  if_neg (by simp [*])

/-! ### An enumeration's step (R417) -/

/-- A drive without room for an address becomes a Kid. -/
theorem Drive.takeAddr_none {y : Enum} : (d.takeAddr e y none).chn.addr = none ∧ (d.takeAddr e y none).chn.overflow = true := by
  unfold Drive.takeAddr
  dsimp only
  split_ifs
  · exact ⟨rfl, rfl⟩
  · rw [Drive.event_chn, Drive.setInt_chn]
    exact ⟨rfl, rfl⟩

theorem Drive.takeAddr_some {y : Enum} {sh sl : Nat} : (d.takeAddr e y (some (sh, sl))).chn.addr = some (BitVec.ofNat 14 (sh * 64 + sl)) ∧
    (d.takeAddr e y (some (sh, sl))).chn.stored = some (y.herd, sh, sl) ∧ (d.takeAddr e y (some (sh, sl))).chn.overflow = false := by
  unfold Drive.takeAddr
  dsimp only
  split_ifs
  · exact ⟨rfl, rfl, rfl⟩
  · rw [Drive.event_chn, Drive.setInt_chn]
    exact ⟨rfl, rfl, rfl⟩

/-- An enumeration as the drive takes it up: a drive at the start of a shelf, other than the Lead Doe, begins the next shelf. -/
def Enum.reached (y : Enum) (d : Drive) : Enum :=
  { y with
    shelf := if d.chn.role ≠ .lead ∧ d.pwr.seg = true then y.shelf + 1 else y.shelf
    last := if d.chn.role ≠ .lead ∧ d.pwr.seg = true then 0xFF else y.last }

/-- The enumeration with one more Kid. -/
def Enum.withKid (y : Enum) : Enum := { y with kids := y.kids + 1, flags := y.flags ||| 2 }

/-- The next slot of a shelf. -/
def Enum.want (y : Enum) : Nat := if y.last = 0xFF then 0 else y.last + 1

/-- The slot that the drive is given: its remembered one where no renumbering asks otherwise and it is not behind, or the next. -/
def Enum.slotFor (y : Enum) (d : Drive) : Nat :=
  match d.chn.stored with
  | some (h, sh, sl) => if y.flags % 2 = 0 ∧ h = y.herd ∧ sh = y.shelf ∧ y.want ≤ sl then sl else y.want
  | none => y.want

/-- The enumeration with one more drive, in slot `sl`. -/
def Enum.withDrive (y : Enum) (sl : Nat) : Enum := { y with last := sl, drives := y.drives + 1 }

theorem Enum.slotFor_eq {y : Enum} {slot : Nat}
    (h : (∃ sl, y.flags % 2 = 0 ∧ d.chn.stored = some (y.herd, y.shelf, sl) ∧ y.want ≤ sl ∧ slot = sl) ∨
      slot = y.want ∧ ∀ sl, y.flags % 2 = 0 → d.chn.stored = some (y.herd, y.shelf, sl) → sl < y.want) : y.slotFor d = slot := by
  unfold Enum.slotFor
  rcases h with ⟨sl, even, stored, fits, rfl⟩ | ⟨rfl, none⟩
  · rw [stored]
    exact if_pos ⟨even, rfl, rfl, fits⟩
  · split
    next stored =>
      refine if_neg ?_
      rintro ⟨even, rfl, rfl, fits⟩
      exact absurd (none _ even stored) (by omega)
    next => rfl

theorem Drive.enumStep_eq {y z : Enum} (hz : z = y.reached d) : d.enumStep e y =
    if 255 < z.shelf ∨ 63 < z.slotFor d then (z.withKid, d.takeAddr e z.withKid none)
    else (z.withDrive (z.slotFor d), d.takeAddr e (z.withDrive (z.slotFor d)) (some (z.shelf, z.slotFor d))) := by
  have taken : (if d.chn.role != .lead && d.pwr.seg then { y with shelf := y.shelf + 1, last := 0xFF } else y) = z := by
    subst hz
    unfold Enum.reached
    simp only [Bool.and_eq_true, bne_iff_ne]
    split_ifs <;> rfl
  unfold Drive.enumStep
  rw [taken]
  dsimp only
  by_cases far : 255 < z.shelf
  · rw [if_pos far, if_pos (.inl far)]
    rfl
  · rw [if_neg far]
    by_cases full : 63 < z.slotFor d
    · exact (if_pos full).trans (if_pos (.inr full)).symm
    · exact (if_neg full).trans (if_neg (not_or.2 ⟨far, full⟩)).symm

/-! ### Claims (R414) -/

/-- R414's conditions for a claim. -/
def Drive.claims (d : Drive) (e : Env) : Prop :=
  d.inRing = true ∧ d.pwr.lead = true ∧ d.flag Reg.CHN_CTL 1 = true ∧ d.chn.role ≠ .lead ∧
    d.chn.tickFrom + d.fld Reg.CHN_TIMERS 15 0 ≤ e.clk.optime ∧
    ∀ g, d.chn.gaveWay = some g → g + d.fld Reg.CHN_TIMERS 15 0 ≤ e.clk.optime

theorem claimTimerOp_guard : (!d.inRing || !d.candidate || d.chn.role == .lead || !d.mayClaim e) = true ↔ ¬d.claims e := by
  unfold Drive.claims Drive.candidate Drive.mayClaim
  rw [← not_iff_not, not_not, Bool.not_eq_true]
  simp only [Bool.or_eq_false_iff, Bool.not_eq_false', Bool.and_eq_true, decide_eq_true_eq, beq_eq_false_iff_ne, Option.all_eq_true,
    and_assoc]

theorem claimTimerOp_kept (no : ¬d.claims e) : claimTimerOp e d = d := if_pos (claimTimerOp_guard.2 no)

theorem claimTimerOp_claims (may : d.claims e) {h : Long} {ep : Nat} (identity : d.herdIdentity e = (h, ep))
    (hx : x = { d with chn := { d.chn with role := .claiming, slotted := false } }) :
    claimTimerOp e d = x.ringOut (x.chn.frame 0x01 true 0xFFFF (beBytes 8 e.fac.serial.toNat ++ beBytes 8 h.toNat ++ beBytes 8 ep)) := by
  subst hx
  unfold claimTimerOp
  rw [if_neg (mt claimTimerOp_guard.1 (not_not_intro may)), identity]
  exact Drive.chainOut_good may.1

theorem claimFrameOp_ignored (h : f.ty ≠ 0x01 ∨ d.inRing = false) : claimFrameOp f e d = d := if_pos (by simpa using h)

/-- A CLAIM in the ring meets the Lead Doe, a drive that is no candidate, or a candidate. -/
theorem claimFrameOp_inRing (ty : f.ty = 0x01) (ring : d.inRing = true) : claimFrameOp f e d =
    if d.chn.role = .lead then d.tickSend e
    else if d.candidate = false then d.ringOut f.hop
    else if f.at_ 8 8 = e.fac.serial.toNat then if f.hops ≠ 0 ∧ d.chn.role = .claiming then d.becomeLead e else d
    else if f.at_ 8 8 < e.fac.serial.toNat then
      (d.onChn fun c => { c with role := c.plain, gaveWay := some e.clk.optime }).ringOut f.hop
    else d := by
  unfold claimFrameOp
  rw [if_neg (by simp [ty, ring])]
  dsimp only
  rw [Drive.chainOut_good ring, Drive.chainOut_good ((Drive.inRing_onChn rfl).trans ring)]
  simp only [Bool.not_eq_true']

/-! ### Enumerations (R418 to R420) -/

theorem enumFrameOp_ignored (h : f.ty ≠ 0x02 ∨ d.inRing = false) : enumFrameOp f e d = d := if_pos (by simpa using h)

theorem enumFrameOp_lead (ty : f.ty = 0x02) (ring : d.inRing = true) (lead : d.chn.role = .lead) : enumFrameOp f e d = d.forward f := by
  unfold enumFrameOp
  rw [if_neg (by simp [ty, ring]), if_pos lead]

theorem enumFrameOp_passes (ty : f.ty = 0x02) (ring : d.inRing = true) (other : d.chn.role ≠ .lead) {y : Enum}
    (steps : (d.onChn fun c => { c with slotted := true }).enumStep e (enumOf f) = (y, x)) :
    enumFrameOp f e d = x.forward { f with body := padTo 52 y.body } := by
  unfold enumFrameOp
  rw [if_neg (by simp [ty, ring]), if_neg other, steps]

theorem enumReturnOp_ignored {ns : Nat} (h : f.ty ≠ 0x02 ∨ d.inRing = false ∨ d.chn.role ≠ .lead ∨ d.chn.enumOut = false ∨
    (enumOf f).round ≠ d.chn.round) : enumReturnOp f ns e d = d := if_pos (by simpa [or_assoc] using h)

theorem enumReturnOp_ends {ns : Nat} (ty : f.ty = 0x02) (ring : d.inRing = true) (lead : d.chn.role = .lead) (out : d.chn.enumOut = true)
    (round : (enumOf f).round = d.chn.round)
    (hx : x = ((((((d.takeOwn.onChn fun c => { c with enumOut := false, renumber := false }).setReg Reg.CHN_HERD_DRIVES
      (word ((enumOf f).drives % 2 ^ 17))).setReg Reg.CHN_HERD_KIDS (word ((enumOf f).kids % 2 ^ 17))).setReg Reg.CHN_HERD_SHELVES
        (word (((enumOf f).shelf + 1) % 512))).setReg Reg.CHN_RING_NS (word ns)).setInt pgChn 1)) :
    enumReturnOp f ns e d =
      (if bitN (enumOf f).flags 1 then x.event e 0xB01 (enumOf f).kids (enumOf f).round 0 0 else x).enumServe e := by
  subst hx
  exact if_neg (by simp [*])

theorem enumTimeoutOp_idle (h : d.chn.role ≠ .lead ∨ d.inRing = false ∨ d.chn.enumOut = false) : enumTimeoutOp e d = d :=
  if_neg (by rcases h with h | h | h <;> simp [h])

theorem enumTimeoutOp_resends (lead : d.chn.role = .lead) (ring : d.inRing = true) (out : d.chn.enumOut = true) :
    enumTimeoutOp e d = (d.onChn fun c => { c with onRing := c.onRing - 1, enumAt := some e.clk.optime }).enumSend e := if_pos (by simp [*])

theorem tickTimerOp_idle (h : d.chn.role ≠ .lead ∨ d.inRing = false) : tickTimerOp e d = d :=
  if_neg (by rcases h with h | h <;> simp [h])

theorem tickTimerOp_ticks (lead : d.chn.role = .lead) (ring : d.inRing = true) : tickTimerOp e d = (d.tickSend e).enumServe e :=
  if_pos (by simp [*])

/-- An enumeration is out, or one began within the last 100 ms. -/
def Drive.enumSoon (d : Drive) (e : Env) : Prop := d.chn.enumOut = true ∨ ∃ t, d.chn.enumAt = some t ∧ e.clk.optime < t + 100

theorem Drive.enumStart_idle {rn : Bool} (h : d.chn.role ≠ .lead ∨ d.inRing = false) : d.enumStart e rn = d := if_pos (by simpa using h)

theorem Drive.enumStart_soon {rn : Bool} (lead : d.chn.role = .lead) (ring : d.inRing = true) (soon : d.enumSoon e) : d.enumStart e rn =
    d.onChn fun c => { c with enumAsked := true, renumber := if c.enumOut then c.renumber else c.renumber || rn } := by
  unfold Drive.enumStart
  rw [if_neg (by simp [lead, ring])]
  refine if_pos ?_
  rcases soon with out | ⟨t, began, early⟩
  · simp [out]
  · simp [began, early]

theorem Drive.enumStart_starts {rn : Bool} (lead : d.chn.role = .lead) (ring : d.inRing = true) (late : ¬d.enumSoon e) :
    d.enumStart e rn = (d.onChn fun c => { c with
      round := c.round + 1, enumOut := true, enumAsked := false, renumber := rn || (c.enumAsked && c.renumber)
      enumAt := some e.clk.optime }).enumSend e := by
  unfold Drive.enumStart
  rw [if_neg (by simp [lead, ring])]
  refine if_neg fun soon => late ?_
  unfold Drive.enumSoon
  cases began : d.chn.enumAt <;> simpa [began] using soon

/-- A Kid asks to be addressed where no overflow has left it and no request of its own waits (R419). -/
def Drive.asksAddr (d : Drive) : Prop :=
  d.inRing = true ∧ d.chn.addr = none ∧ d.chn.role ≠ .lead ∧ d.chn.overflow = false ∧ ∀ x ∈ d.chn.txq, x.1.ty ≠ 0x03

theorem enumReqTimerOp_guard : (d.inRing && d.chn.addr.isNone && d.chn.role != .lead && !d.chn.overflow &&
    !(d.chn.txq.any fun x => x.1.ty == 0x03)) = true ↔ d.asksAddr := by
  simp only [Drive.asksAddr, Bool.and_eq_true, Bool.not_eq_true', Option.isNone_iff_eq_none, bne_iff_ne, List.any_eq_false, beq_iff_eq,
    and_assoc]

theorem enumReqFrameOp_ignored (h : f.ty ≠ 0x03 ∨ d.inRing = false) : enumReqFrameOp f e d = d := if_pos (by simpa using h)

theorem enumReqFrameOp_asks (ty : f.ty = 0x03) (ring : d.inRing = true) : enumReqFrameOp f e d = (d.relay f).enumStart e false :=
  if_neg (by simp [ty, ring])

/-! ### Slots (R412) -/

/-- The drive has seen an EMPTY slot, and `n` frames of its own have gone. -/
def Drive.slotSeen (d : Drive) (n : Nat) : Drive := d.onChn fun c => { c with slotted := true, onRing := c.onRing - n }

theorem emptySlotOp_ignored {n : Nat} (h : f.ty ≠ 0x00 ∨ d.inRing = false) : emptySlotOp f n e d = d := if_pos (by simpa using h)

theorem emptySlotOp_passes {n : Nat} (ty : f.ty = 0x00) (ring : d.inRing = true) (h : d.chn.txq = [] ∨ 4 ≤ d.chn.onRing - n) :
    emptySlotOp f n e d = (d.slotSeen n).ringOut emptyFrame := by
  have out : (d.slotSeen n).chainOut emptyFrame true = _ := Drive.chainOut_good ((Drive.inRing_onChn rfl).trans ring)
  unfold emptySlotOp
  rw [if_neg (by simp [ty, ring])]
  dsimp only
  split
  next g src rest waits =>
    have crowded : 4 ≤ d.chn.onRing - n := h.resolve_left fun empty => by cases waits.symm.trans empty
    exact (if_pos crowded).trans out
  next => exact out

/-- The register status of the window that a sent frame came from. -/
def Drive.sentFrom (d : Drive) : TxSrc → Drive
  | .own => d
  | .window p => d.txPend p

theorem emptySlotOp_takes {n : Nat} {src : TxSrc} {rest : List (Frame × TxSrc)} (ty : f.ty = 0x00) (ring : d.inRing = true)
    (waits : d.chn.txq = (g, src) :: rest) (room : d.chn.onRing - n < 4)
    (hx : x = ((d.slotSeen n).onChn fun c => { c with txq := rest, onRing := c.onRing + 1 }).ringOut g) :
    emptySlotOp f n e d = x.sentFrom src := by
  have out : ((d.slotSeen n).onChn fun c => { c with txq := rest, onRing := c.onRing + 1 }).chainOut g true = x :=
    (Drive.chainOut_good ((Drive.inRing_onChn rfl).trans ((Drive.inRing_onChn rfl).trans ring))).trans hx.symm
  have queue : (d.slotSeen n).chn.txq = (g, src) :: rest := waits
  unfold emptySlotOp
  rw [if_neg (by simp [ty, ring])]
  unfold Drive.slotSeen at *
  dsimp only
  rw [queue]
  refine (if_neg room.not_ge).trans ?_
  rw [out]
  cases src <;> rfl

/-! ### Ticks (R415, R421, R422) -/

theorem tickFrameOp_ignored (h : f.ty ≠ 0x04 ∨ d.hears = false) : tickFrameOp f e d = d := if_pos (by simpa using h)

theorem tickFrameOp_own (ty : f.ty = 0x04) (hears : d.hears = true) (own : f.at_ 8 8 = e.fac.serial.toNat) :
    tickFrameOp f e d = if d.inRing then d.takeOwn else d := by
  unfold tickFrameOp
  rw [if_neg (by simp [ty, hears])]
  exact if_pos own

theorem tickFrameOp_rival (ty : f.ty = 0x04) (hears : d.hears = true) (lead : d.chn.role = .lead)
    (higher : e.fac.serial.toNat < f.at_ 8 8) : tickFrameOp f e d = (d.chainOut emptyFrame true).enumStart e false := by
  unfold tickFrameOp
  rw [if_neg (by simp [ty, hears])]
  exact (if_neg higher.ne').trans (if_pos (by simp [lead, higher]))

/-- The drive notes a TICK of the Lead Doe, which ends a role of its own, and passes it on. -/
def Drive.tickHeard (d : Drive) (e : Env) (f : Frame) : Drive :=
  (d.onChn fun c => { c with
    role := c.plain, slotted := true, enumOut := false, enumAsked := false
    lastTick := some (BitVec.ofNat 64 (f.at_ 16 8), f.at_ 24 8, e.clk.optime), tickFrom := e.clk.optime, gaveWay := none }).forward f

/-- The drive has an address in the herd of the TICK. -/
def Drive.inHerdOf (d : Drive) (f : Frame) : Prop :=
  d.chn.addr.isSome ∧ ∃ sh sl, d.chn.stored = some (BitVec.ofNat 64 (f.at_ 16 8), sh, sl)

theorem tickFrameOp_foreign [Decidable (d.inHerdOf f)] (ty : f.ty = 0x04) (hears : d.hears = true)
    (foreign : f.at_ 8 8 ≠ e.fac.serial.toNat) (yields : ¬(d.chn.role = .lead ∧ e.fac.serial.toNat < f.at_ 8 8))
    (hx : x = d.tickHeard e f) :
    tickFrameOp f e d = if d.inHerdOf f then x.takeTick (f.at_ 24 8) (f.at_ 8 8) f.hops.toNat else x := by
  have chn : (d.tickHeard e f).chn = _ := Drive.forward_chn
  have addr : x.chn.addr = d.chn.addr := by rw [hx, chn]; rfl
  have store : x.chn.stored = d.chn.stored := by rw [hx, chn]; rfl
  unfold tickFrameOp
  rw [if_neg (by simp [ty, hears])]
  dsimp only
  rw [if_neg foreign, if_neg (by simpa using yields)]
  unfold Drive.tickHeard at hx
  rw [← hx, addr, store]
  cases named : d.chn.addr with
  | none => exact (if_neg (by simp [Drive.inHerdOf, named])).symm
  | some a =>
    cases known : d.chn.stored with
    | none => exact (if_neg (by simp [Drive.inHerdOf, known])).symm
    | some place =>
      have same : d.inHerdOf f ↔ place.1 = BitVec.ofNat 64 (f.at_ 16 8) := by simp [Drive.inHerdOf, named, known, Prod.ext_iff]
      simp only [same]

/-- The drive's ring has no slots once its TICK is lost. -/
def Drive.unslotted (d : Drive) : Drive := d.onChn fun c => { c with slotted := false }

theorem tickLossOp_other (other : d.chn.role ≠ .lead) : tickLossOp e d = if d.chn.addr.isSome && !d.chn.herdLost then
    ((d.unslotted.onChn fun c => { c with herdLost := true }).setInt pgChn 2).event e 0xB02 (d.wide Reg.CHN_EPOCH) 0 0 0
    else d.unslotted := if_neg other

theorem tickLossOp_first (other : d.chn.role ≠ .lead) (named : d.chn.addr.isSome) (fresh : d.chn.herdLost = false) : tickLossOp e d =
    ((d.unslotted.onChn fun c => { c with herdLost := true }).setInt pgChn 2).event e 0xB02 (d.wide Reg.CHN_EPOCH) 0 0 0 :=
  (tickLossOp_other other).trans (if_pos (by simp [named, fresh]))

theorem tickLossOp_again (other : d.chn.role ≠ .lead) (h : d.chn.addr = none ∨ d.chn.herdLost = true) : tickLossOp e d = d.unslotted :=
  (tickLossOp_other other).trans (if_neg (by rcases h with h | h <;> simp [h]))

/-! ### Unknown and bad frames (R410, R411) -/

theorem unknownFrameOp_counts (hears : d.hears = true) (unknown : frameKnown f.ty = false) :
    unknownFrameOp f e d = (d.bumpOpen Reg.CHN_RX_UNKNOWN 1).forward f := if_neg (by simp [hears, unknown])

theorem unknownFrameOp_ignored (h : d.hears = false ∨ frameKnown f.ty = true) : unknownFrameOp f e d = d :=
  if_pos (by rcases h with h | h <;> simp [h])

/-- The frame's bytes do not arrive well. -/
def badFrame (bs : List Byte) (endBad : Bool) : Prop :=
  endBad = true ∨ bs.length ≠ 64 ∨ (crc32c (bs.take 60)).toNat ≠ beAt bs 60 4

theorem badFrame_iff {bs : List Byte} {endBad : Bool} :
    (endBad || bs.length != 64 || (crc32c (bs.take 60)).toNat != beAt bs 60 4) = true ↔ badFrame bs endBad := by
  simp only [badFrame, Bool.or_eq_true, bne_iff_ne, or_assoc]

theorem badChainFrameOp_ignored {bs : List Byte} {endBad : Bool} (h : ¬(badFrame bs endBad ∧ d.hears = true)) :
    badChainFrameOp bs endBad e d = d := by
  refine if_pos ?_
  rw [← badFrame_iff] at h
  rw [Bool.or_eq_true, Bool.not_eq_true', Bool.not_eq_true', ← Bool.not_eq_true, ← Bool.not_eq_true]
  exact not_and_or.1 h

theorem badChainFrameOp_counts {bs : List Byte} {endBad : Bool} (bad : badFrame bs endBad) (hears : d.hears = true)
    (hx : x = (d.bumpOpen Reg.CHN_CRC_BAD 1).errCnt pgChn) : badChainFrameOp bs endBad e d =
      if d.chn.role = .lead then x.chainOut emptyFrame true else x.chainOut (frameOf bs).hop false := by
  subst hx
  unfold badChainFrameOp
  rw [if_neg (by rw [badFrame_iff.2 bad, hears]; decide)]
  rfl

/-- Settles O57: one equation per case of each operation on the ring and the herd. What a bypassed drive hears, a Lead Doe without lock,
the drive's own frame, a remembered request and a foreign ENUM are the model's choices (log entries 67, 68, 71, 72, 73), and when a
candidate that gave way claims again (log entry 170). -/
theorem ringAndHerd : Obligations.RingAndHerd := by
  refine ⟨?_, ?_, ?_, ?_, ?_, ?_, ?_, ?_, ?_, ?_, ?_, ?_, ?_, ?_⟩
  · rintro d f put rfl
    refine ⟨Drive.relay_bypassed, fun ring src out => ?_, fun ring other => ?_⟩
    · exact (Drive.relay_own ring (Drive.ownFrame_iff.2 ⟨src, out⟩)).trans (Drive.takeOwn_inRing ring)
    · have relays := Drive.relay_other ring (Bool.eq_false_iff.2 (mt Drive.ownFrame_iff.1 other))
      exact ⟨fun uni named mine => relays.trans (if_pos ⟨uni, named, mine⟩),
        fun on => relays.trans ((if_neg on).trans (Drive.forward_inRing ring))⟩
  · rintro d e x sh last want slot r rfl rfl rfl rfl hslot
    have given : (x.reached d).slotFor d = slot := Enum.slotFor_eq hslot
    have steps := Drive.enumStep_eq (d := d) (e := e) (y := x) rfl
    rw [given] at steps
    refine ⟨fun full => ?_, fun shelf room => ?_⟩
    · rw [steps.trans (if_pos full)]
      exact ⟨rfl, Drive.takeAddr_none⟩
    · rw [steps.trans (if_neg (not_or.2 ⟨shelf.not_gt, room.not_gt⟩))]
      exact ⟨rfl, Drive.takeAddr_some⟩
  · exact fun s => ⟨fun off => ⟨gives_runOp rfl (if_pos (by simp [off])), gives_runOp rfl (if_pos (by simp [off]))⟩,
      fun on => ⟨gives_runOp rfl (if_neg (by simp [on])), gives_runOp rfl (if_neg (by simp [on]))⟩⟩
  · exact fun d e => ⟨rfl, Drive.goActive_kept, Drive.goActive_joins⟩
  · rintro s t p arb v d hw rfl
    exact gives_hook rfl hw rfl (hook_CHN_CTL ..)
  · rintro s may rfl
    refine ⟨fun no => gives_runOp rfl (claimTimerOp_kept no), fun h ep d may identity hd => ?_⟩
    exact gives_runOp rfl (claimTimerOp_claims (d := s.d) (e := s.env) may identity hd)
  · refine fun s f => ⟨fun h => gives_runOp rfl (claimFrameOp_ignored h), fun ty ring => ?_⟩
    have meets := claimFrameOp_inRing (e := s.env) ty ring
    refine ⟨fun lead => gives_runOp rfl (meets.trans (if_pos lead)), fun other no => ?_, fun other cand lower => ?_,
      fun claiming cand own round => ?_, fun other cand own still => ?_, fun other cand higher => ?_⟩
    · exact gives_runOp rfl (meets.trans ((if_neg other).trans (if_pos no)))
    · rw [if_neg other, if_neg (by simp [cand]), if_neg lower.ne, if_pos lower] at meets
      exact gives_runOp rfl meets
    · rw [if_neg (by simp [claiming]), if_neg (by simp [cand]), if_pos own, if_pos ⟨round, claiming⟩] at meets
      exact gives_runOp rfl meets
    · rw [if_neg other, if_neg (by simp [cand]), if_pos own, if_neg (by tauto)] at meets
      exact gives_runOp rfl meets
    · rw [if_neg other, if_neg (by simp [cand]), if_neg higher.ne', if_neg higher.not_gt] at meets
      exact gives_runOp rfl meets
  · refine fun s f => ⟨fun h => ⟨gives_runOp rfl (enumFrameOp_ignored h), fun ns => gives_runOp rfl (enumReturnOp_ignored (by tauto))⟩,
      fun ty ring => ⟨fun lead => gives_runOp rfl (enumFrameOp_lead ty ring lead),
        fun other => ⟨fun ns => gives_runOp rfl (enumReturnOp_ignored (by tauto)), fun x d steps => ?_⟩,
        fun h ns => gives_runOp rfl (enumReturnOp_ignored (by tauto)), fun ns d lead out round hd => ?_⟩⟩
    · exact gives_runOp rfl (enumFrameOp_passes ty ring other steps)
    · exact gives_runOp rfl (enumReturnOp_ends ty ring lead out round hd)
  · exact fun s => ⟨fun h => ⟨gives_runOp rfl (enumTimeoutOp_idle (by tauto)), gives_runOp rfl (tickTimerOp_idle h)⟩,
      fun none => gives_runOp rfl (enumTimeoutOp_idle (by tauto)),
      fun lead ring => ⟨fun out => gives_runOp rfl (enumTimeoutOp_resends lead ring out), gives_runOp rfl (tickTimerOp_ticks lead ring)⟩⟩
  · rintro d e rn soon rfl
    exact ⟨Drive.enumStart_idle, Drive.enumStart_soon, Drive.enumStart_starts⟩
  · refine fun s => ⟨fun f => ⟨fun h => gives_runOp rfl (enumReqFrameOp_ignored h), fun ty ring => gives_runOp rfl (enumReqFrameOp_asks ty ring)⟩,
      ?_, fun set => gives_runOp rfl (if_neg set), fun clear => gives_runOp rfl (if_pos clear),
      fun f n h => gives_runOp rfl (emptySlotOp_ignored h), ?_⟩
    · rintro asks rfl
      exact ⟨fun asks => gives_runOp rfl (if_pos (enumReqTimerOp_guard.2 asks)),
        fun no => gives_runOp rfl (if_neg (mt enumReqTimerOp_guard.1 no))⟩
    · rintro f n out ty ring rfl
      refine ⟨fun h => gives_runOp rfl (emptySlotOp_passes ty ring h), fun g src rest d waits room hd => ?_⟩
      have takes := emptySlotOp_takes (e := s.env) ty ring waits room hd
      exact ⟨fun own => gives_runOp rfl (by rw [takes, own]; rfl), fun p window => gives_runOp rfl (by rw [takes, window]; rfl)⟩
  · rintro s t p arb v d hw rfl
    have acts {x : Drive} (hd : chnEnumW v s.env (stored t p Reg.CHN_ENUM_CMD v) = x) : Gives (.chnEnumCmd p v arb) s (x.accessed s p) :=
      gives_hook rfl hw rfl ((hook_CHN_ENUM_CMD ..).trans hd)
    exact ⟨fun go => acts (if_pos go), fun no => acts (if_neg no)⟩
  · refine fun s f => ⟨fun h => gives_runOp rfl (tickFrameOp_ignored h), fun ty hears => ⟨fun own => ?_, fun lead higher => ?_, ?_⟩⟩
    · exact gives_runOp rfl (tickFrameOp_own ty hears own)
    · exact gives_runOp rfl (tickFrameOp_rival ty hears lead higher)
    · intro d foreign yields hd
      classical
      have follows := tickFrameOp_foreign ty hears foreign yields hd
      refine ⟨fun named herd => gives_runOp rfl (follows.trans (if_pos ⟨named, herd⟩)), fun h => gives_runOp rfl (follows.trans (if_neg ?_))⟩
      rintro ⟨named, sh, sl, herd⟩
      rcases h with kid | strange
      · simp [kid] at named
      · exact strange sh sl herd
  · refine fun s => ⟨fun lead => gives_runOp rfl (if_pos lead), fun other named fresh => gives_runOp rfl (tickLossOp_first other named fresh),
      fun other h => gives_runOp rfl (tickLossOp_again other h),
      fun f => ⟨fun hears unknown => gives_runOp rfl (unknownFrameOp_counts hears unknown), fun h => gives_runOp rfl (unknownFrameOp_ignored h)⟩, ?_⟩
    rintro bs endBad d hd bad rfl
    exact ⟨fun h => gives_runOp rfl (badChainFrameOp_ignored h),
      fun bad hears other => gives_runOp rfl ((badChainFrameOp_counts bad hears hd).trans (if_neg other)),
      fun bad hears lead => gives_runOp rfl ((badChainFrameOp_counts bad hears hd).trans (if_pos lead))⟩

end Sys2Proof.Machine
end

section
/-! PROOFS. Chapter 12 (12_herd_chain.md R424 to R431): allotments, alarms and notices, register frames, and the request and transmit
windows. One equation for each case of an operation. -/

namespace Sys2Proof.Machine

variable {d x : Drive} {e : Env} {p : Path} {v : Word} {f : Frame} {arb : Arb}

/-! ### Allotments (R424) -/

theorem allotFrameOp_ignored (h : f.ty ≠ 0x05 ∨ d.hears = false) : allotFrameOp f e d = d := if_pos (by simpa using h)

theorem allotFrameOp_none (ty : f.ty = 0x05) (hears : d.hears = true) (none : d.chn.addr.bind (fun a => allotEntry f a.toNat) = none) :
    allotFrameOp f e d = d.relay f := by
  unfold allotFrameOp
  rw [if_neg (by simp [ty, hears])]
  dsimp only
  rw [none]

/-- The grant up to which an ALLOT needs no tag. -/
def Drive.grantCap (d : Drive) : Nat := if d.nrg.chainGrant = 0 then d.fld Reg.NRG_ALLOT_CTL 25 16 else d.nrg.chainGrant

theorem allotFrameOp_entry (ty : f.ty = 0x05) (hears : d.hears = true) {w : Nat}
    (entry : d.chn.addr.bind (fun a => allotEntry f a.toNat) = some w) {ok : Option Bool}
    (tag : (if f.auth then (d.relay f).chainVerify e f else (none, d.relay f)) = (ok, x)) :
    allotFrameOp f e d = if d.flag Reg.CHN_CTL 2 = false ∨ ok = some true ∨ w ≤ d.grantCap then x.grant .chain w
      else x.bumpOpen Reg.CHN_ALLOT_REFUSED 1 := by
  unfold allotFrameOp
  rw [if_neg (by simp [ty, hears])]
  dsimp only
  rw [entry, tag]
  simp only [Bool.or_eq_true, Bool.not_eq_true', beq_iff_eq, decide_eq_true_eq, or_assoc]
  rfl

/-! ### Alarms and notices (R425, R426) -/

theorem alarmFrameOp_ignored (h : f.ty ≠ 0x06 ∨ d.hears = false) : alarmFrameOp f e d = d := if_pos (by simpa using h)

theorem chainNoticeFrameOp_ignored (h : f.ty ≠ 0x07 ∨ d.hears = false) : chainNoticeFrameOp f e d = d := if_pos (by simpa using h)

theorem alarmFrameOp_other (ty : f.ty = 0x06) (hears : d.hears = true) (other : d.forMe f = false) : alarmFrameOp f e d = d.relay f := by
  unfold alarmFrameOp
  rw [if_neg (by simp [ty, hears])]
  exact if_pos (by simp [other])

theorem chainNoticeFrameOp_other (ty : f.ty = 0x07) (hears : d.hears = true) (other : d.forMe f = false) :
    chainNoticeFrameOp f e d = d.relay f := by
  unfold chainNoticeFrameOp
  rw [if_neg (by simp [ty, hears])]
  exact if_pos (by simp [other])

theorem Drive.hears_of_forMe (me : d.forMe f = true) : d.hears = true := by
  unfold Drive.forMe at me
  simp only [Bool.and_eq_true] at me
  exact me.1.1.1

theorem alarmFrameOp_mine (ty : f.ty = 0x06) (me : d.forMe f = true)
    (hx : x = ((((d.relay f).setReg Reg.CHN_ALARM_LAST (word (f.at_ 8 2 * 65536 + f.src.toNat))).setReg Reg.CHN_ALARM_LEVEL
      (word (f.at_ 10 1 % 4))).bumpOpen Reg.CHN_ALARM_RX 1).setInt pgChn 3) :
    alarmFrameOp f e d = if f.at_ 10 1 = 2 then x.event e 0xB03 (f.at_ 8 2) f.src.toNat (f.at_ 20 4) 0 else x := by
  subst hx
  unfold alarmFrameOp
  rw [if_neg (by simp [ty, Drive.hears_of_forMe me])]
  exact if_neg (by simp [me])

theorem chainNoticeFrameOp_mine (ty : f.ty = 0x07) (me : d.forMe f = true) : chainNoticeFrameOp f e d =
    (((d.relay f).setReg Reg.CHN_NOTICE_LAST (word (f.at_ 8 2 * 65536 + f.src.toNat))).setReg Reg.CHN_NOTICE_VAL
      (word (f.at_ 12 4))).setInt pgChn 4 := by
  unfold chainNoticeFrameOp
  rw [if_neg (by simp [ty, Drive.hears_of_forMe me])]
  exact if_neg (by simp [me])

/-! ### Register frames (R427, R428) -/

/-- The frame names this drive and no other. -/
def Drive.named (d : Drive) (f : Frame) : Bool := d.forMe f && !f.bcast

theorem Drive.named_eq_false (h : d.forMe f = false ∨ f.bcast = true) : d.named f = false := by
  unfold Drive.named
  rcases h with h | h <;> simp [h]

theorem Drive.named_eq_true (me : d.forMe f = true) (uni : f.bcast = false) : d.named f = true := by simp [Drive.named, me, uni]

/-- What a REG_WR that is not served leaves, with the reason `why`. -/
def Drive.tagBad (d : Drive) (e : Env) (f : Frame) (why : Nat) : Drive :=
  (((d.bumpOpen Reg.CHN_AUTH_BAD 1).errCnt pgChn).setInt pgChn 6).event e 0xB04 f.src.toNat why 0 0

theorem regRdFrameOp_ignored (h : f.ty ≠ 0x10 ∨ d.hears = false) : regRdFrameOp f arb e d = d := if_pos (by simpa using h)

theorem regWrFrameOp_ignored (h : f.ty ≠ 0x11 ∨ d.hears = false) : regWrFrameOp f arb e d = d := if_pos (by simpa using h)

theorem regRdFrameOp_heard (ty : f.ty = 0x10) (hears : d.hears = true) :
    regRdFrameOp f arb e d = if d.named f then (d.relay f).regFrame e f true arb else d.relay f := if_neg (by simp [ty, hears])

theorem regWrFrameOp_other (ty : f.ty = 0x11) (hears : d.hears = true) (other : d.named f = false) : regWrFrameOp f arb e d = d.relay f := by
  unfold regWrFrameOp
  rw [if_neg (by simp [ty, hears])]
  exact if_pos (by rw [← Drive.named, other]; rfl)

theorem regWrFrameOp_untagged (ty : f.ty = 0x11) (hears : d.hears = true) (mine : d.named f = true) (untagged : f.auth = false) :
    regWrFrameOp f arb e d = if (d.relay f).flag Reg.CHN_CTL 2 then (d.relay f).tagBad e f 0 else (d.relay f).regFrame e f false arb := by
  unfold regWrFrameOp
  rw [if_neg (by simp [ty, hears])]
  refine (if_neg (by rw [← Drive.named, mine]; decide)).trans ?_
  exact if_pos (by simp [untagged])

theorem regWrFrameOp_tagged (ty : f.ty = 0x11) (hears : d.hears = true) (mine : d.named f = true) (tagged : f.auth = true)
    {ok : Option Bool} (tag : (d.relay f).chainVerify e f = (ok, x)) :
    regWrFrameOp f arb e d = if ok = some true then x.regFrame e f false arb else x.tagBad e f (b2n ok.isNone) := by
  unfold regWrFrameOp
  rw [if_neg (by simp [ty, hears])]
  refine (if_neg (by rw [← Drive.named, mine]; decide)).trans ?_
  rw [if_neg (by simp [tagged]), tag]
  rcases ok with _ | _ | _ <;> rfl

theorem Drive.chainOut_regs {good : Bool} : (d.chainOut f good).regs = d.regs := by
  unfold Drive.chainOut
  split_ifs <;> rfl

theorem Drive.forward_regs : (d.forward f).regs = d.regs := by
  unfold Drive.forward
  split_ifs <;> exact Drive.chainOut_regs

/-- A frame that goes on changes no register. -/
theorem Drive.relay_regs : (d.relay f).regs = d.regs := by
  unfold Drive.relay Drive.takeOwn
  split_ifs with bypassed own mine
  · rfl
  · exact Drive.chainOut_regs
  · exact Drive.chainOut_regs
  · exact Drive.forward_regs

theorem Drive.relay_flag {a i : Nat} : (d.relay f).flag a i = d.flag a i :=
  Drive.flag_of_reg _ _ _ _ (Drive.reg_of_regs _ _ _ Drive.relay_regs)

/-! ### The request window (R430) -/

/-- The request of this drive that the frame answers. -/
def Drive.answered (d : Drive) (f : Frame) : Option ChnReq := (d.relay f).chn.reqs.find? fun r => r.rid == f.rid

theorem regRspFrameOp_ignored (h : f.ty ≠ 0x12 ∨ d.hears = false) : regRspFrameOp f e d = d := if_pos (by simpa using h)

theorem regRspFrameOp_strange (ty : f.ty = 0x12) (hears : d.hears = true) (h : d.named f = false ∨ d.answered f = none) :
    regRspFrameOp f e d = d.relay f := by
  have strange : (if d.named f then d.answered f else none) = none := by rcases h with h | h <;> simp [h]
  unfold Drive.named Drive.answered at strange
  unfold regRspFrameOp
  rw [if_neg (by simp [ty, hears])]
  dsimp only
  rw [strange]

theorem regRspFrameOp_answers (ty : f.ty = 0x12) (hears : d.hears = true) (mine : d.named f = true) {r : ChnReq}
    (asked : d.answered f = some r)
    (hx : x = ((d.relay f).onChn fun c => { c with reqs := c.reqs.filter fun x => !(x.path == r.path) }).setReg (pk r.path Reg.CHN_REQ_STAT)
      (word (f.at_ 13 1 * 65536 + f.at_ 12 1 * 256 + 2))) :
    regRspFrameOp f e d = (if r.op = 1 ∧ f.at_ 12 1 = 0 then
        (List.range (min r.count 8)).foldl (fun (d : Drive) i => d.setReg (pk r.path (Reg.CHN_REQ_DATA i)) (word (f.at_ (16 + 4 * i) 4))) x
      else x).setInt pgChn 5 := by
  have found : (if d.named f then d.answered f else none) = some r := by rw [mine, asked]; rfl
  unfold Drive.named Drive.answered at found
  subst hx
  unfold regRspFrameOp
  rw [if_neg (by simp [ty, hears])]
  dsimp only
  rw [found]

/-- The frame of the request that path `p` has staged. -/
def Drive.staged (d : Drive) (p : Path) : Frame :=
  { d.chn.frame (if d.fld (pk p Reg.CHN_REQ_CMD) 6 5 = 1 then 0x10 else 0x11) false (BitVec.ofNat 16 (d.fld (pk p Reg.CHN_REQ_DST) 15 0))
      (beBytes 3 (d.reg (pk p Reg.CHN_REQ_ADDR)).toNat ++ beBytes 1 (d.fld (pk p Reg.CHN_REQ_CMD) 3 0) ++ ((List.range 8).map fun i =>
        if d.fld (pk p Reg.CHN_REQ_CMD) 6 5 = 2 ∧ i < d.fld (pk p Reg.CHN_REQ_CMD) 3 0 then
          beBytes 4 (d.reg (pk p (Reg.CHN_REQ_DATA i))).toNat else zeros 4).flatten) with
    rid := d.chn.nextRid, auth := d.fld (pk p Reg.CHN_REQ_CMD) 6 5 == 2 && d.flag (pk p Reg.CHN_REQ_CMD) 7 }

theorem Drive.onChn_chn {c : Chn → Chn} : (d.onChn c).chn = c d.chn := rfl

/-- The request that `d` has staged on path `p` is noted on `x` as outstanding. -/
def Drive.requestNoted (d : Drive) (p : Path) (x : Drive) : Drive :=
  (x.setReg (pk p Reg.CHN_REQ_STAT) 1).onChn fun c => { c with
    nextRid := d.chn.nextRid + 1
    reqs := ⟨p, d.chn.nextRid, BitVec.ofNat 16 (d.fld (pk p Reg.CHN_REQ_DST) 15 0), d.fld (pk p Reg.CHN_REQ_CMD) 6 5,
      d.fld (pk p Reg.CHN_REQ_CMD) 3 0⟩ :: c.reqs.filter fun r => !(r.path == p) }

theorem Drive.requestNoted_addr : (d.requestNoted p x).chn.addr = x.chn.addr := by
  rw [Drive.requestNoted, Drive.onChn_chn, Drive.setReg_chn]

/-- The request goes out as frame `g`, which an addressed drive queues. -/
def Drive.requested (d : Drive) (p : Path) (g : Frame) (x : Drive) : Drive :=
  if (d.requestNoted p x).chn.addr.isSome then (d.requestNoted p x).chainSend g else d.requestNoted p x

theorem chnReqW_ignored (h : bit v 8 = false ∨ d.fld (pk p Reg.CHN_REQ_STAT) 2 0 = 1 ∨ d.fld (pk p Reg.CHN_REQ_CMD) 6 5 = 0 ∨
    d.fld (pk p Reg.CHN_REQ_CMD) 6 5 = 3) : chnReqW p v e d = d := if_pos (by simpa [or_assoc] using h)

section
variable (go : bit v 8 = true) (free : d.fld (pk p Reg.CHN_REQ_STAT) 2 0 ≠ 1)
  (op : d.fld (pk p Reg.CHN_REQ_CMD) 6 5 = 1 ∨ d.fld (pk p Reg.CHN_REQ_CMD) 6 5 = 2)
include go free op

theorem chnReqW_untagged (plain : (d.staged p).auth = false) : chnReqW p v e d = d.requested p (d.staged p) d := by
  unfold chnReqW
  rw [if_neg (by rcases op with op | op <;> simp [go, free, op])]
  exact if_neg (by rw [← Bool.not_eq_true] at plain; exact plain)

theorem chnReqW_tagged (tagged : (d.staged p).auth = true) {tag : List Byte} (made : d.chainTag e (d.staged p) = (some tag, x)) :
    chnReqW p v e d = d.requested p { d.staged p with body := (d.staged p).body.take 36 ++ tag } x := by
  unfold chnReqW
  rw [if_neg (by rcases op with op | op <;> simp [go, free, op])]
  refine (if_pos tagged).trans ?_
  split
  next y refused => cases refused.symm.trans made
  next t y given =>
    have both := given.symm.trans made
    have tags : t = tag := Option.some.inj (congrArg Prod.fst both)
    have same : y = x := congrArg Prod.snd both
    rw [tags, same]
    rfl

theorem chnReqW_tagless (tagged : (d.staged p).auth = true) (none : d.chainTag e (d.staged p) = (none, x)) :
    chnReqW p v e d = x.setReg (pk p Reg.CHN_REQ_STAT) 4 := by
  unfold chnReqW
  rw [if_neg (by rcases op with op | op <;> simp [go, free, op])]
  refine (if_pos tagged).trans ?_
  split
  next y refused =>
    have same : y = x := congrArg Prod.snd (refused.symm.trans none)
    rw [same]
  next t y given => cases given.symm.trans none

end

/-! ### The transmit window (R431) -/

/-- The words of the path's staged body. -/
def Drive.txBody (d : Drive) (p : Path) : List Byte := ((List.range 13).map fun w => beBytes 4 (d.reg (pk p (Reg.CHN_TX_BODY w))).toNat).flatten

/-- The window's frame is queued. -/
def Drive.windowSend (d : Drive) (p : Path) (g : Frame) : Drive := (d.onChn fun c => { c with txq := c.txq ++ [(g, .window p)] }).txPend p

theorem chnTxW_unkeyed (unkeyed : bits v 31 24 ≠ 0xA5) : chnTxW p v e d = d := by
  have key : (bits v 31 24 == 0xA5) = false := beq_eq_false_iff_ne.2 unkeyed
  unfold chnTxW
  rw [key]
  rfl

section
variable (keyed : bits v 31 24 = 0xA5) (hx : x = d.poke (pk p Reg.CHN_TX_STAT) 1 1 0)
include keyed hx

theorem txStat_cleared : (if (bits v 31 24 == 0xA5) = true then d.poke (pk p Reg.CHN_TX_STAT) 1 1 0 else d) = x := by
  rw [if_pos (beq_iff_eq.2 keyed), hx]

/-- A Kid's window is ignored. -/
theorem chnTxW_kid (kid : d.chn.addr = none) : chnTxW p v e d = x := by
  have unnamed : x.chn.addr = none := by rw [hx, Drive.poke_chn, kid]
  unfold chnTxW
  dsimp only
  rw [txStat_cleared keyed hx]
  exact if_pos (by simp [unnamed])

variable (named : d.chn.addr.isSome)
include named

theorem txWindow_open : ¬(!(bits v 31 24 == 0xA5) || x.chn.addr.isNone) = true := by
  have kept : x.chn.addr = d.chn.addr := by rw [hx, Drive.poke_chn]
  have key : (bits v 31 24 == 0xA5) = true := beq_iff_eq.2 keyed
  rw [kept, key]
  simpa [Option.isSome_iff_ne_none] using named

theorem chnTxW_other (other : bits v 23 16 ≠ 5 ∧ ¬(bits v 23 16 = 6 ∧ 0x8000 ≤ beAt (x.txBody p) 0 2)) : chnTxW p v e d = x := by
  unfold chnTxW
  dsimp only
  rw [txStat_cleared keyed hx, if_neg (txWindow_open keyed hx named), if_neg other.1]
  exact if_neg other.2

theorem chnTxW_alarm (ty : bits v 23 16 = 6) (code : 0x8000 ≤ beAt (x.txBody p) 0 2) :
    chnTxW p v e d = x.windowSend p (x.chn.frame 0x06 true 0xFFFF (x.txBody p)) := by
  unfold chnTxW
  dsimp only
  rw [txStat_cleared keyed hx, if_neg (txWindow_open keyed hx named), if_neg (by omega)]
  exact if_pos ⟨ty, code⟩

theorem chnTxW_allot (ty : bits v 23 16 = 5) (plain : bit v 8 = false) :
    chnTxW p v e d = x.windowSend p (x.chn.frame 0x05 true 0xFFFF (x.txBody p)) := by
  unfold chnTxW
  dsimp only
  rw [txStat_cleared keyed hx, if_neg (txWindow_open keyed hx named), if_pos ty, if_pos (by simp [plain])]
  simp only [plain]
  rfl

variable (ty : bits v 23 16 = 5) (tagged : bit v 8 = true) (hf : f = { x.chn.frame 0x05 true 0xFFFF (x.txBody p) with auth := true })
include ty tagged hf

theorem chnTxW_tagged {tag : List Byte} {y : Drive} (made : x.chainTag e f = (some tag, y)) :
    chnTxW p v e d = y.windowSend p { f with body := f.body.take 36 ++ tag } := by
  unfold chnTxW
  dsimp only
  rw [txStat_cleared keyed hx, if_neg (txWindow_open keyed hx named), if_pos ty, if_neg (by simp [tagged])]
  simp only [tagged]
  subst hf
  split
  next y refused => cases refused.symm.trans made
  next t z given =>
    have both := given.symm.trans made
    have tags : t = tag := Option.some.inj (congrArg Prod.fst both)
    have same : z = y := congrArg Prod.snd both
    rw [tags, same]
    rfl

theorem chnTxW_tagless {y : Drive} (none : x.chainTag e f = (none, y)) :
    chnTxW p v e d = y.poke (pk p Reg.CHN_TX_STAT) 1 1 1 := by
  unfold chnTxW
  dsimp only
  rw [txStat_cleared keyed hx, if_neg (txWindow_open keyed hx named), if_pos ty, if_neg (by simp [tagged])]
  simp only [tagged]
  subst hf
  split
  next z refused =>
    have same : z = y := congrArg Prod.snd (refused.symm.trans none)
    rw [same]
  next t z given => cases given.symm.trans none

end

/-- Settles O58: one equation per case of each operation. That a Kid's request waits and its window is ignored is the model's choice
(log entry 75), and REQ_DONE at a timeout (log entry 76). -/
theorem chainTraffic : Obligations.ChainTraffic := by
  refine ⟨?_, ?_, ?_, ?_, ?_, ?_, ?_, ?_⟩
  · refine fun s f => ⟨fun h => gives_runOp rfl (allotFrameOp_ignored h),
      fun ty hears => ⟨fun none => gives_runOp rfl (allotFrameOp_none ty hears none), ?_⟩⟩
    rintro a w addr entry ok d tag cap rfl
    have takes := allotFrameOp_entry ty hears (by rw [addr]; exact entry) tag
    exact ⟨fun may => gives_runOp rfl (takes.trans (if_pos may)),
      fun auth bad above => gives_runOp rfl (takes.trans (if_neg (not_or.2 ⟨by simp [auth], not_or.2 ⟨bad, above.not_ge⟩⟩)))⟩
  · refine fun s f => ⟨fun h => gives_runOp rfl (alarmFrameOp_ignored h), fun h => gives_runOp rfl (chainNoticeFrameOp_ignored h),
      fun hears other => ⟨fun ty => gives_runOp rfl (alarmFrameOp_other ty hears other),
        fun ty => gives_runOp rfl (chainNoticeFrameOp_other ty hears other)⟩,
      fun me => ⟨fun d ty hd => gives_runOp rfl (alarmFrameOp_mine ty me hd), fun ty => gives_runOp rfl (chainNoticeFrameOp_mine ty me)⟩⟩
  · rintro s f arb bad rfl
    refine ⟨fun h => gives_cmdOp rfl (regRdFrameOp_ignored h), fun h => gives_cmdOp rfl (regWrFrameOp_ignored h), fun hears h => ?_,
      fun me uni => ?_⟩
    · have other := Drive.named_eq_false h
      exact ⟨fun ty => gives_cmdOp rfl ((regRdFrameOp_heard ty hears).trans (if_neg (by simp [other]))),
        fun ty => gives_cmdOp rfl (regWrFrameOp_other ty hears other)⟩
    · have mine := Drive.named_eq_true me uni
      have hears := Drive.hears_of_forMe me
      refine ⟨fun ty => gives_cmdOp rfl ((regRdFrameOp_heard ty hears).trans (if_pos mine)), fun ty untagged => ?_,
        fun ok d ty tagged tag => ?_⟩
      · have serves := regWrFrameOp_untagged (arb := arb) (e := s.env) ty hears mine untagged
        rw [Drive.relay_flag] at serves
        exact ⟨fun free => gives_cmdOp rfl (serves.trans (if_neg (by simp [free]))),
          fun auth => gives_cmdOp rfl (serves.trans (if_pos auth))⟩
      · have serves := regWrFrameOp_tagged (arb := arb) ty hears mine tagged tag
        exact ⟨fun good => gives_cmdOp rfl (serves.trans (if_pos good)), fun bad => gives_cmdOp rfl (serves.trans (if_neg bad))⟩
  · intro d e f rd arb r x served on
    unfold Drive.regFrame
    dsimp only
    rw [served]
    exact if_pos on
  · refine fun s f => ⟨fun h => gives_runOp rfl (regRspFrameOp_ignored h), fun ty hears => ⟨fun h => ?_, ?_⟩⟩
    · rcases h with other | bcast | none
      · exact gives_runOp rfl (regRspFrameOp_strange ty hears (.inl (Drive.named_eq_false (.inl other))))
      · exact gives_runOp rfl (regRspFrameOp_strange ty hears (.inl (Drive.named_eq_false (.inr bcast))))
      · exact gives_runOp rfl (regRspFrameOp_strange ty hears (.inr none))
    · intro r d me uni asked hd
      exact gives_runOp rfl (regRspFrameOp_answers ty hears (Drive.named_eq_true me uni) asked hd)
  · rintro s t p arb v d op n f send hw rfl rfl rfl rfl hsend
    generalize hd : stored t p Reg.CHN_REQ_CMD v = d at *
    have acts {x : Drive} (ends : chnReqW p v s.env d = x) : Gives (.chnReqGo p v arb) s (x.accessed s p) :=
      gives_hook rfl hw rfl ((hook_CHN_REQ_CMD ..).trans (by rw [hd]; exact ends))
    have sends (g : Frame) (x : Drive) : d.requested p g x = send g x := by
      rw [hsend, Drive.requested, Drive.requestNoted_addr]
      rfl
    refine ⟨fun h => acts (chnReqW_ignored h), fun go free op => ⟨fun plain => ?_, fun g x tagged made => ⟨?_, ?_⟩⟩⟩
    · exact acts ((chnReqW_untagged go free op plain).trans (sends _ _))
    · rintro rfl
      exact acts (chnReqW_tagless go free op tagged made)
    · rintro tag rfl
      exact acts ((chnReqW_tagged go free op tagged made).trans (sends _ _))
  · exact fun s p => ⟨fun out => gives_runOp rfl (if_pos out), fun none => gives_runOp rfl (if_neg none)⟩
  · rintro s t p arb v d x body send hw rfl hx rfl rfl
    have acts {y : Drive} (ends : chnTxW p v s.env (stored t p Reg.CHN_TX_CTL v) = y) : Gives (.chnTxSend p v arb) s (y.accessed s p) :=
      gives_hook rfl hw rfl ((hook_CHN_TX_CTL ..).trans ends)
    refine ⟨fun unkeyed => acts (chnTxW_unkeyed unkeyed), fun keyed => ⟨fun h => ?_, fun named => ⟨fun ty plain => ?_, ?_, fun ty code => ?_⟩⟩⟩
    · by_cases kid : (stored t p Reg.CHN_TX_CTL v).chn.addr = none
      · exact acts (chnTxW_kid keyed hx kid)
      · exact acts (chnTxW_other keyed hx (Option.isSome_iff_ne_none.2 kid) (h.resolve_left kid))
    · exact acts (chnTxW_allot keyed hx named ty plain)
    · intro f g y ty tagged hf made
      refine ⟨?_, ?_⟩
      · rintro rfl
        exact acts (chnTxW_tagless keyed hx named ty tagged hf made)
      · rintro tag rfl
        exact acts (chnTxW_tagged keyed hx named ty tagged hf made)
    · exact acts (chnTxW_alarm keyed hx named ty code)

end Sys2Proof.Machine
end

section
/-! PROOFS. Chapter 13 (13_event_recorder.md R439 to R457): offers and their buckets, programs into the NOR, summaries, the scan and the
freeze, the read window, the challenge and the clear, and the host windows. One equation for each case of an operation. -/

namespace Sys2Proof.Machine

variable {d x : Drive} {e : Env} {k : Clock} {h : Option Path} {c a b y z : Nat} {p : Path} {v : Word} {r : Recorder} {ev : RecEvent}

/-! ### Offers (R442 to R444, R448) -/

theorem Recorder.drop_queue {why now : Nat} : (r.drop c why now).queue = r.queue := by
  unfold Recorder.drop
  dsimp only
  split <;> rfl

theorem Recorder.drop_nor {why now : Nat} : (r.drop c why now).nor = r.nor := by
  unfold Recorder.drop
  dsimp only
  split <;> rfl

theorem Drive.recDrop_recorder {why now : Nat} : (d.recDrop c why now).recorder = d.recorder.drop c why now := Drive.setInt_recorder ..

theorem Drive.recEnter_recorder : (d.recEnter k c a b y z).recorder = d.recorder.enter k c a b y z := by
  unfold Drive.recEnter
  exact Drive.peak_recorder ..

/-- What an offer may make of the recorder's queue and NOR: an event may enter a queue that has room, unless the recorder is frozen. -/
structure Recorder.Offered (r t : Recorder) : Prop where
  nor : t.nor = r.nor
  queue : t.queue = r.queue ∨ r.frozen = false ∧ r.queue.length < 64 ∧ ∃ ev, t.queue = r.queue ++ [ev]

theorem Recorder.Offered.bounded {t : Recorder} (o : r.Offered t) (bound : r.queue.length ≤ 64) : t.queue.length ≤ 64 := by
  rcases o.queue with same | ⟨-, room, ev, grown⟩
  · rwa [same]
  · rw [grown, List.length_append]
    exact room

theorem Recorder.Offered.frozen {t : Recorder} (o : r.Offered t) (frozen : r.frozen = true) : t.queue = r.queue :=
  o.queue.resolve_right fun ⟨thawed, _⟩ => by simp [frozen] at thawed

theorem Drive.offered_recDrop {why now : Nat} : d.recorder.Offered (d.recDrop c why now).recorder := by
  rw [Drive.recDrop_recorder]
  exact ⟨Recorder.drop_nor, .inl Recorder.drop_queue⟩

theorem Drive.offered_recEnter (hn : x.recorder.nor = d.recorder.nor) (hq : x.recorder.queue = d.recorder.queue)
    (thawed : ¬d.recorder.frozen = true) (room : d.recorder.queue.length < 64) :
    d.recorder.Offered (x.recEnter k c a b y z).recorder := by
  rw [Drive.recEnter_recorder]
  exact ⟨hn, .inr ⟨by simpa using thawed, room, _, congrArg (· ++ _) hq⟩⟩

theorem Drive.offered_offer : d.recorder.Offered (d.offer k h c a b y z).recorder := by
  unfold Drive.offer
  dsimp only
  split_ifs with clearing full frozen fault exempt room few crowded
  · exact Drive.offered_recDrop
  · exact ⟨rfl, .inl rfl⟩
  · exact Drive.offered_recDrop
  · exact Drive.offered_recDrop
  · exact Drive.offered_recEnter rfl rfl frozen room
  · exact Drive.offered_recDrop
  · exact Drive.offered_recDrop
  · exact Drive.offered_recDrop
  · cases h
    · exact Drive.offered_recEnter rfl rfl frozen (not_le.1 crowded)
    · exact Drive.offered_recEnter rfl rfl frozen (not_le.1 crowded)

section
variable (running : d.recorder.clearing = false)

theorem Drive.offer_clearing (clearing : d.recorder.clearing = true) : d.offer k h c a b y z = d.recDrop c 2 k.optime := if_pos clearing

include running

theorem Drive.offer_full (full : d.recorder.full = true) :
    d.offer k h c a b y z = d.onRec fun r => { r with fullDrops := r.fullDrops + 1 } := by
  unfold Drive.offer
  rw [if_neg (by simp [running]), if_pos full]

variable (room : d.recorder.full = false)
include room

theorem Drive.offer_frozen (frozen : d.recorder.frozen = true) : d.offer k h c a b y z = d.recDrop c 2 k.optime := by
  unfold Drive.offer
  rw [if_neg (by simp [running]), if_neg (by simp [room]), if_pos frozen]

variable (thawed : d.recorder.frozen = false)
include thawed

theorem Drive.offer_fault (fault : d.recorder.norFault = true) : d.offer k h c a b y z = d.recDrop c 1 k.optime := by
  unfold Drive.offer
  rw [if_neg (by simp [running]), if_neg (by simp [room]), if_neg (by simp [thawed]), if_pos fault]

variable (sound : d.recorder.norFault = false)
include sound

theorem Drive.offer_exempt (exempt : recExempt c = true) : d.offer k none c a b y z =
    if d.recorder.queue.length < 64 then d.recEnter k c a b y z else d.recDrop c 1 k.optime := by
  unfold Drive.offer
  rw [if_neg (by simp [running]), if_neg (by simp [room]), if_neg (by simp [thawed]), if_neg (by simp [sound])]
  exact if_pos ⟨rfl, exempt⟩

/-- The bucket that an event of code `c` draws on, a host record's being its path's. -/
def Drive.tokens (d : Drive) (k : Clock) (c : Nat) : Option Path → Bucket
  | none => d.recorder.bucket c k.optime
  | some p => ((d.recorder.hostBuckets[Path.code p]?).getD ⟨0, k.optime⟩).settle (d.fld Reg.REC_HOST_RL 23 16) (d.fld Reg.REC_HOST_RL 15 0) k.optime

/-- That bucket becomes `t`. -/
def Recorder.setTokens (r : Recorder) (c : Nat) (t : Bucket) : Option Path → Recorder
  | none => r.setBucket c t
  | some p => { r with hostBuckets := r.hostBuckets.set (Path.code p) t }

theorem Drive.offer_metered (metered : ¬(h = none ∧ recExempt c = true)) {t : Bucket} (ht : t = d.tokens k c h) :
    d.offer k h c a b y z =
      if t.tok < 60000 then d.recDrop c 0 k.optime
      else if 64 ≤ d.recorder.queue.length then d.recDrop c 1 k.optime
      else (d.onRec fun r => r.setTokens c ⟨t.tok - 60000, k.optime⟩ h).recEnter k c a b y z := by
  subst ht
  unfold Drive.offer
  rw [if_neg (by simp [running]), if_neg (by simp [room]), if_neg (by simp [thawed]), if_neg (by simp [sound])]
  refine (if_neg metered).trans ?_
  cases h <;> rfl

theorem Drive.offer_metered_cases (metered : ¬(h = none ∧ recExempt c = true)) {t : Bucket} (ht : t = d.tokens k c h) :
    (t.tok < 60000 → d.offer k h c a b y z = d.recDrop c 0 k.optime) ∧
    (60000 ≤ t.tok → 64 ≤ d.recorder.queue.length → d.offer k h c a b y z = d.recDrop c 1 k.optime) ∧
    (60000 ≤ t.tok → d.recorder.queue.length < 64 → d.offer k h c a b y z =
      (d.onRec fun r => r.setTokens c ⟨t.tok - 60000, k.optime⟩ h).recEnter k c a b y z) := by
  have meets := Drive.offer_metered (a := a) (b := b) (y := y) (z := z) running room thawed sound metered ht
  exact ⟨fun few => meets.trans (if_pos few), fun token crowded => meets.trans ((if_neg token.not_gt).trans (if_pos crowded)),
    fun token free => meets.trans ((if_neg token.not_gt).trans (if_neg free.not_ge))⟩

end

/-! ### Programs into the NOR (R445, R446, R448) -/

/-- The recorder may start a program. -/
def Drive.mayRecord (d : Drive) : Prop :=
  d.pwr.aux = true ∧ d.recorder.scanDone = true ∧ d.recorder.frozen = false ∧ d.recorder.freezing = false ∧ d.recorder.clearing = false ∧
    d.recorder.norFault = false ∧ d.recorder.full = false ∧ d.recorder.staging = none

theorem recProgramOp_guard : (!d.pwr.aux || !d.recorder.scanDone || d.recorder.frozen || d.recorder.freezing || d.recorder.clearing ||
    d.recorder.norFault || d.recorder.full || d.recorder.staging.isSome) = true ↔ ¬d.mayRecord := by
  rw [← not_iff_not, not_not, Bool.not_eq_true]
  simp only [Drive.mayRecord, Bool.or_eq_false_iff, Bool.not_eq_false', Option.isSome_eq_false_iff, Option.isNone_iff_eq_none, and_assoc]

theorem recProgramOp_kept (hn : ¬d.mayRecord ∨ d.recorder.queue = []) : recProgramOp e d = d := by
  by_cases may : d.mayRecord
  · unfold recProgramOp
    dsimp only
    rw [if_neg (mt recProgramOp_guard.1 (not_not_intro may)), hn.resolve_left (not_not_intro may)]
  · exact if_pos (recProgramOp_guard.2 may)

theorem recProgramOp_stages (may : d.mayRecord) {q : List RecEvent} (head : d.recorder.queue = ev :: q) : recProgramOp e d =
    if d.recorder.nor.length = 1048575 then d.recFull ev else d.onRec fun r => { r with staging := some (ev, 0), queue := q } := by
  unfold recProgramOp
  dsimp only
  rw [if_neg (mt recProgramOp_guard.1 (not_not_intro may)), head]

theorem recProgramDoneOp_idle {ok : Bool} (idle : d.recorder.staging = none) : recProgramDoneOp ok e d = d := by
  unfold recProgramDoneOp
  rw [idle]

theorem recProgramDoneOp_good {n : Nat} (staged : d.recorder.staging = some (ev, n)) : recProgramDoneOp true e d =
    (d.onRec fun r => { r with nor := r.nor ++ [NorSlot.good ev], staging := none }.settleFreeze e.clk.optime).recNearFull e := by
  unfold recProgramDoneOp
  rw [staged]
  rfl

theorem recProgramDoneOp_bad {n i : Nat} {w : Drive} (staged : d.recorder.staging = some (ev, n)) (drawn : d.draw = (i, w))
    (hx : x = (((w.bumpOpen Reg.REC_PROG_FAIL 1).errCnt pgRec).onRec fun r => { r with
      nor := r.nor ++ [NorSlot.bad (padTo 32 (Config.randomBytes i))] }).recNearFull e) : recProgramDoneOp false e d =
    if n = 2 then (x.onRec fun r => { r with staging := none, norFault := true }.settleFreeze e.clk.optime).setInt pgRec 6
    else if x.recorder.nor.length = 1048575 ∧ ev.code ≠ 0x3 then x.recFull ev
    else if 1048576 ≤ x.recorder.nor.length then x.onRec fun r => { r with staging := none }.settleFreeze e.clk.optime
    else x.onRec fun r => { r with staging := some (ev, n + 1) } := by
  subst hx
  unfold recProgramDoneOp
  rw [staged, drawn]
  exact if_neg (by decide)

/-! ### Summaries (R444) -/

theorem Drive.summaryDue_iff {s : Drop} : d.summaryDue e s = true ↔ s.last + d.fld Reg.REC_SUM_CTL 15 0 ≤ e.clk.optime ∨
    s.first + d.fld Reg.REC_SUM_CTL 31 16 * 1000 ≤ e.clk.optime ∨ d.jrn.flush.isSome := by
  simp only [Drive.summaryDue, Bool.or_eq_true, decide_eq_true_eq, or_assoc]

/-- The summary `s` of code `c` may enter the queue. -/
def Drive.maySummarise (d : Drive) (e : Env) (c : Nat) (s : Drop) : Prop :=
  d.recorder.queue.length < 32 ∧ d.recorder.frozen = false ∧ d.recorder.clearing = false ∧ d.recorder.full = false ∧
    d.recorder.norFault = false ∧ d.summaryDue e s = true ∧ ∀ t ∈ d.recorder.drops, t.code < c → d.summaryDue e t = false

theorem summaryDueOp_none (none : (d.recorder.drops.find? (·.code == c)) = none) : summaryDueOp c e d = d := by
  unfold summaryDueOp
  dsimp only
  rw [none]

theorem summaryDueOp_guard {s : Drop} : (32 ≤ d.recorder.queue.length || d.recorder.frozen || d.recorder.clearing || d.recorder.full ||
    d.recorder.norFault || !d.summaryDue e s || d.recorder.drops.any (fun t => decide (t.code < c) && d.summaryDue e t)) = true ↔
      ¬d.maySummarise e c s := by
  rw [← not_iff_not, not_not, Bool.not_eq_true]
  simp only [Drive.maySummarise, Bool.or_eq_false_iff, decide_eq_false_iff_not, not_le, Bool.not_eq_false', List.any_eq_false,
    Bool.and_eq_true, decide_eq_true_eq, not_and, Bool.not_eq_true, and_assoc]

theorem summaryDueOp_enters {s : Drop} (account : (d.recorder.drops.find? (·.code == c)) = some s) (may : d.maySummarise e c s) :
    summaryDueOp c e d = (d.onRec fun r => { r with drops := r.drops.filter fun t => !(t.code == c) }).recEnter e.clk 0x1
      (s.reasons * 65536 + c) s.count s.first s.last := by
  unfold summaryDueOp
  dsimp only
  rw [account]
  exact if_neg (mt summaryDueOp_guard.1 (not_not_intro may))

theorem summaryDueOp_waits {s : Drop} (account : (d.recorder.drops.find? (·.code == c)) = some s) (no : ¬d.maySummarise e c s) :
    summaryDueOp c e d = d := by
  unfold summaryDueOp
  dsimp only
  rw [account]
  exact if_pos (summaryDueOp_guard.2 no)

/-! ### The scan, the freeze and the end of a clear (R447, R450, R453, R454) -/

theorem recorderScanOp_done (done : d.recorder.scanDone = true) : recorderScanOp e d = d := if_pos done

theorem recorderScanOp_cleared (fresh : d.recorder.scanDone = false) (cleared : d.recorder.cleared = some ev) : recorderScanOp e d =
    d.onRec fun r => { r with
      nor := [NorSlot.good ev], fullDrops := 0, full := false, norFault := false, mark := none, cleared := none, clearing := false
      frozen := false, freezing := false, nearDone := false, scanDone := true } := by
  unfold recorderScanOp Drive.onRec Recorder.writeCleared
  rw [if_neg (by simp [fresh])]
  dsimp only
  rw [cleared]
  rfl

theorem recorderScanOp_searches (fresh : d.recorder.scanDone = false) (none : d.recorder.cleared = none) : recorderScanOp e d =
    if 1048576 ≤ d.recorder.nor.length then
      d.onRec fun r => { r with full := true, fullDrops := r.fullDrops + r.queue.length, queue := [], scanDone := true }
    else d.onRec fun r => { r with scanDone := true } := by
  unfold recorderScanOp Drive.onRec
  rw [if_neg (by simp [fresh])]
  dsimp only
  rw [if_neg (by simp [none])]
  split_ifs <;> rfl

/-- The freeze has lasted as long as it may. -/
def Drive.freezeDue (d : Drive) (e : Env) : Prop :=
  d.recorder.frozen = true ∧ d.recorder.clearing = false ∧ d.recorder.frozenAt + d.fld Reg.REC_FREEZE_CTL 9 0 * 1000 ≤ e.clk.optime

theorem freezeTimeoutOp_guard : (!d.recorder.frozen || d.recorder.clearing ||
    decide (e.clk.optime < d.recorder.frozenAt + d.fld Reg.REC_FREEZE_CTL 9 0 * 1000)) = true ↔ ¬d.freezeDue e := by
  rw [← not_iff_not, not_not, Bool.not_eq_true]
  simp only [Drive.freezeDue, Bool.or_eq_false_iff, Bool.not_eq_false', decide_eq_false_iff_not, not_lt, and_assoc]

theorem recClearDoneOp_idle (hn : d.recorder.clearing = false ∨ d.recorder.mark = none) : recClearDoneOp e d = d := by
  unfold recClearDoneOp
  rcases hn with idle | unmarked
  · rw [idle]
  · rw [unmarked]
    cases d.recorder.clearing <;> rfl

theorem recClearDoneOp_clears {m : Nat × Nat × Nat × Nat} (clearing : d.recorder.clearing = true) (marked : d.recorder.mark = some m) :
    recClearDoneOp e d = (d.onRec fun r => (r.stampCleared e.clk m).writeCleared).setInt pgRec 4 := by
  unfold recClearDoneOp
  rw [clearing, marked]

/-! ### Power-up (R443, R447, R454) -/

/-- What stays of the recorder at a power-up, and what starts over. -/
structure Recorder.PoweredUp (r : Recorder) (k : Clock) (depth : Nat) (t : Recorder) : Prop where
  nor : t.nor = r.nor
  queue : t.queue = []
  mark : t.mark = r.mark
  limits : t.limits = r.limits
  hostBuckets : t.hostBuckets = List.replicate 3 ⟨depth * 60000, k.optime⟩

theorem Recorder.poweredUp {depth : Nat} : r.PoweredUp k depth (r.powerUp k depth) := by
  unfold Recorder.powerUp
  dsimp only
  split
  next m marked => exact ⟨rfl, rfl, rfl, rfl, rfl⟩
  next unmarked => exact ⟨rfl, rfl, rfl, rfl, rfl⟩

theorem Recorder.powerUp_cleared_none {depth : Nat} (unmarked : r.mark = none) : (r.powerUp k depth).cleared = none := by
  unfold Recorder.powerUp
  dsimp only
  rw [unmarked]

theorem Recorder.powerUp_cleared_some {depth : Nat} {m : Nat × Nat × Nat × Nat} (marked : r.mark = some m) :
    (r.powerUp k depth).cleared =
      some ⟨0x2, 0, k.pcycle, k.optime, m.1 % 2 ^ 32, m.2.1 % 2 ^ 32, m.2.2.1 % 2 ^ 32, m.2.2.2 % 2 ^ 32⟩ := by
  unfold Recorder.powerUp
  dsimp only
  rw [marked]
  rfl

/-! ### Register commands (R450, R452, R453, R457) -/

theorem recFreezeW_other (one : bits v 1 0 ≠ 1) (two : bits v 1 0 ≠ 2) : recFreezeW p v e d = d := by
  unfold recFreezeW
  rw [if_neg one, if_neg two, ite_self]

theorem recFreezeW_ignored (hn : bits v 31 24 ≠ 0xA5 ∨ d.recorder.clearing = true ∨ bits v 1 0 = 0 ∨ bits v 1 0 = 3) :
    recFreezeW p v e d = d := by
  rcases hn with key | clearing | zero | three
  · exact if_pos (.inl key)
  · exact if_pos (.inr clearing)
  · exact recFreezeW_other (by omega) (by omega)
  · exact recFreezeW_other (by omega) (by omega)

theorem recFreezeW_freezes (key : bits v 31 24 = 0xA5) (running : d.recorder.clearing = false) (op : bits v 1 0 = 1) :
    recFreezeW p v e d = d.onRec fun r => { r with
      freezePath := Path.code p, frozenAt := e.clk.optime, frozen := r.frozen || r.staging.isNone
      freezing := r.freezing || (!r.frozen && r.staging.isSome) } := by
  unfold recFreezeW
  rw [if_neg (by simp [key, running]), if_pos op]

theorem recFreezeW_thaws (key : bits v 31 24 = 0xA5) (running : d.recorder.clearing = false) (op : bits v 1 0 = 2) :
    recFreezeW p v e d = d.onRec fun r => { r with frozen := false, freezing := false } := by
  unfold recFreezeW
  rw [if_neg (by simp [key, running]), if_neg (by omega), if_pos op]

theorem Drive.recClearCheck_unasked (none : d.recorder.chal = none) : d.recClearCheck e p = (1, d) := by
  unfold Drive.recClearCheck
  rw [none]

section
variable {ch : Challenge} (asked : d.recorder.chal = some ch)
include asked

theorem Drive.recClearCheck_path (other : ch.path ≠ p) : d.recClearCheck e p = (1, d) := by
  unfold Drive.recClearCheck
  rw [asked]
  exact if_pos other

variable (own : ch.path = p)
include own

theorem Drive.recClearCheck_thawed (thawed : d.recorder.frozen = false) : d.recClearCheck e p = (2, d) := by
  unfold Drive.recClearCheck
  rw [asked]
  exact (if_neg (not_not_intro own)).trans (if_pos (by simp [thawed]))

variable (frozen : d.recorder.frozen = true)
include frozen

theorem Drive.recClearCheck_count (moved : d.recorder.nor.length ≠ ch.count) : d.recClearCheck e p = (5, d) := by
  unfold Drive.recClearCheck
  rw [asked]
  exact (if_neg (not_not_intro own)).trans ((if_neg (by simp [frozen])).trans (if_pos moved))

theorem Drive.recClearCheck_tag (still : d.recorder.nor.length = ch.count) {ok : Option Bool}
    (tag : d.cmacCheck e 29 4111 (recClearMsg e ch) (d.regBytes (pk p (Reg.REC_CLR_TAG 0)) 4) = (ok, x)) :
    d.recClearCheck e p = (if ok = some true then 0 else if ok = some false then 4 else 3, x) := by
  unfold Drive.recClearCheck
  rw [asked]
  refine (if_neg (not_not_intro own)).trans ((if_neg (by simp [frozen])).trans ((if_neg (not_not_intro still)).trans ?_))
  rw [tag]
  rcases ok with _ | _ | _ <;> rfl

end

theorem recClrCmdW_other (one : bits v 1 0 ≠ 1) (two : bits v 1 0 ≠ 2) : recClrCmdW p v e d = d := by
  unfold recClrCmdW
  rw [if_neg one, if_neg two, ite_self]

theorem recClrCmdW_ignored (hn : bits v 31 24 ≠ 0xA5 ∨ bits v 1 0 = 0 ∨ bits v 1 0 = 3) : recClrCmdW p v e d = d := by
  rcases hn with key | zero | three
  · exact if_pos key
  · exact recClrCmdW_other (by omega) (by omega)
  · exact recClrCmdW_other (by omega) (by omega)

theorem recClrCmdW_challenge (key : bits v 31 24 = 0xA5) (op : bits v 1 0 = 1) : recClrCmdW p v e d = recChallengeW p e d := by
  unfold recClrCmdW
  rw [if_neg (not_not_intro key), if_pos op]

theorem recClrCmdW_clear (key : bits v 31 24 = 0xA5) (op : bits v 1 0 = 2) : recClrCmdW p v e d = recClearW p e d := by
  unfold recClrCmdW
  rw [if_neg (not_not_intro key), if_neg (by omega), if_pos op]

theorem recChallengeW_eq {n : Nat} (drawn : d.draw = (n, x)) : recChallengeW p e d =
    (x.onRec fun r => { r with
      chal := some ⟨p, padTo 16 (Config.randomBytes n), r.nor.length, e.clk.pcycle, e.clk.optime⟩ }).setRegs
        (pk p (Reg.REC_CHAL 0)) (leWords (padTo 16 (Config.randomBytes n))) := by
  unfold recChallengeW
  rw [drawn]

theorem recClearW_busy (clearing : d.recorder.clearing = true) : recClearW p e d = d := if_pos clearing

theorem recClearW_starts (running : d.recorder.clearing = false) {ch : Challenge} (good : d.recClearCheck e p = (0, x))
    (asked : x.recorder.chal = some ch) {w : Drive} (hw : w = x.poke (pk p Reg.REC_CLR_STAT) 10 8 0) : recClearW p e d =
      (w.recorder.queue.foldl (fun d ev => d.recDrop ev.code 2 e.clk.optime) w).onRec fun r => { r with
        queue := [], clearing := true, chal := none, mark := some (r.nor.length, r.fullDrops, ch.pcycle, Path.code p) } := by
  subst hw
  unfold recClearW
  rw [if_neg (by simp [running]), good]
  dsimp only
  rw [asked]
  rfl

theorem recClearW_fails {res : Nat} (running : d.recorder.clearing = false) (check : d.recClearCheck e p = (res, x)) (bad : res ≠ 0) :
    recClearW p e d = (((x.poke (pk p Reg.REC_CLR_STAT) 10 8 res).onRec fun r => { r with
      chal := if res = 1 then r.chal else none }).setInt pgRec 5).event e 0x6 res (Path.code p) 0 0 := by
  unfold recClearW
  rw [if_neg (by simp [running]), check]
  exact if_neg bad

theorem recHostGoW_idle (idle : bits v 0 0 = 0) : recHostGoW p v e d = d := if_neg (by omega)

theorem recHostGoW_offers (go : bits v 0 0 = 1) : recHostGoW p v e d =
    d.offer e.clk (some p) (d.fld (pk p Reg.REC_HOST_CODE) 15 0) (d.reg (pk p (Reg.REC_HOST_PARAM 0))).toNat
      (d.reg (pk p (Reg.REC_HOST_PARAM 1))).toNat (d.reg (pk p (Reg.REC_HOST_PARAM 2))).toNat (d.reg (pk p (Reg.REC_HOST_PARAM 3))).toNat :=
  if_pos go

theorem recRlSelW_latches (lo : 4 ≤ bits v 15 0) (hi : bits v 15 0 ≤ 0x7FFF) {depth rate : Nat}
    (limit : d.recorder.limit (bits v 15 0) = (depth, rate)) : recRlSelW p v e d =
      ((d.setReg (pk p Reg.REC_RL_CFG) (word (if recExempt (bits v 15 0) then 2 ^ 31 else depth * 65536 + rate))).setReg
        (pk p Reg.REC_RL_DROPS) (word (((d.recorder.drops.find? (·.code == bits v 15 0)).map (·.count)).getD 0))).setReg
          (pk p Reg.REC_RL_TOKENS)
          (word (if recExempt (bits v 15 0) then 0 else (d.recorder.bucket (bits v 15 0) e.clk.optime).tok / 60000)) := by
  unfold recRlSelW
  rw [if_neg (by omega), limit]
  dsimp only
  rw [Drive.setReg_recorder, Drive.setReg_recorder]

/-- Settles O59: what an offer does to the queue and the NOR, and one equation per case of each operation. That a host bucket is full at a
power-up, the order of the reasons to drop, the time of FULL, the scan and the challenge kept at RESULT 1 are the model's choices (log
entries 30, 31, 32, 174, 176). -/
theorem eventRecorder : Obligations.EventRecorder := by
  refine ⟨?_, ?_, ?_, ?_, fun d ev => rfl, ?_, ?_, fun d e x => Drive.summaryDue_iff, ?_, ?_, ?_, ?_, ?_, ?_, ?_, ?_⟩
  · intro d k h c a b x y bound
    have offered : d.recorder.Offered (d.offer k h c a b x y).recorder := Drive.offered_offer
    exact ⟨offered.bounded bound, offered.nor, offered.frozen⟩
  · refine fun d k h c a b x y => ⟨Drive.offer_clearing, fun running => ⟨Drive.offer_full running, fun room =>
      ⟨Drive.offer_frozen running room, fun thawed => ⟨Drive.offer_fault running room thawed, fun sound => ⟨?_, ?_, ?_⟩⟩⟩⟩⟩
    · rintro rfl exempt
      have meets := Drive.offer_exempt (k := k) (a := a) (b := b) (y := x) (z := y) running room thawed sound exempt
      exact ⟨fun free => meets.trans (if_pos free), fun crowded => meets.trans (if_neg crowded.not_gt)⟩
    · rintro rfl metered t ht
      exact Drive.offer_metered_cases running room thawed sound (by simp [metered]) ht
    · rintro p rfl t ht
      exact Drive.offer_metered_cases running room thawed sound (by simp) ht
  · refine fun s c a b x y => ⟨fun own => gives_runOp rfl (if_pos ?_), fun other => gives_runOp rfl (if_neg ?_)⟩
    · simpa [recOwnCode] using own
    · simp only [recOwnCode, Bool.and_eq_true, decide_eq_true_eq]
      omega
  · rintro s may rfl
    refine ⟨fun kept => gives_runOp rfl (recProgramOp_kept kept), fun ev q may head => ?_⟩
    have stages := recProgramOp_stages (d := s.d) (e := s.env) may head
    exact ⟨fun room => gives_runOp rfl (stages.trans (if_neg room)), fun last => gives_runOp rfl (stages.trans (if_pos last))⟩
  · refine fun s => ⟨fun idle ok => gives_runOp rfl (recProgramDoneOp_idle idle), fun ev n staged =>
      ⟨gives_runOp rfl (recProgramDoneOp_good staged), fun i x d drawn hd => ?_⟩⟩
    have ends := recProgramDoneOp_bad staged drawn hd
    refine ⟨fun third => gives_runOp rfl (ends.trans (if_pos third)), fun more last => ?_, fun more full => ?_, fun more room => ?_⟩
    · exact gives_runOp rfl (ends.trans ((if_neg more).trans (if_pos last)))
    · rw [if_neg more, if_neg (by omega), if_pos full] at ends
      exact gives_runOp rfl ends
    · rw [if_neg more, if_neg (by omega), if_neg (by omega)] at ends
      exact gives_runOp rfl ends
  · refine fun s c => ⟨fun none => gives_runOp rfl (summaryDueOp_none none), ?_⟩
    rintro x may account rfl
    exact ⟨fun may => gives_runOp rfl (summaryDueOp_enters account may), fun no => gives_runOp rfl (summaryDueOp_waits account no)⟩
  · refine fun s => ⟨fun done => gives_runOp rfl (recorderScanOp_done done), fun fresh => ⟨fun none room => ?_, fun none full => ?_, fun c cleared => ?_⟩,
      ?_, gives_runOp rfl rfl, fun idle => gives_runOp rfl (recClearDoneOp_idle idle),
      fun m clearing marked => gives_runOp rfl (recClearDoneOp_clears clearing marked)⟩
    · exact gives_runOp rfl ((recorderScanOp_searches fresh none).trans (if_neg room.not_ge))
    · exact gives_runOp rfl ((recorderScanOp_searches fresh none).trans (if_pos full))
    · exact gives_runOp rfl (recorderScanOp_cleared fresh cleared)
    · rintro due rfl
      exact ⟨fun due => gives_runOp rfl (if_neg (mt (freezeTimeoutOp_guard (d := s.d) (e := s.env)).1 (not_not_intro due))),
        fun no => gives_runOp rfl (if_pos ((freezeTimeoutOp_guard (d := s.d) (e := s.env)).2 no))⟩
  · intro r k depth
    have up : r.PoweredUp k depth (r.powerUp k depth) := Recorder.poweredUp
    exact ⟨up.nor, up.queue, up.mark, up.limits, up.hostBuckets, Recorder.powerUp_cleared_none, fun m => Recorder.powerUp_cleared_some⟩
  · rintro s t p arb v d hw rfl row hrow
    have acts {x : Drive} (hd : recFreezeW p v s.env (stored t p Reg.REC_FREEZE v) = x) : Gives (row p v arb) s (x.accessed s p) := by
      simp only [List.mem_cons, List.not_mem_nil, or_false] at hrow
      obtain rfl | rfl := hrow <;> exact gives_hook rfl hw rfl ((hook_REC_FREEZE ..).trans hd)
    exact ⟨fun none => acts (recFreezeW_ignored none), fun key running =>
      ⟨fun op => acts (recFreezeW_freezes key running op), fun op => acts (recFreezeW_thaws key running op)⟩⟩
  · rintro s t p arb v d hw rfl i ss bad rfl rfl rfl
    exact gives_hook rfl hw rfl (hook_REC_RD_SEL ..)
  · exact fun d e p => ⟨Drive.recClearCheck_unasked, fun c asked => ⟨Drive.recClearCheck_path asked, Drive.recClearCheck_thawed asked,
      Drive.recClearCheck_count asked, fun ok x own frozen still => Drive.recClearCheck_tag asked own frozen still⟩⟩
  · rintro s t p arb v d hw rfl row hrow
    have acts {x : Drive} (hd : recClrCmdW p v s.env (stored t p Reg.REC_CLR_CMD v) = x) : Gives (row p v arb) s (x.accessed s p) := by
      simp only [List.mem_cons, List.not_mem_nil, or_false] at hrow
      obtain rfl | rfl := hrow <;> exact gives_hook rfl hw rfl ((hook_REC_CLR_CMD ..).trans hd)
    refine ⟨fun none => acts (recClrCmdW_ignored none), fun n x key op drawn => ?_, fun key op clearing => ?_, fun res x key op running check => ⟨?_, ?_⟩⟩
    · exact acts ((recClrCmdW_challenge key op).trans (recChallengeW_eq drawn))
    · exact acts ((recClrCmdW_clear key op).trans (recClearW_busy clearing))
    · rintro c y rfl asked hy
      exact acts ((recClrCmdW_clear key op).trans (recClearW_starts running check asked hy))
    · exact fun bad => acts ((recClrCmdW_clear key op).trans (recClearW_fails running check bad))
  · rintro s t p arb v d hw rfl
    have acts {x : Drive} (hd : recHostGoW p v s.env (stored t p Reg.REC_HOST_GO v) = x) : Gives (.recHostGo p v arb) s (x.accessed s p) :=
      gives_hook rfl hw rfl ((hook_REC_HOST_GO ..).trans hd)
    exact ⟨fun idle => acts (recHostGoW_idle idle), fun go => acts (recHostGoW_offers go)⟩
  · rintro s t p arb v d hw rfl
    have acts {x : Drive} (hd : recRlSelW p v s.env (stored t p Reg.REC_RL_SEL v) = x) : Gives (.recRlSel p v arb) s (x.accessed s p) :=
      gives_hook rfl hw rfl ((hook_REC_RL_SEL ..).trans hd)
    exact ⟨fun none => acts (if_pos none), fun depth rate lo hi limit => acts (recRlSelW_latches lo hi limit)⟩

end Sys2Proof.Machine
end

section
/-! PROOFS. Chapter 14 (14_live_service.md R458 to R479): the commands of an update session, its chunks and its verdict, the units that move
one at a time; and the module (15_module_connector.md R504, R505). One equation for each case of an operation. -/

namespace Sys2Proof.Machine

variable {d : Drive} {e : Env} {i c : Nat} {p : Path} {v : Word} {u : Upd}

/-! ### The commands of a session (R466, R467) -/

theorem Drive.updOpen_session (busy : d.upd.st ≠ .idle) : d.updOpen p c = d.updResult 6 := if_pos busy

theorem Drive.updOpen_mixed (idle : d.upd.st = .idle) (mixed : d.upd.mixed c = true) : d.updOpen p c = d.updResult 10 :=
  (if_neg (not_not_intro idle)).trans (if_pos mixed)

theorem Drive.updOpen_opens (idle : d.upd.st = .idle) (one : d.upd.mixed c = false) : d.updOpen p c =
    d.onUpd fun u => ({ u with
      st := .staging, owner := p, carrier := c, slotB := (d.upd.car c).runB % 2 == 0, bytes := [], chunk := none, todo := [], out := none
      revert := false, result := 0, linkWait := none, lastStaged := u.lastStaged.filter fun x => !(x.1 == c)
      skipped := if c = 0 then [] else u.skipped }).putStaged none :=
  (if_neg (not_not_intro idle)).trans (if_neg (by simp [one]))

theorem Drive.updVerify_ignored (other : d.upd.st ≠ .staging) : d.updVerify = d := if_pos other

theorem Drive.updVerify_busy (staging : d.upd.st = .staging) (chunk : d.upd.chunk.isSome = true) : d.updVerify = d.updResult 6 :=
  (if_neg (not_not_intro staging)).trans (if_pos chunk)

theorem Drive.updVerify_starts (staging : d.upd.st = .staging) (free : d.upd.chunk = none) :
    d.updVerify = d.onUpd fun u => { u with st := .verifying } :=
  (if_neg (not_not_intro staging)).trans (if_neg (by simp [free]))

theorem updClose_guard {st : UpdState} :
    [UpdState.staging, .verifying, .staged].contains st = true ↔ st = .staging ∨ st = .verifying ∨ st = .staged := by
  cases st <;> decide

theorem Drive.updClose_ignored (other : d.upd.st = .idle ∨ d.upd.st = .activating ∨ d.upd.st = .failed) : d.updClose = d :=
  if_neg fun closes => by rcases other with h | h | h <;> rw [h] at closes <;> contradiction

/-- A unit of the session's carrier runs the slot staged. -/
def Upd.runsStaged (u : Upd) : Prop := ∃ i ∈ unitOrder u.carrier, u.runsB u.carrier i = u.slotB

theorem Upd.runsStaged_iff : ((unitOrder u.carrier).any fun i => u.runsB u.carrier i == u.slotB) = true ↔ u.runsStaged := by
  simp only [List.any_eq_true, beq_iff_eq, Upd.runsStaged]

theorem Drive.updClose_running (closes : d.upd.st = .staging ∨ d.upd.st = .verifying ∨ d.upd.st = .staged) (runs : d.upd.runsStaged) :
    d.updClose = d.onUpd fun u => { u with st := .idle, chunk := none, todo := [], result := 0 } :=
  (if_pos (updClose_guard.2 closes)).trans (congrArg (fun u => { d with upd := u }) (if_pos (Upd.runsStaged_iff.2 runs)))

theorem Drive.updClose_empties (closes : d.upd.st = .staging ∨ d.upd.st = .verifying ∨ d.upd.st = .staged) (idle : ¬d.upd.runsStaged) :
    d.updClose = d.onUpd fun u => { ({ u with st := .idle, chunk := none, todo := [], result := 0 } : Upd).putStaged none with
      lastStaged := u.lastStaged.filter fun x => !(x.1 == u.carrier) } :=
  (if_pos (updClose_guard.2 closes)).trans (congrArg (fun u => { d with upd := u }) (if_neg (mt Upd.runsStaged_iff.1 idle)))

theorem updCmdW_bad (bad : bits v 31 24 ≠ 0xA5 ∨ 5 < bits v 10 8) : updCmdW p v e d = d := if_pos (by simpa using bad)

theorem updCmdW_foreign (op : bits v 3 0 ≠ 1) (busy : d.upd.st ≠ .idle) (foreign : d.upd.owner ≠ p) : updCmdW p v e d = d := by
  unfold updCmdW
  dsimp only
  rw [if_neg op, if_pos (show (decide (d.upd.st ≠ .idle) && decide (d.upd.owner ≠ p)) = true by simp [busy, foreign]), ite_self]

theorem updCmdW_other (op : bits v 3 0 = 0 ∨ 5 < bits v 3 0) : updCmdW p v e d = d := by
  unfold updCmdW
  dsimp only
  rw [if_neg (show bits v 3 0 ≠ 1 by omega), if_neg (show bits v 3 0 ≠ 2 by omega), if_neg (show bits v 3 0 ≠ 3 by omega),
    if_neg (show bits v 3 0 ≠ 4 by omega), if_neg (show bits v 3 0 ≠ 5 by omega), ite_self, ite_self]

section
variable (key : bits v 31 24 = 0xA5) (known : bits v 10 8 ≤ 5)
include key known

theorem updCmdW_open (op : bits v 3 0 = 1) : updCmdW p v e d = d.updOpen p (bits v 10 8) := by
  unfold updCmdW
  dsimp only
  rw [if_neg (by simp [key, known]), if_pos op]

theorem updCmdW_activate_mixed (op : bits v 3 0 = 3) (idle : d.upd.st = .idle) (mixed : d.upd.mixed (bits v 10 8) = true) {k : Nat} {b : Bool}
    (last : (d.upd.lastStaged.find? fun x => x.1 == bits v 10 8) = some (k, b)) :
    updCmdW p v e d = d.updStart e p (bits v 10 8) (bits v 23 16) b false := by
  unfold updCmdW
  dsimp only
  rw [if_neg (by simp [key, known]), if_neg (by omega), if_neg (by simp [idle]), if_neg (by omega), if_pos op, if_neg (by simp [idle]),
    if_pos ⟨idle, mixed⟩, last]

variable (mine : d.upd.st = .idle ∨ d.upd.owner = p)
include mine

theorem updCmdW_verify (op : bits v 3 0 = 2) : updCmdW p v e d = d.updVerify := by
  unfold updCmdW
  dsimp only
  rw [if_neg (by simp [key, known]), if_neg (by omega), if_neg (by simpa [or_iff_not_imp_left] using mine), if_pos op]

theorem updCmdW_close (op : bits v 3 0 = 5) : updCmdW p v e d = d.updClose := by
  unfold updCmdW
  dsimp only
  rw [if_neg (by simp [key, known]), if_neg (by omega), if_neg (by simpa [or_iff_not_imp_left] using mine), if_neg (by omega), if_neg (by omega),
    if_neg (by omega), if_pos op]

theorem updCmdW_activate (op : bits v 3 0 = 3) (ready : d.upd.st = .staged ∨ d.upd.st = .failed) :
    updCmdW p v e d = d.updStart e p d.upd.carrier (bits v 23 16) d.upd.slotB false := by
  unfold updCmdW
  dsimp only
  rw [if_neg (by simp [key, known]), if_neg (by omega), if_neg (by simpa [or_iff_not_imp_left] using mine), if_neg (by omega), if_pos op,
    if_pos ready]

theorem updCmdW_activate_ignored (op : bits v 3 0 = 3) (unready : ¬(d.upd.st = .staged ∨ d.upd.st = .failed))
    (still : ¬(d.upd.st = .idle ∧ d.upd.mixed (bits v 10 8) = true)) : updCmdW p v e d = d := by
  unfold updCmdW
  dsimp only
  rw [if_neg (by simp [key, known]), if_neg (by omega), if_neg (by simpa [or_iff_not_imp_left] using mine), if_neg (by omega), if_pos op,
    if_neg unready, if_neg still]

section
variable (op : bits v 3 0 = 4) {k : Nat}
include op

theorem updCmdW_revert (ready : d.upd.st = .staged ∨ d.upd.st = .failed ∨ d.upd.st = .idle) {x : Nat} {b : Bool}
    (hk : k = if d.upd.st = .idle then bits v 10 8 else d.upd.carrier) (last : (d.upd.lastStaged.find? fun x => x.1 == k) = some (x, b)) :
    updCmdW p v e d = d.updStart e p k (bits v 23 16) b true := by
  subst hk
  unfold updCmdW
  dsimp only
  rw [if_neg (by simp [key, known]), if_neg (by omega), if_neg (by simpa [or_iff_not_imp_left] using mine), if_neg (by omega),
    if_neg (by omega), if_pos op, if_pos ready, last]

theorem updCmdW_revert_unready (unready : ¬(d.upd.st = .staged ∨ d.upd.st = .failed ∨ d.upd.st = .idle)) : updCmdW p v e d = d := by
  unfold updCmdW
  dsimp only
  rw [if_neg (by simp [key, known]), if_neg (by omega), if_neg (by simpa [or_iff_not_imp_left] using mine), if_neg (by omega),
    if_neg (by omega), if_pos op, if_neg unready]

theorem updCmdW_revert_unstaged (hk : k = if d.upd.st = .idle then bits v 10 8 else d.upd.carrier)
    (none : (d.upd.lastStaged.find? fun x => x.1 == k) = none) : updCmdW p v e d = d := by
  subst hk
  unfold updCmdW
  dsimp only
  rw [if_neg (by simp [key, known]), if_neg (by omega), if_neg (by simpa [or_iff_not_imp_left] using mine), if_neg (by omega),
    if_neg (by omega), if_pos op, none, ite_self]

end
end

/-! ### Chunks and the verdict (R464 to R466, R479) -/

theorem updChunkW_ignored (hn : bit v 31 = false ∨ d.upd.st ≠ .staging ∨ d.upd.owner ≠ p) : updChunkW p v e d = d :=
  if_pos (by simpa [or_assoc] using hn)

section
variable (go : bit v 31 = true) (staging : d.upd.st = .staging) (own : d.upd.owner = p)
include go staging own

theorem updChunkW_busy (chunk : d.upd.chunk.isSome = true) : updChunkW p v e d = d.updResult 6 :=
  (if_neg (by simp [go, staging, own])).trans (if_pos chunk)

theorem updChunkW_takes (free : d.upd.chunk = none) {len : Nat} (hl : len = d.fld Reg.CL_UPD_CHUNK 10 0) : updChunkW p v e d =
    if len = 0 ∨ 1024 < len ∨ 33554432 < d.upd.bytes.length + len then d.updResult 3
    else if (d.reg Reg.CL_UPD_OFFSET).toNat ≠ d.upd.bytes.length then d.updResult 2
    else d.onUpd fun u => { u with
      chunk := some (((List.range (ceilDiv len 4)).map fun k => leBytes 4 (d.reg (Reg.CL_UPD_DATA k)).toNat).flatten.take len) } := by
  subst hl
  exact (if_neg (by simp [go, staging, own])).trans (if_neg (by simp [free]))

end

theorem updChunkDoneOp_idle {ok : Bool} (idle : d.upd.chunk = none) : updChunkDoneOp ok e d = d := by
  unfold updChunkDoneOp
  rw [idle]

theorem updChunkDoneOp_ends {ok : Bool} {b : List Byte} (chunk : d.upd.chunk = some b) : updChunkDoneOp ok e d =
    d.onUpd fun u => { u with chunk := none, bytes := if ok then u.bytes ++ b else u.bytes, result := if ok then 0 else 8 } := by
  unfold updChunkDoneOp
  rw [chunk]

theorem updVerifyDoneOp_ignored {signed : Bool} (other : d.upd.st ≠ .verifying) : updVerifyDoneOp signed e d = d := if_pos other

theorem updVerifyDoneOp_good {signed : Bool} (verifying : d.upd.st = .verifying) (good : d.upd.verdict signed = 0) :
    updVerifyDoneOp signed e d = d.onUpd fun u => { ({ u with result := 0 } : Upd).putStaged (some (imgHdr u.bytes)) with
      st := .staged, lastStaged := (u.carrier, u.slotB) :: u.lastStaged.filter fun x => !(x.1 == u.carrier) } := by
  unfold updVerifyDoneOp
  dsimp only
  rw [if_neg (not_not_intro verifying), good]
  rfl

theorem updVerifyDoneOp_bad {signed : Bool} (verifying : d.upd.st = .verifying) (bad : d.upd.verdict signed ≠ 0) :
    updVerifyDoneOp signed e d = d.onUpd fun u => { u with result := d.upd.verdict signed, st := .idle } :=
  (if_neg (not_not_intro verifying)).trans (congrArg (fun u => { d with upd := u }) (if_neg bad))

theorem ImgHdr.fits_iff {a b : ImgHdr} : a.fits b = true ↔ b.acceptsMin ≤ a.level ∧ a.acceptsMin ≤ b.level := by
  simp only [ImgHdr.fits, Bool.and_eq_true, decide_eq_true_eq]

/-- The staged bytes hold a whole, signed image for the session's carrier. -/
def Upd.wellFormed (u : Upd) (signed : Bool) : Prop :=
  (beAt u.bytes 0 4 = 0x4957494D ∧ beAt u.bytes 4 1 = u.carrier ∧ beAt u.bytes 5 1 = 1) ∧
    signed = true ∧ beAt u.bytes 16 4 = u.bytes.length ∧ 4096 ≤ beAt u.bytes 16 4

theorem Upd.verdict_ne_zero {signed : Bool} (bad : ¬u.wellFormed signed) : u.verdict signed ≠ 0 := by
  unfold Upd.verdict
  dsimp only
  split_ifs with header whole fits
  · decide
  · decide
  · refine absurd ?_ bad
    simp only [not_or, not_not, Bool.or_eq_true, Bool.not_eq_true', bne_iff_ne, decide_eq_true_eq, not_lt, Bool.not_eq_false] at header whole
    obtain ⟨⟨signature, length⟩, least⟩ := whole
    exact ⟨header, signature, length, least⟩
  · decide

theorem Upd.verdict_wellFormed {signed : Bool} (whole : u.wellFormed signed) :
    u.verdict signed = if u.runImages.all (imgHdr u.bytes).fits then 0 else 5 := by
  obtain ⟨⟨magic, carrier, version⟩, signature, length, least⟩ := whole
  unfold Upd.verdict
  dsimp only
  rw [if_neg (by simp [magic, carrier, version]), if_neg]
  simpa [signature, length] using length ▸ least

theorem Upd.verdict_eq_zero_iff {signed : Bool} : u.verdict signed = 0 ↔ u.wellFormed signed ∧
    ∀ x ∈ u.runImages, x.acceptsMin ≤ (imgHdr u.bytes).level ∧ (imgHdr u.bytes).acceptsMin ≤ x.level := by
  by_cases whole : u.wellFormed signed
  · rw [Upd.verdict_wellFormed whole, and_iff_right whole]
    simp only [ite_eq_left_iff, Nat.succ_ne_zero, imp_false, not_not, List.all_eq_true, ImgHdr.fits_iff]
  · exact iff_of_false (Upd.verdict_ne_zero whole) fun h => whole h.1

/-! ### Units that move (R458, R462, R463, R468, R469) -/

theorem unitReturnOp_idle (hn : d.upd.out = none ∨ d.upd.st ≠ .activating) : unitReturnOp e d = d := by
  unfold unitReturnOp
  split
  next => rfl
  next i out => exact if_pos (hn.resolve_left (by simp [out]))

theorem unitFaultOp_idle (hn : d.upd.out = none ∨ d.upd.st ≠ .activating) : unitFaultOp e d = d := by
  unfold unitFaultOp
  split
  next => rfl
  next i out => exact if_pos (hn.resolve_left (by simp [out]))

section
variable (out : d.upd.out = some i) (activating : d.upd.st = .activating)
include out activating

theorem unitReturnOp_off {k : Nat} (dom : unitDom d.upd.carrier i = some k) (off : (d.bringBack e i).isOn k = false) :
    unitReturnOp e d = d.bringBack e i := by
  unfold unitReturnOp
  rw [out]
  dsimp only
  rw [if_neg (not_not_intro activating), dom]
  exact if_pos (by simp [off])

theorem unitReturnOp_moves (on : ∀ k, unitDom d.upd.carrier i = some k → (d.bringBack e i).isOn k = true) {x : Drive}
    (hx : x = ((d.bringBack e i).onUpd fun u => { (u.recordUnit d.upd.carrier i u.goal) with out := none }).setInt pgCl 0) :
    unitReturnOp e d = if x.upd.fawnAsked then (x.onUpd fun u => { u with fawnAsked := false }).enterFawn else x.updNext e := by
  subst hx
  unfold unitReturnOp
  rw [out]
  dsimp only
  rw [if_neg (not_not_intro activating), if_neg]
  split
  next k dom => simp [on k dom]
  next => decide

theorem unitFaultOp_fails {x : Drive} (hx : x = ((((d.bringBack e i).onUpd fun u => { u with
      st := .failed, out := none, todo := [], result := 7, linkWait := none }).setInt pgCl 2).errCnt pgCl)) :
    unitFaultOp e d = if x.upd.fawnAsked then (x.onUpd fun u => { u with fawnAsked := false }).enterFawn else x := by
  subst hx
  unfold unitFaultOp
  rw [out]
  exact if_neg (not_not_intro activating)

end

/-- The next MAC unit waits for the other port's link. -/
def Drive.awaitsLink (d : Drive) : Prop :=
  ∃ i rest, d.upd.todo = i :: rest ∧ d.upd.st = .activating ∧ d.upd.carrier = 5 ∧ d.upd.out = none ∧ d.linkUp (1 - i) = false

theorem macLinkWaitTimeoutOp_stops (awaits : d.awaitsLink) : macLinkWaitTimeoutOp e d =
    d.onUpd fun u => { u with st := .staged, todo := [], result := 9, linkWait := none } := by
  obtain ⟨i, rest, todo, activating, mac, out, down⟩ := awaits
  unfold macLinkWaitTimeoutOp
  rw [todo]
  exact if_pos ⟨activating, mac, out, by simp [down]⟩

theorem macLinkWaitTimeoutOp_ignored (hn : ¬d.awaitsLink) : macLinkWaitTimeoutOp e d = d := by
  unfold macLinkWaitTimeoutOp
  split
  next i rest todo => exact if_neg fun ⟨activating, mac, out, down⟩ => hn ⟨i, rest, todo, activating, mac, out, by simpa using down⟩
  next => rfl

theorem Drive.mayTake_cluster (cluster : d.upd.carrier = 0) : d.mayTake e i = true ↔ ∃ j, j < 4 ∧ j ≠ i ∧ d.isOn (6 + j) = true := by
  unfold Drive.mayTake
  rw [if_pos cluster]
  simp only [List.any_eq_true, List.mem_range, Bool.and_eq_true, bne_iff_ne]

theorem Drive.mayTake_mac (mac : d.upd.carrier = 5) : d.mayTake e i = true ↔
    d.linkUp (1 - i) = true ∧ (i = 0 ∨ ∃ t, d.upd.linkWait = some t ∧ t + 100 ≤ e.clk.optime) := by
  unfold Drive.mayTake
  rw [if_neg (by omega), if_pos mac]
  cases d.upd.linkWait <;> simp

theorem Drive.mayTake_other (cluster : d.upd.carrier ≠ 0) (mac : d.upd.carrier ≠ 5) : d.mayTake e i = true :=
  (if_neg cluster).trans (if_neg mac)

theorem Drive.updDone_upd : d.updDone.upd = { d.upd with st := .idle, out := none, todo := [], result := 0, revert := false } :=
  Drive.setInt_upd ..

theorem Upd.skip_nothing {held : Nat → Bool} (free : ∀ i ∈ u.todo, held i = false) :
    ({ u with
      skipped := (u.todo.filter held).map (·, u.goal) ++ u.skipped.filter fun x => !(u.carrier == 0 && u.todo.contains x.1 && held x.1)
      todo := u.todo.filter fun i => !held i } : Upd) = u := by
  have unheld : u.todo.filter held = [] := List.filter_eq_nil_iff.2 fun i mem => by simp [free i mem]
  have todo : (u.todo.filter fun i => !held i) = u.todo := List.filter_eq_self.2 fun i mem => by simp [free i mem]
  have skipped : (u.skipped.filter fun x => !(u.carrier == 0 && u.todo.contains x.1 && held x.1)) = u.skipped :=
    List.filter_eq_self.2 fun x _ => by
      by_cases mem : x.1 ∈ u.todo
      · simp [free _ mem]
      · simp [mem]
  rw [unheld, todo, skipped]
  rfl

theorem Drive.onUpd_self {g : Upd → Upd} (same : g d.upd = d.upd) : d.onUpd g = d := by
  unfold Drive.onUpd
  rw [same]

/-- An activation is under way, no unit is out, the drive does not go to Fawn, and no unit still to move is held OFF. -/
structure Drive.Advances (d : Drive) : Prop where
  activating : d.upd.st = .activating
  idle : d.upd.out = none
  entry : d.pwr.ps ≠ .fawnEntry
  fawn : d.pwr.ps ≠ .fawn
  free : ∀ i ∈ d.upd.todo, d.upd.carrier = 0 → d.forcedOff (6 + i) = false

theorem Drive.Advances.unguarded (adv : d.Advances) :
    ¬(decide (d.upd.st ≠ .activating) || d.upd.out.isSome || d.pwr.ps == .fawnEntry || d.pwr.ps == .fawn) = true := by
  simp [adv.activating, adv.idle, adv.entry, adv.fawn]

theorem Drive.Advances.unheld (adv : d.Advances) (i : Nat) (mem : i ∈ d.upd.todo) : (d.upd.carrier == 0 && d.forcedOff (6 + i)) = false := by
  simpa using adv.free i mem

theorem Drive.updNext_done (adv : d.Advances) (todo : d.upd.todo = []) : d.updNext e = d.updDone := by
  unfold Drive.updNext
  rw [if_neg adv.unguarded]
  dsimp only
  rw [Drive.onUpd_self (Upd.skip_nothing adv.unheld), todo]

theorem Drive.updNext_next (adv : d.Advances) {rest : List Nat} (todo : d.upd.todo = i :: rest) : d.updNext e =
    if (d.watchLink e i).mayTake e i then (d.watchLink e i).takeOut e i else d.watchLink e i := by
  unfold Drive.updNext
  rw [if_neg adv.unguarded]
  dsimp only
  rw [Drive.onUpd_self (Upd.skip_nothing adv.unheld), todo]

/-! ### The module (R504, R505) -/

theorem moduleTempOp_ignored {inlet outlet : Byte} (hn : d.pwr.aux = false ∨ d.isOn 0 = false) : moduleTempOp inlet outlet e d = d :=
  if_pos (by simpa using hn)

theorem moduleTempOp_reads {inlet outlet was top : Byte} (hw : was = BitVec.ofNat 8 (d.fld Reg.AON_MOD_TEMP 23 16))
    (ht : top = if d.airSeen = false ∨ was.toInt < inlet.toInt then inlet else was) (aux : d.pwr.aux = true) (on : d.isOn 0 = true) :
    moduleTempOp inlet outlet e d = (((({ d with airSeen := true } : Drive).poke Reg.AON_MOD_TEMP 7 0 inlet.toNat).poke
      Reg.AON_MOD_TEMP 15 8 outlet.toNat).poke Reg.AON_MOD_TEMP 23 16 top.toNat) := by
  subst hw ht
  refine (if_neg (by simp [aux, on])).trans ?_
  dsimp only
  simp only [Bool.or_eq_true, Bool.not_eq_true', decide_eq_true_eq]

/-- Settles O60: one equation per case of each operation. Commands that a wrong state ignores, ACTIVATE and REVERT from FAILED or a mixed
IDLE, REVERT's slot, BUSY while a chunk is pending, and STAGED after a link wait that ran out are the model's choices (log entries 79 to
82, 84). -/
theorem liveUpdate : Obligations.LiveUpdate := by
  refine ⟨?_, ?_, ?_, ?_, ?_, ?_, ?_, fun d e i => ⟨Drive.mayTake_cluster, Drive.mayTake_mac, Drive.mayTake_other⟩, ?_, ?_, ?_⟩
  · rintro s t p arb v d hw hd row hrow op c mask rfl rfl rfl
    have acts {x : Drive} (hx : updCmdW p v s.env d = x) : Gives (row p v arb) s (x.accessed s p) := by
      subst hd
      simp only [List.mem_cons, List.not_mem_nil, or_false] at hrow
      obtain rfl | rfl | rfl | rfl | rfl := hrow <;> exact gives_hook rfl hw rfl ((hook_CL_UPD_CMD ..).trans hx)
    refine ⟨?_, fun op busy foreign => acts (updCmdW_foreign op busy foreign), fun key known => ⟨fun op => ?_, fun mine => ⟨?_, ?_, ?_, ?_⟩⟩⟩
    · rintro (key | unknown | zero | high)
      · exact acts (updCmdW_bad (.inl key))
      · exact acts (updCmdW_bad (.inr unknown))
      · exact acts (updCmdW_other (.inl zero))
      · exact acts (updCmdW_other (.inr high))
    · have opens := updCmdW_open (e := s.env) (d := d) (p := p) key known op
      exact ⟨fun busy => acts (opens.trans (Drive.updOpen_session busy)), fun idle mixed => acts (opens.trans (Drive.updOpen_mixed idle mixed)),
        fun idle one => acts (opens.trans (Drive.updOpen_opens idle one))⟩
    · intro op
      have verifies := updCmdW_verify (e := s.env) key known mine op
      exact ⟨fun other => acts (verifies.trans (Drive.updVerify_ignored other)),
        fun staging chunk => acts (verifies.trans (Drive.updVerify_busy staging chunk)),
        fun staging free => acts (verifies.trans (Drive.updVerify_starts staging free))⟩
    · refine fun op => ⟨fun ready => acts (updCmdW_activate key known mine op ready),
        fun k b idle mixed last => acts (updCmdW_activate_mixed key known op idle mixed last), fun still => ?_⟩
      refine acts (updCmdW_activate_ignored key known mine op ?_ ?_)
      · rcases still with h | h | h | ⟨h, -⟩ <;> simp [h]
      · rcases still with h | h | h | ⟨-, h⟩ <;> simp [h]
    · refine fun op k hk => ⟨fun x b ready last => acts (updCmdW_revert key known mine op ready hk last), ?_⟩
      rintro (h | h | h | none)
      · exact acts (updCmdW_revert_unready key known mine op (by simp [h]))
      · exact acts (updCmdW_revert_unready key known mine op (by simp [h]))
      · exact acts (updCmdW_revert_unready key known mine op (by simp [h]))
      · exact acts (updCmdW_revert_unstaged key known mine op hk none)
    · rintro op runs rfl
      have closes := updCmdW_close (e := s.env) key known mine op
      exact ⟨fun other => acts (closes.trans (Drive.updClose_ignored other)), fun live =>
        ⟨fun runs => acts (closes.trans (Drive.updClose_running live runs)), fun idle => acts (closes.trans (Drive.updClose_empties live idle))⟩⟩
  · intro s t p arb v d len hw hd hl
    have acts {x : Drive} (hx : updChunkW p v s.env d = x) : Gives (.updChunk p v arb) s (x.accessed s p) := by
      subst hd
      exact gives_hook rfl hw rfl ((hook_CL_UPD_CHUNK ..).trans hx)
    refine ⟨fun none => acts (updChunkW_ignored none), fun go staging own =>
      ⟨fun chunk => acts (updChunkW_busy go staging own chunk), fun free => ?_⟩⟩
    have takes := updChunkW_takes (e := s.env) go staging own free hl
    refine ⟨fun bad => acts (takes.trans (if_pos bad)), fun one most room => ?_⟩
    rw [if_neg (by omega)] at takes
    exact ⟨fun next => acts (takes.trans (if_neg (not_not_intro next))), fun apart => acts (takes.trans (if_pos apart))⟩
  · exact fun s => ⟨fun idle ok => gives_runOp rfl (updChunkDoneOp_idle idle), fun b chunk =>
      ⟨gives_runOp rfl (updChunkDoneOp_ends chunk), gives_runOp rfl (updChunkDoneOp_ends chunk)⟩⟩
  · exact fun s signed => ⟨fun other => gives_runOp rfl (updVerifyDoneOp_ignored other), fun verifying =>
      ⟨fun good => gives_runOp rfl (updVerifyDoneOp_good verifying good), fun bad => gives_runOp rfl (updVerifyDoneOp_bad verifying bad)⟩⟩
  · intro u signed
    rw [Upd.verdict_eq_zero_iff]
    simp only [Upd.wellFormed, and_assoc]
  · refine fun s => ⟨fun idle => ⟨gives_runOp rfl (unitReturnOp_idle idle), gives_runOp rfl (unitFaultOp_idle idle)⟩, ?_⟩
    rintro i d fawn out activating rfl rfl
    exact ⟨fun on x hx => gives_runOp rfl (unitReturnOp_moves out activating on hx),
      fun k dom off => gives_runOp rfl (unitReturnOp_off out activating dom off),
      fun x hx => gives_runOp rfl (unitFaultOp_fails out activating hx)⟩
  · rintro s stop rfl
    exact ⟨fun awaits => gives_runOp rfl (macLinkWaitTimeoutOp_stops awaits), fun hn => gives_runOp rfl (macLinkWaitTimeoutOp_ignored hn)⟩
  · rintro d e rest w activating idle entry fawn free
    have adv : d.Advances := ⟨activating, idle, entry, fawn, free⟩
    refine ⟨fun todo => ?_, ?_⟩
    · rw [Drive.updNext_done adv todo, Drive.updDone_upd]
      exact ⟨rfl, rfl⟩
    · rintro i todo rfl
      exact Drive.updNext_next adv todo
  · rintro s t p arb v d hw rfl
    exact gives_hook rfl hw rfl (hook_AON_LED_CTL ..)
  · refine fun s => ⟨gives_runOp rfl rfl, fun inlet outlet => ⟨fun off => gives_runOp rfl (moduleTempOp_ignored off),
      fun was top hw ht aux on => gives_runOp rfl (moduleTempOp_reads hw ht aux on)⟩⟩

end Sys2Proof.Machine
end
